-- ==== Sys2Proof/Word.lean ====
section
/-!
DEFINITION. The word types of the MBM-2418 (R11, R12): bytes, 32-bit register words, 64-bit storage words.
-/
namespace Sys2Proof

/-- A byte, the smallest addressable unit (R12). -/
abbrev Byte := BitVec 8

/-- A register word is 32 bits (R11). -/
abbrev Word := BitVec 32

/-- A storage word is the 64 data bits covered by one error-correcting code (R11); also a 64-bit register (R12). -/
abbrev Word64 := BitVec 64

end Sys2Proof
end

