-- ==== Sys2Proof/Syntax.lean ====
section
/-!
DEFINITION. The commands of the block: one constructor of `Instr` per row of spec/opcode_table.json, and the plain
data their operands are made of.  A row that the device runs by itself (an instant, an arrival, a timeout) is a
command too: its operands say which instance it concerns and what came from outside the device.
-/
namespace Sys2Proof

/-- The landings of R28, with the instance a landing belongs to. -/
inductive Landing where
  /-- Sample landing of gallery `g`. -/
  | sample (g : Nat)
  /-- Setpoint landing of gallery `g`. -/
  | setpoint (g : Nat)
  /-- Edge landing of ring `r`. -/
  | edge (r : Nat)
  /-- Force landing of ring `r`. -/
  | force (r : Nat)
  /-- Safe-data landing towards the balustrade. -/
  | safeData
  /-- Trace landing of gallery `g`. -/
  | trace (g : Nat)
  /-- Mailbox landing of hall core `k`. -/
  | mailbox (k : Nat)
  /-- Stairwell landing towards the partner. -/
  | stairwell
  /-- Acquisition landing. -/
  | acquisition
  /-- Recorder landing. -/
  | recorder
  /-- Store landing of port `p`. -/
  | store (p : Nat)
  deriving DecidableEq, Repr

/-- The branch conditions of R86 (`B`). -/
inductive Cond where
  | always | eqz | nez | ltz | gez | gtz | lez
  deriving DecidableEq, Repr

/-- The second operand of a gallery ALU instruction: Gb or a 12-bit immediate (R86, R87). -/
inductive AluSrc where
  | reg (b : BitVec 5)
  | imm (v : BitVec 12)
  deriving DecidableEq, Repr

/-- The copies of one frame that reached the receiver in good order (R178): both lanes, one, or none. -/
inductive Copies where
  | both | one | none
  deriving DecidableEq, Repr

/-- The causes with which the device raises a gallery trap (R99). -/
inductive TrapCause where
  | illegal | access | length | fetchUe | dataUe | storeUe | budget | accsat | stsat | fpinv
  | software (code : BitVec 8)
  deriving DecidableEq, Repr

/-- What the regulation library of a slot's program demands at a dispatch (R137-R143, R146): the modulation of its
carrier pattern and the measured current magnitude it compares.  The library is a program, not part of the device. -/
structure LibDemand where
  /-- Demanded phase duties in units of 1/32,768 of the period, for U, V and W. -/
  dutyU : BitVec 16
  dutyV : BitVec 16
  dutyW : BitVec 16
  /-- Demanded modulation index, in units of 1/32,768 of six-step. -/
  depth : BitVec 16
  /-- Measured current magnitude, Q1.31. -/
  current : BitVec 32
  /-- Estimated mechanical speed in Q16.16 rev/s and load angle (R250, R252), and the model position (R249). -/
  est : BitVec 32
  loadAng : BitVec 16
  model : BitVec 64
  deriving DecidableEq, Repr

/-- One step of a quadrature input pair (R199): one count forward, one backward, or both inputs in one sample. -/
inductive QuadStep where
  | forward | backward | both
  deriving DecidableEq, Repr

/-- An edge entry of an EDGE frame or a plan (R168). -/
structure EdgeEntry where
  off : BitVec 25
  gate : BitVec 3
  level : Bool
  deriving DecidableEq, Repr

/-- A sample entry of an EDGE or SAMPLE frame (R168). -/
structure SampleEntry where
  off : BitVec 26
  kind : BitVec 2
  cmp : BitVec 2
  acq : Bool
  deriving DecidableEq, Repr

/-- An EDGE frame as a companion receives it (R166). `lead` is the time in ns from the end of the check to the first
edge (R178). -/
structure EdgeFrame where
  src : BitVec 8
  epoch : BitVec 32
  tread : BitVec 32
  tref : BitVec 48
  intv : BitVec 25
  resume : Bool
  edges : List EdgeEntry
  samples : List SampleEntry
  lead : Nat
  deriving DecidableEq, Repr

/-- A SAMPLE frame as a companion receives it (R166). -/
structure SampleFrame where
  src : BitVec 8
  epoch : BitVec 32
  tref : BitVec 48
  samples : List SampleEntry
  deriving DecidableEq, Repr

/-- A SENSE frame as the device receives it (R166); `ccw` names the copy used. -/
structure SenseFrame where
  lt48 : BitVec 48
  kind : BitVec 2
  cmp : BitVec 2
  iu : BitVec 16
  iv : BitVec 16
  iw : BitVec 16
  vdc : BitVec 16
  vaux : BitVec 16
  tmod : BitVec 16
  status : BitVec 32
  ccw : Bool
  deriving DecidableEq, Repr

/-- A LEASE frame with OP HANDOVER or CLAIM as a companion receives it (R166). -/
structure LeaseFrame where
  src : BitVec 8
  newEpoch : BitVec 32
  newOwner : BitVec 8
  oldEpoch : BitVec 32
  oldOwner : BitVec 8
  switchTref : BitVec 24
  deriving DecidableEq, Repr

/-- A PROT frame as the device receives it (R166). -/
structure ProtFrame where
  tripped : BitVec 4
  latched : BitVec 4
  tries : BitVec 3
  lt48 : BitVec 48
  trips : BitVec 16
  latches : BitVec 16
  passMask : BitVec 4
  failMask : BitVec 4
  resultValid : Bool
  deriving DecidableEq, Repr

/-- A FORCE frame as a companion receives it (R166). -/
structure ForceFrame where
  src : BitVec 8
  u : BitVec 2
  v : BitVec 2
  w : BitVec 2
  safety : Bool
  release : Bool
  epoch : BitVec 32
  apply : BitVec 48
  deriving DecidableEq, Repr

/-- A REJECT frame as the device receives it (R166). -/
structure RejectFrame where
  dst : BitVec 8
  epoch : BitVec 32
  src : BitVec 8
  reason : BitVec 4
  leaseEpoch : BitVec 32
  leaseOwner : BitVec 8
  deriving DecidableEq, Repr

/-- The arguments of FW_OPEN, and a default region of a manifest (R302, R303, R311). -/
structure FwArgs where
  region : Nat
  space : Nat
  base : BitVec 64
  size : Nat
  r : Bool
  w : Bool
  x : Bool
  mask : BitVec 64
  deriving DecidableEq, Repr

/-- A gallery image of an image set (R308): its entry in the image table and its code. -/
structure BootImage where
  version : BitVec 32
  digest : BitVec 32
  code : List (BitVec 32)
  deriving DecidableEq, Repr

/-- What the newel finds in a boot flash (R304-R306): the check that fails, as BOOTSTA.CAUSE codes it (0 none), the
manifest's contents, and whether the newel firmware differs from the eMRAM copy. -/
structure ImageSet where
  cause : BitVec 4
  version : BitVec 32
  svn : BitVec 32
  newNewel : Bool
  images : List BootImage
  regions : List FwArgs
  /-- The policy (R303): requester, space, largest region in 4 KiB. -/
  policy : List (Nat × Nat × Nat)
  deriving DecidableEq, Repr

/-- What the boot finds outside the device's own state (R304-R307, R340, R347). -/
structure BootEnv where
  /-- Bridge assignments of the board's configuration: bridge, and its axis, index, lead, ring and position as
  BRG.ASSIGN lays them out (R155). -/
  assign : List (Nat × BitVec 32)
  setA : ImageSet
  setB : ImageSet
  /-- Keys installed and revoked, as KEYSTA lays them out (R304). -/
  keys : BitVec 8
  /-- Installed LPDDR5 bytes and ranks, whether each channel trains, the time and the tries that took (R340, R341). -/
  installed : Nat
  ranks : Nat
  ch0Up : Bool
  ch1Up : Bool
  trainUs : Nat
  trainTries : Nat
  /-- Copies of the configuration, of the safety configuration and of the newel firmware whose digest and words are
  good, bit 0 and bit 1 (R343). -/
  cfgCopies : BitVec 2
  safeCopies : BitVec 2
  newelCopies : BitVec 2
  deriving DecidableEq, Repr

/-- The causes of a hall trap (R316). -/
inductive HallCause where
  | illegal
  /-- Refused by the core's protection unit, or by the firewall in the space given (R302, R303). -/
  | access (fw : Option Nat)
  | align | dbusUe | fetchUe | wovf | wunf | wstk | sysc | brk
  deriving DecidableEq, Repr

/-- One object of a Tchiora program (R319): its name hash, its type and its
version. -/
structure TchObject where
  name : BitVec 32
  type : BitVec 8
  version : BitVec 32
  deriving DecidableEq, Repr

/-- A Tchiora program as its header shows it to the checks of an exchange (R320). -/
structure TchProgram where
  version : BitVec 32
  scanMs : BitVec 16
  sigOk : Bool
  axes : BitVec 24
  objects : List TchObject
  deriving DecidableEq, Repr

/-- What a balustrade cycle samples at the balls and in its own cores (R358): the two channels of each safety input, the
cycle's length in 10 ns, the FAILSAFE cause that its checks found (R360), whether every STO and brake ball reads back as
driven (R371), and the bridges for which the partner's SAFETY force has been seen in the last 2 × TB (R384). -/
structure BalInputs where
  chanA : BitVec 8
  chanB : BitVec 8
  cycle10ns : BitVec 16
  failsafe : Option (BitVec 4)
  readbackOk : Bool
  partnerForce : BitVec 48
  deriving DecidableEq, Repr

/-- A CAN frame (R389, R394): a base identifier lies in bits [28:18]; `age` is the time from its SOF to the end of its EOF
in 1/16 ns. -/
structure CanFrame where
  ident : BitVec 29
  xtd : Bool
  rtr : Bool
  fdf : Bool
  brs : Bool
  esi : Bool
  dlc : BitVec 4
  data : List (BitVec 8)
  age : Nat
  deriving DecidableEq, Repr

/-- How an attempt to send a CAN frame ends (R392, R400, R403): sent, with the loop delay measured in periods of fCAN; or
in an error, with its LEC code, found in the data phase or not. -/
inductive CanOutcome where
  | sent (delay : Nat)
  | lostArbitration
  | error (lec : BitVec 3) (dataPhase : Bool)
  deriving DecidableEq, Repr

/-- A receive error of a CAN controller (R403), with its LEC code. -/
inductive CanRxErr where
  | normal (lec : BitVec 3)
  | dominantAfterFlag (lec : BitVec 3)
  | protocolException
  deriving DecidableEq, Repr

/-- What a PTP Sync measures (R416): the domain's time less this device's, and the fields the selection uses. -/
structure PtpSync where
  gm : BitVec 64
  offset : Int
  delay : Nat
  rate : Int
  priority1 : BitVec 8
  clockClass : BitVec 8
  utcOffset : BitVec 16
  utcValid : Bool
  deriving DecidableEq, Repr

/-- An Ethernet frame as a MAC receives it (R420-R423). -/
structure EthFrame where
  fcsOk : Bool
  data : List (BitVec 8)
  ptpEvent : Bool
  safeChan : Option Nat
  deriving DecidableEq, Repr

/-- What the labels of a volume's members say (R445, R446, R450). -/
structure MemberLabel where
  port : Nat
  slot : Nat
  present : Bool
  formatOk : Bool
  labelValid : Bool
  volumeId : BitVec 128
  nmem : Nat
  index : Nat
  capacity : Nat
  ckGen : Nat
  ckNext : Nat
  bus : BitVec 8
  deriving DecidableEq, Repr

/-- The labels and the newest checkpoint that a START or FORMAT reads (R445-R449). -/
structure LabelScan where
  members : List MemberLabel
  newVolumeId : BitVec 128
  deriving DecidableEq, Repr

/-- A controller's SMART log (R444, R454). -/
structure SmartLog where
  warning : BitVec 8
  spare : BitVec 8
  used : BitVec 8
  mediaErrors : BitVec 64
  tempK : BitVec 16
  unitsWritten : BitVec 64
  deriving DecidableEq, Repr

/-- One slot's up part of a returned RZL-F frame (R459, R460): `status` is its bits [23:8] at 0x04; `latch` is the channel,
falling, further edges lost, and the offset in 8 ns. -/
structure UpPart where
  crcOk : Bool
  inputs : BitVec 32
  ovc : BitVec 32
  status : BitVec 16
  latch : Option (BitVec 5 × Bool × Bool × BitVec 24)
  deriving DecidableEq, Repr


/-- One constructor per row of spec/opcode_table.json, in the table's order. -/
inductive Instr where
  -- host
  /-- `REGISTER_WRITE`. requester, BAR0 byte offset, 64-bit access?, value. -/
  | registerWrite (req addr : Nat) (wide : Bool) (v : BitVec 64)
  /-- `RC_READ`. requester, BAR0 offset of an RC register. -/
  | rcRead (req addr : Nat)
  /-- `SNAPSHOT_LOW_READ`. requester, BAR0 offset of the low word. -/
  | snapshotLowRead (req addr : Nat)
  /-- `SNAPSHOT_LOW_WRITE`. requester, BAR0 offset of the low word, value. -/
  | snapshotLowWrite (req addr : Nat) (v : BitVec 32)
  /-- `SNAPSHOT_HIGH_WRITE`. requester, BAR0 offset of the high word, value. -/
  | snapshotHighWrite (req addr : Nat) (v : BitVec 32)
  /-- `HOLE_ACCESS`. requester, BAR0 offset, write?. -/
  | holeAccess (req addr : Nat) (write : Bool)
  /-- `ABSENT_PAGE_ACCESS`. requester, BAR0 offset, write?. -/
  | absentPageAccess (req addr : Nat) (write : Bool)
  /-- `MISALIGNED_ACCESS`. requester, BAR0 offset, width in bytes, write?. -/
  | misalignedAccess (req addr bytes : Nat) (write : Bool)
  /-- `READ_TIMEOUT`. requester, BAR0 offset. -/
  | readTimeout (req addr : Nat)
  /-- `CTL_FRESET`. requester, page index. -/
  | ctlFreset (req page : Nat)
  /-- `FRESET_COMPLETE`. page index. -/
  | fresetComplete (page : Nat)
  /-- `VER_ACTIVE_WRITE`. requester, page index, ACTIVE value. -/
  | verActiveWrite (req page : Nat) (v : BitVec 8)
  /-- `LOCK_WRITE`. requester, page index, key. -/
  | lockWrite (req page : Nat) (v : BitVec 32)
  /-- `FUNCTION_LEVEL_RESET`. -/
  | functionLevelReset
  /-- `HOT_RESET`. -/
  | hotReset
  /-- `LINK_DOWN_RESET`. -/
  | linkDownReset
  /-- `SPI_READ_BAR0`. window offset, whole words clocked, frame ends inside a word?. -/
  | spiReadBar0 (addr words : Nat) (tail : Bool)
  /-- `SPI_READ_BAR2`. window offset, whole words clocked, frame ends inside a word?. -/
  | spiReadBar2 (addr words : Nat) (tail : Bool)
  /-- `SPI_WRITE_BAR0`. window offset, words, frame ends inside a word?, CRC sent. -/
  | spiWriteBar0 (addr : Nat) (data : List (BitVec 32)) (tail : Bool) (crc : BitVec 16)
  /-- `SPI_WRITE_BAR2`. window offset, words, frame ends inside a word?, CRC sent. -/
  | spiWriteBar2 (addr : Nat) (data : List (BitVec 32)) (tail : Bool) (crc : BitVec 16)
  /-- `SPI_STATUS`. -/
  | spiStatus
  /-- `SPI_WORD_TIMEOUT`. -/
  | spiWordTimeout
  /-- `CCTL_RUN`. requester, channel, host memory bytes read by the descriptor fetch. -/
  | cctlRun (req ch : Nat) (hostIn : List (Nat × BitVec 8))
  /-- `CCTL_ABORT`. requester, channel, bytes already accepted at the destination. -/
  | cctlAbort (req ch : Nat) (moved : Nat)
  /-- `DESCRIPTOR_DONE`. channel, host memory bytes read by the transfer and the next fetch. -/
  | descriptorDone (ch : Nat) (hostIn : List (Nat × BitVec 8))
  /-- `HOST_COMPLETION_TIMEOUT`. channel. -/
  | hostCompletionTimeout (ch : Nat)
  /-- `WAKE_CAUSE`. WAKECAUSE bit 0 to 7, what the boot finds. -/
  | wakeCause (cause : Nat) (env : BootEnv)
  /-- `WAKECAUSE_READ`. -/
  | wakecauseRead
  /-- `WARM_RESET`. what the boot finds. -/
  | warmReset (env : BootEnv)
  /-- `POWER_CYCLE`. -/
  | powerCycle
  -- landings
  /-- `CREDIT_RETURN`. landing, producer. -/
  | creditReturn (l : Landing) (producer : Nat)
  /-- `SAMPLE_UNIT_ARRIVAL`. gallery, producer (0-47 bridge, 48 sigma-delta and feedback), the 16 words. -/
  | sampleUnitArrival (g producer : Nat) (u : List (BitVec 32))
  /-- `SETPOINT_UNIT_ARRIVAL`. gallery, hall core, the 16 words. -/
  | setpointUnitArrival (g core : Nat) (u : List (BitVec 32))
  /-- `FAST_CLOCK_REQUEST`. gallery. -/
  | fastClockRequest (g : Nat)
  -- gallery
  /-- `TREAD_DISPATCH`. gallery, slot, what the slot's regulation library demands. -/
  | treadDispatch (g slot : Nat) (lib : LibDemand)
  /-- `INTERRUPT_ENTRY`. gallery. -/
  | interruptEntry (g : Nat)
  /-- `TRAP_ENTRY`. gallery, cause, data address. -/
  | trapEntry (g : Nat) (c : TrapCause) (xaddr : BitVec 32)
  /-- `BUDGET_EXPIRY`. gallery. -/
  | budgetExpiry (g : Nat)
  /-- `FETCH_UE`. gallery. -/
  | fetchUe (g : Nat)
  /-- `SAMPLE_DEADLINE`. gallery. -/
  | sampleDeadline (g : Nat)
  /-- `DOORBELL`. gallery. -/
  | doorbell (g : Nat)
  /-- `LOCAL_TIMER`. gallery. -/
  | localTimer (g : Nat)
  /-- `SCHCTL_COMMIT`. gallery. -/
  | schctlCommit (g : Nat)
  /-- `SCHCTL_ABORT`. gallery. -/
  | schctlAbort (g : Nat)
  /-- `SCHEDULE_COMMIT_DONE`. gallery. -/
  | scheduleCommitDone (g : Nat)
  /-- `COEFW_WRITE`. gallery, the 64 bits of COEFW. -/
  | coefwWrite (g : Nat) (v : BitVec 64)
  /-- `TRCTL_ARM`. gallery. -/
  | trctlArm (g : Nat)
  /-- `TRCTL_STOP`. gallery. -/
  | trctlStop (g : Nat)
  /-- `SUPTRIP_CLEAR`. gallery. -/
  | suptripClear (g : Nat)
  /-- `SUPERVISOR_TRIP`. gallery, slot. -/
  | supervisorTrip (g slot : Nat)
  -- gallery instructions
  /-- `NOP`. gallery. -/
  | nop (g : Nat)
  /-- `B`. gallery, condition, Gc, offset. -/
  | b (g : Nat) (c : Cond) (gc : BitVec 5) (off : BitVec 15)
  /-- `CALL`. gallery, offset. -/
  | call (g : Nat) (off : BitVec 15)
  /-- `RET`. gallery. -/
  | ret (g : Nat)
  /-- `RETI`. gallery. -/
  | reti (g : Nat)
  /-- `RETX`. gallery. -/
  | retx (g : Nat)
  /-- `LOOP`. gallery, level, Gc, end offset. -/
  | loop (g : Nat) (l : Bool) (gc : BitVec 5) (off : BitVec 12)
  /-- `LOOPI`. gallery, level, count, end offset. -/
  | loopi (g : Nat) (l : Bool) (count : BitVec 11) (off : BitVec 12)
  /-- `LEXIT`. gallery, level. -/
  | lexit (g : Nat) (l : Bool)
  /-- `ENDT`. gallery. -/
  | endt (g : Nat)
  /-- `WAITI`. gallery, ns to the next dispatch. -/
  | waiti (g : Nat) (nextDispatchNs : Nat)
  /-- `SYNC`. gallery. -/
  | sync (g : Nat)
  /-- `TRAP`. gallery, code. -/
  | trap (g : Nat) (code : BitVec 8)
  /-- `SEVT`. gallery. -/
  | sevt (g : Nat)
  /-- `ADD`. gallery, Gd, Ga, Gb or immediate. -/
  | add (g : Nat) (d a : BitVec 5) (y : AluSrc)
  /-- `SUB`. as ADD. -/
  | sub (g : Nat) (d a : BitVec 5) (y : AluSrc)
  /-- `ADDS`. as ADD. -/
  | adds (g : Nat) (d a : BitVec 5) (y : AluSrc)
  /-- `SUBS`. as ADD. -/
  | subs (g : Nat) (d a : BitVec 5) (y : AluSrc)
  /-- `AND`. as ADD. -/
  | and (g : Nat) (d a : BitVec 5) (y : AluSrc)
  /-- `OR`. as ADD. -/
  | or (g : Nat) (d a : BitVec 5) (y : AluSrc)
  /-- `XOR`. as ADD. -/
  | xor (g : Nat) (d a : BitVec 5) (y : AluSrc)
  /-- `SHL`. as ADD. -/
  | shl (g : Nat) (d a : BitVec 5) (y : AluSrc)
  /-- `SHR`. as ADD. -/
  | shr (g : Nat) (d a : BitVec 5) (y : AluSrc)
  /-- `SAR`. as ADD. -/
  | sar (g : Nat) (d a : BitVec 5) (y : AluSrc)
  /-- `MUL`. as ADD. -/
  | mul (g : Nat) (d a : BitVec 5) (y : AluSrc)
  /-- `MIN`. as ADD. -/
  | min (g : Nat) (d a : BitVec 5) (y : AluSrc)
  /-- `MAX`. as ADD. -/
  | max (g : Nat) (d a : BitVec 5) (y : AluSrc)
  /-- `ABSS`. gallery, Gd, Ga, register or immediate form. -/
  | abss (g : Nat) (d a : BitVec 5) (imm : Bool)
  /-- `SLT`. as ADD. -/
  | slt (g : Nat) (d a : BitVec 5) (y : AluSrc)
  /-- `SLTU`. as ADD. -/
  | sltu (g : Nat) (d a : BitVec 5) (y : AluSrc)
  /-- `LUI`. gallery, Gd, imm20. -/
  | lui (g : Nat) (d : BitVec 5) (imm : BitVec 20)
  /-- `LW`. gallery, Gd, Gb, byte offset. -/
  | lw (g : Nat) (d b : BitVec 5) (off : BitVec 14)
  /-- `SW`. gallery, Gs, Gb, byte offset. -/
  | sw (g : Nat) (x b : BitVec 5) (off : BitVec 14)
  /-- `LF`. gallery, Fd, Gb, byte offset. -/
  | lf (g : Nat) (d : BitVec 4) (b : BitVec 5) (off : BitVec 14)
  /-- `SF`. gallery, Fs, Gb, byte offset. -/
  | sf (g : Nat) (x : BitVec 4) (b : BitVec 5) (off : BitVec 14)
  /-- `MLW`. gallery, Gd, Gb, byte offset, cycles until the data returns. -/
  | mlw (g : Nat) (d b : BitVec 5) (off : BitVec 14) (lat : Nat)
  /-- `MSW`. gallery, Gs, Gb, byte offset. -/
  | msw (g : Nat) (x b : BitVec 5) (off : BitVec 14)
  /-- `VLD`. gallery, Vd, Gb, byte offset. -/
  | vld (g : Nat) (d : BitVec 4) (b : BitVec 5) (off : BitVec 15)
  /-- `VST`. gallery, Vs, Gb, byte offset. -/
  | vst (g : Nat) (x : BitVec 4) (b : BitVec 5) (off : BitVec 15)
  /-- `VBC`. gallery, Vd, Gb. -/
  | vbc (g : Nat) (d : BitVec 4) (b : BitVec 5)
  /-- `VINS`. gallery, Vd, Gb, lane. -/
  | vins (g : Nat) (d : BitVec 4) (b : BitVec 5) (lane : BitVec 3)
  /-- `VEXT`. gallery, Vs, Gb, lane. -/
  | vext (g : Nat) (x : BitVec 4) (b : BitVec 5) (lane : BitVec 3)
  /-- `SMAC`. gallery, FR, Ad, Ga, Gb. -/
  | smac (g : Nat) (fr : Bool) (ad : BitVec 3) (a b : BitVec 5)
  /-- `SMSU`. as SMAC. -/
  | smsu (g : Nat) (fr : Bool) (ad : BitVec 3) (a b : BitVec 5)
  /-- `VDOT`. gallery, FR, Ad, Va, Vb, lane mask. -/
  | vdot (g : Nat) (fr : Bool) (ad : BitVec 3) (a b : BitVec 4) (mask : BitVec 8)
  /-- `VDOTN`. as VDOT. -/
  | vdotn (g : Nat) (fr : Bool) (ad : BitVec 3) (a b : BitVec 4) (mask : BitVec 8)
  /-- `AZERO`. gallery, A. -/
  | azero (g : Nat) (a : BitVec 3)
  /-- `ALD`. gallery, A, G, shift N. -/
  | ald (g : Nat) (a : BitVec 3) (r : BitVec 5) (n : BitVec 6)
  /-- `ASAT`. gallery, A, G, shift N. -/
  | asat (g : Nat) (a : BitVec 3) (r : BitVec 5) (n : BitVec 6)
  /-- `ASATT`. as ASAT. -/
  | asatt (g : Nat) (a : BitVec 3) (r : BitVec 5) (n : BitVec 6)
  /-- `AGETL`. gallery, A, G. -/
  | agetl (g : Nat) (a : BitVec 3) (r : BitVec 5)
  /-- `AGETM`. as AGETL. -/
  | agetm (g : Nat) (a : BitVec 3) (r : BitVec 5)
  /-- `AGETH`. as AGETL. -/
  | ageth (g : Nat) (a : BitVec 3) (r : BitVec 5)
  /-- `APUTL`. as AGETL. -/
  | aputl (g : Nat) (a : BitVec 3) (r : BitVec 5)
  /-- `APUTM`. as AGETL. -/
  | aputm (g : Nat) (a : BitVec 3) (r : BitVec 5)
  /-- `APUTH`. as AGETL. -/
  | aputh (g : Nat) (a : BitVec 3) (r : BitVec 5)
  /-- `FADD`. gallery, Fd, Fa, Fb. -/
  | fadd (g : Nat) (d a b : BitVec 4)
  /-- `FSUB`. as FADD. -/
  | fsub (g : Nat) (d a b : BitVec 4)
  /-- `FMUL`. as FADD. -/
  | fmul (g : Nat) (d a b : BitVec 4)
  /-- `FMA`. as FADD. -/
  | fma (g : Nat) (d a b : BitVec 4)
  /-- `FDIV`. as FADD. -/
  | fdiv (g : Nat) (d a b : BitVec 4)
  /-- `FSQRT`. gallery, Fd, Fa. -/
  | fsqrt (g : Nat) (d a : BitVec 4)
  /-- `FMIN`. as FADD. -/
  | fmin (g : Nat) (d a b : BitVec 4)
  /-- `FMAX`. as FADD. -/
  | fmax (g : Nat) (d a b : BitVec 4)
  /-- `FABS`. gallery, Fd, Fa. -/
  | fabs (g : Nat) (d a : BitVec 4)
  /-- `FNEG`. gallery, Fd, Fa. -/
  | fneg (g : Nat) (d a : BitVec 4)
  /-- `FCMPLT`. gallery, G, Fa, Fb. -/
  | fcmplt (g : Nat) (r : BitVec 5) (a b : BitVec 4)
  /-- `FTOQ`. gallery, G, Fa. -/
  | ftoq (g : Nat) (r : BitVec 5) (a : BitVec 4)
  /-- `QTOF`. gallery, Fd, G. -/
  | qtof (g : Nat) (d : BitVec 4) (r : BitVec 5)
  /-- `FTOI`. gallery, G, Fa. -/
  | ftoi (g : Nat) (r : BitVec 5) (a : BitVec 4)
  /-- `ITOF`. gallery, Fd, G. -/
  | itof (g : Nat) (d : BitVec 4) (r : BitVec 5)
  /-- `FMVG`. gallery, G, Fa. -/
  | fmvg (g : Nat) (r : BitVec 5) (a : BitVec 4)
  /-- `GMVF`. gallery, Fd, G. -/
  | gmvf (g : Nat) (d : BitVec 4) (r : BitVec 5)
  /-- `SINITMAX`. gallery, G. -/
  | sinitmax (g : Nat) (r : BitVec 5)
  /-- `SINITMIN`. gallery, G. -/
  | sinitmin (g : Nat) (r : BitVec 5)
  /-- `SSTEP`. gallery, Vs, lanes less one. -/
  | sstep (g : Nat) (x : BitVec 4) (lanes : BitVec 3)
  /-- `SGET`. gallery, G. -/
  | sget (g : Nat) (r : BitVec 5)
  /-- `SGETI`. gallery, G. -/
  | sgeti (g : Nat) (r : BitVec 5)
  /-- `SWAIT`. gallery, Ga, Gb. -/
  | swait (g : Nat) (a b : BitVec 5)
  /-- `LDSP`. gallery, Ga, Gb. -/
  | ldsp (g : Nat) (a b : BitVec 5)
  /-- `PCOMMIT`. gallery, Ga, Gb. -/
  | pcommit (g : Nat) (a b : BitVec 5)
  /-- `OBSR`. gallery, Ga, Gb. -/
  | obsr (g : Nat) (a b : BitVec 5)
  /-- `TRCAP`. gallery. -/
  | trcap (g : Nat)
  /-- `MFS`. gallery, G, register number. -/
  | mfs (g : Nat) (r : BitVec 5) (n : BitVec 11)
  /-- `MTS`. gallery, G, register number. -/
  | mts (g : Nat) (r : BitVec 5) (n : BitVec 11)
  -- bridges
  /-- `BRIDGE_TREAD`. bridge. -/
  | bridgeTread (b : Nat)
  /-- `CARRIER_START`. bridge. -/
  | carrierStart (b : Nat)
  /-- `SHADOW_WRITE`. bridge, the 64 bits of SHADOW. -/
  | shadowWrite (b : Nat) (v : BitVec 64)
  /-- `FORCE_WRITE`. bridge, the FORCE word. -/
  | forceWrite (b : Nat) (v : BitVec 32)
  /-- `FORCE_APPLY`. bridge. -/
  | forceApply (b : Nat)
  /-- `XFERCTL_ARM`. bridge of the axis. -/
  | xferctlArm (b : Nat)
  /-- `XFERCTL_ABORT`. bridge of the axis. -/
  | xferctlAbort (b : Nat)
  /-- `XFER_BOUNDARY`. a bridge that reaches its period boundary at or after B. -/
  | xferBoundary (b : Nat)
  /-- `STANDSTILL_ENGAGE`. lead bridge. -/
  | standstillEngage (b : Nat)
  /-- `PLAN_PROCESS`. ring, the plan at the head cannot meet its lead time. -/
  | planProcess (r : Nat) (late : Bool)
  -- rzl
  /-- `RCTL_START`. ring. -/
  | rctlStart (r : Nat)
  /-- `RCTL_STOP`. ring. -/
  | rctlStop (r : Nat)
  /-- `RCTL_ABORT`. ring. -/
  | rctlAbort (r : Nat)
  /-- `RCTL_CALNOW`. ring. -/
  | rctlCalnow (r : Nat)
  /-- `RCTL_RESUME`. ring, slot. -/
  | rctlResume (r k : Nat)
  /-- `RING_START_TIMEOUT`. ring. -/
  | ringStartTimeout (r : Nat)
  /-- `VNEG_OFFER_REPEAT`. ring. -/
  | vnegOfferRepeat (r : Nat)
  /-- `EDGE_FRAME`. ring, slot, frame, copies that arrived. -/
  | edgeFrame (r k : Nat) (f : EdgeFrame) (copies : Copies)
  /-- `SAMPLE_FRAME`. ring, slot, frame. -/
  | sampleFrame (r k : Nat) (f : SampleFrame)
  /-- `SENSE_FRAME`. ring, slot, frame, copies that arrived. -/
  | senseFrame (r k : Nat) (f : SenseFrame) (copies : Copies)
  /-- `LEASE_RENEW`. ring, slot, sender, epoch. -/
  | leaseRenew (r k : Nat) (src : BitVec 8) (epoch : BitVec 32)
  /-- `LEASE_HANDOVER`. ring, slot, frame. -/
  | leaseHandover (r k : Nat) (f : LeaseFrame)
  /-- `LEASE_CLAIM`. ring, slot, frame. -/
  | leaseClaim (r k : Nat) (f : LeaseFrame)
  /-- `LEASE_RELEASE`. ring, slot, sender, epoch. -/
  | leaseRelease (r k : Nat) (src : BitVec 8) (epoch : BitVec 32)
  /-- `PROT_FRAME`. ring, slot, frame. -/
  | protFrame (r k : Nat) (f : ProtFrame)
  /-- `PROT_PERIODIC`. ring, slot. -/
  | protPeriodic (r k : Nat)
  /-- `PCMD_CLEAR`. ring, slot, sender, epoch. -/
  | pcmdClear (r k : Nat) (src : BitVec 8) (epoch : BitVec 32)
  /-- `PCMD_SELFTEST`. ring, slot, sender, epoch, mask, comparators that trip and release in time. -/
  | pcmdSelftest (r k : Nat) (src : BitVec 8) (epoch : BitVec 32) (mask good : BitVec 4)
  /-- `FORCE_FRAME`. ring, slot, frame. -/
  | forceFrame (r k : Nat) (f : ForceFrame)
  /-- `CAL_MARK`. ring, slot, departure and arrivals in 1/16 ns. -/
  | calMark (r k : Nat) (td acw accw : Nat)
  /-- `CAL_RESULT`. ring, slot, L in 1/16 ns. -/
  | calResult (r k : Nat) (loop : Nat)
  /-- `VNEG_OFFER`. ring, slot, versions offered. -/
  | vnegOffer (r k : Nat) (lo hi : Nat)
  /-- `VNEG_REPLY`. ring, slot, versions, companion type, CW hops. -/
  | vnegReply (r k : Nat) (lo hi : Nat) (ty : BitVec 16) (cwHops : Nat)
  /-- `VNEG_SELECT`. ring, slot, version. -/
  | vnegSelect (r k : Nat) (ver : Nat)
  /-- `CFG_FRAME`. ring, slot, sender, parameter index, value. -/
  | cfgFrame (r k : Nat) (src : BitVec 8) (idx : Nat) (v : BitVec 32)
  /-- `REJECT_FRAME`. ring, slot, frame. -/
  | rejectFrame (r k : Nat) (f : RejectFrame)
  /-- `COMPANION_MISS`. ring, slot. -/
  | companionMiss (r k : Nat)
  /-- `LEASE_EXPIRY`. ring, slot. -/
  | leaseExpiry (r k : Nat)
  /-- `RENEW_DUE`. ring, slot. -/
  | renewDue (r k : Nat)
  /-- `PARTNER_CLAIM`. axis. -/
  | partnerClaim (a : Nat)
  /-- `SC_TRIP`. ring, slot, comparators. -/
  | scTrip (r k : Nat) (mask : BitVec 4)
  /-- `SCWAIT_END`. ring, slot. -/
  | scwaitEnd (r k : Nat)
  /-- `SCQUIET_END`. ring, slot. -/
  | scquietEnd (r k : Nat)
  /-- `CAL_ROUND`. ring, the two loop delays in 1/16 ns, td + d less a_cw as a device in duplex end B reads it, in 1/16 ns. -/
  | calRound (r : Nat) (loopCw loopCcw : Nat) (ofs : Int)
  /-- `PTCTL_START`. ring. -/
  | ptctlStart (r : Nat)
  /-- `PTCTL_ABORT`. ring. -/
  | ptctlAbort (r : Nat)
  /-- `SELFTEST_TIMEOUT`. ring. -/
  | selftestTimeout (r : Nat)
  /-- `LANE_LOCK_LOST`. ring, port. -/
  | laneLockLost (r port : Nat)
  /-- `OWN_FRAMES_LOST`. ring, direction that stops returning. -/
  | ownFramesLost (r : Nat) (ccw : Bool)
  -- feedback
  /-- `FBCFG_EN_WRITE`. port, value. -/
  | fbcfgEnWrite (n : Nat) (en : Bool)
  /-- `QUAD_EDGE`. port, forward, backward or both inputs in one sample. -/
  | quadEdge (n : Nat) (e : QuadStep)
  /-- `Z_EDGE`. port. -/
  | zEdge (n : Nat)
  /-- `HALL_CODE_CHANGE`. port, code U + 2V + 4W. -/
  | hallCodeChange (n : Nat) (code : BitVec 3)
  /-- `HALL_TIMEOUT`. port. -/
  | hallTimeout (n : Nat)
  /-- `SSI_REQUEST`. port. -/
  | ssiRequest (n : Nat)
  /-- `SSI_WORD`. port, the bits in order of arrival, monoflop or ready fault. -/
  | ssiWord (n : Nat) (bits : List Bool) (timedOut : Bool)
  /-- `SSI_HOLD_EXCEEDED`. port. -/
  | ssiHoldExceeded (n : Nat)
  /-- `RESOLVER_PAIR`. port, sine and cosine in Q1.31, the tracking loop's electrical position (2^-32 turn), velocity (Q16.16 electrical) and error magnitude. -/
  | resolverPair (n : Nat) (s c : BitVec 32) (angle vel : Int) (trackErr : Nat)
  /-- `AMPCNT_EXCEEDED`. port. -/
  | ampcntExceeded (n : Nat)
  /-- `AUX_FAULT`. port. -/
  | auxFault (n : Nat)
  /-- `LOST_CLEAR`. port. -/
  | lostClear (n : Nat)
  /-- `FB_CAPTURE`. port. -/
  | fbCapture (n : Nat)
  /-- `ZEROTO_EXPIRY`. port. -/
  | zerotoExpiry (n : Nat)
  /-- `FB_POSSET_WRITE`. port, position. -/
  | fbPossetWrite (n : Nat) (v : BitVec 64)
  /-- `SDM_OUTPUT`. SDM page, channel, the 3 OSR - 2 samples of the window, oldest first. -/
  | sdmOutput (k j : Nat) (ones : List Bool)
  /-- `SDM_STUCK`. SDM page, channel. -/
  | sdmStuck (k j : Nat)
  /-- `LATCH_EDGE`. latch input, edge. -/
  | latchEdge (l : Nat) (falling : Bool)
  /-- `LARM_WRITE`. inputs to arm. -/
  | larmWrite (v : BitVec 16)
  /-- `EMU_UPDATE`. emulation output. -/
  | emuUpdate (e : Nat)
  -- motion
  /-- `SETPOINT_ISSUE`. axis. -/
  | setpointIssue (a : Nat)
  /-- `UNDERRUN_STOP`. axis. -/
  | underrunStop (a : Nat)
  /-- `CMODE_WRITE`. axis, mode. -/
  | cmodeWrite (a : Nat) (v : BitVec 2)
  /-- `MVCTL_START`. axis. -/
  | mvctlStart (a : Nat)
  /-- `MVCTL_ABORT`. axis. -/
  | mvctlAbort (a : Nat)
  /-- `MVCTL_RETARGET`. axis. -/
  | mvctlRetarget (a : Nat)
  /-- `MVCTL_RESUME`. axis. -/
  | mvctlResume (a : Nat)
  /-- `MVCTL_INTERP`. axis. -/
  | mvctlInterp (a : Nat)
  /-- `MVCTL_STOP`. axis. -/
  | mvctlStop (a : Nat)
  /-- `MVCTL_GEAR`. axis. -/
  | mvctlGear (a : Nat)
  /-- `MVCTL_UNGEAR`. axis. -/
  | mvctlUngear (a : Nat)
  /-- `MVCTL_CLRSTOP`. axis. -/
  | mvctlClrstop (a : Nat)
  /-- `MOVE_TERMINAL`. axis. -/
  | moveTerminal (a : Nat)
  /-- `GEAR_ENGAGE`. axis. -/
  | gearEngage (a : Nat)
  /-- `GEAR_RATIO_WRITE`. axis, GNUM, GDEN. -/
  | gearRatioWrite (a : Nat) (num den : BitVec 32)
  /-- `TARGET_WRITE`. axis, target. -/
  | targetWrite (a : Nat) (v : BitVec 64)
  /-- `STOP_AT_REST`. axis. -/
  | stopAtRest (a : Nat)
  /-- `STALL_DETECT`. axis. -/
  | stallDetect (a : Nat)
  /-- `SLIP_DETECT`. axis. -/
  | slipDetect (a : Nat)
  /-- `SENSORLESS_TIMEOUT`. axis. -/
  | sensorlessTimeout (a : Nat)
  /-- `ESTIMATE_LEAVE`. axis. -/
  | estimateLeave (a : Nat)
  -- route
  /-- `ROUTE_RCTL_RUN`. -/
  | routeRctlRun
  /-- `ROUTE_RCTL_STOP`. -/
  | routeRctlStop
  /-- `ROUTE_RCTL_CLEAR`. -/
  | routeRctlClear
  /-- `FCCTL_COMMIT`. number of pairs. -/
  | fcctlCommit (count : BitVec 2)
  /-- `FCCTL_ABORT`. -/
  | fcctlAbort
  /-- `FLIGHT_MAP_WRITE`. -/
  | flightMapWrite
  /-- `ROUTE_TICK`. -/
  | routeTick
  /-- `ROUTE_POSSET_WRITE`. position. -/
  | routePossetWrite (v : BitVec 64)
  -- migration
  /-- `MCTL_START`. -/
  | mctlStart
  /-- `MCTL_ABORT`. -/
  | mctlAbort
  /-- `MIGRATION_COPY`. -/
  | migrationCopy
  /-- `MIGRATION_RELEASE`. -/
  | migrationRelease
  /-- `GALLERY_DEAD`. gallery. -/
  | galleryDead (g : Nat)
  /-- `EMERGENCY_MIGRATION`. gallery that stopped or died. -/
  | emergencyMigration (g : Nat)
  /-- `MIG_TCTL_START`. -/
  | migTctlStart
  /-- `MIG_TCTL_ABORT`. -/
  | migTctlAbort
  /-- `GALLERY_TEST_DONE`. LBIST pass, MBIST pass, first failing memory. -/
  | galleryTestDone (lbist mbist : Bool) (firstBad : BitVec 4)
  /-- `SCTL_START`. partner's CFGOWN, the two devices agree on every shared ring's version. -/
  | sctlStart (partnerOwn : BitVec 24) (verAgree : Bool)
  /-- `SCTL_STOP`. -/
  | sctlStop
  /-- `SCTL_HANDOVER`. -/
  | sctlHandover
  /-- `SCTL_ABORT`. -/
  | sctlAbort
  /-- `SCTL_RESYNC`. -/
  | sctlResync
  /-- `STATE_COPY_DONE`. -/
  | stateCopyDone
  /-- `HEARTBEAT`. the frame's fields. -/
  | heartbeat (epoch : BitVec 32) (stw mode : BitVec 4) (owned : BitVec 24) (lt : BitVec 48)
  /-- `HEARTBEAT_SEND`. -/
  | heartbeatSend
  /-- `MIRROR_SP`. the setpoint unit. -/
  | mirrorSp (u : List (BitVec 32))
  /-- `MIRROR_REG`. AXIS offset, axis, 64-bit, value. -/
  | mirrorReg (off a : Nat) (wide : Bool) (v : BitVec 64)
  /-- `STATE_FRAME`. bridge, area, byte offset, tread count, data. -/
  | stateFrame (b : Nat) (coef : Bool) (off : Nat) (tread : BitVec 32) (data : List (BitVec 64))
  /-- `EPOCH_FRAME`. partner's epoch counter. -/
  | epochFrame (epoch : BitVec 32)
  /-- `HO_REQ`. axes, switch instant. -/
  | hoReq (axes : BitVec 24) (switch : BitVec 24)
  /-- `HO_ACK`. axes, accepted, first new epoch. -/
  | hoAck (axes : BitVec 24) (accepted : Bool) (epoch : BitVec 32)
  /-- `STAIRWELL_DOWN`. rings on which the partner is alive. -/
  | stairwellDown (alive : BitVec 8)
  /-- `PARTNER_SILENT`. -/
  | partnerSilent
  /-- `DRIFT_RESYNC`. bridge. -/
  | driftResync (b : Nat)
  -- newel and hall
  /-- `NEWEL_RELEASE`. what the boot finds in flash, eMRAM and LPDDR5. -/
  | newelRelease (env : BootEnv)
  /-- `CONFIG_COPY_REWRITE`. -/
  | configCopyRewrite
  /-- `NEWEL_RECOV`. offset of the set, it passes R304. -/
  | newelRecov (off : BitVec 32) (valid : Bool)
  /-- `UNKNOWN_CALL`. core, code, sequence. -/
  | unknownCall (core : Nat) (code seq : BitVec 16)
  /-- `FW_OPEN`. core, sequence, ARGLEN, arguments. -/
  | fwOpen (core : Nat) (seq : BitVec 16) (arglen : Nat) (a : FwArgs)
  /-- `FW_CLOSE`. core, sequence, ARGLEN, region. -/
  | fwClose (core : Nat) (seq : BitVec 16) (arglen region : Nat)
  /-- `DMA_ASSIGN`. core, sequence, ARGLEN, channel, owner. -/
  | dmaAssign (core : Nat) (seq : BitVec 16) (arglen ch owner : Nat)
  /-- `IMG_WRITE`. core, sequence, ARGLEN, set, component, offset, data. -/
  | imgWrite (core : Nat) (seq : BitVec 16) (arglen set comp off : Nat) (data : List (BitVec 8))
  /-- `IMG_VERIFY`. core, sequence, ARGLEN, set, it passes R304, its version. -/
  | imgVerify (core : Nat) (seq : BitVec 16) (arglen set : Nat) (passes : Bool) (version : BitVec 32)
  /-- `IMG_ACTIVATE`. core, sequence, ARGLEN, set, TRIES. -/
  | imgActivate (core : Nat) (seq : BitVec 16) (arglen set tries : Nat)
  /-- `IMG_CONFIRM`. core, sequence, ARGLEN. -/
  | imgConfirm (core : Nat) (seq : BitVec 16) (arglen : Nat)
  /-- `HALL_LOAD`. core, sequence, ARGLEN, slot, digest matches. -/
  | hallLoad (core : Nat) (seq : BitVec 16) (arglen slot : Nat) (passes : Bool)
  /-- `HALL_RESTART`. core, sequence, ARGLEN, core to restart, slot. -/
  | hallRestart (core : Nat) (seq : BitVec 16) (arglen target slot : Nat)
  /-- `TCH_LOAD`. core, sequence, ARGLEN, program, signature verifies, axes referenced. -/
  | tchLoad (core : Nat) (seq : BitVec 16) (arglen : Nat) (addr : BitVec 64) (len : Nat) (sigOk : Bool) (axes : BitVec 24)
  /-- `SAFE_OPEN`. core, sequence, ARGLEN, user, password. -/
  | safeOpen (core : Nat) (seq : BitVec 16) (arglen : Nat) (user : BitVec 16) (pw : List (BitVec 8))
  /-- `SAFE_CLOSE`. core, sequence, ARGLEN. -/
  | safeClose (core : Nat) (seq : BitVec 16) (arglen : Nat)
  /-- `SAFE_COMMIT`. core, sequence, ARGLEN, user, comment. -/
  | safeCommit (core : Nat) (seq : BitVec 16) (arglen : Nat) (user : BitVec 16) (comment : List (BitVec 8))
  /-- `SAFE_PWSET`. core, sequence, ARGLEN, old and new password, salt drawn. -/
  | safePwset (core : Nat) (seq : BitVec 16) (arglen : Nat) (old new : List (BitVec 8)) (salt : List (BitVec 8))
  /-- `SAFE_LOGREAD`. core, sequence, ARGLEN, first sequence number, count. -/
  | safeLogread (core : Nat) (seq : BitVec 16) (arglen : Nat) (first : BitVec 32) (count : Nat)
  /-- `SAFE_SIG`. core, sequence, ARGLEN. -/
  | safeSig (core : Nat) (seq : BitVec 16) (arglen : Nat)
  /-- `MABORT`. core. -/
  | mabort (core : Nat)
  /-- `CALL_TIMEOUT`. core. -/
  | callTimeout (core : Nat)
  /-- `HALL_TRAP_ENTRY`. core, cause, data address. -/
  | hallTrapEntry (k : Nat) (c : HallCause) (addr : BitVec 64)
  /-- `HALL_INTERRUPT`. core, interrupt number. -/
  | hallInterrupt (k n : Nat)
  /-- `WCALL`. core, target address. -/
  | wcall (k : Nat) (off : BitVec 64)
  /-- `WRET`. core. -/
  | wret (k : Nat)
  /-- `SPILLW`. core, window. -/
  | spillw (k n : Nat)
  /-- `FILLW`. core, window. -/
  | fillw (k n : Nat)
  /-- `TRET`. core. -/
  | tret (k : Nat)
  /-- `ISYNC`. core. -/
  | isync (k : Nat)
  /-- `FENCE`. core. -/
  | hallFence (k : Nat)
  /-- `SYSC`. core. -/
  | sysc (k : Nat)
  /-- `BREAK`. core. -/
  | brk (k : Nat)
  /-- `PXCTL_START`. core, the program at PXADDR as the checks find it. -/
  | pxctlStart (k : Nat) (p : TchProgram)
  /-- `PXCTL_ABORT`. core. -/
  | pxctlAbort (k : Nat)
  /-- `PX_EXCHANGE`. core. -/
  | pxExchange (k : Nat)
  /-- `TCHIORA_SCAN`. core, inputs of the edge detectors in object order, what the program stores into its objects (index, value, running), length of the scan in ms. -/
  | tchioraScan (k : Nat) (inputs : List Bool) (writes : List (Nat × BitVec 64 × Bool)) (ms : Nat)
  /-- `SCAN_OVERRUN`. core. -/
  | scanOverrun (k : Nat)
  /-- `CODE_SIG_FAIL`. -/
  | codeSigFail
  -- memory
  /-- `SCRCTL_START`. -/
  | scrctlStart
  /-- `SCRCTL_ABORT`. -/
  | scrctlAbort
  /-- `SCRUB_PASS_END`. -/
  | scrubPassEnd
  /-- `RETCTL_START`. -/
  | retctlStart
  /-- `RETCTL_ABORT`. -/
  | retctlAbort
  /-- `BANK_MAP_WRITE`. -/
  | bankMapWrite
  /-- `AUTO_RETIREMENT`. physical bank. -/
  | autoRetirement (p : Nat)
  /-- `INJCFG_ARM`. the INJCFG word. -/
  | injcfgArm (v : BitVec 32)
  /-- `UNIT_COMPLETE`. row retries, verify still fails, time in 1/16 µs. -/
  | unitComplete (retries : Nat) (verifyFails : Bool) (us : Nat)
  -- balustrade
  /-- `BAL_CYCLE`. what the cycle samples. -/
  | balCycle (i : BalInputs)
  /-- `DISCREPANCY_TIMEOUT`. safety input. -/
  | discrepancyTimeout (k : Nat)
  /-- `SS1_TIMEOUT`. axis. -/
  | ss1Timeout (a : Nat)
  /-- `SAFETY_VIOLATION`. axis, violation code. -/
  | safetyViolation (a : Nat) (code : BitVec 4)
  /-- `PLAUSIBILITY_VIOLATION`. axis. -/
  | plausibilityViolation (a : Nat)
  /-- `BRAKE_APPLY`. axis. -/
  | brakeApply (a : Nat)
  /-- `DARK_PULSE`. ball, the pulse was read back. -/
  | darkPulse (ball : BitVec 2) (readback : Bool)
  /-- `THERMAL_SHUTDOWN`. die sensor. -/
  | thermalShutdown (sensor : Nat)
  /-- `GATE_TIMEOUT`. -/
  | gateTimeout
  /-- `LOCKOUT_END`. -/
  | lockoutEnd
  /-- `SAFE_DATA_RX`. channel, network, the 32 bytes. -/
  | safeDataRx (c : Nat) (netB : Bool) (bytes : List (BitVec 8))
  /-- `SDWIN_EXPIRY`. channel. -/
  | sdwinExpiry (c : Nat)
  /-- `SDTO_EXPIRY`. channel. -/
  | sdtoExpiry (c : Nat)
  /-- `SAFE_DATA_TX`. channel. -/
  | safeDataTx (c : Nat)
  -- can
  /-- `CAN_CTL_EN`. controller, value. -/
  | canCtlEn (c : Nat) (en : Bool)
  /-- `CAN_FRAME_RX`. controller, frame. -/
  | canFrameRx (c : Nat) (f : CanFrame)
  /-- `BUFFER_LOCK_READ`. requester, controller, buffer. -/
  | bufferLockRead (req c b : Nat)
  /-- `BUFFER_RELEASE_READ`. requester, controller, buffer. -/
  | bufferReleaseRead (req c b : Nat)
  /-- `LOCK_TIMEOUT`. controller, buffer. -/
  | lockTimeout (c b : Nat)
  /-- `BCTL_REQ`. controller, buffer. -/
  | bctlReq (c b : Nat)
  /-- `BCTL_ABORT`. controller, buffer. -/
  | bctlAbort (c b : Nat)
  /-- `CAN_ATTEMPT_END`. controller, outcome of the attempt in progress. -/
  | canAttemptEnd (c : Nat) (o : CanOutcome)
  /-- `BUSCTL_RECOVER`. controller. -/
  | busctlRecover (c : Nat)
  /-- `BUS_RECOVERY_DONE`. controller. -/
  | busRecoveryDone (c : Nat)
  /-- `STATUS_MESSAGE`. controller. -/
  | statusMessage (c : Nat)
  /-- `REFERENCE_MESSAGE_RX`. controller, frame. -/
  | referenceMessageRx (c : Nat) (f : CanFrame)
  /-- `REFERENCE_SEND`. controller. -/
  | referenceSend (c : Nat)
  /-- `BACKUP_MASTER_TIMEOUT`. controller. -/
  | backupMasterTimeout (c : Nat)
  /-- `TT_SYNC_LOSS`. controller. -/
  | ttSyncLoss (c : Nat)
  /-- `WINDOW_START`. controller, window. -/
  | windowStart (c w : Nat)
  /-- `CAN_TCTL_START`. controller. -/
  | canTctlStart (c : Nat)
  /-- `CAN_TCTL_ABORT`. controller. -/
  | canTctlAbort (c : Nat)
  /-- `CAN_SELFTEST_DONE`. controller, every frame was received as sent. -/
  | canSelftestDone (c : Nat) (pass : Bool)
  /-- `CAN_WAKE`. controller. -/
  | canWake (c : Nat)
  -- time and ethernet
  /-- `TIME_TCTL_SET`. -/
  | timeTctlSet
  /-- `TIME_TCTL_ABORT`. -/
  | timeTctlAbort
  /-- `TIME_FIRST_WORD_READ`. requester, page index, offset of a 16-byte TIME register. -/
  | timeFirstWordRead (req page off : Nat)
  /-- `PTP_SYNC`. domain, what the Sync measures. -/
  | ptpSync (d : Nat) (s : PtpSync)
  /-- `PTP_SYNC_SEND`. domain. -/
  | ptpSyncSend (d : Nat)
  /-- `SYNC_TIMEOUT`. domain. -/
  | syncTimeout (d : Nat)
  /-- `HOLDMAX_EXPIRY`. -/
  | holdmaxExpiry
  /-- `RING_SOURCE_TIMEOUT`. -/
  | ringSourceTimeout
  /-- `ETH_FRAME_RX`. MAC, frame. -/
  | ethFrameRx (e : Nat) (f : EthFrame)
  /-- `ETH_TXWR_WRITE`. MAC, offset. -/
  | ethTxwrWrite (e : Nat) (v : BitVec 32)
  /-- `ETH_TX_DONE`. MAC. -/
  | ethTxDone (e : Nat)
  /-- `ETH_LINK_CHANGE`. MAC, link state. -/
  | ethLinkChange (e : Nat) (up : Bool)
  /-- `MDIO_START`. MAC, the MDIO word, data the PHY returns. -/
  | mdioStart (e : Nat) (v : BitVec 32) (phyData : BitVec 16)
  -- acquisition and recorder
  /-- `ACTL_ARM`. -/
  | actlArm
  /-- `ACTL_STOP`. -/
  | actlStop
  /-- `ACQ_INSTANT`. group. -/
  | acqInstant (grp : Nat)
  /-- `TRG_TCTL_FORCE`. trigger unit. -/
  | trgTctlForce (t : Nat)
  /-- `FWREC_SUBMIT`. hall core, the word written at 0x13C. -/
  | fwrecSubmit (core : Nat) (v : BitVec 32)
  /-- `FCTL_FREEZE`. -/
  | fctlFreeze
  /-- `FCTL_UNFREEZE`. -/
  | fctlUnfreeze
  /-- `FREEZE_TIMEOUT`. -/
  | freezeTimeout
  /-- `FCTL_FLUSH`. -/
  | fctlFlush
  /-- `FLRDCTL_START`. -/
  | flrdctlStart
  /-- `FLRDCTL_ABORT`. -/
  | flrdctlAbort
  /-- `STORE_SCTL_START`. store page, what the members' labels say. -/
  | storeSctlStart (p : Nat) (labels : LabelScan)
  /-- `STORE_SCTL_STOP`. store page. -/
  | storeSctlStop (p : Nat)
  /-- `STORE_SCTL_ABORT`. store page. -/
  | storeSctlAbort (p : Nat)
  /-- `STORE_SCTL_FORMAT`. store page, FORCE, what the labels say. -/
  | storeSctlFormat (p : Nat) (force : Bool) (labels : LabelScan)
  /-- `STORE_SCTL_CKPT`. store page. -/
  | storeSctlCkpt (p : Nat)
  /-- `CHECKPOINT_TIMER`. -/
  | checkpointTimer
  /-- `MEMBER_FAIL`. store page, controller. -/
  | memberFail (p m : Nat)
  /-- `SMART_WARNING`. store page, controller, critical-warning bits. -/
  | smartWarning (p m : Nat) (warn : BitVec 8)
  /-- `HEALTH_POLL`. store page, controller, its SMART log. -/
  | healthPoll (p m : Nat) (h : SmartLog)
  -- field i/o
  /-- `FIO_RCTL_START`. field ring. -/
  | fioRctlStart (r : Nat)
  /-- `FIO_RCTL_STOP`. field ring. -/
  | fioRctlStop (r : Nat)
  /-- `FIO_RCTL_ABORT`. field ring. -/
  | fioRctlAbort (r : Nat)
  /-- `FIO_RCTL_RESUME`. field ring, slot. -/
  | fioRctlResume (r k : Nat)
  /-- `FIO_START_TIMEOUT`. field ring. -/
  | fioStartTimeout (r : Nat)
  /-- `FIO_PARAM_WRITE`. field ring, slot, parameter index, value. -/
  | fioParamWrite (r k idx : Nat) (v : BitVec 32)
  /-- `FIO_CYCLE_FRAME`. field ring. -/
  | fioCycleFrame (r : Nat)
  /-- `FIO_FRAME_RETURN`. field ring, loop delay, up parts of slots 0 to 7. -/
  | fioFrameReturn (r : Nat) (loopNs : Nat) (ups : List UpPart)
  /-- `FIO_FRAME_LOST`. field ring. -/
  | fioFrameLost (r : Nat)
  /-- `FIO_STALE`. field ring, slot. -/
  | fioStale (r k : Nat)
  /-- `FIO_BROKEN`. field ring. -/
  | fioBroken (r : Nat)
  /-- `FIO_COMPANION_FRAME`. field ring, slot, down part passes its CRC, input levels. -/
  | fioCompanionFrame (r k : Nat) (crcOk : Bool) (pins : BitVec 32)
  /-- `FIO_SAFETO_EXPIRY`. field ring, slot. -/
  | fioSafetoExpiry (r k : Nat)
  /-- `FIO_OVERCURRENT`. field ring, slot, channel. -/
  | fioOvercurrent (r k c : Nat)
  /-- `FIO_SUPPLY_CHANGE`. field ring, slot, group, millivolts. -/
  | fioSupplyChange (r k : Nat) (grpB : Bool) (mv : Nat)
  /-- `FIO_LATCH_EDGE`. field ring, slot, channel, edge, offset in 8 ns. -/
  | fioLatchEdge (r k c : Nat) (falling : Bool) (off : Nat)
  -- modes and power
  /-- `MODEREQ_GO`. mode. -/
  | modereqGo (target : BitVec 4)
  /-- `MODEREQ_ABORT`. -/
  | modereqAbort
  /-- `MODE_CHANGE_DONE`. -/
  | modeChangeDone
  /-- `LIMP_STEP4_TIMER`. -/
  | limpStep4Timer
  /-- `WAKETMR_EXPIRY`. -/
  | waketmrExpiry
  /-- `IGN_WAKE`. -/
  | ignWake
  /-- `IDLE_ENTRY`. page index. -/
  | idleEntry (page : Nat)
  /-- `MAIN_EXCURSION`. MAIN rail. -/
  | mainExcursion (rail : Nat)
  /-- `MAIN_RETURN`. time spent on BACKUP. -/
  | mainReturn (ms : Nat)
  /-- `BACKUP_EXCURSION`. BACKUP rail. -/
  | backupExcursion (rail : Nat)
  /-- `SWCTL_TEST`. -/
  | swctlTest
  /-- `SWCTL_ABORT`. -/
  | swctlAbort
  /-- `SWITCH_TEST_HOLD_END`. time spent on BACKUP. -/
  | switchTestHoldEnd (ms : Nat)
  /-- `POWER_CYCLE_RESTORE`. what the boot finds. -/
  | powerCycleRestore (env : BootEnv)
  /-- `REFERENCE_LOSS`. reference. -/
  | referenceLoss (isB : Bool)
  /-- `BOTH_REFERENCES_LOST`. -/
  | bothReferencesLost
  /-- `REFERENCE_COMPARE`. REFB less REFA and each one's distance from the disciplined rate, 2^-8 ppm. -/
  | referenceCompare (diff devA devB : Int)
  /-- `REFERENCE_REVERT`. -/
  | referenceRevert
  /-- `HOUSEKEEPING_READ`. channel, reading. -/
  | housekeepingRead (ch : Nat) (raw : Int)
  /-- `DERATING_UPDATE`. -/
  | deratingUpdate
  /-- `DDR_VDDQ_LOSS`. -/
  | ddrVddqLoss
  /-- `PORST_N_FALL`. -/
  | porstNFall
  /-- `POWER_UP`. complete supply sets, references present. -/
  | powerUp (mainOk bkupOk refA refB : Bool)
  /-- `PCIE_PERST_RISE`. -/
  | pciePerstRise
  /-- `RZL_BLOCK_LOCK_GAINED`. ring, port. -/
  | rzlBlockLockGained (r port : Nat)
  /-- `STW_LANE_LOCK_CHANGE`. lane, in lock. -/
  | stwLaneLockChange (lane : Nat) (lock : Bool)
  /-- `BOTH_SUPPLY_SETS_LOST`. -/
  | bothSupplySetsLost
  /-- `REFERENCE_RETURN`. reference. -/
  | referenceReturn (isB : Bool)
  /-- `PCIE_LINK_STATE_CHANGE`. ASPM state, speed, width. -/
  | pcieLinkStateChange (aspm : BitVec 3) (speed width : BitVec 4)
  /-- `CAN_RX_ERROR`. controller, error. -/
  | canRxError (c : Nat) (e : CanRxErr)
  /-- `SLEW_END`. -/
  | slewEnd
  /-- `NVME_COMPLETION`. store page, controller, status good. -/
  | nvmeCompletion (p m : Nat) (ok : Bool)
  /-- `FLUSH_READ_DONE`. -/
  | flushReadDone
  /-- `PCIE_PERST_FALL`. -/
  | pciePerstFall
  deriving DecidableEq, Repr

end Sys2Proof
end

