-- ==== Sys2Proof/Decode.lean ====
section
/-!
DEFINITION. Decoding.  No row of the table of commands has bits, so no word of it spells a command.  What the spec does
give bits to is a gallery's instruction word (R86): its decoder and its encoder stand here.
-/
namespace Sys2Proof

/-- The command that a word spells by the table's bits: the table gives none of its rows any bits. -/
def decodeTableWord (_nbits _w : Nat) : Option Instr := none

/-! ### Gallery instruction words (R86) -/

/-- `len` bits of an instruction word from bit `lo` up. -/
def field (w : Word) (lo len : Nat) : BitVec len := w.extractLsb' lo len

/-- The branch conditions by number (R86). -/
def condOf (c : BitVec 4) : Option Cond :=
  [Cond.always, .eqz, .nez, .ltz, .gez, .gtz, .lez][c.toNat]?

/-- The number of a branch condition (R86). -/
def Cond.num : Cond → BitVec 4
  | .always => 0
  | .eqz => 1
  | .nez => 2
  | .ltz => 3
  | .gez => 4
  | .gtz => 5
  | .lez => 6

/-- The value where the reserved bits are zero; else the word is undefined (R86). -/
def whenZero {n : Nat} (z : BitVec n) (i : Option Instr) : Option Instr := if z = 0 then i else none

/-- Class 0x0, control. `ns` is what WAITI's command says beside its word. -/
def decodeControl (g ns : Nat) (w : Word) : Option Instr :=
  match (field w 24 4).toNat with
  | 0x0 => whenZero (field w 0 24) (some (.nop g))
  | 0x1 => (condOf (field w 20 4)).map fun c => .b g c (field w 15 5) (field w 0 15)
  | 0x2 => whenZero (field w 15 9) (some (.call g (field w 0 15)))
  | 0x3 => whenZero (field w 0 24) (some (.ret g))
  | 0x4 => whenZero (field w 0 24) (some (.reti g))
  | 0x5 => whenZero (field w 0 24) (some (.retx g))
  | 0x6 => whenZero (field w 12 6) (some (.loop g (w.getLsbD 23) (field w 18 5) (field w 0 12)))
  | 0x7 => some (.loopi g (w.getLsbD 23) (field w 12 11) (field w 0 12))
  | 0x8 => whenZero (field w 0 23) (some (.lexit g (w.getLsbD 23)))
  | 0x9 => whenZero (field w 0 24) (some (.endt g))
  | 0xA => whenZero (field w 0 24) (some (.waiti g ns))
  | 0xB => whenZero (field w 0 24) (some (.sync g))
  | 0xC => whenZero (field w 8 16) (some (.trap g (field w 0 8)))
  | 0xD => whenZero (field w 0 24) (some (.sevt g))
  | _ => none

/-- The ALU operations by number (R86), but for ABSS (0x0D). -/
def aluOf (g : Nat) (op : Nat) (d a : BitVec 5) (y : AluSrc) : Option Instr :=
  match op with
  | 0x00 => some (.add g d a y)
  | 0x01 => some (.sub g d a y)
  | 0x02 => some (.adds g d a y)
  | 0x03 => some (.subs g d a y)
  | 0x04 => some (.and g d a y)
  | 0x05 => some (.or g d a y)
  | 0x06 => some (.xor g d a y)
  | 0x07 => some (.shl g d a y)
  | 0x08 => some (.shr g d a y)
  | 0x09 => some (.sar g d a y)
  | 0x0A => some (.mul g d a y)
  | 0x0B => some (.min g d a y)
  | 0x0C => some (.max g d a y)
  | 0x0E => some (.slt g d a y)
  | 0x0F => some (.sltu g d a y)
  | _ => none

/-- Class 0x1, ALU register: bits [6:0] are zero, and Gb too in ABSS. -/
def decodeAluReg (g : Nat) (w : Word) : Option Instr :=
  whenZero (field w 0 7)
    (if field w 22 6 = 0x0D then whenZero (field w 7 5) (some (.abss g (field w 17 5) (field w 12 5) false))
     else aluOf g (field w 22 6).toNat (field w 17 5) (field w 12 5) (.reg (field w 7 5)))

/-- Class 0x2, ALU immediate: the immediate of ABSS is zero. -/
def decodeAluImm (g : Nat) (w : Word) : Option Instr :=
  if field w 22 6 = 0x0D then whenZero (field w 0 12) (some (.abss g (field w 17 5) (field w 12 5) true))
  else aluOf g (field w 22 6).toNat (field w 17 5) (field w 12 5) (.imm (field w 0 12))

/-- Class 0x3, data load and store: bit 23 is zero where the field names an F register. -/
def decodeData (g : Nat) (w : Word) : Option Instr :=
  match (field w 24 4).toNat with
  | 0x0 => some (.lw g (field w 19 5) (field w 14 5) (field w 0 14))
  | 0x1 => some (.sw g (field w 19 5) (field w 14 5) (field w 0 14))
  | 0x2 => whenZero (field w 23 1) (some (.lf g (field w 19 4) (field w 14 5) (field w 0 14)))
  | 0x3 => whenZero (field w 23 1) (some (.sf g (field w 19 4) (field w 14 5) (field w 0 14)))
  | _ => none

/-- Class 0x4, mezzanine. `lat` is what MLW's command says beside its word. -/
def decodeMezz (g lat : Nat) (w : Word) : Option Instr :=
  match (field w 24 4).toNat with
  | 0x0 => some (.mlw g (field w 19 5) (field w 14 5) (field w 0 14) lat)
  | 0x1 => some (.msw g (field w 19 5) (field w 14 5) (field w 0 14))
  | _ => none

/-- Class 0x5, vector: an offset, or a lane in bits [2:0], or neither. -/
def decodeVector (g : Nat) (w : Word) : Option Instr :=
  match (field w 24 4).toNat with
  | 0x0 => some (.vld g (field w 20 4) (field w 15 5) (field w 0 15))
  | 0x1 => some (.vst g (field w 20 4) (field w 15 5) (field w 0 15))
  | 0x2 => whenZero (field w 0 15) (some (.vbc g (field w 20 4) (field w 15 5)))
  | 0x3 => whenZero (field w 3 12) (some (.vins g (field w 20 4) (field w 15 5) (field w 0 3)))
  | 0x4 => whenZero (field w 3 12) (some (.vext g (field w 20 4) (field w 15 5) (field w 0 3)))
  | _ => none

/-- Class 0x6, MAC: a scalar form has no lane mask; a V source has bit 4 of its field zero. -/
def decodeMac (g : Nat) (w : Word) : Option Instr :=
  match (field w 24 4).toNat with
  | 0x0 => whenZero (field w 0 10) (some (.smac g (w.getLsbD 23) (field w 20 3) (field w 15 5) (field w 10 5)))
  | 0x1 => whenZero (field w 0 10) (some (.smsu g (w.getLsbD 23) (field w 20 3) (field w 15 5) (field w 10 5)))
  | 0x2 => whenZero (field w 19 1) (whenZero (field w 14 1) (whenZero (field w 8 2)
      (some (.vdot g (w.getLsbD 23) (field w 20 3) (field w 15 4) (field w 10 4) (field w 0 8)))))
  | 0x3 => whenZero (field w 19 1) (whenZero (field w 14 1) (whenZero (field w 8 2)
      (some (.vdotn g (w.getLsbD 23) (field w 20 3) (field w 15 4) (field w 10 4) (field w 0 8)))))
  | _ => none

/-- Class 0x7, accumulator: fields that an operation does not use are zero. -/
def decodeAcc (g : Nat) (w : Word) : Option Instr :=
  match (field w 24 4).toNat with
  | 0x0 => whenZero (field w 0 21) (some (.azero g (field w 21 3)))
  | 0x1 => whenZero (field w 0 10) (some (.ald g (field w 21 3) (field w 16 5) (field w 10 6)))
  | 0x2 => whenZero (field w 0 10) (some (.asat g (field w 21 3) (field w 16 5) (field w 10 6)))
  | 0x3 => whenZero (field w 0 10) (some (.asatt g (field w 21 3) (field w 16 5) (field w 10 6)))
  | 0x4 => whenZero (field w 0 16) (some (.agetl g (field w 21 3) (field w 16 5)))
  | 0x5 => whenZero (field w 0 16) (some (.agetm g (field w 21 3) (field w 16 5)))
  | 0x6 => whenZero (field w 0 16) (some (.ageth g (field w 21 3) (field w 16 5)))
  | 0x7 => whenZero (field w 0 16) (some (.aputl g (field w 21 3) (field w 16 5)))
  | 0x8 => whenZero (field w 0 16) (some (.aputm g (field w 21 3) (field w 16 5)))
  | 0x9 => whenZero (field w 0 16) (some (.aputh g (field w 21 3) (field w 16 5)))
  | _ => none

/-- Class 0x8, FP32: Fd [21:18], Fa [17:14], Fb [13:10], G [9:5]; what an operation does not use is zero. -/
def decodeFp (g : Nat) (w : Word) : Option Instr :=
  let d := field w 18 4
  let a := field w 14 4
  let b := field w 10 4
  let r := field w 5 5
  let three := fun (i : Instr) => whenZero (field w 0 10) (some i)
  let two := fun (i : Instr) => whenZero (field w 0 14) (some i)
  let toG := fun (i : Instr) => whenZero (field w 0 5) (whenZero (field w 10 4) (whenZero (field w 18 4) (some i)))
  let fromG := fun (i : Instr) => whenZero (field w 0 5) (whenZero (field w 10 8) (some i))
  match (field w 22 6).toNat with
  | 0x00 => three (.fadd g d a b)
  | 0x01 => three (.fsub g d a b)
  | 0x02 => three (.fmul g d a b)
  | 0x03 => three (.fma g d a b)
  | 0x04 => three (.fdiv g d a b)
  | 0x05 => two (.fsqrt g d a)
  | 0x06 => three (.fmin g d a b)
  | 0x07 => three (.fmax g d a b)
  | 0x08 => two (.fabs g d a)
  | 0x09 => two (.fneg g d a)
  | 0x0A => whenZero (field w 0 5) (whenZero (field w 18 4) (some (.fcmplt g r a b)))
  | 0x0B => toG (.ftoq g r a)
  | 0x0C => fromG (.qtof g d r)
  | 0x0D => toG (.ftoi g r a)
  | 0x0E => fromG (.itof g d r)
  | 0x0F => toG (.fmvg g r a)
  | 0x10 => fromG (.gmvf g d r)
  | _ => none

/-- Class 0x9, search. -/
def decodeSearch (g : Nat) (w : Word) : Option Instr :=
  let oneG := fun (i : Instr) => whenZero (field w 0 15) (whenZero (field w 20 4) (some i))
  match (field w 24 4).toNat with
  | 0x0 => oneG (.sinitmax g (field w 15 5))
  | 0x1 => oneG (.sinitmin g (field w 15 5))
  | 0x2 => whenZero (field w 0 12) (whenZero (field w 15 5) (some (.sstep g (field w 20 4) (field w 12 3))))
  | 0x3 => oneG (.sget g (field w 15 5))
  | 0x4 => oneG (.sgeti g (field w 15 5))
  | _ => none

/-- Class 0xA, landing. -/
def decodeLanding (g : Nat) (w : Word) : Option Instr :=
  let a := field w 19 5
  let b := field w 14 5
  match (field w 24 4).toNat with
  | 0x0 => whenZero (field w 0 14) (some (.swait g a b))
  | 0x1 => whenZero (field w 0 14) (some (.ldsp g a b))
  | 0x2 => whenZero (field w 0 14) (some (.pcommit g a b))
  | 0x3 => whenZero (field w 0 14) (some (.obsr g a b))
  | 0x4 => whenZero (field w 0 24) (some (.trcap g))
  | _ => none

/-- Class 0xB, system registers. -/
def decodeSys (g : Nat) (w : Word) : Option Instr :=
  match (field w 24 4).toNat with
  | 0x0 => whenZero (field w 0 8) (some (.mfs g (field w 19 5) (field w 8 11)))
  | 0x1 => whenZero (field w 0 8) (some (.mts g (field w 19 5) (field w 8 11)))
  | _ => none

/-- The instruction of a word of gallery `g` (R86); none: the word is undefined and raises ILLEGAL.  `ns` and `lat` are the
operands of WAITI and MLW that lie outside the word. -/
def decodeGal (g ns lat : Nat) (w : Word) : Option Instr :=
  match (field w 28 4).toNat with
  | 0x0 => decodeControl g ns w
  | 0x1 => decodeAluReg g w
  | 0x2 => decodeAluImm g w
  | 0x3 => decodeData g w
  | 0x4 => decodeMezz g lat w
  | 0x5 => decodeVector g w
  | 0x6 => decodeMac g w
  | 0x7 => decodeAcc g w
  | 0x8 => decodeFp g w
  | 0x9 => decodeSearch g w
  | 0xA => decodeLanding g w
  | 0xB => decodeSys g w
  | 0xC => whenZero (field w 0 3) (some (.lui g (field w 23 5) (field w 3 20)))
  | _ => none

/-! ### The encoder -/

/-- The word of class, op and 24 operand bits. -/
def word4 (cls op : BitVec 4) (rest : BitVec 24) : Word := (cls ++ op) ++ rest

/-- The word of class, op of six bits and 22 operand bits. -/
def word6 (cls : BitVec 4) (op : BitVec 6) (rest : BitVec 22) : Word := (cls ++ op) ++ rest

/-- An ALU word (R86): classes 0x1 and 0x2. -/
def encodeAlu (op : BitVec 6) (d a : BitVec 5) : AluSrc → Word
  | .reg b => word6 1 op (((d ++ a) ++ b) ++ (0 : BitVec 7))
  | .imm v => word6 2 op ((d ++ a) ++ v)

/-- A word of a class with two 5-bit fields and a 14-bit one. -/
def word554 (cls op : BitVec 4) (a b : BitVec 5) (o : BitVec 14) : Word := word4 cls op ((a ++ b) ++ o)

/-- A vector word. -/
def encodeVec (op : BitVec 4) (d : BitVec 4) (b : BitVec 5) (o : BitVec 15) : Word := word4 5 op ((d ++ b) ++ o)

/-- A MAC word. -/
def encodeMac (op : BitVec 4) (fr : Bool) (ad : BitVec 3) (a b : BitVec 5) (m : BitVec 8) : Word :=
  word4 6 op (((((BitVec.ofBool fr ++ ad) ++ a) ++ b) ++ (0 : BitVec 2)) ++ m)

/-- An accumulator word. -/
def encodeAcc (op : BitVec 4) (a : BitVec 3) (r : BitVec 5) (n : BitVec 6) : Word :=
  word4 7 op (((a ++ r) ++ n) ++ (0 : BitVec 10))

/-- An FP32 word. -/
def encodeFp (op : BitVec 6) (d a b : BitVec 4) (r : BitVec 5) : Word :=
  word6 8 op ((((d ++ a) ++ b) ++ r) ++ (0 : BitVec 5))

/-- A search word. -/
def encodeSearch (op : BitVec 4) (x : BitVec 4) (r : BitVec 5) (l : BitVec 3) : Word :=
  word4 9 op (((x ++ r) ++ l) ++ (0 : BitVec 12))

/-- The word of a gallery instruction (R86); none for every other command. -/
def encodeGal : Instr → Option Word
  | .nop _ => some (word4 0 0x0 0)
  | .b _ c r o => some (word4 0 0x1 ((c.num ++ r) ++ o))
  | .call _ o => some (word4 0 0x2 ((0 : BitVec 9) ++ o))
  | .ret _ => some (word4 0 0x3 0)
  | .reti _ => some (word4 0 0x4 0)
  | .retx _ => some (word4 0 0x5 0)
  | .loop _ l r o => some (word4 0 0x6 (((BitVec.ofBool l ++ r) ++ (0 : BitVec 6)) ++ o))
  | .loopi _ l n o => some (word4 0 0x7 ((BitVec.ofBool l ++ n) ++ o))
  | .lexit _ l => some (word4 0 0x8 (BitVec.ofBool l ++ (0 : BitVec 23)))
  | .endt _ => some (word4 0 0x9 0)
  | .waiti _ _ => some (word4 0 0xA 0)
  | .sync _ => some (word4 0 0xB 0)
  | .trap _ c => some (word4 0 0xC ((0 : BitVec 16) ++ c))
  | .sevt _ => some (word4 0 0xD 0)
  | .add _ d a y => some (encodeAlu 0x00 d a y)
  | .sub _ d a y => some (encodeAlu 0x01 d a y)
  | .adds _ d a y => some (encodeAlu 0x02 d a y)
  | .subs _ d a y => some (encodeAlu 0x03 d a y)
  | .and _ d a y => some (encodeAlu 0x04 d a y)
  | .or _ d a y => some (encodeAlu 0x05 d a y)
  | .xor _ d a y => some (encodeAlu 0x06 d a y)
  | .shl _ d a y => some (encodeAlu 0x07 d a y)
  | .shr _ d a y => some (encodeAlu 0x08 d a y)
  | .sar _ d a y => some (encodeAlu 0x09 d a y)
  | .mul _ d a y => some (encodeAlu 0x0A d a y)
  | .min _ d a y => some (encodeAlu 0x0B d a y)
  | .max _ d a y => some (encodeAlu 0x0C d a y)
  | .abss _ d a im => some (encodeAlu 0x0D d a (if im then .imm 0 else .reg 0))
  | .slt _ d a y => some (encodeAlu 0x0E d a y)
  | .sltu _ d a y => some (encodeAlu 0x0F d a y)
  | .lui _ d v => some ((((0xC : BitVec 4) ++ d) ++ v) ++ (0 : BitVec 3))
  | .lw _ d b o => some (word554 3 0 d b o)
  | .sw _ x b o => some (word554 3 1 x b o)
  | .lf _ d b o => some (word554 3 2 ((0 : BitVec 1) ++ d) b o)
  | .sf _ x b o => some (word554 3 3 ((0 : BitVec 1) ++ x) b o)
  | .mlw _ d b o _ => some (word554 4 0 d b o)
  | .msw _ x b o => some (word554 4 1 x b o)
  | .vld _ d b o => some (encodeVec 0 d b o)
  | .vst _ x b o => some (encodeVec 1 x b o)
  | .vbc _ d b => some (encodeVec 2 d b 0)
  | .vins _ d b k => some (encodeVec 3 d b ((0 : BitVec 12) ++ k))
  | .vext _ x b k => some (encodeVec 4 x b ((0 : BitVec 12) ++ k))
  | .smac _ f ad a b => some (encodeMac 0 f ad a b 0)
  | .smsu _ f ad a b => some (encodeMac 1 f ad a b 0)
  | .vdot _ f ad a b m => some (encodeMac 2 f ad ((0 : BitVec 1) ++ a) ((0 : BitVec 1) ++ b) m)
  | .vdotn _ f ad a b m => some (encodeMac 3 f ad ((0 : BitVec 1) ++ a) ((0 : BitVec 1) ++ b) m)
  | .azero _ a => some (encodeAcc 0 a 0 0)
  | .ald _ a r n => some (encodeAcc 1 a r n)
  | .asat _ a r n => some (encodeAcc 2 a r n)
  | .asatt _ a r n => some (encodeAcc 3 a r n)
  | .agetl _ a r => some (encodeAcc 4 a r 0)
  | .agetm _ a r => some (encodeAcc 5 a r 0)
  | .ageth _ a r => some (encodeAcc 6 a r 0)
  | .aputl _ a r => some (encodeAcc 7 a r 0)
  | .aputm _ a r => some (encodeAcc 8 a r 0)
  | .aputh _ a r => some (encodeAcc 9 a r 0)
  | .fadd _ d a b => some (encodeFp 0x00 d a b 0)
  | .fsub _ d a b => some (encodeFp 0x01 d a b 0)
  | .fmul _ d a b => some (encodeFp 0x02 d a b 0)
  | .fma _ d a b => some (encodeFp 0x03 d a b 0)
  | .fdiv _ d a b => some (encodeFp 0x04 d a b 0)
  | .fsqrt _ d a => some (encodeFp 0x05 d a 0 0)
  | .fmin _ d a b => some (encodeFp 0x06 d a b 0)
  | .fmax _ d a b => some (encodeFp 0x07 d a b 0)
  | .fabs _ d a => some (encodeFp 0x08 d a 0 0)
  | .fneg _ d a => some (encodeFp 0x09 d a 0 0)
  | .fcmplt _ r a b => some (encodeFp 0x0A 0 a b r)
  | .ftoq _ r a => some (encodeFp 0x0B 0 a 0 r)
  | .qtof _ d r => some (encodeFp 0x0C d 0 0 r)
  | .ftoi _ r a => some (encodeFp 0x0D 0 a 0 r)
  | .itof _ d r => some (encodeFp 0x0E d 0 0 r)
  | .fmvg _ r a => some (encodeFp 0x0F 0 a 0 r)
  | .gmvf _ d r => some (encodeFp 0x10 d 0 0 r)
  | .sinitmax _ r => some (encodeSearch 0 0 r 0)
  | .sinitmin _ r => some (encodeSearch 1 0 r 0)
  | .sstep _ x l => some (encodeSearch 2 x 0 l)
  | .sget _ r => some (encodeSearch 3 0 r 0)
  | .sgeti _ r => some (encodeSearch 4 0 r 0)
  | .swait _ a b => some (word554 0xA 0 a b 0)
  | .ldsp _ a b => some (word554 0xA 1 a b 0)
  | .pcommit _ a b => some (word554 0xA 2 a b 0)
  | .obsr _ a b => some (word554 0xA 3 a b 0)
  | .trcap _ => some (word554 0xA 4 0 0 0)
  | .mfs _ r n => some (word4 0xB 0 ((r ++ n) ++ (0 : BitVec 8)))
  | .mts _ r n => some (word4 0xB 1 ((r ++ n) ++ (0 : BitVec 8)))
  | _ => none

end Sys2Proof
end

