-- ==== Sys2Proof/Machine/Bits.lean ====
section
/-!
DEFINITION. Bit fields, saturation (R14) and byte order (R12) of register words and storage words.
-/
namespace Sys2Proof.Machine

/-- Bits [hi:lo] of a word, as a number (R11). -/
def wfld {n : Nat} (w : BitVec n) (hi lo : Nat) : Nat := (w.toNat >>> lo) % 2 ^ (hi + 1 - lo)

/-- Bit i of a word. -/
def bitAt {n : Nat} (w : BitVec n) (i : Nat) : Bool := w.getLsbD i

/-- The mask with bits [hi:lo] set. -/
def fldMask (n hi lo : Nat) : BitVec n := BitVec.ofNat n ((2 ^ (hi + 1 - lo) - 1) <<< lo)

/-- `w` with bits [hi:lo] holding `v` (cut to the field). -/
def wset {n : Nat} (w : BitVec n) (hi lo v : Nat) : BitVec n :=
  (w &&& ~~~ fldMask n hi lo) ||| (BitVec.ofNat n ((v % 2 ^ (hi + 1 - lo)) <<< lo))

/-- `w` with bit i set to `b`. -/
def wsetBit {n : Nat} (w : BitVec n) (i : Nat) (b : Bool) : BitVec n := wset w i i (if b then 1 else 0)

/-- A Bool as 0 or 1. -/
def b01 (b : Bool) : Nat := if b then 1 else 0

/-- A count that saturates at its all-ones value. -/
def satAdd (bits v d : Nat) : Nat := Nat.min (v + d) (2 ^ bits - 1)

/-- An integer brought into signed `n` bits by saturation at the nearer limit (R14). -/
def satInt (n : Nat) (v : Int) : BitVec n :=
  if v < -(2 ^ (n - 1) : Int) then BitVec.ofInt n (-(2 ^ (n - 1)))
  else if v > 2 ^ (n - 1) - 1 then BitVec.ofInt n (2 ^ (n - 1) - 1)
  else BitVec.ofInt n v

/-- A natural number brought into `n` bits by saturation at all-ones. -/
def satNat (n v : Nat) : BitVec n := BitVec.ofNat n (Nat.min v (2 ^ n - 1))

/-- The signed value of 16 bits given as a number. -/
def sint16 (v : Nat) : Int := (BitVec.ofNat 16 v).toInt

/-- Largest signed value of `n` bits. -/
def sMax (n : Nat) : Int := 2 ^ (n - 1) - 1

/-- Smallest signed value of `n` bits. -/
def sMin (n : Nat) : Int := -(2 ^ (n - 1))

/-- The bytes of a word, least significant first (R12). -/
def leBytes : (k : Nat) → Nat → List Byte
  | 0, _ => []
  | k + 1, v => BitVec.ofNat 8 v :: leBytes k (v / 256)

/-- The number that bytes spell, least significant first (R12). -/
def ofLeBytes : List Byte → Nat
  | [] => 0
  | b :: t => b.toNat + 256 * ofLeBytes t

/-- The words that bytes spell, four bytes each, least significant first; a short tail reads as if zeros followed. -/
def leWords : (k : Nat) → List Byte → List Word
  | 0, _ => []
  | k + 1, bs => BitVec.ofNat 32 (ofLeBytes (bs.take 4)) :: leWords k (bs.drop 4)

/-- The bytes of words, each least significant byte first. -/
def bytesOf (ws : List Word) : List Byte := ws.flatMap fun w => leBytes 4 w.toNat

/-- The low and high words of a 64-bit value, low first (R12). -/
def loWord (v : Word64) : Word := v.setWidth 32
def hiWord (v : Word64) : Word := (v >>> 32).setWidth 32

/-- The 64-bit value of a low and a high word. -/
def wide (lo hi : Word) : Word64 := hi ++ lo

/-- Number of bits set, counting the low `k`. -/
def popcount : (k : Nat) → Nat → Nat
  | 0, _ => 0
  | k + 1, v => v % 2 + popcount k (v / 2)

/-- Index of the lowest set bit among the low `k`, if any. -/
def lowestBit (k v : Nat) : Option Nat := (List.range k).find? fun i => v.testBit i

/-- The indices below `k` of the set bits, ascending. -/
def bitsOf (k v : Nat) : List Nat := (List.range k).filter fun i => v.testBit i

/-- One step of CRC over one bit, reflected form with polynomial constant `p`. -/
def crcBit (p c : Nat) : Nat := if c % 2 = 1 then (c / 2) ^^^ p else c / 2

/-- CRC-32 as the IEEE 802.3 frame check sequence: reflected 0x04C1_1DB7, initial value and final XOR all ones (R162). -/
def crc32 (bs : List Byte) : Word :=
  let upd := fun (c : Nat) (b : Byte) => (List.range 8).foldl (fun c _ => crcBit 0xEDB88320 c) (c ^^^ b.toNat)
  BitVec.ofNat 32 (bs.foldl upd 0xFFFFFFFF ^^^ 0xFFFFFFFF)

/-- CRC-16 with polynomial 0x1021, initial value 0xFFFF, no reflection, no final XOR (R71). -/
def crc16 (bs : List Byte) : BitVec 16 :=
  let bit := fun (c : Nat) (_ : Nat) => if c / 2 ^ 15 % 2 = 1 then ((c * 2) % 2 ^ 16) ^^^ 0x1021 else (c * 2) % 2 ^ 16
  let upd := fun (c : Nat) (b : Byte) => (List.range 8).foldl bit (c ^^^ (b.toNat * 256))
  BitVec.ofNat 16 (bs.foldl upd 0xFFFF)

/-- Floor of the square root, by bits from `2 ^ k` down. -/
def isqrtAux : (k : Nat) → (r v : Nat) → Nat
  | 0, r, v => if (r + 1) * (r + 1) ≤ v then r + 1 else r
  | k + 1, r, v =>
    let r' := r + 2 ^ (k + 1)
    isqrtAux k (if r' * r' ≤ v then r' else r) v

/-- Floor of the square root of a number below 2^256. -/
def isqrt (v : Nat) : Nat := isqrtAux 128 0 v

end Sys2Proof.Machine
end

