-- ==== Sys2Proof/Machine/Sha.lean ====
section
/-!
DEFINITION. SHA-256 (FIPS 180-4), with which the gate's password is stored (R377).  The round constants are the first 32
bits of the fractional parts of the cube roots, and the initial values those of the square roots, of the first primes.
-/
namespace Sys2Proof.Machine

/-- Division by trial: `n` has no divisor from 2 up to itself. -/
def isPrime (n : Nat) : Bool := decide (2 ≤ n) && (List.range n).all fun d => decide (d < 2) || decide (n % d ≠ 0)

/-- The first 64 primes. -/
def primes64 : List Nat := (List.range 312).filter isPrime

/-- Floor of the cube root of a number below 2^120, by bits. -/
def icbrt (v : Nat) : Nat :=
  (List.range 40).foldl (fun r i =>
    let t := r + 2 ^ (39 - i)
    if t * t * t ≤ v then t else r) 0

/-- The round constants. -/
def shaK : List Word := primes64.map fun p => BitVec.ofNat 32 (icbrt (p * 2 ^ 96))

/-- The initial hash value. -/
def shaH : List Word := (primes64.take 8).map fun p => BitVec.ofNat 32 (isqrt (p * 2 ^ 64))

/-- Four bytes as a word, most significant first. -/
def beWord (bs : List Byte) : Word := bs.foldl (fun w b => (w <<< 8) ||| b.setWidth 32) 0

/-- The bytes of a word, most significant first. -/
def beBytes (w : Word) : List Byte := (leBytes 4 w.toNat).reverse

/-- The padded message. -/
def shaPad (m : List Byte) : List Byte :=
  let z := (119 - m.length % 64) % 64
  m ++ [0x80] ++ List.replicate z 0 ++ (leBytes 8 (m.length * 8)).reverse

/-- The message schedule's next word, from the last sixteen, newest first. -/
def shaNext (w : List Word) : Word :=
  let a := w.getD 14 0
  let b := w.getD 1 0
  w.getD 15 0 + (a.rotateRight 7 ^^^ a.rotateRight 18 ^^^ a >>> 3) + w.getD 6 0
    + (b.rotateRight 17 ^^^ b.rotateRight 19 ^^^ b >>> 10)

/-- One round on the eight working words. -/
def shaRound (v : List Word) (k w : Word) : List Word :=
  let e := v.getD 4 0
  let a := v.getD 0 0
  let t1 := v.getD 7 0 + (e.rotateRight 6 ^^^ e.rotateRight 11 ^^^ e.rotateRight 25)
    + ((e &&& v.getD 5 0) ^^^ (~~~ e &&& v.getD 6 0)) + k + w
  let t2 := (a.rotateRight 2 ^^^ a.rotateRight 13 ^^^ a.rotateRight 22)
    + ((a &&& v.getD 1 0) ^^^ (a &&& v.getD 2 0) ^^^ (v.getD 1 0 &&& v.getD 2 0))
  [t1 + t2, a, v.getD 1 0, v.getD 2 0, v.getD 3 0 + t1, e, v.getD 5 0, v.getD 6 0]

/-- One block of 64 bytes. -/
def shaBlock (h : List Word) (m : List Byte) : List Word :=
  let w0 := (List.range 16).map fun i => beWord ((m.drop (4 * i)).take 4)
  let w := ((List.range 48).foldl (fun l _ => shaNext l :: l) w0.reverse).reverse
  let v := (shaK.zip w).foldl (fun v e => shaRound v e.1 e.2) h
  (h.zip v).map fun e => e.1 + e.2

/-- The blocks of a padded message. -/
def shaBlocks : (n : Nat) → List Word → List Byte → List Word
  | 0, h, _ => h
  | n + 1, h, m => shaBlocks n (shaBlock h (m.take 64)) (m.drop 64)

/-- SHA-256 of a message. -/
def sha256 (m : List Byte) : List Byte :=
  let p := shaPad m
  (shaBlocks (p.length / 64) shaH p).flatMap beBytes

end Sys2Proof.Machine
end

