-- ==== Sys2Proof/Machine/State.lean ====
section
/-!
DEFINITION. The machine's state: the queue of waiting commands, the register words, the memories with their error
syndromes, and for each unit what its registers do not show.  A register's only home is `State.regs` (a 64-bit register
is two words, R12); a register that no entry lists holds its reset value.
-/
namespace Sys2Proof.Machine

/-- Why the machine stops with a fault. -/
inductive Fault where
  /-- The command names a unit, a requester or an element that the variant does not build (R2, R4, R7): no step of the
  device answers to it.  Raised by `onUnit` for every row with an instance number.  Safe: nothing is claimed of it. -/
  | noUnit
  deriving DecidableEq, Repr

/-- Why the machine refuses a command. -/
inductive Refusal where
  /-- The command has no meaning yet in this model.  Raised by `exec`'s arm alone.  Safe. -/
  | notModelled (mnemonic : String)
  deriving DecidableEq, Repr

/-- The variants of R2. -/
inductive Variant where
  | mbm2418 | mbm2418S | mbm1210
  deriving DecidableEq, Repr

/-- The answer a requester got: the value, and whether it came as a poisoned completion (R67). -/
structure Resp where
  value : Word64 := 0
  poisoned : Bool := false
  deriving DecidableEq, Repr

/-- A requester's snapshot register (R49): the register it belongs to, the high word a low read latched, and the low word
a low write holds. -/
structure Snap where
  reg : Nat := 0
  high : Option Word := none
  low : Option Word := none
  deriving DecidableEq, Repr

/-- A requester's latch of a 16-byte TIME register (R415): the register's address and the four words. -/
structure TimeSnap where
  reg : Nat := 0
  words : List Word := []
  deriving DecidableEq, Repr

/-- A DMA channel apart from its registers (R72-R76): who owns it as R302 numbers requesters, and the descriptor in hand:
source, destination, next, length, control word; the channel has fetched it. -/
structure DmaCh where
  owner : Nat := 0
  src : Word64 := 0
  dst : Word64 := 0
  next : Word64 := 0
  len : Word := 0
  ctl : Word := 0
  fetched : Bool := false
  deriving DecidableEq, Repr

/-- The host port (R43-R81) apart from its registers. -/
structure HostSt where
  dma : List (Nat × DmaCh) := []
  /-- Last answer per requester (R302). -/
  resp : List (Nat × Resp) := []
  /-- Snapshot register per requester (R49). -/
  snaps : List (Nat × Snap) := []
  /-- TIME latch per requester (R415). -/
  timeSnaps : List (Nat × TimeSnap) := []
  /-- Bytes the SPI port drove in the last frame (R69-R71). -/
  spiOut : List Byte := []
  /-- SPI status bit 1: the last frame was refused (R69). -/
  spiRefused : Bool := false
  /-- SPI status bit 2: a CRC error (R69). -/
  spiCrcErr : Bool := false
  /-- PCIE_WAKE_N is driven low (R77). -/
  wakeLow : Bool := false
  /-- The link is in L0 (R77); configuration space enables bus mastering (R75). -/
  linkL0 : Bool := false
  busMaster : Bool := false
  /-- The endpoint is held in PERST (R518). -/
  perst : Bool := true
  deriving DecidableEq, Repr

/-- A landing producer's account (R26): credits spent, and returns in flight. -/
structure Credit where
  spent : Nat := 0
  back : Nat := 0
  deriving DecidableEq, Repr

/-- The contexts of a gallery (R82, R94). -/
inductive Ctx where
  | background | interrupt | tread | trap
  deriving DecidableEq, Repr

/-- What a pending result writes (R89): a scalar register of a bank, an F register, a V register, an accumulator. -/
inductive Dest where
  /-- Scalar register, index of the banked file: 0-23 common, 24 + 8 · bank + (r - 24) banked (R82). -/
  | g (i : Nat)
  | f (i : Nat)
  | v (i : Nat)
  | a (i : Nat)
  /-- One lane of a V register (VINS). -/
  | lane (i k : Nat)
  /-- Part of an accumulator (R97): 0 bits [31:0], 1 bits [63:32], 2 the guard bits and the lock bit. -/
  | aput (i part : Nat)
  deriving DecidableEq, Repr

/-- An accumulator's contents (R107): the 72-bit value and the lock bit. -/
structure AccVal where
  v : BitVec 72 := 0
  lock : Bool := false
  deriving DecidableEq, Repr

/-- A result in flight: when it lands (gallery cycle), its issue order, what it writes and the words written.
`acc` carries an accumulator's result; `note` the ASTAT bit it sets when it lands (0-7 ACCSAT, 8 STSAT, 9 FPINV);
`inter` that a reader of the register waits for it (R89 interlocked rows); `mac` that it is a MAC's result. -/
structure Flight where
  due : Nat
  seq : Nat
  dest : Dest
  words : List Word
  acc : AccVal := {}
  note : Option Nat := none
  inter : Bool := false
  mac : Bool := false
  deriving DecidableEq, Repr

/-- The control instruction whose delay slot comes next (R91). -/
inductive Jump where
  | to (target : Word)
  | reti
  | retx
  deriving DecidableEq, Repr

/-- The search unit (R109). -/
structure Search where
  best : Word := 0
  idx : Word := 0
  base : Word := 0
  minimum : Bool := false
  deriving DecidableEq, Repr

/-- The processor of a gallery: registers and pipeline (R82, R89-R99, R119). -/
structure Core where
  /-- Cycles of the fast clock since the last reset or FRESET; modulo 2^32 the background count of CYCLE (R119). -/
  cyc : Nat := 0
  /-- Instructions issued, for R90. -/
  seq : Nat := 0
  ctx : Ctx := .background
  /-- The contexts entered and not left, innermost first. -/
  stack : List Ctx := []
  /-- Address of the next instruction to issue. -/
  pc : Word := 0
  /-- A control instruction waits for its delay slot: where it goes, and its own address (R91). -/
  slotOf : Option (Jump × Word) := none
  gpr : List (Nat × Word) := []
  fr : List (Nat × Word) := []
  /-- V registers, one entry per lane: register · 8 + lane. -/
  vr : List (Nat × Word) := []
  /-- Accumulators' 72 bits; their lock bits lie in GAL.ASTAT (R120). -/
  acc : List (Nat × BitVec 72) := []
  /-- Per accumulator, the newest MAC still in flight: its issue order and its result (R89). -/
  chain : List (Nat × (Nat × AccVal)) := []
  search : Search := {}
  /-- The search state before the last update, and the cycle of that update (R89). -/
  searchPrev : Search := {}
  searchAt : Option Nat := none
  flights : List Flight := []
  /-- FDIV / FSQRT unit busy until this cycle (R89). -/
  divBusy : Nat := 0
  ipc : Word := 0
  tpc : Word := 0
  actSaved : BitVec 6 := 0
  act : BitVec 2 := 0
  ls0 : Word := 0
  le0 : Word := 0
  lc0 : Word := 0
  ls1 : Word := 0
  le1 : Word := 0
  lc1 : Word := 0
  imask : Byte := 0
  ipend : Byte := 0
  timecmp : Word := 0
  /-- Current slot, and the cycle of the current dispatch (R100, R119). -/
  slotno : Nat := 0
  dispatchCyc : Nat := 0
  /-- Deferred traps waiting for an interruptible point (R98). -/
  deferred : List TrapCause := []
  /-- The budget has expired in this tread; the trap is held while the trap context runs (R99). -/
  budgetGone : Bool := false
  budgetHeld : Bool := false
  /-- The background waits in WAITI (R105). -/
  waiti : Bool := false
  /-- SWAIT stalls: data address and status register (R101). -/
  swait : Option (Word × Nat) := none
  /-- Cycle from which an allowed interrupt / a ready slot waits (R96, IRQLAT). -/
  irqSince : Option Nat := none
  readySince : Option Nat := none
  deriving DecidableEq, Repr

/-- One committed slot of a gallery's schedule (R102, R103). -/
structure SlotCfg where
  sbr : Word := 0
  entry : Word := 0
  budget : Word := 0
  sdl : Word := 0
  cdl : Word := 0
  deriving DecidableEq, Repr

/-- What a slot keeps between and during treads (R100, R101, R113, R115). -/
structure SlotRun where
  /-- Waiting for dispatch. -/
  ready : Bool := false
  missing : Bool := false
  overrun : Bool := false
  /-- SDL has passed without a sample for the tread being run (R101). -/
  sdlPassed : Bool := false
  lastSample : List Word := []
  lastSetpoint : List Word := []
  residual : Option Word := none
  accsat : Bool := false
  budgetTrap : Bool := false
  /-- Served tread of the running or last dispatch, low 32 bits of BRG.TREADCNT (R169). -/
  tread : Word := 0
  /-- Treads seen by the trace's DECIM count (R115). -/
  decim : Nat := 0
  /-- The switching plan that the regulation library forms from its demand, and the edges of it that fall into the
  next interval (R135, R137). -/
  libPlan : List EdgeEntry := []
  libSpill : List EdgeEntry := []
  /-- What the library demands at the dispatch that the slot waits for. -/
  lib : Option LibDemand := none
  /-- The slot's epoch (R169); the slot shadows a partner's axis (R285). -/
  epoch : Word := 0
  shadow : Bool := false
  deriving DecidableEq, Repr

/-- Trace capture of a gallery (R115-R117). -/
structure Trace where
  /-- Records stored since ARM; records still to store after the trigger. -/
  count : Nat := 0
  left : Nat := 0
  gap : Bool := false
  deriving DecidableEq, Repr

/-- A gallery apart from its registers and memories. -/
structure Gal where
  core : Core := {}
  sched : List (Nat × SlotCfg) := []
  slots : List (Nat × SlotRun) := []
  /-- Sample landing: producer and unit, oldest first (R28). -/
  samples : List (Nat × List Word) := []
  /-- Setpoint landing: hall core and unit, oldest first (R28). -/
  setpoints : List (Nat × List Word) := []
  /-- Stores into the setpoint landing that stall for a credit: hall core and unit, oldest first (R28). -/
  stalled : List (Nat × List Word) := []
  /-- Coefficient writes queued: index and value, oldest first (R110). -/
  coefs : List (Nat × Word) := []
  trace : Trace := {}
  /-- A schedule commit has been checked and waits for its completion instant (R522). -/
  schedDone : Bool := false
  deriving DecidableEq, Repr

/-- A plan in an edge landing (R169): the bridge, its units, and what PCOMMIT wrote into it. -/
structure Plan where
  bridge : Nat
  gal : Nat := 0
  slot : Nat := 0
  units : Nat := 1
  owner : Byte := 0
  epoch : Word := 0
  tread : Word := 0
  /-- Edge count of the header, and the edge entries as the program wrote them (R168). -/
  nedge : Nat := 0
  edges : List Word := []
  deriving DecidableEq, Repr

/-- A change of epoch under way on a bridge (R276): the old epoch and the switch tread. -/
structure EpochChange where
  old : Word
  switchAt : Word
  deriving DecidableEq, Repr

/-- A bridge apart from its registers (R124-R153). -/
structure Brg where
  /-- The carrier runs (R125). -/
  running : Bool := false
  /-- The next tread is the peak (R124). -/
  nextPeak : Bool := false
  /-- TIME of the last valley and of the last tread, in 1/16 ns. -/
  valley : Nat := 0
  tread : Nat := 0
  /-- Duties captured for the next period (R129). -/
  captured : Word64 := 0
  /-- The dither register (R140). -/
  lfsr : Nat := 0
  /-- A tread one update interval before the transfer boundary has come after ARM (R130); the lead has passed B and this
  bridge takes its new set at its next period boundary. -/
  xferReady : Bool := false
  xferTake : Bool := false
  /-- Update mode of the active set, double where set (R128, R473). -/
  double : Bool := false
  /-- The native state and step that govern from the next tread (R141). -/
  nextState : Option (Nat × Nat) := none
  /-- N asked for, waiting for phase U's zero crossing and a period boundary, and whether the crossing has come; the
  electrical angle at the last tread (R143). -/
  nextN : Option Nat := none
  crossed : Bool := false
  angle : Nat := 0
  /-- Synchronous operation ends at the next period boundary (R141, R143). -/
  leaveSync : Bool := false
  /-- Demanded modulation of the last dispatch (R144). -/
  demand : Nat := 0
  /-- Treads since standstill reduction engaged, up to 16 (R147). -/
  ramp : Nat := 0
  /-- KIND of the last setpoint unit issued (R147, R228). -/
  kind : Nat := 0
  /-- Gate levels after the last plan sent, bit 2 · phase upper, 2 · phase + 1 lower, and when each gate last changed
  (R149, R150); when the upper gate of a phase went on without a break since. -/
  gates : BitVec 6 := 0
  changed : List (Nat × Nat) := []
  onSince : List (Nat × Nat) := []
  /-- The mode hold is in force (R472), and a plan has been accepted since a running mode was entered. -/
  modeHold : Bool := false
  /-- The balustrade has ordered the release of its force (R370). -/
  balRelease : Bool := false
  planOk : Bool := false
  /-- The change of epoch under way (R276). -/
  change : Option EpochChange := none
  /-- The EDGE frame sent last (R166), and the last sample unit of the bridge (R171). -/
  sent : Option EdgeFrame := none
  unit : List Word := []
  deriving DecidableEq, Repr

/-- An MBG-60 companion: its lease, its plan, its protection and its clock (R176-R191). -/
structure Companion where
  /-- A lease is held (R182): expired or released otherwise. -/
  lease : Bool := false
  owner : Byte := 0
  epoch : Word := 0
  /-- TIME in 1/16 ns at which the lease expires. -/
  expiry : Nat := 0
  /-- A HANDOVER waits for its switch tread: epoch, owner, LT48 bits [47:24]. -/
  handover : Option (Word × Byte × BitVec 24) := none
  /-- The plan accepted last (R178, R179). -/
  last : Option EdgeFrame := none
  misses : Nat := 0
  hold : Bool := false
  coast : Bool := false
  safeMiss : Bool := false
  safeLease : Bool := false
  /-- Claimed after an expiry: the next plan with RESUME ends the safe state (R182). -/
  claimed : Bool := false
  tripActive : Bool := false
  tripped : BitVec 4 := 0
  latched : BitVec 4 := 0
  tries : Nat := 0
  trips : Nat := 0
  latches : Nat := 0
  /-- BRG force per phase, and the SAFETY force (R190). -/
  force : BitVec 6 := 0
  safety : Option (BitVec 6) := none
  /-- Self-test result: pass and fail masks (R189). -/
  selfTest : Option (BitVec 4 × BitVec 4) := none
  /-- Versions offered, the version in force, and the parameters of R175. -/
  offer : Option (Nat × Nat) := none
  version : Nat := 0
  params : List (Nat × Word) := []
  /-- Arrivals of the round's MARK, its departure, the delay and the correction still to slew in 1/16 ns (R176). -/
  acw : Nat := 0
  accw : Nat := 0
  td : Nat := 0
  delay : Int := 0
  slew : Int := 0
  crcFails : Nat := 0
  latePlans : Nat := 0
  holds : Nat := 0
  /-- Senders answered with a REJECT, and when (R183). -/
  rejected : List (Nat × Nat) := []
  /-- Last REJECT sent. -/
  reject : Option RejectFrame := none
  /-- PROT frames sent. -/
  prots : Nat := 0
  /-- Rank of the order that governs the gates after the last event (R190). -/
  rank : Nat := 5
  /-- Hold and CRC counts of the last SENSE frame, as the device keeps them (R172, R192). -/
  seenHolds : Byte := 0
  seenCrc : Byte := 0
  deriving DecidableEq, Repr

/-- A safety force in a force landing (R28, R370): OFF, or LOW. -/
structure ForceOrder where
  bridge : Nat
  low : Bool
  deriving DecidableEq, Repr

/-- A ring apart from its registers (R157-R193). -/
structure Ring where
  /-- Edge landing, oldest first (R28). -/
  edge : List Plan := []
  /-- Force landing (R28, R36). -/
  force : List ForceOrder := []
  comps : List (Nat × Companion) := []
  /-- RCTL.RESUME bits written and not yet used (R180). -/
  resume : Byte := 0
  /-- Slots claimed in the running start (R173). -/
  claimed : Byte := 0
  /-- Calibration rounds run. -/
  round : Nat := 0
  /-- Loop delay L of the last round in 1/16 ns (R176); a round has been asked for (RCTL.CALNOW). -/
  loop : Nat := 0
  calReq : Bool := false
  /-- OFFER, RENEW and CLAIM frames that the ring controller has sent. -/
  frames : Nat := 0
  deriving DecidableEq, Repr

/-- A stretch of a motion profile: its length in seconds, the acceleration at its start in rev/s², its jerk in rev/s³
(R233). -/
structure Seg where
  dur : Rat
  acc : Rat
  jerk : Rat
  deriving DecidableEq, Repr

/-- A profile in progress (R233-R237): its start in 1/16 ns of TIME, its first speed along the path in rev/s, its
stretches, and the instant in seconds at which the final deceleration to the target begins, if it has one. -/
structure Profile where
  t0 : Nat
  v0 : Rat
  segs : List Seg
  decelAt : Option Rat := none
  deriving DecidableEq, Repr

/-- An axis apart from its registers (R227-R252). -/
structure AxisRun where
  /-- Tread of the last setpoint unit issued (R227), and its instant in 1/16 ns. -/
  issued : Option Word := none
  at_ : Nat := 0
  /-- Consecutive treads without a unit (R227). -/
  under : Nat := 0
  /-- Commanded speed and acceleration at that instant, in rev/s and rev/s². -/
  vel : Rat := 0
  acc : Rat := 0
  /-- The axis on whose page the running path is held; the path itself, on that page (R244). -/
  leader : Option Nat := none
  path : Option Profile := none
  /-- This axis's share of the path: start, displacement in 2^-32 rev over `len` rev of path, and the target. -/
  start : Int := 0
  delta : Int := 0
  len : Rat := 1
  goal : Int := 0
  /-- The last unit has reached the end of the path. -/
  arrived : Bool := false
  /-- Gear (R246-R248): M0 and P0, the ratio in force, and whether a ramped engage has matched the speeds. -/
  m0 : Int := 0
  p0 : Int := 0
  gnum : Int := 1
  gden : Int := 1
  matched : Bool := false
  /-- Deviation and slip counts (R249, R252). -/
  devs : Nat := 0
  slips : Nat := 0
  /-- Hold reduction cancelled, and treads within DEVWIN / 4 since (R242). -/
  holdOff : Bool := false
  calm : Nat := 0
  /-- A step of POS waiting for the next tread (R240). -/
  posStep : Int := 0
  /-- Treads since the primary feedback recovered (R250). -/
  back : Nat := 0
  /-- Model position that the regulation library reports (R249). -/
  model : Int := 0
  deriving DecidableEq, Repr

/-- A good SSI word: its position and its sample moment in 1/16 ns (R204, R206). -/
structure SsiWord where
  pos : Int
  at_ : Nat
  deriving DecidableEq, Repr

/-- A feedback port apart from its registers (R199-R215). -/
structure Port where
  /-- What POSSET and ZSET added to the derived position (R199). -/
  offset : Int := 0
  /-- Increment times in 1/16 ns: the last and the one before; increments since EN and since a reversal, up to 2;
  direction of the last (R209). -/
  lastInc : Nat := 0
  prevInc : Nat := 0
  seen : Nat := 0
  incs : Nat := 0
  forward : Bool := true
  /-- ZEROTO has passed since the last increment (R209). -/
  idle : Bool := false
  /-- COUNT and direction at the last Z edge; a ZSET edge is still to come (R201). -/
  zLast : Option (Int × Bool) := none
  zFirst : Bool := false
  /-- Count and time of the last increment at the latest captures, newest first (R209). -/
  caps : List (Int × Nat) := []
  /-- Sector of the last valid Hall code (R202). -/
  sector : Option Nat := none
  /-- SSI: moment of the request, the last two good words, consecutive failures (R204-R206). -/
  reqAt : Nat := 0
  last : Option SsiWord := none
  prev : Option SsiWord := none
  fails : Nat := 0
  /-- Resolver: position and velocity from the loop, time of the pair, consecutive failing pairs (R207, R208). -/
  res : Int := 0
  resVel : Int := 0
  resAt : Nat := 0
  bad : Nat := 0
  /-- Consecutive captures, words or pairs free of faults, and a fault since the last (R213). -/
  clean : Nat := 0
  dirty : Bool := false
  deriving DecidableEq, Repr

/-- An encoder emulation output (R222): counts sent, whether it has started, and the count up to which Z is kept low. -/
structure Emu where
  sent : Int := 0
  started : Bool := false
  zQuiet : Option Int := none
  deriving DecidableEq, Repr

/-- The route service apart from its registers (R258-R272). -/
structure RouteRun where
  /-- Flight map where it differs from the one after reset: frame and valid bit (R258). -/
  map : List (Nat × (Nat × Bool)) := []
  /-- ACTPOS of the axes at the previous tick (R262). -/
  odo : List (Nat × Int) := []
  /-- Completion of the newest tick in 1/16 ns (R270). -/
  lastTick : Option Nat := none
  /-- A POSSET, and a marker correction, due at the next tick, in 2^-32 m (R263, R264). -/
  posset : Option Int := none
  marker : Option Int := none
  /-- Checked pairs of a commit that waits for the map write (R260). -/
  pairs : List (Nat × Nat) := []
  deriving DecidableEq, Repr

/-- A running migration apart from the MIG page (R278-R284). -/
structure Mig where
  /-- Image table entry whose code a gallery holds (R278, R282, R308); galleries declared dead (R282, R293); the lowest
  clock of the source while the migration runs (R279). -/
  held : List (Nat × Nat) := []
  dead : BitVec 18 := 0
  floor : Nat := 0
  /-- Gallery under test (R293, R296). -/
  testing : Nat := 0
  /-- Copy tread C: TREADCNT of the reference bridge, low 32 bits. -/
  copyTread : Word := 0
  /-- Consecutive matches per bridge (R278), and the plans waiting for their counterpart (R280). -/
  hits : List (Nat × Nat) := []
  src : List (Nat × Plan) := []
  tgt : List (Nat × Plan) := []
  /-- Arguments in force: source, target, slots, image. -/
  source : Nat := 0
  target : Nat := 0
  slots : BitVec 6 := 0
  image : Nat := 0
  deriving DecidableEq, Repr

/-- The stairwell apart from the STW page (R285-R293). -/
structure Stw where
  /-- Axes and switch instant of the handover asked for, as LT48 bits [47:24]; axes whose copies are still to come. -/
  handAxes : BitVec 24 := 0
  handAt : BitVec 24 := 0
  /-- Axes taken over whose bridges have not yet switched again after the takeover (R291). -/
  taken : BitVec 24 := 0
  /-- The handover under way was asked for by the partner; bridges that have still to switch. -/
  incoming : Bool := false
  switching : List Nat := []
  /-- HEARTBEAT, MIRROR and STATE frames sent. -/
  sent : Nat := 0
  /-- The frame sent last, and the frames whose senders stall for a credit, oldest first (R28, R287): word 0 is the
  frame's TYPE. -/
  last : List Word := []
  wait : List (List Word) := []
  /-- Plans of shadow slots by bridge (R286) that wait for the owner's frame, consecutive failed comparisons, and
  consecutive matches. -/
  plans : List (Nat × Plan) := []
  drift : List (Nat × Nat) := []
  hits : List (Nat × Nat) := []
  /-- Mode of the partner, its owned axes and the LT48 of its last HEARTBEAT. -/
  partnerMode : BitVec 4 := 0
  partnerOwn : BitVec 24 := 0
  partnerLt : BitVec 48 := 0
  deriving DecidableEq, Repr

/-- The newel's own state apart from the NEWEL page (R300-R312): what its image store, boot record and policy hold. -/
structure NewelSt where
  /-- Code of the gallery images by entry of the image table (R308). -/
  images : List (Nat × List Word) := []
  /-- Policy of the running manifest: requester · 4 + space, largest region in 4 KiB (R303). -/
  policy : List (Nat × Nat) := []
  /-- Boot record (R305, R307): preferred set (false A), trial, tries left. -/
  preferred : Bool := false
  trial : Bool := false
  tries : Nat := 0
  /-- SVN of each set, and the sets that have passed IMG_VERIFY since their last IMG_WRITE (R307, R311). -/
  svnA : Word := 0
  svnB : Word := 0
  verified : BitVec 2 := 0
  /-- The newel waits for its release from reset: the cause SYS.MODE will record for the boot (R305, R479). -/
  waiting : Option Nat := some 1
  /-- Hall slots of LPDDR5 that hold a checked image (R305, R311). -/
  loaded : BitVec 2 := 0
  deriving DecidableEq, Repr

/-- An object of the Tchiora program in force with the state it carries (R319): elapsed ms, counter or variable, or
previous input; a timer runs; it has not been through a scan; an edge detector reported an edge at the last scan. -/
structure TchState where
  obj : TchObject
  value : Word64 := 0
  running : Bool := false
  fresh : Bool := true
  edge : Bool := false
  deriving DecidableEq, Repr

/-- A trap that waits for a fresh window (R316): cause code and data address. -/
structure HallPend where
  code : Nat
  addr : Word64
  deriving DecidableEq, Repr

/-- A hall core apart from its registers (R313-R321). -/
structure HallCore where
  /-- Window registers: window · 24 + register; global registers K0 to K7 (R313). -/
  win : List (Nat × Word64) := []
  glob : List (Nat × Word64) := []
  pc : Word64 := 0
  /-- Privilege level USER. -/
  user : Bool := false
  /-- Where each frame returns to and its privilege level, innermost first. -/
  links : List (Word64 × Bool) := []
  /-- The instruction that the landing window interrupted, and its privilege level (R314). -/
  landPc : Word64 := 0
  landUser : Bool := false
  /-- A trap and interrupts that wait for TRET (R315, R316). -/
  pend : Option HallPend := none
  irqs : List Nat := []
  /-- Lowest spill address (R314). -/
  splim : Word64 := 0
  /-- The program in force; the checked one that waits for a scan boundary (R320). -/
  program : Option (List TchState) := none
  next : Option TchProgram := none
  /-- Operating time of the last scan's start, ms; the running scan outlasts its period (R319, R321). -/
  scanAt : Word64 := 0
  overrun : Bool := false
  deriving DecidableEq, Repr

/-- What the balustrade follows of an axis (R365-R368) apart from AFSTA. -/
structure BalAxis where
  /-- Speed at the stop demand, 2^-16 rev/s, and 10 ns since it; the ramp is checked. -/
  v0 : Nat := 0
  t : Nat := 0
  ramp : Bool := false
  /-- Position at entry to SOS; most favourable position since SDI became active. -/
  p0 : Int := 0
  best : Int := 0
  /-- Consecutive failing cycles by violation code; consecutive implausible cycles (R366, R367). -/
  fails : List (Nat × Nat) := []
  plFails : Nat := 0
  deriving DecidableEq, Repr

/-- A safe-data channel apart from its registers (R381, R382). -/
structure SafeChan where
  /-- The copy that waits for its counterpart: network B?, its bytes, its arrival in 1/16 ns. -/
  copy : Option (Bool × List Byte × Nat) := none
  /-- A pair has been accepted; consecutive accepted pairs while invalid. -/
  started : Bool := false
  good : Nat := 0
  /-- Data bytes last accepted. -/
  data : List Byte := []
  /-- Container sent last. -/
  sent : List Byte := []
  deriving DecidableEq, Repr

/-- The balustrade's configuration gate and cores apart from their registers (R358-R382). -/
structure BalSt where
  /-- Edits of RWS fields while the gate is open (R375, R376): the registers hold the configuration in force. -/
  edits : List (Nat × Word) := []
  /-- A commit under way: the edits it commits, and whether its COMPLETE unit is written (R378). -/
  committing : Option (List (Nat × Word)) := none
  committed : Bool := false
  /-- Guarded inputs that have been seen open since their test became pending (R364). -/
  guardOpen : Byte := 0
  /-- Input balls, A in bits 7:0 and B in 15:8: as sampled last, as filtered, and 10 ns since each last changed (R362). -/
  raw : BitVec 16 := 0
  level : BitVec 16 := 0
  stable : List (Nat × Nat) := []
  /-- ACK source at the last cycle (R368). -/
  ack : Bool := false
  axes : List (Nat × BalAxis) := []
  chans : List (Nat × SafeChan) := []
  /-- Safety forces ordered of bridges, LOW in the second (R370). -/
  forced : BitVec 48 := 0
  forcedLow : BitVec 48 := 0
  /-- Ball of a dark pulse sent last (R371). -/
  dark : Nat := 0
  /-- What was written into the always-on domain at the entry to DORMANT (R359): FAILSAFE cause, violations. -/
  dormFail : Option Nat := none
  dormViol : List (Nat × Nat) := []
  deriving DecidableEq, Repr

/-- What a CAN controller sends in an attempt (R399). -/
inductive CanTx where
  | buffer (b : Nat)
  | safe (c : Nat)
  | status
  | reference
  deriving DecidableEq, Repr

/-- A CAN controller apart from its registers and its message RAM (R389-R408). -/
structure CanSt where
  /-- Locked buffers with the locking requester; shadows with their SOF stamp in 1/16 ns (R397). -/
  locks : List (Nat × Nat) := []
  shadows : List (Nat × (CanFrame × Nat)) := []
  /-- The attempt in progress and its SOF; its buffer's request has been aborted; EN has been cleared during it. -/
  attempt : Option (CanTx × Nat) := none
  aborted : Bool := false
  closing : Bool := false
  /-- Containers by safe-data channel and the status message, waiting to be sent (R401). -/
  safe : List (Nat × List Byte) := []
  status : Option (List Byte) := none
  messages : Byte := 0
  /-- Error counters, not cut at 255 (R403). -/
  tec : Nat := 0
  rec_ : Nat := 0
  /-- Row of the matrix for the running cycle; SOF of its reference in 1/16 ns; window's start; an attempt has been
  made in this exclusive window (R404, R405). -/
  row : List (BitVec 16) := []
  cycleAt : Nat := 0
  tried : Bool := false
  /-- The reference waits to be sent; this controller becomes master when it is. -/
  refDue : Bool := false
  claims : Bool := false
  deriving DecidableEq, Repr

/-- A PTP domain's servo apart from its registers (R416). -/
structure DomSt where
  /-- Offset of the last Sync in ns. -/
  last : Int := 0
  /-- Offset beyond the reach of ±200 ppm since (R424). -/
  farSince : Option Nat := none
  /-- Syncs sent as master (R421); originTimestamp of the last, and of its Follow_Up, in 1/16 ns (R422). -/
  sent : Nat := 0
  origin : Nat := 0
  follow : Option Nat := none
  deriving DecidableEq, Repr

/-- The time base apart from its registers (R412-R419). -/
structure TimeSt where
  /-- What has been slewed below 1/16 ns, in millionths of it; operating time below 1 ms, in ns. -/
  frac : Nat := 0
  ms : Nat := 0
  /-- The first LOCKED state since power-up has come (R414). -/
  stepped : Bool := false
  /-- Rate apart from slewing, 2^-16 ppm; correction still to slew in 1/16 ns. -/
  base : Int := 0
  ofs : Int := 0
  doms : List (Nat × DomSt) := []
  /-- Ring source: calibrated (R419). -/
  ringCal : Bool := false
  deriving DecidableEq, Repr

/-- An Ethernet MAC apart from its registers (R420-R423): the last frame sent, and safe-data containers sent. -/
structure EthSt where
  sent : List Byte := []
  safe : List (Nat × List Byte) := []
  deriving DecidableEq, Repr

/-- Supplies, references and heat apart from their registers (R482-R497). -/
structure PwrSt where
  /-- A recovery power cycle is under way (R486); the device is held in reset by PORST_N (R516); it has stopped without
  supplies (R346); a power-up waits for a reference (R517). -/
  cycling : Bool := false
  held : Bool := false
  dead : Bool := false
  waitRef : Bool := false
  /-- A switch-over test holds the groups on BACKUP (R485). -/
  testing : Bool := false
  /-- Mode asked for (R477). -/
  target : Nat := 0
  /-- Comparisons in a row within 100 ppm by reference (R488); last valid TMOD by bridge, and ms since it (R496). -/
  good : List (Nat × Nat) := []
  tmod : List (Nat × (Int × Nat)) := []
  deriving DecidableEq, Repr

/-- A trigger unit apart from its registers (R432). -/
structure Trg where
  armed : Bool := false
  /-- TIME in 1/16 ns before which the source is ignored (HOLD). -/
  holdUntil : Nat := 0
  /-- Last value seen, and whether the level was left far enough to fire again. -/
  last : Option Word := none
  ready : Bool := false
  deriving DecidableEq, Repr

/-- An acquisition group apart from its registers (R430-R437). -/
structure Grp where
  running : Bool := false
  /-- Instants evaluated since the segment's instant 0 (R436). -/
  k : Nat := 0
  /-- Pre-trigger instants held: their values, oldest first (R433). -/
  pre : List (List Word) := []
  /-- Trigger taken and not yet matched to an instant: unit and stamp in 1/16 ns. -/
  fire : Option (Nat × Nat) := none
  /-- Trigger instant index, POST instants still to store; none: waiting for a trigger. -/
  trigAt : Option Nat := none
  postLeft : Nat := 0
  seg : Nat := 0
  /-- Last coded values, one per enabled signal, and the index of the last instant coded (R437). -/
  last : List Word := []
  coded : Nat := 0
  /-- A SEG_START with SYNC has been written for the open segment. -/
  opened : Bool := false
  /-- Instants lost since the last GAP marker (R437). -/
  lost : Nat := 0
  /-- The instant evaluated last, in 1/16 ns. -/
  at_ : Option Nat := none
  /-- DECIM in force (R431). -/
  decim : Nat := 0
  /-- Coded words not yet sent to the store, oldest first; words coded since ARM. -/
  out : List Word := []
  words : Nat := 0
  deriving DecidableEq, Repr

/-- The event recorder apart from its registers (R438-R443). -/
structure RecUnit where
  /-- Sequence of the next record. -/
  seq : Nat := 0
  /-- Record waiting in a page's pending slot (R28): word 0 and the payload. -/
  slots : List (Nat × List Word) := []
  /-- Records of the holding area while frozen, oldest first (R441). -/
  held : List (List Word) := []
  /-- Records lost while frozen, for the merge record. -/
  heldLost : Nat := 0
  /-- Records of the ring not yet sent to the store stream, and not yet flushed (R440, R442). -/
  unsent : Nat := 0
  /-- Records lost to the store's backlog and not yet reported by a ring-overrun record (R439). -/
  beyond : Nat := 0
  unflushed : Nat := 0
  /-- Records of the holding area already flushed (R442). -/
  heldFlushed : Nat := 0
  /-- Cause of the flush in progress (R443), and whether another has been merged into it (R442). -/
  flushCause : Nat := 0
  flushMore : Bool := false
  /-- FWREC words as written (R453). -/
  fw : List (Nat × Word) := []
  deriving DecidableEq, Repr

/-- What a commit makes so at its completion instant (R345). -/
inductive CommitAct where
  | nothing
  /-- IMG_ACTIVATE: set and tries (R311). -/
  | activate (setB : Bool) (tries : Nat)
  /-- IMG_CONFIRM (R307). -/
  | confirm
  /-- SAFE_COMMIT: user and comment (R378, R379). -/
  | safety (user : BitVec 16) (comment : List Byte)
  /-- SAFE_PWSET: salt and hash (R377). -/
  | password (salt hash : List Byte)
  deriving DecidableEq, Repr

/-- A commit to eMRAM (R344, R345): kind, units in all, units done, the mailbox core whose call asked for it. -/
structure Commit where
  kind : Nat
  units : Nat
  done : Nat := 0
  core : Option Nat := none
  act : CommitAct := .nothing
  /-- It stops at the end of the unit in progress: the cause as LASTINT codes it, 0 for an abort (R346). -/
  stopping : Option Nat := none
  deriving DecidableEq, Repr

/-- The eMRAM apart from the NVM page and its words (R342-R351). -/
structure NvmSt where
  /-- Sector map where it differs from the identity: logical to physical; physical sectors retired; spares used. -/
  map : List (Nat × Nat) := []
  retired : List Nat := []
  spares : Nat := 0
  /-- Writes of a physical sector, and the retries of its last unit. -/
  writes : List (Nat × Nat) := []
  lastRetry : List (Nat × Nat) := []
  /-- Retries of the newest units, newest first, up to 1,024; units and 1/16 µs since CTIME was cleared. -/
  retries : List Nat := []
  units : Nat := 0
  time : Nat := 0
  /-- Flush ring: next position, units written over life, positions dropped (R350, R443). -/
  flushNext : Nat := 0
  flushSeq : Word := 0
  dropped : List Nat := []
  /-- A commit that was cut short, for the next start: kind, units done, cause (R346, R347); a unit was torn. -/
  cut : Option (Nat × Nat × Nat) := none
  torn : Bool := false
  /-- Configuration gate's password: salt and SHA-256 (R377); generation and newest entry of the change log (R379). -/
  salt : List Byte := []
  hash : List Byte := []
  logEntries : Nat := 0
  deriving DecidableEq, Repr

/-- MEM's operations apart from its registers (R334-R338). -/
structure MemSt where
  /-- Errors that the running scrub pass has met: address, and whether uncorrectable; its start in 1/16 ns. -/
  found : List (Nat × Bool) := []
  scrubAt : Nat := 0
  /-- Logical bank that a running retirement moves, and the spare bank it moves to. -/
  retire : Option (Nat × Nat) := none
  deriving DecidableEq, Repr

/-- A stream of the volume (R447, R448): head segment and block, sequence or word index of the last entry, previous
segment, words waiting for a block. -/
structure StreamSt where
  seg : Option Nat := none
  block : Nat := 0
  last : Nat := 0
  prev : Option Nat := none
  deriving DecidableEq, Repr

/-- A command sent to an NVMe controller (R444-R448): a label read or write, the newest checkpoint's read, a 4 KiB block of
a store segment with the recorder's records in it, a checkpoint, a flush. -/
inductive NvmeCmd where
  | readLabel
  | writeLabel
  | readCkpt
  | block (records : Nat)
  | ckpt
  | flush
  deriving DecidableEq, Repr

/-- A member of the volume (R445): the page and controller it hangs on, capacity in slots. -/
structure Member where
  port : Nat
  slot : Nat
  slots : Nat
  failed : Bool := false
  deriving DecidableEq, Repr

/-- The record store's volume (R444-R450). -/
structure VolSt where
  members : List Member := []
  id : BitVec 128 := 0
  /-- Segments of the volume; next to allocate; allocation sequence; newest checkpoint's generation. -/
  size : Nat := 0
  next : Nat := 0
  allocs : Nat := 0
  ckGen : Nat := 0
  streams : List (Nat × StreamSt) := []
  /-- Segments of the current recorder stream (R445); a checkpoint waits for the Flush commands of the last (R448). -/
  recSegs : List Nat := []
  ckWant : Bool := false
  /-- Commands outstanding by page · 16 + controller, oldest first. -/
  queue : List (Nat × List NvmeCmd) := []
  /-- A checkpoint has been written and its Flush commands have not all completed (R448). -/
  flushing : Bool := false
  /-- A STOP waits for the commands outstanding. -/
  stopping : Bool := false
  /-- The running START or FORMAT: labels as found, and whether it formats. -/
  op : Option (Bool × LabelScan) := none
  /-- Bytes written in this second by port (R454). -/
  secBytes : List (Nat × Nat) := []
  deriving DecidableEq, Repr

/-- An MBF-32 companion (R456-R467). -/
structure FioComp where
  /-- Parameters received, by index (R461), and channel levels as the outputs drive them. -/
  params : List (Nat × Word) := []
  out : Word := 0
  driven : Word := 0
  /-- High-impedance outputs in the safe state. -/
  hiz : Word := 0
  inp : Word := 0
  ovc : Word := 0
  safe : Bool := false
  cfgOk : Bool := false
  crcFails : Byte := 0
  echo : Byte := 0
  /-- A missing, A low, B missing, B low. -/
  supply : BitVec 4 := 0
  /-- First edge of the cycle, more lost. -/
  latch : Option (BitVec 5 × Bool × BitVec 24) := none
  more : Bool := false
  deriving DecidableEq, Repr

/-- The down part of a slot (R459). -/
structure DownPart where
  out : Word := 0
  index : Byte := 0
  cycle : Byte := 0
  rel : Bool := false
  value : Word := 0
  deriving DecidableEq, Repr

/-- A field ring apart from its registers (R456-R468). -/
structure FioRing where
  comps : List (Nat × FioComp) := []
  /-- Down parts of the last frame, its departure in 1/16 ns. -/
  down : List (Nat × DownPart) := []
  depart : Nat := 0
  /-- Parameters queued and next refresh index by slot (R461). -/
  queue : List (Nat × List Nat) := []
  refresh : List (Nat × Nat) := []
  /-- Consecutive cycles without a valid up part by slot; consecutive frames that did not return (R467). -/
  misses : List (Nat × Nat) := []
  lost : Nat := 0
  resume : Byte := 0
  /-- The ring start has read the companions' SIDs (R468). -/
  counted : Bool := false
  deriving DecidableEq, Repr

/-- The machine. -/
structure State where
  /-- Which variant the device is (R2). -/
  variant : Variant := .mbm2418
  /-- Register words that differ from their reset value, by register address. -/
  regs : List (Nat × Word) := []
  /-- Memory bytes that differ from what an unlisted address reads as. -/
  mem : List Host.Cell := []
  /-- Syndromes of storage words at their own address that differ from 0 (R328, R329), by word number. -/
  ecc : List Host.Cell := []
  /-- Trainings of the LPDDR5 so far: names the undefined contents of unwritten words (R521). -/
  dramGen : Nat := 0
  /-- Open values drawn so far. -/
  free : Nat := 0
  /-- Boot has reached STANDBY; until then pages other than SYS and HOST read zero (R80, R517). -/
  booted : Bool := false
  host : HostSt := {}
  /-- Credit accounts of the landings' producers (R26), by landing and producer. -/
  credits : List (Nat × Credit) := []
  /-- Status registers whose operation has passed its completion instant before the terminal write (R63). -/
  pastCompletion : List (Nat × Bool) := []
  gal : List (Nat × Gal) := []
  brg : List (Nat × Brg) := []
  ring : List (Nat × Ring) := []
  /-- Bridges whose supervisor has reported a plausibility fault to the balustrade (R113). -/
  galFault : BitVec 48 := 0
  mig : Mig := {}
  stw : Stw := {}
  bal : BalSt := {}
  newel : NewelSt := {}
  hall : List (Nat × HallCore) := []
  can : List (Nat × CanSt) := []
  time : TimeSt := {}
  eth : List (Nat × EthSt) := []
  pwr : PwrSt := {}
  vol : VolSt := {}
  fio : List (Nat × FioRing) := []
  axis : List (Nat × AxisRun) := []
  port : List (Nat × Port) := []
  /-- Axes whose feedback loss has been reported to the balustrade (R212). -/
  fbFault : BitVec 24 := 0
  /-- TIME in 1/16 ns of each sigma-delta channel's newest output (R216), by channel. -/
  sdm : List (Nat × Nat) := []
  emu : List (Nat × Emu) := []
  route : RouteRun := {}
  trg : List (Nat × Trg) := []
  grp : List (Nat × Grp) := []
  recd : RecUnit := {}
  /-- Newest values of the nodes that acquisition watches, newest first: stamp in 1/16 ns and value (R429, R430); coded
  bytes of this second (R451). -/
  nodes : List (Nat × List (Nat × Word)) := []
  acqBytes : Nat := 0
  /-- Capture segments whose store ends the acquisition because a mask has stopped it (R435). -/
  maskStop : Bool := false
  commits : List Commit := []
  nvm : NvmSt := {}
  memOps : MemSt := {}
  /-- Commands that wait, first in first out. -/
  pending : List Instr := []
  deriving DecidableEq, Repr

/-- The machine right after reset. -/
def State.reset : State := {}

end Sys2Proof.Machine
end

