-- ==== Sys2Proof/Machine/Profile.lean ====
section
/-!
DEFINITION. Motion profiles (R233, R234): stretches of constant jerk along a path, in revolutions and seconds.  Square
roots and the largest peak speed are taken downwards on a grid (log entry 25); everything else is exact.
-/
namespace Sys2Proof.Machine

/-- The limits a profile is planned with: speed, acceleration, deceleration, jerk (0: none). -/
structure Limits where
  v : Rat
  a : Rat
  d : Rat
  j : Rat
  deriving DecidableEq, Repr

/-- The absolute value of a rational number. -/
def ratAbs (x : Rat) : Rat := if x < 0 then -x else x

/-- 1 or -1: the sign of a rational number, 0 counting as positive. -/
def ratSign (x : Rat) : Rat := if x < 0 then -1 else 1

/-- The square root of a number, rounded down to 2^-64. -/
def sqrtRat (x : Rat) : Rat := mkRat (isqrt (x.num.toNat * 2 ^ 128 / x.den)) (2 ^ 64)

/-- The stretches that change the speed by `dv` ≥ 0 in the direction `sg` with acceleration `a` and jerk `j` (R233). -/
def phaseSegs (sg dv a j : Rat) : List Seg :=
  if dv = 0 then []
  else if j = 0 then [{ dur := dv / a, acc := sg * a, jerk := 0 }]
  else if dv ≥ a * a / j then
    let t := a / j
    [{ dur := t, acc := 0, jerk := sg * j }, { dur := dv / a - t, acc := sg * a, jerk := 0 },
     { dur := t, acc := sg * a, jerk := -sg * j }]
  else
    let t := sqrtRat (dv / j)
    let k := dv / (t * t)
    [{ dur := t, acc := 0, jerk := sg * k }, { dur := t, acc := sg * k * t, jerk := -sg * k }]

/-- How long stretches last. -/
def segsTime (l : List Seg) : Rat := l.foldl (fun t s => t + s.dur) 0

/-- The distance of a speed change from `u` to `w`: the mean speed times the duration (R233). -/
def changeDist (u w a j : Rat) : Rat := (u + w) / 2 * segsTime (phaseSegs 1 (ratAbs (w - u)) a j)

/-- The largest speed from `lo` to `hi` that fits, on a grid of 2^64 steps. -/
def largestPeak (fits : Rat → Bool) (lo hi : Rat) : Rat :=
  if fits hi then hi
  else
    let at_ := fun (k : Nat) => lo + (hi - lo) * mkRat k (2 ^ 64)
    at_ ((List.range 64).foldl (fun k i => let k' := k + 2 ^ (63 - i); if fits (at_ k') then k' else k) 0)

/-- A profile that starts at the speed `u` ≥ 0 towards a target `dist` away and ends there at rest: its stretches and
the start of its final deceleration; none where the stopping distance is longer (R233, R234). -/
def planToward (sg u dist : Rat) (m : Limits) : Option (List Seg × Rat) :=
  if u > m.v then
    let d1 := changeDist u m.v m.d m.j
    let d2 := changeDist m.v 0 m.d m.j
    if d1 + d2 ≤ dist then
      let slow := phaseSegs (-sg) (u - m.v) m.d m.j
      let cruise := (dist - d1 - d2) / m.v
      some (slow ++ [{ dur := cruise, acc := 0, jerk := 0 }] ++ phaseSegs (-sg) m.v m.d m.j, segsTime slow + cruise)
    else none
  else if changeDist u 0 m.d m.j ≤ dist then
    let used := fun w => changeDist u w m.a m.j + changeDist w 0 m.d m.j
    let w := largestPeak (fun w => decide (used w ≤ dist)) u m.v
    let up := phaseSegs sg (w - u) m.a m.j
    let cruise := (dist - used w) / w
    some (up ++ [{ dur := cruise, acc := 0, jerk := 0 }] ++ phaseSegs (-sg) w m.d m.j, segsTime up + cruise)
  else none

/-- A profile over the signed distance `dist` from the signed speed `v`, acceleration zero: decelerating to rest beyond
the target and returning where it is too near or behind (R234). -/
def planMove (v dist : Rat) (m : Limits) : List Seg × Rat :=
  let sg := ratSign dist
  match if sg * v < 0 then none else planToward sg (sg * v) (ratAbs dist) m with
  | some r => r
  | none =>
    let down := phaseSegs (-ratSign v) (ratAbs v) m.d m.j
    let rest := dist - ratSign v * changeDist (ratAbs v) 0 m.d m.j
    match planToward (ratSign rest) 0 (ratAbs rest) m with
    | some r => (down ++ r.1, segsTime down + r.2)
    | none => (down, 0)

/-- The acceleration brought to zero at the jerk limit: the stretch, its distance and the speed after it (R234). -/
def levelOff (v acc j : Rat) : List Seg × Rat × Rat :=
  if acc = 0 ∨ j = 0 then ([], 0, v)
  else
    let t := ratAbs acc / j
    ([{ dur := t, acc := acc, jerk := -ratSign acc * j }], v * t + acc * t * t / 3, v + acc * t / 2)

/-- A profile from a moving state (R234): the acceleration to zero, then as from there. -/
def planFrom (v acc dist : Rat) (m : Limits) : List Seg × Rat :=
  let l := levelOff v acc m.j
  let r := planMove l.2.2 (dist - l.2.1) m
  (l.1 ++ r.1, segsTime l.1 + r.2)

/-- A profile to rest from a moving state with deceleration `d` and jerk `j` (R236, R237). -/
def planRest (v acc d j : Rat) : List Seg :=
  let l := levelOff v acc j
  l.1 ++ phaseSegs (-ratSign l.2.2) (ratAbs l.2.2) d j

/-- Position, speed and acceleration `t` seconds into stretches that start at `p` and `v`; at rest after the last. -/
def evalSegs : List Seg → (p v t : Rat) → Rat × Rat × Rat
  | [], p, v, _ => (p, v, 0)
  | s :: r, p, v, t =>
    let x := if t < s.dur then t else s.dur
    let p' := p + v * x + s.acc * x * x / 2 + s.jerk * x * x * x / 6
    let v' := v + s.acc * x + s.jerk * x * x / 2
    if t < s.dur then (p', v', s.acc + s.jerk * x) else evalSegs r p' v' (t - s.dur)

/-- Seconds between two instants in 1/16 ns. -/
def secs (t0 t1 : Nat) : Rat := mkRat ((t1 : Int) - t0) 16000000000

/-- A number in Q16.16, rounded down and saturated (R13, R14). -/
def q16 (x : Rat) : Word := satInt 32 (x * 65536).floor

/-- A signed position in 64 bits, saturated (R14). -/
def pos64 (x : Int) : Word64 := satInt 64 x

/-- An unsigned Q16.16 number as a rational. -/
def ofQ16 (n : Nat) : Rat := mkRat n 65536

end Sys2Proof.Machine
end

