-- ==== Sys2Proof/Config.lean ====
section
/-!
DEFINITION. What the spec leaves open and an implementation or a moment fixes: free values.  Each is an opaque constant
without a body, so nothing can be proved of its value; notes/assumptions says which rule leaves it open.
-/
namespace Sys2Proof.Config

/-- The byte that an LPDDR5 address holds that nothing has written since training number `gen` (R521, log entry 6). -/
opaque dramByte (gen addr : Nat) : Byte

/-- The syndrome of the check bits of an LPDDR5 storage word that nothing has written since training number `gen`
(R521, log entry 6). -/
opaque dramSyndrome (gen word : Nat) : Byte

/-- The `n`-th open value of 64 bits (log entry 7). -/
opaque freeValue (n : Nat) : Word64

/-- The SHA-256 digest of a copy of the safety configuration, given by its registers (R343, R375, R378): the spec does
not lay out the copy's bytes (log entry 30). -/
opaque safetyDigest (cfg : List (Nat × Word)) : BitVec 256

/-- Entry point of a hall image, and where the hall trap table of R316 begins: the spec gives neither (log entry 32). -/
opaque hallEntry : BitVec 64
opaque hallVectors : BitVec 64

end Sys2Proof.Config
end

