-- ==== Sys2Proof/Machine/RegMap.lean ====
section
/-!
DEFINITION. Where each register of the page map lies (R42, R51 and each chapter's register table) and what each bit of
it does (R45, R48).  A register word's address is page index × 0x1000 + offset, so BAR0's layout (R42) is a map from
BAR0 offsets to these addresses.  A register instance is named PAGE.REGISTER (R11).
-/
namespace Sys2Proof.Machine

/-- The kinds of register page (R42). `bal0` and `bal1` share one page type and carry different registers (R386, R387). -/
inductive PageKind where
  | sys | host | pwr | clk | thm | newel | hall | gal | axis | brg | rzl | fb | sdm | latch | route | mig | stw | mem | dram | nvm | bal0 | bal1 | can | eth | time | acq | trg | recorder | store | fio | dma
  deriving DecidableEq, Repr

/-- The page kind and the instance number of a page index (R42). -/
def pageOf (p : Nat) : Option (PageKind × Nat) :=
  if p < 1 then some (.sys, p - 0)
  else if p < 2 then some (.host, p - 1)
  else if p < 3 then some (.pwr, p - 2)
  else if p < 4 then some (.clk, p - 3)
  else if p < 5 then some (.thm, p - 4)
  else if p < 6 then some (.newel, p - 5)
  else if p < 14 then some (.hall, p - 6)
  else if p < 32 then some (.gal, p - 14)
  else if p < 56 then some (.axis, p - 32)
  else if p < 104 then some (.brg, p - 56)
  else if p < 112 then some (.rzl, p - 104)
  else if p < 136 then some (.fb, p - 112)
  else if p < 140 then some (.sdm, p - 136)
  else if p < 141 then some (.latch, p - 140)
  else if p < 142 then some (.route, p - 141)
  else if p < 143 then some (.mig, p - 142)
  else if p < 144 then some (.stw, p - 143)
  else if p < 145 then some (.mem, p - 144)
  else if p < 146 then some (.dram, p - 145)
  else if p < 147 then some (.nvm, p - 146)
  else if p < 148 then some (.bal0, 0)
  else if p < 149 then some (.bal1, 1)
  else if p < 157 then some (.can, p - 149)
  else if p < 159 then some (.eth, p - 157)
  else if p < 160 then some (.time, p - 159)
  else if p < 161 then some (.acq, p - 160)
  else if p < 165 then some (.trg, p - 161)
  else if p < 166 then some (.recorder, p - 165)
  else if p < 168 then some (.store, p - 166)
  else if p < 170 then some (.fio, p - 168)
  else if p < 171 then some (.dma, p - 170)
  else none

/-- The 12-bit page type of a page kind (R42). -/
def PageKind.type : PageKind → Nat
  | .sys => 0x001
  | .host => 0x002
  | .pwr => 0x003
  | .clk => 0x004
  | .thm => 0x005
  | .newel => 0x006
  | .hall => 0x010
  | .gal => 0x011
  | .axis => 0x020
  | .brg => 0x021
  | .rzl => 0x022
  | .fb => 0x023
  | .sdm => 0x024
  | .latch => 0x025
  | .route => 0x030
  | .mig => 0x031
  | .stw => 0x032
  | .mem => 0x040
  | .dram => 0x041
  | .nvm => 0x042
  | .bal0 => 0x050
  | .bal1 => 0x050
  | .can => 0x060
  | .eth => 0x061
  | .time => 0x062
  | .acq => 0x070
  | .trg => 0x071
  | .recorder => 0x072
  | .store => 0x073
  | .fio => 0x080
  | .dma => 0x090

/-- The FLT bits a page defines: the common ones of R56 and the chapter's own. -/
def PageKind.fltMask : PageKind → Nat
  | .sys => 0x000301FF
  | .host => 0x000001FF
  | .pwr => 0x000701FF
  | .clk => 0x000F01FF
  | .thm => 0x000F01FF
  | .newel => 0x003F01FF
  | .hall => 0x007F01FF
  | .gal => 0x0FFF01FF
  | .axis => 0x003F01FF
  | .brg => 0x003F01FF
  | .rzl => 0x01FF01FF
  | .fb => 0x0FFF01FF
  | .sdm => 0x000301FF
  | .latch => 0x000701FF
  | .route => 0x001F01FF
  | .mig => 0x00FF01FF
  | .stw => 0x007F01FF
  | .mem => 0x000F01FF
  | .dram => 0x000701FF
  | .nvm => 0x003F01FF
  | .bal0 => 0x000701FF
  | .bal1 => 0x000F01FF
  | .can => 0x01FF01FF
  | .eth => 0x000F01FF
  | .time => 0x003F01FF
  | .acq => 0x000301FF
  | .trg => 0x000001FF
  | .recorder => 0x000701FF
  | .store => 0x000701FF
  | .fio => 0x00FF01FF
  | .dma => 0x000001FF

/-- The event bits a page defines (R57); bit 16 + n enables event n. -/
def PageKind.evtMask : PageKind → Nat
  | .sys => 0x0003
  | .host => 0x0001
  | .pwr => 0x000F
  | .clk => 0x0003
  | .thm => 0x0007
  | .newel => 0x000F
  | .hall => 0x000F
  | .gal => 0x001F
  | .axis => 0x003F
  | .brg => 0x003F
  | .rzl => 0x007F
  | .fb => 0x001F
  | .sdm => 0x0003
  | .latch => 0x0001
  | .route => 0x0007
  | .mig => 0x001F
  | .stw => 0x003F
  | .mem => 0x0007
  | .dram => 0x0001
  | .nvm => 0x000F
  | .bal0 => 0x003F
  | .bal1 => 0x001F
  | .can => 0x00FF
  | .eth => 0x0007
  | .time => 0x000F
  | .acq => 0x0007
  | .trg => 0x0000
  | .recorder => 0x0007
  | .store => 0x0007
  | .fio => 0x001F
  | .dma => 0xFFFF

/-- The access types of R45. -/
inductive Acc where
  | rw | ro | wo | w1c | w1s | rc | rws
  deriving DecidableEq, Repr

/-- One row of a register table: offset of the first word, up to two nested repetitions (count, stride), whether it is a
64-bit register (R49), its reset value, and the bits of each access type.  Bits in no mask are reserved (R48). -/
structure RegRow where
  off : Nat
  n1 : Nat
  s1 : Nat
  n2 : Nat
  s2 : Nat
  wide : Bool
  reset : Nat
  bits : List (Acc × Nat)
  deriving DecidableEq, Repr

/-- The register table of a SYS page (R498). -/
def rowsSYS : List RegRow := [
  ⟨0x040, 1, 0x0, 1, 0x0, true, 0x0, [(.ro, 0xFFFFFFFFFFFFFFFF)]⟩,
  ⟨0x048, 1, 0x0, 1, 0x0, false, 0x0, [(.w1c, 0x27)]⟩,
  ⟨0x04C, 1, 0x0, 1, 0x0, false, 0x7, [(.ro, 0xFFFF)]⟩,
  ⟨0x050, 1, 0x0, 1, 0x0, false, 0x0, [(.rw, 0xF), (.w1s, 0x300)]⟩,
  ⟨0x054, 1, 0x0, 1, 0x0, false, 0x0, [(.ro, 0x3FF)]⟩,
  ⟨0x058, 1, 0x0, 1, 0x0, true, 0x0, [(.ro, 0xFFFFFFFFFFFF)]⟩,
  ⟨0x060, 1, 0x0, 1, 0x0, false, 0x0, [(.ro, 0xFFFFFFFF)]⟩,
  ⟨0x064, 1, 0x0, 1, 0x0, false, 0xC80000, [(.rw, 0xFF07FF)]⟩,
  ⟨0x068, 1, 0x0, 1, 0x0, false, 0x0, [(.rw, 0xFFFFFF)]⟩,
  ⟨0x06C, 1, 0x0, 1, 0x0, false, 0x0, [(.rw, 0xFFFFFFFF)]⟩,
  ⟨0x070, 1, 0x0, 1, 0x0, false, 0xFFFFFF, [(.rw, 0xFFFFFF)]⟩,
  ⟨0x074, 1, 0x0, 1, 0x0, false, 0x8000, [(.rw, 0x1FFFFF)]⟩,
  ⟨0x080, 7, 0x4, 1, 0x0, false, 0x0, [(.ro, 0xFFFFFFFF)]⟩
]

/-- The register table of a HOST page (R79). -/
def rowsHOST : List RegRow := [
  ⟨0x040, 1, 0x0, 1, 0x0, false, 0x0, [(.ro, 0x7FF)]⟩,
  ⟨0x044, 1, 0x0, 1, 0x0, false, 0x0, [(.rc, 0xFF)]⟩,
  ⟨0x048, 1, 0x0, 1, 0x0, false, 0xFF, [(.rw, 0xFF)]⟩,
  ⟨0x04C, 1, 0x0, 1, 0x0, false, 0x0, [(.wo, 0xFFFFFFFF)]⟩,
  ⟨0x050, 1, 0x0, 1, 0x0, false, 0x0, [(.rw, 0x1)]⟩,
  ⟨0x058, 1, 0x0, 1, 0x0, true, 0x0, [(.ro, 0x8000003F0FFFFFFF)]⟩,
  ⟨0x100, 43, 0x4, 1, 0x0, false, 0xFFFFFFFF, [(.rw, 0xFFFFFFFF)]⟩,
  ⟨0x800, 256, 0x4, 1, 0x0, false, 0x0, [(.rw, 0xFFFFFFFF)]⟩,
  ⟨0xC00, 1, 0x0, 1, 0x0, true, 0x0, [(.ro, 0xFFFFFFFFFFFFFFFF)]⟩
]

/-- The register table of a PWR page (R499). -/
def rowsPWR : List RegRow := [
  ⟨0x040, 1, 0x0, 1, 0x0, false, 0x0, [(.ro, 0x3FF)]⟩,
  ⟨0x044, 1, 0x0, 1, 0x0, false, 0x0, [(.ro, 0xFF)]⟩,
  ⟨0x048, 1, 0x0, 1, 0x0, false, 0xA0A01, [(.rw, 0xFFFF03)]⟩,
  ⟨0x04C, 1, 0x0, 1, 0x0, false, 0x0, [(.w1s, 0x3)]⟩,
  ⟨0x050, 1, 0x0, 1, 0x0, false, 0x0, [(.ro, 0x3FF)]⟩,
  ⟨0x054, 1, 0x0, 1, 0x0, false, 0x0, [(.ro, 0xFFFFFFFF)]⟩,
  ⟨0x058, 1, 0x0, 1, 0x0, false, 0x0, [(.ro, 0x10FFFFF)]⟩,
  ⟨0x05C, 1, 0x0, 1, 0x0, false, 0x0, [(.rw, 0xFFFFFFFF)]⟩,
  ⟨0x060, 1, 0x0, 1, 0x0, false, 0x0, [(.ro, 0xFFFF)]⟩
]

/-- The register table of a CLK page (R500). -/
def rowsCLK : List RegRow := [
  ⟨0x040, 1, 0x0, 1, 0x0, false, 0x0, [(.ro, 0x7F)]⟩,
  ⟨0x044, 1, 0x0, 1, 0x0, false, 0x0, [(.rw, 0x3)]⟩,
  ⟨0x048, 1, 0x0, 1, 0x0, false, 0x0, [(.ro, 0xFFFFFFFF)]⟩,
  ⟨0x04C, 1, 0x0, 1, 0x0, false, 0x0, [(.ro, 0xFFFFFFFF)]⟩,
  ⟨0x050, 1, 0x0, 1, 0x0, false, 0xEC0000, [(.ro, 0x1FF01FF)]⟩,
  ⟨0x054, 1, 0x0, 1, 0x0, false, 0x0, [(.ro, 0xFFFFFFFF)]⟩
]

/-- The register table of a THM page (R501). -/
def rowsTHM : List RegRow := [
  ⟨0x040, 1, 0x0, 1, 0x0, false, 0x0, [(.ro, 0x1FFFFF)]⟩,
  ⟨0x044, 1, 0x0, 1, 0x0, false, 0x0, [(.ro, 0xFF07)]⟩,
  ⟨0x048, 1, 0x0, 1, 0x0, false, 0x64247D, [(.rw, 0xFFFFFF)]⟩,
  ⟨0x04C, 1, 0x0, 1, 0x0, false, 0x0, [(.ro, 0xFFFFFFFF)]⟩,
  ⟨0x050, 1, 0x0, 1, 0x0, false, 0x0, [(.ro, 0xF03)]⟩,
  ⟨0x080, 14, 0x4, 1, 0x0, false, 0x0, [(.ro, 0x1FFFF)]⟩,
  ⟨0x100, 64, 0x4, 1, 0x0, false, 0x0, [(.ro, 0x1FFFF)]⟩,
  ⟨0x300, 24, 0x4, 1, 0x0, false, 0x0, [(.rw, 0xFFFFFFFF)]⟩,
  ⟨0x380, 24, 0x4, 1, 0x0, false, 0x10000, [(.ro, 0x3F01FFFF)]⟩,
  ⟨0x400, 1, 0x0, 1, 0x0, false, 0x8000, [(.rw, 0x1FFFF)]⟩
]

/-- The register table of a NEWEL page (R322). -/
def rowsNEWEL : List RegRow := [
  ⟨0x040, 1, 0x0, 1, 0x0, false, 0x0, [(.ro, 0x30FFF)]⟩,
  ⟨0x044, 1, 0x0, 1, 0x0, false, 0x0, [(.ro, 0xFFFFFFFF)]⟩,
  ⟨0x048, 1, 0x0, 1, 0x0, false, 0x0, [(.ro, 0xFFFFFFFF)]⟩,
  ⟨0x04C, 1, 0x0, 1, 0x0, false, 0x0, [(.ro, 0xFFFFFFFF)]⟩,
  ⟨0x050, 1, 0x0, 1, 0x0, false, 0x0, [(.ro, 0xFF)]⟩,
  ⟨0x058, 1, 0x0, 1, 0x0, true, 0x0, [(.ro, 0x8000FFFFFFFFFFFF)]⟩,
  ⟨0x060, 1, 0x0, 1, 0x0, false, 0x0, [(.ro, 0xFFFFFFFF)]⟩,
  ⟨0x064, 1, 0x0, 1, 0x0, false, 0x0, [(.ro, 0xFF)]⟩,
  ⟨0x068, 1, 0x0, 1, 0x0, false, 0x0, [(.ro, 0xFFFFFFFF)]⟩,
  ⟨0x06C, 1, 0x0, 1, 0x0, false, 0x0, [(.ro, 0xFFFF)]⟩,
  ⟨0x070, 1, 0x0, 1, 0x0, false, 0x0, [(.rw, 0xFFFFFFFF)]⟩,
  ⟨0x074, 1, 0x0, 1, 0x0, false, 0x0, [(.ro, 0x3FF)]⟩,
  ⟨0x080, 16, 0x10, 4, 0x4, false, 0x0, [(.ro, 0xFFFFFFFF)]⟩,
  ⟨0x800, 64, 0x20, 1, 0x0, true, 0x0, [(.ro, 0xFFFFFFFFFFFFFFFF)]⟩,
  ⟨0x808, 64, 0x20, 1, 0x0, false, 0x0, [(.ro, 0xFFFFFFFF)]⟩,
  ⟨0x80C, 64, 0x20, 1, 0x0, false, 0x0, [(.ro, 0x80000037)]⟩,
  ⟨0x810, 64, 0x20, 1, 0x0, true, 0x0, [(.ro, 0x7FFFFFFFFFF)]⟩
]

/-- The register table of a HALL page (R324). -/
def rowsHALL : List RegRow := [
  ⟨0x040, 1, 0x0, 1, 0x0, false, 0x640, [(.rw, 0x7FF)]⟩,
  ⟨0x044, 1, 0x0, 1, 0x0, false, 0x0, [(.ro, 0x7FF)]⟩,
  ⟨0x048, 1, 0x0, 1, 0x0, false, 0x0, [(.ro, 0xF01)]⟩,
  ⟨0x04C, 1, 0x0, 1, 0x0, false, 0x0, [(.ro, 0x1FFF)]⟩,
  ⟨0x050, 1, 0x0, 1, 0x0, true, 0x0, [(.ro, 0xFFFFFFFFFFFFFFFF)]⟩,
  ⟨0x058, 1, 0x0, 1, 0x0, true, 0x0, [(.ro, 0xFFFFFFFFFFFFFFFF)]⟩,
  ⟨0x060, 1, 0x0, 1, 0x0, false, 0x0, [(.ro, 0xFFFF07FF)]⟩,
  ⟨0x064, 1, 0x0, 1, 0x0, false, 0x0, [(.ro, 0xFFFFFFFF)]⟩,
  ⟨0x068, 1, 0x0, 1, 0x0, false, 0x0, [(.ro, 0x3FF)]⟩,
  ⟨0x080, 1, 0x0, 1, 0x0, false, 0x0, [(.w1s, 0x3)]⟩,
  ⟨0x084, 1, 0x0, 1, 0x0, false, 0x0, [(.ro, 0x3FF)]⟩,
  ⟨0x088, 1, 0x0, 1, 0x0, true, 0x0, [(.rw, 0xFFFFFFFFFFFFFFFF)]⟩,
  ⟨0x090, 1, 0x0, 1, 0x0, false, 0x0, [(.rw, 0xFFFFFFFF)]⟩,
  ⟨0x098, 1, 0x0, 1, 0x0, true, 0x0, [(.ro, 0xFFFFFFFFFFFFFFFF)]⟩,
  ⟨0x0A0, 1, 0x0, 1, 0x0, false, 0x0, [(.ro, 0xFFFFFFFF)]⟩,
  ⟨0x0A4, 1, 0x0, 1, 0x0, false, 0x0, [(.ro, 0xFFFFFFFF)]⟩,
  ⟨0x0A8, 1, 0x0, 1, 0x0, false, 0x0, [(.ro, 0xFFFFFFFF)]⟩
]

/-- The register table of a GAL page (R120). -/
def rowsGAL : List RegRow := [
  ⟨0x040, 1, 0x0, 1, 0x0, false, 0x0, [(.ro, 0xFF0000), (.w1c, 0x3FF)]⟩,
  ⟨0x044, 1, 0x0, 1, 0x0, false, 0x0, [(.rw, 0x7)]⟩,
  ⟨0x048, 1, 0x0, 1, 0x0, false, 0x0, [(.ro, 0x1FFF)]⟩,
  ⟨0x04C, 1, 0x0, 1, 0x0, false, 0x0, [(.ro, 0xFFFFFFFF)]⟩,
  ⟨0x050, 1, 0x0, 1, 0x0, false, 0x0, [(.ro, 0xFFFFFFFF)]⟩,
  ⟨0x054, 1, 0x0, 1, 0x0, false, 0x0, [(.ro, 0x7FF07FF)]⟩,
  ⟨0x058, 1, 0x0, 1, 0x0, false, 0x0, [(.w1s, 0x1)]⟩,
  ⟨0x060, 1, 0x0, 1, 0x0, false, 0x0, [(.w1s, 0x3)]⟩,
  ⟨0x064, 1, 0x0, 1, 0x0, false, 0x0, [(.ro, 0x703FF)]⟩,
  ⟨0x068, 1, 0x0, 1, 0x0, false, 0x0, [(.ro, 0x3FF)]⟩,
  ⟨0x06C, 1, 0x0, 1, 0x0, false, 0x0, [(.rc, 0xFFFFFFFF)]⟩,
  ⟨0x070, 1, 0x0, 1, 0x0, true, 0x0, [(.ro, 0xFFFFFFFFFFFFFFFF)]⟩,
  ⟨0x078, 1, 0x0, 1, 0x0, false, 0x0, [(.ro, 0xFFFFFFFF)]⟩,
  ⟨0x07C, 1, 0x0, 1, 0x0, false, 0x0, [(.ro, 0xFFFFFFFF)]⟩,
  ⟨0x080, 6, 0x20, 1, 0x0, false, 0x0, [(.rw, 0xBF)]⟩,
  ⟨0x084, 6, 0x20, 1, 0x0, false, 0x0, [(.rw, 0xFFFFFFFF)]⟩,
  ⟨0x088, 6, 0x20, 1, 0x0, false, 0x0, [(.rw, 0xFFFF)]⟩,
  ⟨0x08C, 6, 0x20, 1, 0x0, false, 0x0, [(.rw, 0xFFFFFFFF)]⟩,
  ⟨0x090, 6, 0x20, 1, 0x0, false, 0x0, [(.rw, 0xFFFFFFFF)]⟩,
  ⟨0x094, 6, 0x20, 1, 0x0, false, 0x0, [(.rc, 0xFFFF)]⟩,
  ⟨0x098, 6, 0x20, 1, 0x0, false, 0x0, [(.ro, 0xFFFFFFFF)]⟩,
  ⟨0x140, 1, 0x0, 1, 0x0, true, 0x0, [(.wo, 0x3FFFFFFFFFF)]⟩,
  ⟨0x148, 1, 0x0, 1, 0x0, false, 0x0, [(.ro, 0xFFFF001F)]⟩,
  ⟨0x14C, 1, 0x0, 1, 0x0, false, 0x0, [(.ro, 0xFFFFFFFF)]⟩,
  ⟨0x150, 1, 0x0, 1, 0x0, false, 0x10000, [(.rw, 0xFFFFFFFF)]⟩,
  ⟨0x154, 1, 0x0, 1, 0x0, false, 0x0, [(.rw, 0xFFFFFFFF)]⟩,
  ⟨0x160, 6, 0x4, 1, 0x0, false, 0x7FFFFFFF, [(.rws, 0xFFFFFFFF)]⟩,
  ⟨0x180, 6, 0x4, 1, 0x0, false, 0x0, [(.rws, 0x1FF)]⟩,
  ⟨0x1A0, 6, 0x4, 1, 0x0, false, 0x0, [(.ro, 0x1FFFF)]⟩,
  ⟨0x200, 1, 0x0, 1, 0x0, false, 0x0, [(.w1s, 0x3)]⟩,
  ⟨0x204, 1, 0x0, 1, 0x0, false, 0x0, [(.rw, 0xFF0FF1)]⟩,
  ⟨0x208, 1, 0x0, 1, 0x0, false, 0x0, [(.rw, 0x7F)]⟩,
  ⟨0x20C, 1, 0x0, 1, 0x0, false, 0x0, [(.rw, 0xFFFFFFFF)]⟩,
  ⟨0x210, 1, 0x0, 1, 0x0, false, 0x0, [(.rw, 0xFFFFFFFF)]⟩,
  ⟨0x214, 1, 0x0, 1, 0x0, false, 0x0, [(.ro, 0xFFFF03FF)]⟩,
  ⟨0x218, 1, 0x0, 1, 0x0, false, 0x0, [(.ro, 0xFFFFFFFF)]⟩,
  ⟨0x21C, 1, 0x0, 1, 0x0, false, 0x0, [(.ro, 0xFFFFFFFF)]⟩,
  ⟨0x220, 1, 0x0, 1, 0x0, false, 0x0, [(.rw, 0xFFFFFFFF)]⟩,
  ⟨0x224, 1, 0x0, 1, 0x0, false, 0x0, [(.rw, 0xFFFFFFFF)]⟩,
  ⟨0x240, 16, 0x4, 1, 0x0, false, 0x0, [(.rw, 0xF3FFFF)]⟩
]

/-- The register table of a AXIS page (R253). -/
def rowsAXIS : List RegRow := [
  ⟨0x040, 1, 0x0, 1, 0x0, false, 0x0, [(.rw, 0xFF)]⟩,
  ⟨0x044, 1, 0x0, 1, 0x0, false, 0x0, [(.ro, 0x7FFFF)]⟩,
  ⟨0x048, 1, 0x0, 1, 0x0, false, 0x0, [(.w1s, 0x1FF)]⟩,
  ⟨0x04C, 1, 0x0, 1, 0x0, false, 0x0, [(.ro, 0xFFF)]⟩,
  ⟨0x050, 1, 0x0, 1, 0x0, true, 0x0, [(.rw, 0xFFFFFFFFFFFFFFFF)]⟩,
  ⟨0x058, 1, 0x0, 1, 0x0, true, 0x0, [(.ro, 0xFFFFFFFFFFFFFFFF)]⟩,
  ⟨0x060, 1, 0x0, 1, 0x0, true, 0x0, [(.ro, 0xFFFFFFFFFFFFFFFF)]⟩,
  ⟨0x068, 1, 0x0, 1, 0x0, true, 0x0, [(.ro, 0xFFFFFFFFFFFFFFFF)]⟩,
  ⟨0x070, 1, 0x0, 1, 0x0, false, 0x10000, [(.rw, 0xFFFFFFFF)]⟩,
  ⟨0x074, 1, 0x0, 1, 0x0, false, 0x10000, [(.rw, 0xFFFFFFFF)]⟩,
  ⟨0x078, 1, 0x0, 1, 0x0, false, 0x10000, [(.rw, 0xFFFFFFFF)]⟩,
  ⟨0x07C, 1, 0x0, 1, 0x0, false, 0x0, [(.rw, 0xFFFFFFFF)]⟩,
  ⟨0x080, 1, 0x0, 1, 0x0, false, 0x20000, [(.rw, 0xFFFFFFFF)]⟩,
  ⟨0x084, 1, 0x0, 1, 0x0, false, 0x2AA, [(.rw, 0x3FF)]⟩,
  ⟨0x088, 1, 0x0, 1, 0x0, false, 0x0, [(.ro, 0xFFFFFFFF)]⟩,
  ⟨0x08C, 1, 0x0, 1, 0x0, false, 0x0, [(.ro, 0xFFFFFFFF)]⟩,
  ⟨0x090, 1, 0x0, 1, 0x0, false, 0x10000, [(.rw, 0xFFFFFFFF)]⟩,
  ⟨0x094, 1, 0x0, 1, 0x0, false, 0x0, [(.rw, 0xFF01FF)]⟩,
  ⟨0x098, 1, 0x0, 1, 0x0, false, 0x0, [(.ro, 0xFFFFFFFF)]⟩,
  ⟨0x09C, 1, 0x0, 1, 0x0, false, 0x0, [(.rc, 0xFFFFFFFF)]⟩,
  ⟨0x0A0, 1, 0x0, 1, 0x0, false, 0x0, [(.rw, 0x17F)]⟩,
  ⟨0x0A4, 1, 0x0, 1, 0x0, false, 0x1, [(.rw, 0xFFFFFFFF)]⟩,
  ⟨0x0A8, 1, 0x0, 1, 0x0, false, 0x1, [(.rw, 0xFFFFFFFF)]⟩,
  ⟨0x0B0, 1, 0x0, 1, 0x0, false, 0x7FFFFFFF, [(.rw, 0xFFFFFFFF)]⟩,
  ⟨0x0B4, 1, 0x0, 1, 0x0, false, 0x7FFFFFFF, [(.rw, 0xFFFFFFFF)]⟩,
  ⟨0x0B8, 1, 0x0, 1, 0x0, true, 0x0, [(.ro, 0xFFFFFFFFFFFFFFFF)]⟩,
  ⟨0x0C0, 1, 0x0, 1, 0x0, false, 0x20000, [(.rw, 0xFFFFFFFF)]⟩,
  ⟨0x0C4, 1, 0x0, 1, 0x0, false, 0x0, [(.rw, 0x1FFFFFF)]⟩,
  ⟨0x0C8, 1, 0x0, 1, 0x0, false, 0x0, [(.ro, 0xFFFFFFFF)]⟩,
  ⟨0x0CC, 1, 0x0, 1, 0x0, false, 0x0, [(.ro, 0xFFFF)]⟩,
  ⟨0x0D0, 1, 0x0, 1, 0x0, false, 0x0, [(.rw, 0xFFFFFFFF)]⟩,
  ⟨0x0D4, 1, 0x0, 1, 0x0, false, 0x0, [(.ro, 0xFFFFFFFF)]⟩,
  ⟨0x0E0, 1, 0x0, 1, 0x0, false, 0x0, [(.rw, 0xFFFFFFFF)]⟩,
  ⟨0x0E4, 1, 0x0, 1, 0x0, false, 0x0, [(.rw, 0xFFFFFFFF)]⟩
]

/-- The register table of a BRG page (R155). -/
def rowsBRG : List RegRow := [
  ⟨0x040, 1, 0x0, 1, 0x0, false, 0x0, [(.ro, 0x3FFFFF)]⟩,
  ⟨0x044, 1, 0x0, 1, 0x0, false, 0x0, [(.w1s, 0x3)]⟩,
  ⟨0x048, 1, 0x0, 1, 0x0, false, 0x0, [(.ro, 0xFFF03FF)]⟩,
  ⟨0x04C, 1, 0x0, 1, 0x0, false, 0x0, [(.ro, 0x3FFFFF7)]⟩,
  ⟨0x050, 1, 0x0, 1, 0x0, true, 0x0, [(.ro, 0xFFFFFFFFFFFFFFFF)]⟩,
  ⟨0x058, 1, 0x0, 1, 0x0, false, 0x0, [(.ro, 0xFFFFFFFF)]⟩,
  ⟨0x05C, 1, 0x0, 1, 0x0, false, 0x0, [(.ro, 0x13F)]⟩,
  ⟨0x060, 1, 0x0, 1, 0x0, false, 0x0, [(.ro, 0xFFFFFFFF)]⟩,
  ⟨0x064, 1, 0x0, 1, 0x0, false, 0x0, [(.ro, 0xFFFFFFFF)]⟩,
  ⟨0x080, 1, 0x0, 1, 0x0, false, 0x186A00, [(.rw, 0xFFFFFF)]⟩,
  ⟨0x084, 1, 0x0, 1, 0x0, false, 0x2, [(.rw, 0xFFFF0003)]⟩,
  ⟨0x088, 1, 0x0, 1, 0x0, false, 0x1F40, [(.rw, 0xFFFF)]⟩,
  ⟨0x08C, 1, 0x0, 1, 0x0, false, 0xC80, [(.rw, 0xFFFF)]⟩,
  ⟨0x090, 1, 0x0, 1, 0x0, false, 0x0, [(.rw, 0xFFFFFFFF)]⟩,
  ⟨0x098, 1, 0x0, 1, 0x0, true, 0x0, [(.rw, 0xFFFFFFFFFFFF)]⟩,
  ⟨0x0A0, 1, 0x0, 1, 0x0, false, 0x2000, [(.rw, 0x3FF07)]⟩,
  ⟨0x0A4, 1, 0x0, 1, 0x0, false, 0x7FFFFFFF, [(.rw, 0xFFFFFFFF)]⟩,
  ⟨0x0A8, 1, 0x0, 1, 0x0, false, 0x7FFF0000, [(.rw, 0xFFFFFFFF)]⟩,
  ⟨0x0AC, 1, 0x0, 1, 0x0, false, 0x7FFFFFFF, [(.rw, 0xFFFFFFFF)]⟩,
  ⟨0x0B0, 1, 0x0, 1, 0x0, false, 0x7FFF0000, [(.rw, 0xFFFFFFFF)]⟩,
  ⟨0x0B4, 1, 0x0, 1, 0x0, false, 0x10000, [(.rw, 0xFFFF00FF)]⟩,
  ⟨0x0B8, 1, 0x0, 1, 0x0, false, 0x80008000, [(.rw, 0xFFFFFFFF)]⟩,
  ⟨0x0BC, 1, 0x0, 1, 0x0, false, 0x0, [(.rw, 0x3F)]⟩,
  ⟨0x0C0, 1, 0x0, 1, 0x0, false, 0x0, [(.rw, 0xFFFFFFFF)]⟩,
  ⟨0x0C4, 1, 0x0, 1, 0x0, false, 0x0, [(.rw, 0xFFFFFFFF)]⟩,
  ⟨0x0C8, 1, 0x0, 1, 0x0, false, 0x0, [(.rw, 0xFFFFFFFF)]⟩,
  ⟨0x0CC, 1, 0x0, 1, 0x0, false, 0x0, [(.rw, 0xFFFFFFFF)]⟩,
  ⟨0x0D0, 1, 0x0, 1, 0x0, false, 0x10001, [(.rw, 0x7007F)]⟩,
  ⟨0x0E0, 1, 0x0, 1, 0x0, false, 0x0, [(.rw, 0xFFFFFFFF)]⟩,
  ⟨0x0E4, 1, 0x0, 1, 0x0, false, 0x0, [(.rw, 0xFFFFFFFF)]⟩,
  ⟨0x0E8, 1, 0x0, 1, 0x0, false, 0x7FFFFFFF, [(.rw, 0xFFFFFFFF)]⟩,
  ⟨0x0F0, 1, 0x0, 1, 0x0, false, 0x0, [(.rw, 0xFFFFFFFF)]⟩,
  ⟨0x0F4, 1, 0x0, 1, 0x0, false, 0x0, [(.rw, 0xFFFFFFFF)]⟩,
  ⟨0x100, 4, 0x4, 1, 0x0, false, 0x0, [(.rw, 0x3FFFF)]⟩,
  ⟨0x140, 1, 0x0, 1, 0x0, false, 0x0, [(.rw, 0x3F)]⟩,
  ⟨0x280, 1, 0x0, 1, 0x0, false, 0x186A00, [(.ro, 0xFFFFFF)]⟩,
  ⟨0x284, 1, 0x0, 1, 0x0, false, 0x2, [(.ro, 0xFFFF0003)]⟩,
  ⟨0x288, 1, 0x0, 1, 0x0, false, 0x1F40, [(.ro, 0xFFFF)]⟩,
  ⟨0x28C, 1, 0x0, 1, 0x0, false, 0xC80, [(.ro, 0xFFFF)]⟩,
  ⟨0x290, 1, 0x0, 1, 0x0, false, 0x0, [(.ro, 0xFFFFFFFF)]⟩,
  ⟨0x298, 1, 0x0, 1, 0x0, true, 0x0, [(.ro, 0xFFFFFFFFFFFF)]⟩,
  ⟨0x2A0, 1, 0x0, 1, 0x0, false, 0x2000, [(.ro, 0x3FF07)]⟩,
  ⟨0x2A4, 1, 0x0, 1, 0x0, false, 0x7FFFFFFF, [(.ro, 0xFFFFFFFF)]⟩,
  ⟨0x2A8, 1, 0x0, 1, 0x0, false, 0x7FFF0000, [(.ro, 0xFFFFFFFF)]⟩,
  ⟨0x2AC, 1, 0x0, 1, 0x0, false, 0x7FFFFFFF, [(.ro, 0xFFFFFFFF)]⟩,
  ⟨0x2B0, 1, 0x0, 1, 0x0, false, 0x7FFF0000, [(.ro, 0xFFFFFFFF)]⟩,
  ⟨0x2B4, 1, 0x0, 1, 0x0, false, 0x10000, [(.ro, 0xFFFF00FF)]⟩,
  ⟨0x2B8, 1, 0x0, 1, 0x0, false, 0x80008000, [(.ro, 0xFFFFFFFF)]⟩,
  ⟨0x2BC, 1, 0x0, 1, 0x0, false, 0x0, [(.ro, 0x3F)]⟩,
  ⟨0x2C0, 1, 0x0, 1, 0x0, false, 0x0, [(.ro, 0xFFFFFFFF)]⟩,
  ⟨0x2C4, 1, 0x0, 1, 0x0, false, 0x0, [(.ro, 0xFFFFFFFF)]⟩,
  ⟨0x2C8, 1, 0x0, 1, 0x0, false, 0x0, [(.ro, 0xFFFFFFFF)]⟩,
  ⟨0x2CC, 1, 0x0, 1, 0x0, false, 0x0, [(.ro, 0xFFFFFFFF)]⟩,
  ⟨0x2D0, 1, 0x0, 1, 0x0, false, 0x10001, [(.ro, 0x7007F)]⟩,
  ⟨0x2E0, 1, 0x0, 1, 0x0, false, 0x0, [(.ro, 0xFFFFFFFF)]⟩,
  ⟨0x2E4, 1, 0x0, 1, 0x0, false, 0x0, [(.ro, 0xFFFFFFFF)]⟩,
  ⟨0x2E8, 1, 0x0, 1, 0x0, false, 0x7FFFFFFF, [(.ro, 0xFFFFFFFF)]⟩,
  ⟨0x2F0, 1, 0x0, 1, 0x0, false, 0x0, [(.ro, 0xFFFFFFFF)]⟩,
  ⟨0x2F4, 1, 0x0, 1, 0x0, false, 0x0, [(.ro, 0xFFFFFFFF)]⟩,
  ⟨0x300, 4, 0x4, 1, 0x0, false, 0x0, [(.ro, 0x3FFFF)]⟩
]

/-- The register table of a RZL page (R192). -/
def rowsRZL : List RegRow := [
  ⟨0x040, 1, 0x0, 1, 0x0, false, 0x0, [(.w1s, 0xFFFF)]⟩,
  ⟨0x044, 1, 0x0, 1, 0x0, false, 0x0, [(.ro, 0xFFF)]⟩,
  ⟨0x048, 1, 0x0, 1, 0x0, false, 0x0, [(.rw, 0x3), (.ro, 0xFF0F00)]⟩,
  ⟨0x04C, 1, 0x0, 1, 0x0, false, 0x30200, [(.ro, 0xFFFFFF)]⟩,
  ⟨0x050, 1, 0x0, 1, 0x0, false, 0x32, [(.rw, 0xFFFF)]⟩,
  ⟨0x054, 1, 0x0, 1, 0x0, false, 0x2, [(.rw, 0x37)]⟩,
  ⟨0x058, 1, 0x0, 1, 0x0, false, 0xA200C80, [(.rw, 0xFF73FFFF)]⟩,
  ⟨0x05C, 1, 0x0, 1, 0x0, false, 0x10, [(.rw, 0xFF)]⟩,
  ⟨0x060, 1, 0x0, 1, 0x0, false, 0x0, [(.ro, 0x3F)]⟩,
  ⟨0x064, 1, 0x0, 1, 0x0, false, 0x0, [(.ro, 0xFFFFFFFF)]⟩,
  ⟨0x068, 1, 0x0, 1, 0x0, false, 0x0, [(.ro, 0xFFFFFFFF)]⟩,
  ⟨0x06C, 1, 0x0, 1, 0x0, false, 0x0, [(.ro, 0xFFFFFFFF)]⟩,
  ⟨0x070, 1, 0x0, 1, 0x0, true, 0x0, [(.ro, 0x80070FFFFFFFFFFF)]⟩,
  ⟨0x078, 1, 0x0, 1, 0x0, false, 0x0, [(.ro, 0xFFFFFFFF)]⟩,
  ⟨0x0C0, 1, 0x0, 1, 0x0, false, 0x0, [(.rw, 0xF70), (.w1s, 0x3)]⟩,
  ⟨0x0C4, 1, 0x0, 1, 0x0, false, 0x0, [(.ro, 0xFF03FF)]⟩,
  ⟨0x100, 8, 0x20, 1, 0x0, false, 0x0, [(.ro, 0xFFFFFFFF)]⟩,
  ⟨0x104, 8, 0x20, 1, 0x0, false, 0x0, [(.ro, 0xFF73F)]⟩,
  ⟨0x108, 8, 0x20, 1, 0x0, false, 0x0, [(.ro, 0xFFFFFFFF)]⟩,
  ⟨0x10C, 8, 0x20, 1, 0x0, false, 0x0, [(.ro, 0xFF)]⟩,
  ⟨0x110, 8, 0x20, 1, 0x0, false, 0x0, [(.ro, 0xFFFFFF)]⟩,
  ⟨0x114, 8, 0x20, 1, 0x0, false, 0x0, [(.ro, 0xFFFFFFFF)]⟩,
  ⟨0x118, 8, 0x20, 1, 0x0, false, 0x0, [(.ro, 0xFFFFFFFF)]⟩,
  ⟨0x11C, 8, 0x20, 1, 0x0, false, 0x0, [(.ro, 0xFFFFFFFF)]⟩
]

/-- The register table of a FB page (R223). -/
def rowsFB : List RegRow := [
  ⟨0x040, 1, 0x0, 1, 0x0, false, 0x0, [(.rw, 0x3F3F7F)]⟩,
  ⟨0x044, 1, 0x0, 1, 0x0, false, 0x800, [(.rw, 0xFFFFF)]⟩,
  ⟨0x048, 1, 0x0, 1, 0x0, false, 0x4, [(.rw, 0xFFFF)]⟩,
  ⟨0x04C, 1, 0x0, 1, 0x0, false, 0x1, [(.rw, 0xFFFF017F)]⟩,
  ⟨0x050, 1, 0x0, 1, 0x0, false, 0x0, [(.rw, 0xFDFFFFFF)]⟩,
  ⟨0x054, 1, 0x0, 1, 0x0, false, 0x0, [(.rw, 0xFFFF0FFF)]⟩,
  ⟨0x058, 1, 0x0, 1, 0x0, false, 0x0, [(.rw, 0xFFFFFFFF)]⟩,
  ⟨0x05C, 1, 0x0, 1, 0x0, false, 0x0, [(.rw, 0xFF771F1F)]⟩,
  ⟨0x060, 1, 0x0, 1, 0x0, false, 0xE0002000, [(.rw, 0xFFFFFFFF)]⟩,
  ⟨0x064, 1, 0x0, 1, 0x0, false, 0x100400, [(.rw, 0xFFFFFF)]⟩,
  ⟨0x068, 1, 0x0, 1, 0x0, false, 0x0, [(.rw, 0xFFFF)]⟩,
  ⟨0x06C, 1, 0x0, 1, 0x0, false, 0x3E8, [(.rw, 0xFFFF)]⟩,
  ⟨0x070, 1, 0x0, 1, 0x0, false, 0x10000, [(.rw, 0xFFFFFFFF)]⟩,
  ⟨0x074, 1, 0x0, 1, 0x0, false, 0x20000, [(.rw, 0xFFFFFFFF)]⟩,
  ⟨0x078, 1, 0x0, 1, 0x0, false, 0x640010, [(.rw, 0xFFFF00FF)]⟩,
  ⟨0x080, 1, 0x0, 1, 0x0, true, 0x8000000000000000, [(.rw, 0xFFFFFFFFFFFFFFFF)]⟩,
  ⟨0x088, 1, 0x0, 1, 0x0, true, 0x7FFFFFFFFFFFFFFF, [(.rw, 0xFFFFFFFFFFFFFFFF)]⟩,
  ⟨0x090, 1, 0x0, 1, 0x0, true, 0x0, [(.rw, 0xFFFFFFFFFFFFFFFF)]⟩,
  ⟨0x098, 1, 0x0, 1, 0x0, true, 0x0, [(.wo, 0xFFFFFFFFFFFFFFFF)]⟩,
  ⟨0x0A0, 1, 0x0, 1, 0x0, true, 0x0, [(.ro, 0xFFFFFFFFFFFFFFFF)]⟩,
  ⟨0x0A8, 1, 0x0, 1, 0x0, true, 0x0, [(.ro, 0xFFFFFFFFFFFFFFFF)]⟩,
  ⟨0x0B0, 1, 0x0, 1, 0x0, true, 0x0, [(.ro, 0xFFFFFFFFFFFFFFFF)]⟩,
  ⟨0x0B8, 1, 0x0, 1, 0x0, false, 0x0, [(.ro, 0xFFFFFFFF)]⟩,
  ⟨0x0BC, 1, 0x0, 1, 0x0, false, 0x0, [(.ro, 0x1F77FF)]⟩,
  ⟨0x0C0, 1, 0x0, 1, 0x0, false, 0x0, [(.ro, 0xFFFFFFFF)]⟩,
  ⟨0x0C4, 1, 0x0, 1, 0x0, false, 0x0, [(.ro, 0xFFFFFFFF)]⟩,
  ⟨0x0C8, 1, 0x0, 1, 0x0, false, 0x0, [(.ro, 0xFFFFFFFF)]⟩,
  ⟨0x0CC, 1, 0x0, 1, 0x0, false, 0x0, [(.ro, 0xFFF)]⟩,
  ⟨0x0D0, 1, 0x0, 1, 0x0, false, 0x0, [(.ro, 0xFFFFFFFF)]⟩
]

/-- The register table of a SDM page (R225). -/
def rowsSDM : List RegRow := [
  ⟨0x040, 1, 0x0, 1, 0x0, false, 0x14, [(.rw, 0x11F)]⟩,
  ⟨0x044, 1, 0x0, 1, 0x0, false, 0x78000000, [(.rw, 0xFFFFFFFF)]⟩,
  ⟨0x048, 2, 0x4, 1, 0x0, false, 0x0, [(.rw, 0xFFFFFF)]⟩,
  ⟨0x080, 8, 0x10, 1, 0x0, false, 0x0, [(.rw, 0x7FFFFF)]⟩,
  ⟨0x084, 8, 0x10, 1, 0x0, false, 0x0, [(.ro, 0xFFFFFFFF)]⟩,
  ⟨0x088, 8, 0x10, 1, 0x0, false, 0x0, [(.ro, 0x303FFFF)]⟩,
  ⟨0x08C, 8, 0x10, 1, 0x0, false, 0x0, [(.ro, 0xFFFFFFFF)]⟩
]

/-- The register table of a LATCH page (R226). -/
def rowsLATCH : List RegRow := [
  ⟨0x040, 16, 0x4, 1, 0x0, false, 0x0, [(.rw, 0x1FF)]⟩,
  ⟨0x080, 1, 0x0, 1, 0x0, false, 0x0, [(.w1s, 0xFFFF)]⟩,
  ⟨0x084, 1, 0x0, 1, 0x0, false, 0x0, [(.ro, 0xFFFF)]⟩,
  ⟨0x088, 1, 0x0, 1, 0x0, false, 0x0, [(.rw, 0xFFFFFFFF)]⟩,
  ⟨0x08C, 1, 0x0, 1, 0x0, false, 0x0, [(.rw, 0xFFFFFFFF)]⟩,
  ⟨0x090, 1, 0x0, 1, 0x0, false, 0x0, [(.ro, 0xFFFFFFFF)]⟩,
  ⟨0x094, 1, 0x0, 1, 0x0, false, 0x0, [(.rw, 0xFFFFFFFF)]⟩,
  ⟨0x098, 1, 0x0, 1, 0x0, false, 0x0, [(.ro, 0xFFFFFFFF)]⟩,
  ⟨0x0C0, 16, 0x4, 1, 0x0, false, 0x0, [(.ro, 0xFFFFFFFF)]⟩,
  ⟨0x100, 8, 0x10, 1, 0x0, false, 0x0, [(.rw, 0xFF)]⟩,
  ⟨0x104, 8, 0x10, 1, 0x0, false, 0x400, [(.rw, 0x1FFFF)]⟩,
  ⟨0x108, 8, 0x10, 1, 0x0, false, 0x0, [(.rw, 0xFFFFFFFF)]⟩,
  ⟨0x10C, 8, 0x10, 1, 0x0, false, 0x0, [(.ro, 0x3FFFF)]⟩
]

/-- The register table of a ROUTE page (R273). -/
def rowsROUTE : List RegRow := [
  ⟨0x040, 1, 0x0, 1, 0x0, false, 0x0, [(.w1s, 0x7)]⟩,
  ⟨0x044, 1, 0x0, 1, 0x0, false, 0x0, [(.ro, 0x1F)]⟩,
  ⟨0x048, 1, 0x0, 1, 0x0, true, 0x0, [(.rw, 0xFFFFFFFFFFFE0000)]⟩,
  ⟨0x050, 1, 0x0, 1, 0x0, false, 0xFA, [(.rw, 0x3FFF)]⟩,
  ⟨0x058, 1, 0x0, 1, 0x0, false, 0x0, [(.rw, 0xC), (.w1s, 0x3)]⟩,
  ⟨0x05C, 1, 0x0, 1, 0x0, false, 0x0, [(.rw, 0x3FFF1FFF)]⟩,
  ⟨0x060, 1, 0x0, 1, 0x0, false, 0x0, [(.rw, 0x3FFF1FFF)]⟩,
  ⟨0x064, 1, 0x0, 1, 0x0, false, 0x0, [(.ro, 0xFFF37FF)]⟩,
  ⟨0x068, 1, 0x0, 1, 0x0, false, 0x20012000, [(.ro, 0x3FFF3FFF)]⟩,
  ⟨0x06C, 1, 0x0, 1, 0x0, false, 0x0, [(.rw, 0x1FFF)]⟩,
  ⟨0x070, 1, 0x0, 1, 0x0, false, 0x0, [(.ro, 0xBFFF)]⟩,
  ⟨0x074, 1, 0x0, 1, 0x0, false, 0xA, [(.rw, 0xFF)]⟩,
  ⟨0x078, 1, 0x0, 1, 0x0, false, 0x4001000, [(.rw, 0x1FFF1FFF)]⟩,
  ⟨0x07C, 1, 0x0, 1, 0x0, false, 0x0, [(.ro, 0x1FFF)]⟩,
  ⟨0x080, 1, 0x0, 1, 0x0, false, 0x10000, [(.rw, 0xFFFFFFFF)]⟩,
  ⟨0x084, 1, 0x0, 1, 0x0, false, 0x3333, [(.rw, 0xFFFFFFFF)]⟩,
  ⟨0x088, 1, 0x0, 1, 0x0, false, 0x20000, [(.rw, 0xFFFFFFFF)]⟩,
  ⟨0x08C, 1, 0x0, 1, 0x0, false, 0x10000, [(.rw, 0xFFFFFFFF)]⟩,
  ⟨0x090, 1, 0x0, 1, 0x0, false, 0x500, [(.rw, 0xFFFF)]⟩,
  ⟨0x094, 1, 0x0, 1, 0x0, false, 0x80002000, [(.rw, 0xFFFFFFFF)]⟩,
  ⟨0x098, 1, 0x0, 1, 0x0, false, 0x0, [(.rw, 0xFFFFFFFF)]⟩,
  ⟨0x09C, 1, 0x0, 1, 0x0, false, 0x0, [(.rw, 0x1F)]⟩,
  ⟨0x0A0, 1, 0x0, 1, 0x0, false, 0x50000, [(.rw, 0xFFFFFFFF)]⟩,
  ⟨0x0A8, 1, 0x0, 1, 0x0, true, 0x0, [(.ro, 0xFFFFFFFFFFFFFFFF)]⟩,
  ⟨0x0B0, 1, 0x0, 1, 0x0, true, 0x0, [(.wo, 0xFFFFFFFFFFFFFFFF)]⟩,
  ⟨0x0B8, 1, 0x0, 1, 0x0, false, 0x0, [(.ro, 0xFFFFFFFF)]⟩,
  ⟨0x0BC, 1, 0x0, 1, 0x0, false, 0x0, [(.ro, 0x1FFFFFF)]⟩,
  ⟨0x0C0, 1, 0x0, 1, 0x0, false, 0x0, [(.ro, 0xFFFFFFFF)]⟩,
  ⟨0x0C4, 1, 0x0, 1, 0x0, false, 0x0, [(.ro, 0xFFFFFFFF)]⟩,
  ⟨0x0C8, 1, 0x0, 1, 0x0, false, 0x0, [(.ro, 0xFFFFFFFF)]⟩,
  ⟨0x0CC, 1, 0x0, 1, 0x0, false, 0x0, [(.ro, 0xFFFFFFFF)]⟩,
  ⟨0x0D0, 1, 0x0, 1, 0x0, true, 0x0, [(.ro, 0xFFFFFFFFFFFFFFFF)]⟩,
  ⟨0x0D8, 1, 0x0, 1, 0x0, false, 0x0, [(.ro, 0xFFFFFFFF)]⟩,
  ⟨0x0DC, 1, 0x0, 1, 0x0, false, 0x0, [(.ro, 0xFFFFFFFF)]⟩,
  ⟨0x0E0, 1, 0x0, 1, 0x0, false, 0x0, [(.ro, 0xFFFFFFFF)]⟩,
  ⟨0x0E4, 1, 0x0, 1, 0x0, false, 0x0, [(.ro, 0xFFFFFFFF)]⟩,
  ⟨0x100, 24, 0x8, 1, 0x0, false, 0x0, [(.rw, 0x7)]⟩,
  ⟨0x104, 24, 0x8, 1, 0x0, false, 0x0, [(.rw, 0xFFFFFFFF)]⟩
]

/-- The register table of a MIG page (R296). -/
def rowsMIG : List RegRow := [
  ⟨0x040, 1, 0x0, 1, 0x0, false, 0x0, [(.w1s, 0x3)]⟩,
  ⟨0x044, 1, 0x0, 1, 0x0, false, 0x0, [(.ro, 0x73FFF)]⟩,
  ⟨0x048, 1, 0x0, 1, 0x0, false, 0x0, [(.rw, 0x1F3F1F1F)]⟩,
  ⟨0x04C, 1, 0x0, 1, 0x0, false, 0x2, [(.rw, 0xFFFF00FF)]⟩,
  ⟨0x050, 1, 0x0, 1, 0x0, false, 0x0, [(.ro, 0xFFFF)]⟩,
  ⟨0x054, 1, 0x0, 1, 0x0, false, 0x0, [(.ro, 0xFFFFFFFF)]⟩,
  ⟨0x058, 1, 0x0, 1, 0x0, false, 0x0, [(.ro, 0xFFFFFFFF)]⟩,
  ⟨0x05C, 1, 0x0, 1, 0x0, false, 0x0, [(.ro, 0xFFFFFF3F)]⟩,
  ⟨0x060, 1, 0x0, 1, 0x0, false, 0x30000, [(.ro, 0x3FFFF)]⟩,
  ⟨0x064, 1, 0x0, 1, 0x0, false, 0x0, [(.rw, 0x1F)]⟩,
  ⟨0x068, 1, 0x0, 1, 0x0, false, 0x3, [(.rw, 0xF)]⟩,
  ⟨0x070, 1, 0x0, 1, 0x0, true, 0x0, [(.ro, 0xFFFFFFFF00FF9F3F)]⟩,
  ⟨0x078, 1, 0x0, 1, 0x0, false, 0x0, [(.ro, 0xFFFFFFFF)]⟩,
  ⟨0x07C, 1, 0x0, 1, 0x0, false, 0x1, [(.ro, 0xFFFFFFFF)]⟩,
  ⟨0x0C0, 1, 0x0, 1, 0x0, false, 0x0, [(.w1s, 0x3)]⟩,
  ⟨0x0C4, 1, 0x0, 1, 0x0, false, 0x0, [(.ro, 0x3FF)]⟩,
  ⟨0x0C8, 1, 0x0, 1, 0x0, false, 0x0, [(.rw, 0x1F)]⟩,
  ⟨0x0CC, 1, 0x0, 1, 0x0, false, 0x0, [(.ro, 0xF03)]⟩,
  ⟨0x100, 48, 0x4, 1, 0x0, false, 0x0, [(.ro, 0xFFFFFFFF)]⟩
]

/-- The register table of a STW page (R298). -/
def rowsSTW : List RegRow := [
  ⟨0x040, 1, 0x0, 1, 0x0, false, 0x0, [(.w1s, 0x1F)]⟩,
  ⟨0x044, 1, 0x0, 1, 0x0, false, 0x0, [(.ro, 0xF0F), (.rw, 0x10)]⟩,
  ⟨0x048, 1, 0x0, 1, 0x0, false, 0x0, [(.ro, 0x3FF)]⟩,
  ⟨0x04C, 1, 0x0, 1, 0x0, false, 0x0, [(.rw, 0xFFFFFF)]⟩,
  ⟨0x050, 1, 0x0, 1, 0x0, false, 0x0, [(.ro, 0xFFFFFF)]⟩,
  ⟨0x054, 1, 0x0, 1, 0x0, false, 0x0, [(.ro, 0xFFFFFF)]⟩,
  ⟨0x058, 1, 0x0, 1, 0x0, false, 0x0, [(.rw, 0xFFFFFF)]⟩,
  ⟨0x05C, 1, 0x0, 1, 0x0, false, 0x1E, [(.rw, 0xFFFF)]⟩,
  ⟨0x060, 1, 0x0, 1, 0x0, false, 0x0, [(.ro, 0x3FF)]⟩,
  ⟨0x064, 1, 0x0, 1, 0x0, false, 0x0, [(.ro, 0xFFFFFFFF)]⟩,
  ⟨0x068, 1, 0x0, 1, 0x0, false, 0x0, [(.ro, 0xFF)]⟩,
  ⟨0x06C, 1, 0x0, 1, 0x0, false, 0x100000, [(.rw, 0xFFFFFF)]⟩,
  ⟨0x070, 1, 0x0, 1, 0x0, false, 0x0, [(.ro, 0xFFFFFFFF)]⟩,
  ⟨0x074, 1, 0x0, 1, 0x0, false, 0x0, [(.ro, 0xFFFFFF)]⟩
]

/-- The register table of a MEM page (R352). -/
def rowsMEM : List RegRow := [
  ⟨0x040, 1, 0x0, 1, 0x0, false, 0x0, [(.w1s, 0x3)]⟩,
  ⟨0x044, 1, 0x0, 1, 0x0, false, 0x0, [(.ro, 0x3FF)]⟩,
  ⟨0x048, 1, 0x0, 1, 0x0, true, 0x0, [(.rw, 0xFFFFFFFFFFFFFFFF)]⟩,
  ⟨0x050, 1, 0x0, 1, 0x0, true, 0x0, [(.rw, 0xFFFFFFFFFFFFFFFF)]⟩,
  ⟨0x058, 1, 0x0, 1, 0x0, false, 0x100000, [(.rw, 0xFF1F07)]⟩,
  ⟨0x05C, 1, 0x0, 1, 0x0, false, 0x0, [(.ro, 0xFFFFFFFF)]⟩,
  ⟨0x060, 1, 0x0, 1, 0x0, true, 0x0, [(.ro, 0xFFFFFFFFFFFFFFFF)]⟩,
  ⟨0x068, 1, 0x0, 1, 0x0, true, 0x0, [(.ro, 0xFFFFFFFFFFFFFFFF)]⟩,
  ⟨0x070, 1, 0x0, 1, 0x0, true, 0x0, [(.ro, 0x8001FFFFFFFFFFFF)]⟩,
  ⟨0x078, 1, 0x0, 1, 0x0, false, 0x0, [(.ro, 0xFFFFFFFF)]⟩,
  ⟨0x07C, 1, 0x0, 1, 0x0, false, 0x0, [(.ro, 0xFFFFFFFF)]⟩,
  ⟨0x080, 1, 0x0, 1, 0x0, false, 0x20000000, [(.ro, 0x33FFFFFF)]⟩,
  ⟨0x084, 1, 0x0, 1, 0x0, false, 0x0, [(.w1s, 0x3)]⟩,
  ⟨0x088, 1, 0x0, 1, 0x0, false, 0x0, [(.ro, 0x3FF)]⟩,
  ⟨0x08C, 1, 0x0, 1, 0x0, false, 0x0, [(.rw, 0x1F)]⟩,
  ⟨0x090, 1, 0x0, 1, 0x0, false, 0x4000, [(.rw, 0xFF01)]⟩,
  ⟨0x0A0, 1, 0x0, 1, 0x0, true, 0x0, [(.rw, 0xFFFFFFFFFFFFFFFF)]⟩,
  ⟨0x0A8, 1, 0x0, 1, 0x0, true, 0x0, [(.rw, 0xFFFFFFFFFFFFFFFF)]⟩,
  ⟨0x0B0, 1, 0x0, 1, 0x0, false, 0x0, [(.rw, 0x1FFFF)]⟩,
  ⟨0x100, 24, 0x4, 1, 0x0, false, 0x0, [(.ro, 0x1F)]⟩,
  ⟨0x180, 26, 0x4, 1, 0x0, false, 0x0, [(.ro, 0xFFFF)]⟩
]

/-- The register table of a DRAM page (R354). -/
def rowsDRAM : List RegRow := [
  ⟨0x040, 1, 0x0, 1, 0x0, false, 0x0, [(.ro, 0x377)]⟩,
  ⟨0x048, 1, 0x0, 1, 0x0, true, 0x0, [(.ro, 0xFFFFFFFFFFFFFFFF)]⟩,
  ⟨0x050, 1, 0x0, 1, 0x0, true, 0x0, [(.ro, 0xFFFFFFFFFFFFFFFF)]⟩,
  ⟨0x058, 1, 0x0, 1, 0x0, false, 0x0, [(.ro, 0x3FFFF)]⟩,
  ⟨0x05C, 1, 0x0, 1, 0x0, false, 0x0, [(.ro, 0x177)]⟩
]

/-- The register table of a NVM page (R356). -/
def rowsNVM : List RegRow := [
  ⟨0x040, 1, 0x0, 1, 0x0, false, 0x0, [(.ro, 0xFF)]⟩,
  ⟨0x044, 1, 0x0, 1, 0x0, false, 0x0, [(.ro, 0xFFFF73FF)]⟩,
  ⟨0x048, 1, 0x0, 1, 0x0, false, 0x64, [(.ro, 0x3FF)]⟩,
  ⟨0x04C, 1, 0x0, 1, 0x0, false, 0x0, [(.ro, 0xFFFFFFFF)]⟩,
  ⟨0x050, 1, 0x0, 1, 0x0, false, 0x0, [(.ro, 0xFFFFFFFF)]⟩,
  ⟨0x054, 1, 0x0, 1, 0x0, false, 0x0, [(.ro, 0xFF0FFF)]⟩,
  ⟨0x058, 1, 0x0, 1, 0x0, true, 0xB4018B00, [(.ro, 0xFFFFFFFFFFFFFFFF)]⟩,
  ⟨0x060, 1, 0x0, 1, 0x0, false, 0x0, [(.ro, 0xFFFFFFFF)]⟩,
  ⟨0x064, 1, 0x0, 1, 0x0, false, 0x0, [(.ro, 0xFFFF007F)]⟩,
  ⟨0x068, 1, 0x0, 1, 0x0, false, 0x0, [(.ro, 0xFFFFFFFF)]⟩,
  ⟨0x070, 1, 0x0, 1, 0x0, false, 0x0, [(.rw, 0xFFF)]⟩,
  ⟨0x074, 1, 0x0, 1, 0x0, false, 0x0, [(.ro, 0xF3FFFFFF)]⟩
]

/-- The register table of a BAL0 page (R386). -/
def rowsBAL0 : List RegRow := [
  ⟨0x040, 1, 0x0, 1, 0x0, false, 0x0, [(.ro, 0xFF7F)]⟩,
  ⟨0x044, 1, 0x0, 1, 0x0, false, 0x0, [(.ro, 0xFFFFFF)]⟩,
  ⟨0x048, 1, 0x0, 1, 0x0, false, 0x0, [(.ro, 0xFFFFFFFF)]⟩,
  ⟨0x04C, 1, 0x0, 1, 0x0, false, 0x0, [(.ro, 0xFF07)]⟩,
  ⟨0x050, 1, 0x0, 1, 0x0, false, 0xFFFFFF, [(.ro, 0xFFFFFF)]⟩,
  ⟨0x054, 1, 0x0, 1, 0x0, false, 0x0, [(.ro, 0xFFFFFF)]⟩,
  ⟨0x058, 1, 0x0, 1, 0x0, false, 0x0, [(.ro, 0xFFFF)]⟩,
  ⟨0x05C, 1, 0x0, 1, 0x0, false, 0x0, [(.rw, 0xFF)]⟩,
  ⟨0x100, 24, 0x20, 1, 0x0, false, 0x1, [(.ro, 0x1FFF)]⟩,
  ⟨0x104, 24, 0x20, 1, 0x0, false, 0x0, [(.ro, 0xFFFFFFFF)]⟩,
  ⟨0x108, 24, 0x20, 1, 0x0, false, 0x0, [(.ro, 0xFFFFFFFF)]⟩,
  ⟨0x10C, 24, 0x20, 1, 0x0, false, 0x0, [(.ro, 0xFFFFFFFF)]⟩,
  ⟨0x110, 24, 0x20, 1, 0x0, false, 0x0, [(.ro, 0xFFFF)]⟩
]

/-- The register table of a BAL1 page (R387). -/
def rowsBAL1 : List RegRow := [
  ⟨0x040, 1, 0x0, 1, 0x0, false, 0x0, [(.ro, 0xFFFF00F7)]⟩,
  ⟨0x044, 1, 0x0, 1, 0x0, false, 0x0, [(.ro, 0xFFFFFFFF)]⟩,
  ⟨0x048, 1, 0x0, 1, 0x0, false, 0x0, [(.ro, 0xFFFFFFFF)]⟩,
  ⟨0x04C, 1, 0x0, 1, 0x0, false, 0x0, [(.ro, 0xFFFF03FF)]⟩,
  ⟨0x050, 1, 0x0, 1, 0x0, false, 0x0, [(.ro, 0xFFFFFFFF)]⟩,
  ⟨0x054, 1, 0x0, 1, 0x0, false, 0x140A, [(.rws, 0x3F01FFFF)]⟩,
  ⟨0x080, 8, 0x4, 1, 0x0, false, 0x0, [(.rws, 0xF)]⟩,
  ⟨0x200, 24, 0x20, 1, 0x0, false, 0x0, [(.rws, 0x3F3F3F3F)]⟩,
  ⟨0x204, 24, 0x20, 1, 0x0, false, 0x0, [(.rws, 0x3373F3F)]⟩,
  ⟨0x208, 24, 0x20, 1, 0x0, false, 0x0, [(.rws, 0xFFFFFFFF)]⟩,
  ⟨0x20C, 24, 0x20, 1, 0x0, false, 0x0, [(.rws, 0xFFFFFFFF)]⟩,
  ⟨0x210, 24, 0x20, 1, 0x0, false, 0x0, [(.rws, 0xFFFFFFFF)]⟩,
  ⟨0x214, 24, 0x20, 1, 0x0, false, 0x0, [(.rws, 0xFFFFFFFF)]⟩,
  ⟨0x218, 24, 0x20, 1, 0x0, false, 0x0, [(.rws, 0xFFFFFF3F)]⟩,
  ⟨0x21C, 24, 0x20, 1, 0x0, false, 0x10000, [(.rws, 0xFFFFFFFF)]⟩,
  ⟨0x600, 8, 0x20, 1, 0x0, false, 0x0, [(.rws, 0xFFFF03FF)]⟩,
  ⟨0x604, 8, 0x20, 1, 0x0, false, 0x20114, [(.rws, 0xFFFFFF)]⟩,
  ⟨0x608, 8, 0x20, 1, 0x0, false, 0x0, [(.rws, 0xFFFFFFFF)]⟩,
  ⟨0x60C, 8, 0x20, 1, 0x0, false, 0x0, [(.rws, 0x3FFFFFFF)]⟩,
  ⟨0x610, 8, 0x20, 1, 0x0, false, 0x0, [(.rws, 0x3FFFFFFF)]⟩,
  ⟨0x614, 8, 0x20, 1, 0x0, false, 0x0, [(.ro, 0xFFFF0007)]⟩,
  ⟨0x618, 8, 0x20, 1, 0x0, false, 0x0, [(.ro, 0xFFFFFFFF)]⟩,
  ⟨0x61C, 8, 0x20, 1, 0x0, false, 0x0, [(.ro, 0xFFFFFFFF)]⟩
]

/-- The register table of a CAN page (R410). -/
def rowsCAN : List RegRow := [
  ⟨0x040, 1, 0x0, 1, 0x0, false, 0x6401, [(.rw, 0xFFFF)]⟩,
  ⟨0x044, 1, 0x0, 1, 0x0, false, 0x1F3EFC0, [(.rw, 0x7FFFFFF)]⟩,
  ⟨0x048, 1, 0x0, 1, 0x0, false, 0x111A0, [(.rw, 0x3FFFF)]⟩,
  ⟨0x04C, 1, 0x0, 1, 0x0, false, 0x0, [(.rw, 0x1007F)]⟩,
  ⟨0x050, 1, 0x0, 1, 0x0, false, 0x0, [(.ro, 0x7F7F)]⟩,
  ⟨0x054, 1, 0x0, 1, 0x0, false, 0x0, [(.ro, 0xF7FFFF)]⟩,
  ⟨0x058, 1, 0x0, 1, 0x0, false, 0x0, [(.ro, 0xFFFFFFFF)]⟩,
  ⟨0x05C, 1, 0x0, 1, 0x0, false, 0x0, [(.ro, 0xFFFFFFFF)]⟩,
  ⟨0x060, 1, 0x0, 1, 0x0, false, 0x0, [(.ro, 0xFFFFFFFF)]⟩,
  ⟨0x064, 1, 0x0, 1, 0x0, false, 0x0, [(.w1s, 0x1)]⟩,
  ⟨0x068, 1, 0x0, 1, 0x0, false, 0x5, [(.rw, 0xFF)]⟩,
  ⟨0x06C, 1, 0x0, 1, 0x0, false, 0x0, [(.ro, 0xFFF)]⟩,
  ⟨0x070, 4, 0x4, 1, 0x0, false, 0x0, [(.ro, 0xFFFFFFFF)]⟩,
  ⟨0x080, 4, 0x4, 1, 0x0, false, 0x0, [(.ro, 0xFFFFFFFF)]⟩,
  ⟨0x090, 4, 0x4, 1, 0x0, false, 0x0, [(.w1c, 0xFFFFFFFF)]⟩,
  ⟨0x0A0, 1, 0x0, 1, 0x0, false, 0x0, [(.rw, 0xFFFFFFFF)]⟩,
  ⟨0x0A4, 1, 0x0, 1, 0x0, false, 0x64, [(.rw, 0xFFFF)]⟩,
  ⟨0x0C0, 1, 0x0, 1, 0x0, false, 0x0, [(.rw, 0x3F0F1F)]⟩,
  ⟨0x0C4, 1, 0x0, 1, 0x0, false, 0x3E8, [(.rw, 0xFFFF)]⟩,
  ⟨0x0C8, 1, 0x0, 1, 0x0, false, 0x0, [(.rw, 0x3FFFFFFF)]⟩,
  ⟨0x0CC, 1, 0x0, 1, 0x0, false, 0x0, [(.ro, 0xFF0F073F)]⟩,
  ⟨0x0D0, 1, 0x0, 1, 0x0, false, 0x0, [(.ro, 0xFFFFFFFF)]⟩,
  ⟨0x0D4, 1, 0x0, 1, 0x0, false, 0x0, [(.ro, 0xFFFFFFFF)]⟩,
  ⟨0x100, 16, 0x4, 1, 0x0, false, 0x0, [(.rw, 0xFFFF)]⟩,
  ⟨0x140, 1, 0x0, 1, 0x0, false, 0x0, [(.w1s, 0x3)]⟩,
  ⟨0x144, 1, 0x0, 1, 0x0, false, 0x0, [(.ro, 0x103FF)]⟩
]

/-- The register table of a ETH page (R427). -/
def rowsETH : List RegRow := [
  ⟨0x040, 1, 0x0, 1, 0x0, false, 0x0, [(.rw, 0x1)]⟩,
  ⟨0x044, 1, 0x0, 1, 0x0, false, 0x0, [(.ro, 0x37)]⟩,
  ⟨0x048, 1, 0x0, 1, 0x0, true, 0x0, [(.rw, 0xFFFFFFFFFFFF)]⟩,
  ⟨0x050, 1, 0x0, 1, 0x0, false, 0x0, [(.rw, 0xFFFF)]⟩,
  ⟨0x054, 1, 0x0, 1, 0x0, false, 0x0, [(.rw, 0xFFFF)]⟩,
  ⟨0x058, 1, 0x0, 1, 0x0, false, 0x0, [(.rw, 0xFFFFFFFF)]⟩,
  ⟨0x060, 1, 0x0, 1, 0x0, false, 0x0, [(.rw, 0xFFFFFFFF)]⟩,
  ⟨0x064, 1, 0x0, 1, 0x0, false, 0x0, [(.rw, 0xFFFFFFFF)]⟩,
  ⟨0x068, 1, 0x0, 1, 0x0, false, 0x0, [(.ro, 0xFFFFFFFF)]⟩,
  ⟨0x06C, 1, 0x0, 1, 0x0, false, 0x0, [(.rw, 0xFFFFFFFF)]⟩,
  ⟨0x070, 1, 0x0, 1, 0x0, false, 0x0, [(.rw, 0xFFFFFFFF)]⟩,
  ⟨0x074, 1, 0x0, 1, 0x0, false, 0x0, [(.rw, 0xFFFFFFFF)]⟩,
  ⟨0x078, 1, 0x0, 1, 0x0, false, 0x0, [(.rw, 0xFFFFFFFF)]⟩,
  ⟨0x07C, 1, 0x0, 1, 0x0, false, 0x0, [(.ro, 0xFFFFFFFF)]⟩,
  ⟨0x080, 1, 0x0, 1, 0x0, false, 0x0, [(.ro, 0xFFFFFFFF)]⟩,
  ⟨0x084, 1, 0x0, 1, 0x0, false, 0x0, [(.ro, 0xFFFFFFFF)]⟩,
  ⟨0x088, 1, 0x0, 1, 0x0, false, 0x0, [(.ro, 0xFFFFFFFF)]⟩,
  ⟨0x090, 1, 0x0, 1, 0x0, false, 0x0, [(.rw, 0x7FFFFFF), (.ro, 0x80000000), (.w1s, 0x40000000)]⟩
]

/-- The register table of a TIME page (R425). -/
def rowsTIME : List RegRow := [
  ⟨0x040, 4, 0x4, 1, 0x0, false, 0x0, [(.ro, 0xFFFFFFFF)]⟩,
  ⟨0x050, 1, 0x0, 1, 0x0, false, 0x0, [(.ro, 0xFFFF071F)]⟩,
  ⟨0x054, 1, 0x0, 1, 0x0, false, 0xE100A08, [(.rw, 0xFFFFFF1F)]⟩,
  ⟨0x058, 1, 0x0, 1, 0x0, false, 0x0, [(.ro, 0xFFFFFFFF)]⟩,
  ⟨0x05C, 1, 0x0, 1, 0x0, false, 0x0, [(.ro, 0xFFFFFFFF)]⟩,
  ⟨0x060, 4, 0x4, 1, 0x0, false, 0x0, [(.rw, 0xFFFFFFFF)]⟩,
  ⟨0x070, 1, 0x0, 1, 0x0, false, 0x0, [(.w1s, 0x3)]⟩,
  ⟨0x074, 1, 0x0, 1, 0x0, false, 0x0, [(.ro, 0x3FF)]⟩,
  ⟨0x078, 1, 0x0, 1, 0x0, false, 0x0, [(.ro, 0x1FFFF)]⟩,
  ⟨0x080, 2, 0x20, 1, 0x0, false, 0x0, [(.rw, 0xFFFF1FFF)]⟩,
  ⟨0x084, 2, 0x20, 1, 0x0, false, 0x0, [(.ro, 0xFFFF07)]⟩,
  ⟨0x088, 2, 0x20, 1, 0x0, true, 0x0, [(.ro, 0xFFFFFFFFFFFFFFFF)]⟩,
  ⟨0x090, 2, 0x20, 1, 0x0, false, 0x0, [(.ro, 0xFFFFFFFF)]⟩,
  ⟨0x094, 2, 0x20, 1, 0x0, false, 0x0, [(.ro, 0xFFFFFFFF)]⟩,
  ⟨0x098, 2, 0x20, 1, 0x0, false, 0xA080064, [(.rw, 0xFFFFFFFF)]⟩,
  ⟨0x09C, 2, 0x20, 1, 0x0, false, 0x0, [(.ro, 0xFFFFFFFF)]⟩
]

/-- The register table of a ACQ page (R451). -/
def rowsACQ : List RegRow := [
  ⟨0x040, 1, 0x0, 1, 0x0, false, 0x0, [(.w1s, 0x3)]⟩,
  ⟨0x044, 1, 0x0, 1, 0x0, false, 0x0, [(.ro, 0xFFF07FF)]⟩,
  ⟨0x048, 1, 0x0, 1, 0x0, false, 0x0, [(.rw, 0xFFFFFFFF)]⟩,
  ⟨0x04C, 1, 0x0, 1, 0x0, false, 0x0, [(.rw, 0xFFFFFFFF)]⟩,
  ⟨0x050, 1, 0x0, 1, 0x0, false, 0x0, [(.ro, 0xFFFFFFFF)]⟩,
  ⟨0x100, 4, 0x40, 1, 0x0, false, 0x0, [(.rw, 0xFFFF0FFF)]⟩,
  ⟨0x104, 4, 0x40, 1, 0x0, false, 0x1388, [(.rw, 0xFFFFFFFF)]⟩,
  ⟨0x108, 4, 0x40, 1, 0x0, false, 0x0, [(.rw, 0xFFFF)]⟩,
  ⟨0x10C, 4, 0x40, 1, 0x0, false, 0x0, [(.rw, 0xFFFFFF)]⟩,
  ⟨0x110, 4, 0x40, 1, 0x0, false, 0x0, [(.rw, 0x1FFF)]⟩,
  ⟨0x114, 4, 0x40, 1, 0x0, false, 0xA, [(.rw, 0xFF)]⟩,
  ⟨0x118, 4, 0x40, 1, 0x0, false, 0x0, [(.ro, 0xFF031FFF)]⟩,
  ⟨0x11C, 4, 0x40, 1, 0x0, false, 0x0, [(.ro, 0xFFFFFFFF)]⟩,
  ⟨0x400, 4, 0x100, 64, 0x4, false, 0x0, [(.rw, 0xFFFF83FF)]⟩,
  ⟨0x800, 8, 0x80, 1, 0x0, false, 0x0, [(.rw, 0x1FFF)]⟩,
  ⟨0x804, 8, 0x80, 1, 0x0, false, 0x0, [(.ro, 0xFFFFFFFF)]⟩,
  ⟨0x808, 8, 0x80, 1, 0x0, false, 0x0, [(.ro, 0xFFFFFFFF)]⟩,
  ⟨0x810, 8, 0x80, 8, 0xC, false, 0x0, [(.rw, 0xFFFFFFFF)]⟩,
  ⟨0x814, 8, 0x80, 8, 0xC, false, 0x0, [(.rw, 0xFFFFFFFF)]⟩,
  ⟨0x818, 8, 0x80, 8, 0xC, false, 0x0, [(.rw, 0xFFFFFFFF)]⟩
]

/-- The register table of a TRG page (R452). -/
def rowsTRG : List RegRow := [
  ⟨0x040, 1, 0x0, 1, 0x0, false, 0x0, [(.rw, 0x1F7F)]⟩,
  ⟨0x044, 1, 0x0, 1, 0x0, false, 0x0, [(.rw, 0xFF0F03FF)]⟩,
  ⟨0x048, 1, 0x0, 1, 0x0, false, 0x0, [(.rw, 0xFFFFFFFF)]⟩,
  ⟨0x04C, 1, 0x0, 1, 0x0, false, 0x0, [(.rw, 0xFFFFFFFF)]⟩,
  ⟨0x050, 1, 0x0, 1, 0x0, false, 0x0, [(.rw, 0xFFFFFFFF)]⟩,
  ⟨0x054, 1, 0x0, 1, 0x0, false, 0x0, [(.rw, 0xFFFFFFFF)]⟩,
  ⟨0x058, 1, 0x0, 1, 0x0, false, 0x0, [(.w1s, 0x1)]⟩,
  ⟨0x05C, 1, 0x0, 1, 0x0, false, 0x0, [(.ro, 0xFFFFFFFF)]⟩,
  ⟨0x060, 4, 0x4, 1, 0x0, false, 0x0, [(.ro, 0xFFFFFFFF)]⟩
]

/-- The register table of a REC page (R453). -/
def rowsREC : List RegRow := [
  ⟨0x040, 1, 0x0, 1, 0x0, false, 0x3E81021, [(.rw, 0xFFFFFFF3)]⟩,
  ⟨0x044, 1, 0x0, 1, 0x0, false, 0x0, [(.ro, 0x1FF03)]⟩,
  ⟨0x048, 1, 0x0, 1, 0x0, false, 0x0, [(.rw, 0xFFFFFFFF)]⟩,
  ⟨0x04C, 1, 0x0, 1, 0x0, false, 0x0, [(.rw, 0xFFFFFFFF)]⟩,
  ⟨0x050, 1, 0x0, 1, 0x0, false, 0x0, [(.ro, 0xFFFFFFFF)]⟩,
  ⟨0x054, 1, 0x0, 1, 0x0, false, 0x0, [(.rw, 0xFFFFFFFF)]⟩,
  ⟨0x058, 1, 0x0, 1, 0x0, false, 0x0, [(.ro, 0xFFFFFFFF)]⟩,
  ⟨0x05C, 1, 0x0, 1, 0x0, false, 0x0, [(.ro, 0xFFFFFFFF)]⟩,
  ⟨0x060, 1, 0x0, 1, 0x0, false, 0x0, [(.w1s, 0x7)]⟩,
  ⟨0x064, 1, 0x0, 1, 0x0, false, 0x0, [(.ro, 0x3FF)]⟩,
  ⟨0x068, 1, 0x0, 1, 0x0, false, 0x0, [(.ro, 0xFFFFFFFF)]⟩,
  ⟨0x070, 1, 0x0, 1, 0x0, false, 0x0, [(.w1s, 0x3)]⟩,
  ⟨0x074, 1, 0x0, 1, 0x0, false, 0x0, [(.ro, 0x3FF)]⟩,
  ⟨0x078, 1, 0x0, 1, 0x0, false, 0x0, [(.rw, 0xFFF)]⟩,
  ⟨0x07C, 1, 0x0, 1, 0x0, false, 0x0, [(.rw, 0xFFF)]⟩,
  ⟨0x080, 1, 0x0, 1, 0x0, false, 0x0, [(.rw, 0xFFFFFFFF)]⟩,
  ⟨0x100, 16, 0x4, 1, 0x0, false, 0x0, [(.wo, 0xFFFFFFFF)]⟩
]

/-- The register table of a STORE page (R454). -/
def rowsSTORE : List RegRow := [
  ⟨0x040, 1, 0x0, 1, 0x0, false, 0x0, [(.w1s, 0x3F)]⟩,
  ⟨0x044, 1, 0x0, 1, 0x0, false, 0x0, [(.ro, 0x1FFF)]⟩,
  ⟨0x048, 1, 0x0, 1, 0x0, false, 0x0, [(.ro, 0xFF)]⟩,
  ⟨0x050, 1, 0x0, 1, 0x0, false, 0xA0001, [(.rw, 0xFF011F)]⟩,
  ⟨0x058, 1, 0x0, 1, 0x0, true, 0x0, [(.ro, 0xFFFFFFFFFFFFFFFF)]⟩,
  ⟨0x060, 1, 0x0, 1, 0x0, true, 0x0, [(.ro, 0xFFFFFFFFFFFFFFFF)]⟩,
  ⟨0x068, 1, 0x0, 1, 0x0, false, 0x0, [(.ro, 0xFFFFFFFF)]⟩,
  ⟨0x06C, 1, 0x0, 1, 0x0, false, 0x0, [(.ro, 0xFFFFFFFF)]⟩,
  ⟨0x070, 1, 0x0, 1, 0x0, false, 0x3C, [(.rw, 0xFFFF)]⟩,
  ⟨0x100, 16, 0x40, 1, 0x0, false, 0x0, [(.ro, 0xFFF7)]⟩,
  ⟨0x108, 16, 0x40, 1, 0x0, true, 0x0, [(.ro, 0xFFFFFFFFFFFFFFFF)]⟩,
  ⟨0x110, 16, 0x40, 1, 0x0, true, 0x0, [(.ro, 0xFFFFFFFFFFFFFFFF)]⟩,
  ⟨0x118, 16, 0x40, 1, 0x0, false, 0x0, [(.ro, 0xFFFFFFFF)]⟩,
  ⟨0x11C, 16, 0x40, 1, 0x0, false, 0x0, [(.ro, 0xFFFF)]⟩,
  ⟨0x120, 16, 0x40, 1, 0x0, true, 0x0, [(.ro, 0xFFFFFFFFFFFFFFFF)]⟩
]

/-- The register table of a FIO page (R469). -/
def rowsFIO : List RegRow := [
  ⟨0x040, 1, 0x0, 1, 0x0, false, 0x0, [(.w1s, 0xFF07)]⟩,
  ⟨0x044, 1, 0x0, 1, 0x0, false, 0x0, [(.ro, 0xFFF)]⟩,
  ⟨0x048, 1, 0x0, 1, 0x0, false, 0x0, [(.ro, 0xFFFF0F)]⟩,
  ⟨0x04C, 1, 0x0, 1, 0x0, false, 0x305, [(.rw, 0x1FFF)]⟩,
  ⟨0x050, 1, 0x0, 1, 0x0, false, 0x0, [(.ro, 0xFFFF)]⟩,
  ⟨0x054, 1, 0x0, 1, 0x0, false, 0x0, [(.ro, 0xFFFFFFFF)]⟩,
  ⟨0x058, 1, 0x0, 1, 0x0, false, 0x0, [(.ro, 0xFFFFFFFF)]⟩,
  ⟨0x100, 8, 0x40, 1, 0x0, false, 0x0, [(.ro, 0xFFFFFF)]⟩,
  ⟨0x104, 8, 0x40, 1, 0x0, false, 0x0, [(.ro, 0xFFFF)]⟩,
  ⟨0x108, 8, 0x40, 1, 0x0, false, 0x0, [(.rw, 0xFFFFFFFF)]⟩,
  ⟨0x10C, 8, 0x40, 1, 0x0, false, 0x0, [(.ro, 0xFFFFFFFF)]⟩,
  ⟨0x110, 8, 0x40, 1, 0x0, false, 0x0, [(.ro, 0xFFFFFFFF)]⟩,
  ⟨0x114, 8, 0x40, 1, 0x0, false, 0x0, [(.ro, 0xFF)]⟩,
  ⟨0x118, 8, 0x40, 1, 0x0, false, 0x0, [(.ro, 0xFFFFFF3F)]⟩,
  ⟨0x11C, 8, 0x40, 1, 0x0, false, 0x0, [(.ro, 0xFFFFFFFF)]⟩,
  ⟨0x120, 8, 0x40, 4, 0x4, false, 0x0, [(.ro, 0xFFFFFFFF)]⟩,
  ⟨0x800, 8, 0x100, 32, 0x4, false, 0x0, [(.rw, 0xFF3F)]⟩,
  ⟨0x880, 8, 0x100, 32, 0x4, false, 0xC8, [(.rw, 0xFFFFFFFF)]⟩
]

/-- The register table of a DMA page (R76). -/
def rowsDMA : List RegRow := [
  ⟨0x100, 16, 0x40, 1, 0x0, true, 0x0, [(.rw, 0xFFFFFFFFFFFFFFFF)]⟩,
  ⟨0x108, 16, 0x40, 1, 0x0, false, 0x0, [(.w1s, 0x3), (.rw, 0x30)]⟩,
  ⟨0x10C, 16, 0x40, 1, 0x0, false, 0x0, [(.ro, 0xFFFF0FFF)]⟩,
  ⟨0x110, 16, 0x40, 1, 0x0, true, 0x0, [(.ro, 0xFFFFFFFFFFFFFFFF)]⟩,
  ⟨0x118, 16, 0x40, 1, 0x0, false, 0x0, [(.ro, 0xFFFFFFFF)]⟩
]

/-- The register table of a page kind. -/
def PageKind.rows : PageKind → List RegRow
  | .sys => rowsSYS
  | .host => rowsHOST
  | .pwr => rowsPWR
  | .clk => rowsCLK
  | .thm => rowsTHM
  | .newel => rowsNEWEL
  | .hall => rowsHALL
  | .gal => rowsGAL
  | .axis => rowsAXIS
  | .brg => rowsBRG
  | .rzl => rowsRZL
  | .fb => rowsFB
  | .sdm => rowsSDM
  | .latch => rowsLATCH
  | .route => rowsROUTE
  | .mig => rowsMIG
  | .stw => rowsSTW
  | .mem => rowsMEM
  | .dram => rowsDRAM
  | .nvm => rowsNVM
  | .bal0 => rowsBAL0
  | .bal1 => rowsBAL1
  | .can => rowsCAN
  | .eth => rowsETH
  | .time => rowsTIME
  | .acq => rowsACQ
  | .trg => rowsTRG
  | .recorder => rowsREC
  | .store => rowsSTORE
  | .fio => rowsFIO
  | .dma => rowsDMA

end Sys2Proof.Machine
end

