-- ==== Sys2Proof/Machine/Regs.lean ====
section
/-!
DEFINITION. The addresses of the registers: PAGE.REGISTER with the page's instance and the register's indices (R11, R42
and each chapter's register table).  A 64-bit register's address is that of its low word (R12).
-/
namespace Sys2Proof.Machine

/-- Address of the word at `off` in the page of index `p`. -/
def regAt (p off : Nat) : Nat := p * 0x1000 + off

/-- Header register PID of the page of index `p` (R51). -/
def HDR.PID (p : Nat) : Nat := regAt p 0x000
/-- Header register VER of the page of index `p` (R51). -/
def HDR.VER (p : Nat) : Nat := regAt p 0x004
/-- Header register CAP of the page of index `p` (R51). -/
def HDR.CAP (p : Nat) : Nat := regAt p 0x008
/-- Header register CTL of the page of index `p` (R51). -/
def HDR.CTL (p : Nat) : Nat := regAt p 0x00C
/-- Header register STA of the page of index `p` (R51). -/
def HDR.STA (p : Nat) : Nat := regAt p 0x010
/-- Header register FLT of the page of index `p` (R51). -/
def HDR.FLT (p : Nat) : Nat := regAt p 0x014
/-- Header register FLTEN of the page of index `p` (R51). -/
def HDR.FLTEN (p : Nat) : Nat := regAt p 0x018
/-- Header register EVT of the page of index `p` (R51). -/
def HDR.EVT (p : Nat) : Nat := regAt p 0x01C
/-- Header register LOCK of the page of index `p` (R51). -/
def HDR.LOCK (p : Nat) : Nat := regAt p 0x020
/-- Header register SEQ of the page of index `p` (R51). -/
def HDR.SEQ (p : Nat) : Nat := regAt p 0x024
/-- Header register LDISC of the page of index `p` (R51). -/
def HDR.LDISC (p : Nat) : Nat := regAt p 0x028

/-- Page index of SYS (R42). -/
def pgSYS : Nat := 0
/-- Page index of HOST (R42). -/
def pgHOST : Nat := 1
/-- Page index of PWR (R42). -/
def pgPWR : Nat := 2
/-- Page index of CLK (R42). -/
def pgCLK : Nat := 3
/-- Page index of THM (R42). -/
def pgTHM : Nat := 4
/-- Page index of NEWEL (R42). -/
def pgNEWEL : Nat := 5
/-- Page index of HALL[i] (R42). -/
def pgHALL (i : Nat) : Nat := 6 + i
/-- Page index of GAL[i] (R42). -/
def pgGAL (i : Nat) : Nat := 14 + i
/-- Page index of AXIS[i] (R42). -/
def pgAXIS (i : Nat) : Nat := 32 + i
/-- Page index of BRG[i] (R42). -/
def pgBRG (i : Nat) : Nat := 56 + i
/-- Page index of RZL[i] (R42). -/
def pgRZL (i : Nat) : Nat := 104 + i
/-- Page index of FB[i] (R42). -/
def pgFB (i : Nat) : Nat := 112 + i
/-- Page index of SDM[i] (R42). -/
def pgSDM (i : Nat) : Nat := 136 + i
/-- Page index of LATCH (R42). -/
def pgLATCH : Nat := 140
/-- Page index of ROUTE (R42). -/
def pgROUTE : Nat := 141
/-- Page index of MIG (R42). -/
def pgMIG : Nat := 142
/-- Page index of STW (R42). -/
def pgSTW : Nat := 143
/-- Page index of MEM (R42). -/
def pgMEM : Nat := 144
/-- Page index of DRAM (R42). -/
def pgDRAM : Nat := 145
/-- Page index of NVM (R42). -/
def pgNVM : Nat := 146
/-- Page index of BAL0 (R42). -/
def pgBAL0 : Nat := 147
/-- Page index of BAL1 (R42). -/
def pgBAL1 : Nat := 148
/-- Page index of CAN[i] (R42). -/
def pgCAN (i : Nat) : Nat := 149 + i
/-- Page index of ETH[i] (R42). -/
def pgETH (i : Nat) : Nat := 157 + i
/-- Page index of TIME (R42). -/
def pgTIME : Nat := 159
/-- Page index of ACQ (R42). -/
def pgACQ : Nat := 160
/-- Page index of TRG[i] (R42). -/
def pgTRG (i : Nat) : Nat := 161 + i
/-- Page index of REC (R42). -/
def pgREC : Nat := 165
/-- Page index of STORE[i] (R42). -/
def pgSTORE (i : Nat) : Nat := 166 + i
/-- Page index of FIO[i] (R42). -/
def pgFIO (i : Nat) : Nat := 168 + i
/-- Page index of DMA (R42). -/
def pgDMA : Nat := 170

/-- SYS.CAPS (R498). -/
def SYS.CAPS : Nat := regAt pgSYS 0x040
/-- SYS.HOSTFLT (R498). -/
def SYS.HOSTFLT : Nat := regAt pgSYS 0x048
/-- SYS.MODE (R498). -/
def SYS.MODE : Nat := regAt pgSYS 0x04C
/-- SYS.MODEREQ (R498). -/
def SYS.MODEREQ : Nat := regAt pgSYS 0x050
/-- SYS.MODESTA (R498). -/
def SYS.MODESTA : Nat := regAt pgSYS 0x054
/-- SYS.OPTIME (R498). -/
def SYS.OPTIME : Nat := regAt pgSYS 0x058
/-- SYS.PCYCLE (R498). -/
def SYS.PCYCLE : Nat := regAt pgSYS 0x060
/-- SYS.MODECFG (R498). -/
def SYS.MODECFG : Nat := regAt pgSYS 0x064
/-- SYS.QUIETAX (R498). -/
def SYS.QUIETAX : Nat := regAt pgSYS 0x068
/-- SYS.QUIETSPD (R498). -/
def SYS.QUIETSPD : Nat := regAt pgSYS 0x06C
/-- SYS.LIMPAX (R498). -/
def SYS.LIMPAX : Nat := regAt pgSYS 0x070
/-- SYS.LIMPCFG (R498). -/
def SYS.LIMPCFG : Nat := regAt pgSYS 0x074
/-- SYS.HOLDCNT (R498). -/
def SYS.HOLDCNT (n : Nat) : Nat := regAt pgSYS (0x080 + 0x4 * n)
/-- HOST.LINK (R79). -/
def HOST.LINK : Nat := regAt pgHOST 0x040
/-- HOST.WAKECAUSE (R79). -/
def HOST.WAKECAUSE : Nat := regAt pgHOST 0x044
/-- HOST.WAKEEN (R79). -/
def HOST.WAKEEN : Nat := regAt pgHOST 0x048
/-- HOST.RESET (R79). -/
def HOST.RESET : Nat := regAt pgHOST 0x04C
/-- HOST.SPICFG (R79). -/
def HOST.SPICFG : Nat := regAt pgHOST 0x050
/-- HOST.ERRADDR (R79). -/
def HOST.ERRADDR : Nat := regAt pgHOST 0x058
/-- HOST.IVEC (R79). -/
def HOST.IVEC (n : Nat) : Nat := regAt pgHOST (0x100 + 0x4 * n)
/-- HOST.MSIX (R79). -/
def HOST.MSIX (n : Nat) : Nat := regAt pgHOST (0x800 + 0x4 * n)
/-- HOST.PBA (R79). -/
def HOST.PBA : Nat := regAt pgHOST 0xC00
/-- PWR.SUPSTA (R499). -/
def PWR.SUPSTA : Nat := regAt pgPWR 0x040
/-- PWR.SELSTA (R499). -/
def PWR.SELSTA : Nat := regAt pgPWR 0x044
/-- PWR.PWRCFG (R499). -/
def PWR.PWRCFG : Nat := regAt pgPWR 0x048
/-- PWR.SWCTL (R499). -/
def PWR.SWCTL : Nat := regAt pgPWR 0x04C
/-- PWR.SWSTA (R499). -/
def PWR.SWSTA : Nat := regAt pgPWR 0x050
/-- PWR.SWCNT (R499). -/
def PWR.SWCNT : Nat := regAt pgPWR 0x054
/-- PWR.SWLAST (R499). -/
def PWR.SWLAST : Nat := regAt pgPWR 0x058
/-- PWR.WAKETMR (R499). -/
def PWR.WAKETMR : Nat := regAt pgPWR 0x05C
/-- PWR.PEST (R499). -/
def PWR.PEST : Nat := regAt pgPWR 0x060
/-- CLK.REFSTA (R500). -/
def CLK.REFSTA : Nat := regAt pgCLK 0x040
/-- CLK.REFCFG (R500). -/
def CLK.REFCFG : Nat := regAt pgCLK 0x044
/-- CLK.REFDIFF (R500). -/
def CLK.REFDIFF : Nat := regAt pgCLK 0x048
/-- CLK.REFCNT (R500). -/
def CLK.REFCNT : Nat := regAt pgCLK 0x04C
/-- CLK.DOMSTA (R500). -/
def CLK.DOMSTA : Nat := regAt pgCLK 0x050
/-- CLK.FSTART (R500). -/
def CLK.FSTART : Nat := regAt pgCLK 0x054
/-- THM.TJMAX (R501). -/
def THM.TJMAX : Nat := regAt pgTHM 0x040
/-- THM.TSTEP (R501). -/
def THM.TSTEP : Nat := regAt pgTHM 0x044
/-- THM.TCFG (R501). -/
def THM.TCFG : Nat := regAt pgTHM 0x048
/-- THM.STEPCNT (R501). -/
def THM.STEPCNT : Nat := regAt pgTHM 0x04C
/-- THM.SDSTA (R501). -/
def THM.SDSTA : Nat := regAt pgTHM 0x050
/-- THM.TJ (R501). -/
def THM.TJ (n : Nat) : Nat := regAt pgTHM (0x080 + 0x4 * n)
/-- THM.HK (R501). -/
def THM.HK (n : Nat) : Nat := regAt pgTHM (0x100 + 0x4 * n)
/-- THM.DRT (R501). -/
def THM.DRT (n : Nat) : Nat := regAt pgTHM (0x300 + 0x4 * n)
/-- THM.DRTACT (R501). -/
def THM.DRTACT (n : Nat) : Nat := regAt pgTHM (0x380 + 0x4 * n)
/-- THM.DINV (R501). -/
def THM.DINV : Nat := regAt pgTHM 0x400
/-- NEWEL.BOOTSTA (R322). -/
def NEWEL.BOOTSTA : Nat := regAt pgNEWEL 0x040
/-- NEWEL.SVNMIN (R322). -/
def NEWEL.SVNMIN : Nat := regAt pgNEWEL 0x044
/-- NEWEL.SETAVER (R322). -/
def NEWEL.SETAVER : Nat := regAt pgNEWEL 0x048
/-- NEWEL.SETBVER (R322). -/
def NEWEL.SETBVER : Nat := regAt pgNEWEL 0x04C
/-- NEWEL.KEYSTA (R322). -/
def NEWEL.KEYSTA : Nat := regAt pgNEWEL 0x050
/-- NEWEL.FWLAST (R322). -/
def NEWEL.FWLAST : Nat := regAt pgNEWEL 0x058
/-- NEWEL.FWCNT (R322). -/
def NEWEL.FWCNT : Nat := regAt pgNEWEL 0x060
/-- NEWEL.MBXSTA (R322). -/
def NEWEL.MBXSTA : Nat := regAt pgNEWEL 0x064
/-- NEWEL.CALLCNT (R322). -/
def NEWEL.CALLCNT : Nat := regAt pgNEWEL 0x068
/-- NEWEL.IMGVALID (R322). -/
def NEWEL.IMGVALID : Nat := regAt pgNEWEL 0x06C
/-- NEWEL.RECOV (R322). -/
def NEWEL.RECOV : Nat := regAt pgNEWEL 0x070
/-- NEWEL.RECOVSTA (R322). -/
def NEWEL.RECOVSTA : Nat := regAt pgNEWEL 0x074
/-- NEWEL.IMG (R322). -/
def NEWEL.IMG (n m : Nat) : Nat := regAt pgNEWEL (0x080 + 0x10 * n + 0x4 * m)
/-- NEWEL.FWR_BASE (R322). -/
def NEWEL.FWR_BASE (n : Nat) : Nat := regAt pgNEWEL (0x800 + 0x20 * n)
/-- NEWEL.FWR_SIZE (R322). -/
def NEWEL.FWR_SIZE (n : Nat) : Nat := regAt pgNEWEL (0x808 + 0x20 * n)
/-- NEWEL.FWR_ATTR (R322). -/
def NEWEL.FWR_ATTR (n : Nat) : Nat := regAt pgNEWEL (0x80C + 0x20 * n)
/-- NEWEL.FWR_MASK (R322). -/
def NEWEL.FWR_MASK (n : Nat) : Nat := regAt pgNEWEL (0x810 + 0x20 * n)
/-- HALL.CLKREQ (R324). -/
def HALL.CLKREQ (i : Nat) : Nat := regAt (pgHALL i) 0x040
/-- HALL.CLKSTA (R324). -/
def HALL.CLKSTA (i : Nat) : Nat := regAt (pgHALL i) 0x044
/-- HALL.IMGSLOT (R324). -/
def HALL.IMGSLOT (i : Nat) : Nat := regAt (pgHALL i) 0x048
/-- HALL.TRAPSTA (R324). -/
def HALL.TRAPSTA (i : Nat) : Nat := regAt (pgHALL i) 0x04C
/-- HALL.TRAPPC (R324). -/
def HALL.TRAPPC (i : Nat) : Nat := regAt (pgHALL i) 0x050
/-- HALL.TRAPADDR (R324). -/
def HALL.TRAPADDR (i : Nat) : Nat := regAt (pgHALL i) 0x058
/-- HALL.WINSTA (R324). -/
def HALL.WINSTA (i : Nat) : Nat := regAt (pgHALL i) 0x060
/-- HALL.WINCNT (R324). -/
def HALL.WINCNT (i : Nat) : Nat := regAt (pgHALL i) 0x064
/-- HALL.UTIL (R324). -/
def HALL.UTIL (i : Nat) : Nat := regAt (pgHALL i) 0x068
/-- HALL.PXCTL (R324). -/
def HALL.PXCTL (i : Nat) : Nat := regAt (pgHALL i) 0x080
/-- HALL.PXSTA (R324). -/
def HALL.PXSTA (i : Nat) : Nat := regAt (pgHALL i) 0x084
/-- HALL.PXADDR (R324). -/
def HALL.PXADDR (i : Nat) : Nat := regAt (pgHALL i) 0x088
/-- HALL.PXLEN (R324). -/
def HALL.PXLEN (i : Nat) : Nat := regAt (pgHALL i) 0x090
/-- HALL.PXCNT (R324). -/
def HALL.PXCNT (i : Nat) : Nat := regAt (pgHALL i) 0x098
/-- HALL.PXSCAN (R324). -/
def HALL.PXSCAN (i : Nat) : Nat := regAt (pgHALL i) 0x0A0
/-- HALL.PXVER (R324). -/
def HALL.PXVER (i : Nat) : Nat := regAt (pgHALL i) 0x0A4
/-- HALL.SCANCNT (R324). -/
def HALL.SCANCNT (i : Nat) : Nat := regAt (pgHALL i) 0x0A8
/-- GAL.ASTAT (R120). -/
def GAL.ASTAT (i : Nat) : Nat := regAt (pgGAL i) 0x040
/-- GAL.TRAPEN (R120). -/
def GAL.TRAPEN (i : Nat) : Nat := regAt (pgGAL i) 0x044
/-- GAL.XINFO (R120). -/
def GAL.XINFO (i : Nat) : Nat := regAt (pgGAL i) 0x048
/-- GAL.XPC (R120). -/
def GAL.XPC (i : Nat) : Nat := regAt (pgGAL i) 0x04C
/-- GAL.XADDR (R120). -/
def GAL.XADDR (i : Nat) : Nat := regAt (pgGAL i) 0x050
/-- GAL.CLKSTA (R120). -/
def GAL.CLKSTA (i : Nat) : Nat := regAt (pgGAL i) 0x054
/-- GAL.DOORBELL (R120). -/
def GAL.DOORBELL (i : Nat) : Nat := regAt (pgGAL i) 0x058
/-- GAL.SCHCTL (R120). -/
def GAL.SCHCTL (i : Nat) : Nat := regAt (pgGAL i) 0x060
/-- GAL.SCHSTA (R120). -/
def GAL.SCHSTA (i : Nat) : Nat := regAt (pgGAL i) 0x064
/-- GAL.UTIL (R120). -/
def GAL.UTIL (i : Nat) : Nat := regAt (pgGAL i) 0x068
/-- GAL.IRQLAT (R120). -/
def GAL.IRQLAT (i : Nat) : Nat := regAt (pgGAL i) 0x06C
/-- GAL.TREADCNT (R120). -/
def GAL.TREADCNT (i : Nat) : Nat := regAt (pgGAL i) 0x070
/-- GAL.MISSCNT (R120). -/
def GAL.MISSCNT (i : Nat) : Nat := regAt (pgGAL i) 0x078
/-- GAL.PLANCNT (R120). -/
def GAL.PLANCNT (i : Nat) : Nat := regAt (pgGAL i) 0x07C
/-- GAL.SLOT_SBR (R120). -/
def GAL.SLOT_SBR (i n : Nat) : Nat := regAt (pgGAL i) (0x080 + 0x20 * n)
/-- GAL.SLOT_ENTRY (R120). -/
def GAL.SLOT_ENTRY (i n : Nat) : Nat := regAt (pgGAL i) (0x084 + 0x20 * n)
/-- GAL.SLOT_BUDGET (R120). -/
def GAL.SLOT_BUDGET (i n : Nat) : Nat := regAt (pgGAL i) (0x088 + 0x20 * n)
/-- GAL.SLOT_SDL (R120). -/
def GAL.SLOT_SDL (i n : Nat) : Nat := regAt (pgGAL i) (0x08C + 0x20 * n)
/-- GAL.SLOT_CDL (R120). -/
def GAL.SLOT_CDL (i n : Nat) : Nat := regAt (pgGAL i) (0x090 + 0x20 * n)
/-- GAL.SLOT_CYCMAX (R120). -/
def GAL.SLOT_CYCMAX (i n : Nat) : Nat := regAt (pgGAL i) (0x094 + 0x20 * n)
/-- GAL.SLOT_ACTIVE (R120). -/
def GAL.SLOT_ACTIVE (i n : Nat) : Nat := regAt (pgGAL i) (0x098 + 0x20 * n)
/-- GAL.COEFW (R120). -/
def GAL.COEFW (i : Nat) : Nat := regAt (pgGAL i) 0x140
/-- GAL.COEFQ (R120). -/
def GAL.COEFQ (i : Nat) : Nat := regAt (pgGAL i) 0x148
/-- GAL.COEFAPP (R120). -/
def GAL.COEFAPP (i : Nat) : Nat := regAt (pgGAL i) 0x14C
/-- GAL.STATEBASE (R120). -/
def GAL.STATEBASE (i : Nat) : Nat := regAt (pgGAL i) 0x150
/-- GAL.STATELEN (R120). -/
def GAL.STATELEN (i : Nat) : Nat := regAt (pgGAL i) 0x154
/-- GAL.SUPWIN (R120). -/
def GAL.SUPWIN (i n : Nat) : Nat := regAt (pgGAL i) (0x160 + 0x4 * n)
/-- GAL.SUPCFG (R120). -/
def GAL.SUPCFG (i n : Nat) : Nat := regAt (pgGAL i) (0x180 + 0x4 * n)
/-- GAL.SUPCNT (R120). -/
def GAL.SUPCNT (i n : Nat) : Nat := regAt (pgGAL i) (0x1A0 + 0x4 * n)
/-- GAL.TRCTL (R120). -/
def GAL.TRCTL (i : Nat) : Nat := regAt (pgGAL i) 0x200
/-- GAL.TRCFG (R120). -/
def GAL.TRCFG (i : Nat) : Nat := regAt (pgGAL i) 0x204
/-- GAL.TRTRIG (R120). -/
def GAL.TRTRIG (i : Nat) : Nat := regAt (pgGAL i) 0x208
/-- GAL.TRTHR (R120). -/
def GAL.TRTHR (i : Nat) : Nat := regAt (pgGAL i) 0x20C
/-- GAL.TRPOST (R120). -/
def GAL.TRPOST (i : Nat) : Nat := regAt (pgGAL i) 0x210
/-- GAL.TRSTA (R120). -/
def GAL.TRSTA (i : Nat) : Nat := regAt (pgGAL i) 0x214
/-- GAL.TRPTR (R120). -/
def GAL.TRPTR (i : Nat) : Nat := regAt (pgGAL i) 0x218
/-- GAL.TRGAP (R120). -/
def GAL.TRGAP (i : Nat) : Nat := regAt (pgGAL i) 0x21C
/-- GAL.TRMBASE (R120). -/
def GAL.TRMBASE (i : Nat) : Nat := regAt (pgGAL i) 0x220
/-- GAL.TRMSIZE (R120). -/
def GAL.TRMSIZE (i : Nat) : Nat := regAt (pgGAL i) 0x224
/-- GAL.TRSEL (R120). -/
def GAL.TRSEL (i n : Nat) : Nat := regAt (pgGAL i) (0x240 + 0x4 * n)
/-- AXIS.AXCFG (R253). -/
def AXIS.AXCFG (i : Nat) : Nat := regAt (pgAXIS i) 0x040
/-- AXIS.AXSTA (R253). -/
def AXIS.AXSTA (i : Nat) : Nat := regAt (pgAXIS i) 0x044
/-- AXIS.MVCTL (R253). -/
def AXIS.MVCTL (i : Nat) : Nat := regAt (pgAXIS i) 0x048
/-- AXIS.MVSTA (R253). -/
def AXIS.MVSTA (i : Nat) : Nat := regAt (pgAXIS i) 0x04C
/-- AXIS.TARGET (R253). -/
def AXIS.TARGET (i : Nat) : Nat := regAt (pgAXIS i) 0x050
/-- AXIS.CMDPOS (R253). -/
def AXIS.CMDPOS (i : Nat) : Nat := regAt (pgAXIS i) 0x058
/-- AXIS.ACTPOS (R253). -/
def AXIS.ACTPOS (i : Nat) : Nat := regAt (pgAXIS i) 0x060
/-- AXIS.REMAIN (R253). -/
def AXIS.REMAIN (i : Nat) : Nat := regAt (pgAXIS i) 0x068
/-- AXIS.VMAX (R253). -/
def AXIS.VMAX (i : Nat) : Nat := regAt (pgAXIS i) 0x070
/-- AXIS.AMAX (R253). -/
def AXIS.AMAX (i : Nat) : Nat := regAt (pgAXIS i) 0x074
/-- AXIS.DMAX (R253). -/
def AXIS.DMAX (i : Nat) : Nat := regAt (pgAXIS i) 0x078
/-- AXIS.JMAX (R253). -/
def AXIS.JMAX (i : Nat) : Nat := regAt (pgAXIS i) 0x07C
/-- AXIS.STOPDEC (R253). -/
def AXIS.STOPDEC (i : Nat) : Nat := regAt (pgAXIS i) 0x080
/-- AXIS.STOPCFG (R253). -/
def AXIS.STOPCFG (i : Nat) : Nat := regAt (pgAXIS i) 0x084
/-- AXIS.CMDSPD (R253). -/
def AXIS.CMDSPD (i : Nat) : Nat := regAt (pgAXIS i) 0x088
/-- AXIS.ACTSPD (R253). -/
def AXIS.ACTSPD (i : Nat) : Nat := regAt (pgAXIS i) 0x08C
/-- AXIS.DEVWIN (R253). -/
def AXIS.DEVWIN (i : Nat) : Nat := regAt (pgAXIS i) 0x090
/-- AXIS.DEVCFG (R253). -/
def AXIS.DEVCFG (i : Nat) : Nat := regAt (pgAXIS i) 0x094
/-- AXIS.DEV (R253). -/
def AXIS.DEV (i : Nat) : Nat := regAt (pgAXIS i) 0x098
/-- AXIS.DEVMAX (R253). -/
def AXIS.DEVMAX (i : Nat) : Nat := regAt (pgAXIS i) 0x09C
/-- AXIS.GEARSRC (R253). -/
def AXIS.GEARSRC (i : Nat) : Nat := regAt (pgAXIS i) 0x0A0
/-- AXIS.GNUM (R253). -/
def AXIS.GNUM (i : Nat) : Nat := regAt (pgAXIS i) 0x0A4
/-- AXIS.GDEN (R253). -/
def AXIS.GDEN (i : Nat) : Nat := regAt (pgAXIS i) 0x0A8
/-- AXIS.TLIMP (R253). -/
def AXIS.TLIMP (i : Nat) : Nat := regAt (pgAXIS i) 0x0B0
/-- AXIS.TLIMN (R253). -/
def AXIS.TLIMN (i : Nat) : Nat := regAt (pgAXIS i) 0x0B4
/-- AXIS.TLIMACT (R253). -/
def AXIS.TLIMACT (i : Nat) : Nat := regAt (pgAXIS i) 0x0B8
/-- AXIS.BEMFMIN (R253). -/
def AXIS.BEMFMIN (i : Nat) : Nat := regAt (pgAXIS i) 0x0C0
/-- AXIS.SLIPCFG (R253). -/
def AXIS.SLIPCFG (i : Nat) : Nat := regAt (pgAXIS i) 0x0C4
/-- AXIS.ESTSPD (R253). -/
def AXIS.ESTSPD (i : Nat) : Nat := regAt (pgAXIS i) 0x0C8
/-- AXIS.LOADANG (R253). -/
def AXIS.LOADANG (i : Nat) : Nat := regAt (pgAXIS i) 0x0CC
/-- AXIS.IFSTART (R253). -/
def AXIS.IFSTART (i : Nat) : Nat := regAt (pgAXIS i) 0x0D0
/-- AXIS.UNDERCNT (R253). -/
def AXIS.UNDERCNT (i : Nat) : Nat := regAt (pgAXIS i) 0x0D4
/-- AXIS.SPDSET (R253). -/
def AXIS.SPDSET (i : Nat) : Nat := regAt (pgAXIS i) 0x0E0
/-- AXIS.TRQSET (R253). -/
def AXIS.TRQSET (i : Nat) : Nat := regAt (pgAXIS i) 0x0E4
/-- BRG.ASSIGN (R155). -/
def BRG.ASSIGN (i : Nat) : Nat := regAt (pgBRG i) 0x040
/-- BRG.XFERCTL (R155). -/
def BRG.XFERCTL (i : Nat) : Nat := regAt (pgBRG i) 0x044
/-- BRG.XFERSTA (R155). -/
def BRG.XFERSTA (i : Nat) : Nat := regAt (pgBRG i) 0x048
/-- BRG.REGSTA (R155). -/
def BRG.REGSTA (i : Nat) : Nat := regAt (pgBRG i) 0x04C
/-- BRG.TREADCNT (R155). -/
def BRG.TREADCNT (i : Nat) : Nat := regAt (pgBRG i) 0x050
/-- BRG.PERACT (R155). -/
def BRG.PERACT (i : Nat) : Nat := regAt (pgBRG i) 0x058
/-- BRG.FORCESTA (R155). -/
def BRG.FORCESTA (i : Nat) : Nat := regAt (pgBRG i) 0x05C
/-- BRG.CNT1 (R155). -/
def BRG.CNT1 (i : Nat) : Nat := regAt (pgBRG i) 0x060
/-- BRG.CNT2 (R155). -/
def BRG.CNT2 (i : Nat) : Nat := regAt (pgBRG i) 0x064
/-- BRG.SH_PERIOD (R155). -/
def BRG.SH_PERIOD (i : Nat) : Nat := regAt (pgBRG i) 0x080
/-- BRG.SH_CARRIER (R155). -/
def BRG.SH_CARRIER (i : Nat) : Nat := regAt (pgBRG i) 0x084
/-- BRG.SH_DEADT (R155). -/
def BRG.SH_DEADT (i : Nat) : Nat := regAt (pgBRG i) 0x088
/-- BRG.SH_MINPW (R155). -/
def BRG.SH_MINPW (i : Nat) : Nat := regAt (pgBRG i) 0x08C
/-- BRG.SH_REFRESH (R155). -/
def BRG.SH_REFRESH (i : Nat) : Nat := regAt (pgBRG i) 0x090
/-- BRG.SHADOW (R155). -/
def BRG.SHADOW (i : Nat) : Nat := regAt (pgBRG i) 0x098
/-- BRG.SH_REG (R155). -/
def BRG.SH_REG (i : Nat) : Nat := regAt (pgBRG i) 0x0A0
/-- BRG.SH_Q2S (R155). -/
def BRG.SH_Q2S (i : Nat) : Nat := regAt (pgBRG i) 0x0A4
/-- BRG.SH_S2Q (R155). -/
def BRG.SH_S2Q (i : Nat) : Nat := regAt (pgBRG i) 0x0A8
/-- BRG.SH_Q2S_QM (R155). -/
def BRG.SH_Q2S_QM (i : Nat) : Nat := regAt (pgBRG i) 0x0AC
/-- BRG.SH_S2Q_QM (R155). -/
def BRG.SH_S2Q_QM (i : Nat) : Nat := regAt (pgBRG i) 0x0B0
/-- BRG.SH_DITHER (R155). -/
def BRG.SH_DITHER (i : Nat) : Nat := regAt (pgBRG i) 0x0B4
/-- BRG.SH_MOD (R155). -/
def BRG.SH_MOD (i : Nat) : Nat := regAt (pgBRG i) 0x0B8
/-- BRG.SH_SYNC (R155). -/
def BRG.SH_SYNC (i : Nat) : Nat := regAt (pgBRG i) 0x0BC
/-- BRG.SH_RN (R155). -/
def BRG.SH_RN (i : Nat) : Nat := regAt (pgBRG i) 0x0C0
/-- BRG.SH_LDN (R155). -/
def BRG.SH_LDN (i : Nat) : Nat := regAt (pgBRG i) 0x0C4
/-- BRG.SH_LQN (R155). -/
def BRG.SH_LQN (i : Nat) : Nat := regAt (pgBRG i) 0x0C8
/-- BRG.SH_PSIN (R155). -/
def BRG.SH_PSIN (i : Nat) : Nat := regAt (pgBRG i) 0x0CC
/-- BRG.SH_MACH (R155). -/
def BRG.SH_MACH (i : Nat) : Nat := regAt (pgBRG i) 0x0D0
/-- BRG.SH_VBOOST (R155). -/
def BRG.SH_VBOOST (i : Nat) : Nat := regAt (pgBRG i) 0x0E0
/-- BRG.SH_KV (R155). -/
def BRG.SH_KV (i : Nat) : Nat := regAt (pgBRG i) 0x0E4
/-- BRG.SH_VILIM (R155). -/
def BRG.SH_VILIM (i : Nat) : Nat := regAt (pgBRG i) 0x0E8
/-- BRG.SH_SSTHR (R155). -/
def BRG.SH_SSTHR (i : Nat) : Nat := regAt (pgBRG i) 0x0F0
/-- BRG.SH_HOLD (R155). -/
def BRG.SH_HOLD (i : Nat) : Nat := regAt (pgBRG i) 0x0F4
/-- BRG.SH_CMP (R155). -/
def BRG.SH_CMP (i n : Nat) : Nat := regAt (pgBRG i) (0x100 + 0x4 * n)
/-- BRG.FORCE (R155). -/
def BRG.FORCE (i : Nat) : Nat := regAt (pgBRG i) 0x140
/-- BRG.ACT_PERIOD (R155). -/
def BRG.ACT_PERIOD (i : Nat) : Nat := regAt (pgBRG i) 0x280
/-- BRG.ACT_CARRIER (R155). -/
def BRG.ACT_CARRIER (i : Nat) : Nat := regAt (pgBRG i) 0x284
/-- BRG.ACT_DEADT (R155). -/
def BRG.ACT_DEADT (i : Nat) : Nat := regAt (pgBRG i) 0x288
/-- BRG.ACT_MINPW (R155). -/
def BRG.ACT_MINPW (i : Nat) : Nat := regAt (pgBRG i) 0x28C
/-- BRG.ACT_REFRESH (R155). -/
def BRG.ACT_REFRESH (i : Nat) : Nat := regAt (pgBRG i) 0x290
/-- BRG.ACT_SHADOW (R155). -/
def BRG.ACT_SHADOW (i : Nat) : Nat := regAt (pgBRG i) 0x298
/-- BRG.ACT_REG (R155). -/
def BRG.ACT_REG (i : Nat) : Nat := regAt (pgBRG i) 0x2A0
/-- BRG.ACT_Q2S (R155). -/
def BRG.ACT_Q2S (i : Nat) : Nat := regAt (pgBRG i) 0x2A4
/-- BRG.ACT_S2Q (R155). -/
def BRG.ACT_S2Q (i : Nat) : Nat := regAt (pgBRG i) 0x2A8
/-- BRG.ACT_Q2S_QM (R155). -/
def BRG.ACT_Q2S_QM (i : Nat) : Nat := regAt (pgBRG i) 0x2AC
/-- BRG.ACT_S2Q_QM (R155). -/
def BRG.ACT_S2Q_QM (i : Nat) : Nat := regAt (pgBRG i) 0x2B0
/-- BRG.ACT_DITHER (R155). -/
def BRG.ACT_DITHER (i : Nat) : Nat := regAt (pgBRG i) 0x2B4
/-- BRG.ACT_MOD (R155). -/
def BRG.ACT_MOD (i : Nat) : Nat := regAt (pgBRG i) 0x2B8
/-- BRG.ACT_SYNC (R155). -/
def BRG.ACT_SYNC (i : Nat) : Nat := regAt (pgBRG i) 0x2BC
/-- BRG.ACT_RN (R155). -/
def BRG.ACT_RN (i : Nat) : Nat := regAt (pgBRG i) 0x2C0
/-- BRG.ACT_LDN (R155). -/
def BRG.ACT_LDN (i : Nat) : Nat := regAt (pgBRG i) 0x2C4
/-- BRG.ACT_LQN (R155). -/
def BRG.ACT_LQN (i : Nat) : Nat := regAt (pgBRG i) 0x2C8
/-- BRG.ACT_PSIN (R155). -/
def BRG.ACT_PSIN (i : Nat) : Nat := regAt (pgBRG i) 0x2CC
/-- BRG.ACT_MACH (R155). -/
def BRG.ACT_MACH (i : Nat) : Nat := regAt (pgBRG i) 0x2D0
/-- BRG.ACT_VBOOST (R155). -/
def BRG.ACT_VBOOST (i : Nat) : Nat := regAt (pgBRG i) 0x2E0
/-- BRG.ACT_KV (R155). -/
def BRG.ACT_KV (i : Nat) : Nat := regAt (pgBRG i) 0x2E4
/-- BRG.ACT_VILIM (R155). -/
def BRG.ACT_VILIM (i : Nat) : Nat := regAt (pgBRG i) 0x2E8
/-- BRG.ACT_SSTHR (R155). -/
def BRG.ACT_SSTHR (i : Nat) : Nat := regAt (pgBRG i) 0x2F0
/-- BRG.ACT_HOLD (R155). -/
def BRG.ACT_HOLD (i : Nat) : Nat := regAt (pgBRG i) 0x2F4
/-- BRG.ACT_CMP (R155). -/
def BRG.ACT_CMP (i n : Nat) : Nat := regAt (pgBRG i) (0x300 + 0x4 * n)
/-- RZL.RCTL (R192). -/
def RZL.RCTL (i : Nat) : Nat := regAt (pgRZL i) 0x040
/-- RZL.RSTA (R192). -/
def RZL.RSTA (i : Nat) : Nat := regAt (pgRZL i) 0x044
/-- RZL.TOPO (R192). -/
def RZL.TOPO (i : Nat) : Nat := regAt (pgRZL i) 0x048
/-- RZL.PVER (R192). -/
def RZL.PVER (i : Nat) : Nat := regAt (pgRZL i) 0x04C
/-- RZL.LEASETO (R192). -/
def RZL.LEASETO (i : Nat) : Nat := regAt (pgRZL i) 0x050
/-- RZL.MISSCFG (R192). -/
def RZL.MISSCFG (i : Nat) : Nat := regAt (pgRZL i) 0x054
/-- RZL.SCCFG (R192). -/
def RZL.SCCFG (i : Nat) : Nat := regAt (pgRZL i) 0x058
/-- RZL.CALCFG (R192). -/
def RZL.CALCFG (i : Nat) : Nat := regAt (pgRZL i) 0x05C
/-- RZL.LANESTA (R192). -/
def RZL.LANESTA (i : Nat) : Nat := regAt (pgRZL i) 0x060
/-- RZL.LATECNT (R192). -/
def RZL.LATECNT (i : Nat) : Nat := regAt (pgRZL i) 0x064
/-- RZL.CRCCNT (R192). -/
def RZL.CRCCNT (i : Nat) : Nat := regAt (pgRZL i) 0x068
/-- RZL.BLKERR (R192). -/
def RZL.BLKERR (i : Nat) : Nat := regAt (pgRZL i) 0x06C
/-- RZL.REJLAST (R192). -/
def RZL.REJLAST (i : Nat) : Nat := regAt (pgRZL i) 0x070
/-- RZL.REJCNT (R192). -/
def RZL.REJCNT (i : Nat) : Nat := regAt (pgRZL i) 0x078
/-- RZL.PTCTL (R192). -/
def RZL.PTCTL (i : Nat) : Nat := regAt (pgRZL i) 0x0C0
/-- RZL.PTSTA (R192). -/
def RZL.PTSTA (i : Nat) : Nat := regAt (pgRZL i) 0x0C4
/-- RZL.SLOT_SID (R192). -/
def RZL.SLOT_SID (i n : Nat) : Nat := regAt (pgRZL i) (0x100 + 0x20 * n)
/-- RZL.SLOT_SSTA (R192). -/
def RZL.SLOT_SSTA (i n : Nat) : Nat := regAt (pgRZL i) (0x104 + 0x20 * n)
/-- RZL.SLOT_SEPOCH (R192). -/
def RZL.SLOT_SEPOCH (i n : Nat) : Nat := regAt (pgRZL i) (0x108 + 0x20 * n)
/-- RZL.SLOT_SOWNER (R192). -/
def RZL.SLOT_SOWNER (i n : Nat) : Nat := regAt (pgRZL i) (0x10C + 0x20 * n)
/-- RZL.SLOT_SDELAY (R192). -/
def RZL.SLOT_SDELAY (i n : Nat) : Nat := regAt (pgRZL i) (0x110 + 0x20 * n)
/-- RZL.SLOT_SHOLD (R192). -/
def RZL.SLOT_SHOLD (i n : Nat) : Nat := regAt (pgRZL i) (0x114 + 0x20 * n)
/-- RZL.SLOT_SCTRIP (R192). -/
def RZL.SLOT_SCTRIP (i n : Nat) : Nat := regAt (pgRZL i) (0x118 + 0x20 * n)
/-- RZL.SLOT_SCRC (R192). -/
def RZL.SLOT_SCRC (i n : Nat) : Nat := regAt (pgRZL i) (0x11C + 0x20 * n)
/-- FB.FBCFG (R223). -/
def FB.FBCFG (i : Nat) : Nat := regAt (pgFB i) 0x040
/-- FB.LPR (R223). -/
def FB.LPR (i : Nat) : Nat := regAt (pgFB i) 0x044
/-- FB.ZTOL (R223). -/
def FB.ZTOL (i : Nat) : Nat := regAt (pgFB i) 0x048
/-- FB.HALLCFG (R223). -/
def FB.HALLCFG (i : Nat) : Nat := regAt (pgFB i) 0x04C
/-- FB.SSICFG (R223). -/
def FB.SSICFG (i : Nat) : Nat := regAt (pgFB i) 0x050
/-- FB.SSITIM (R223). -/
def FB.SSITIM (i : Nat) : Nat := regAt (pgFB i) 0x054
/-- FB.SSIJUMP (R223). -/
def FB.SSIJUMP (i : Nat) : Nat := regAt (pgFB i) 0x058
/-- FB.RESCFG (R223). -/
def FB.RESCFG (i : Nat) : Nat := regAt (pgFB i) 0x05C
/-- FB.RESAMP (R223). -/
def FB.RESAMP (i : Nat) : Nat := regAt (pgFB i) 0x060
/-- FB.RESTRK (R223). -/
def FB.RESTRK (i : Nat) : Nat := regAt (pgFB i) 0x064
/-- FB.RESPH (R223). -/
def FB.RESPH (i : Nat) : Nat := regAt (pgFB i) 0x068
/-- FB.HALLTO (R223). -/
def FB.HALLTO (i : Nat) : Nat := regAt (pgFB i) 0x06C
/-- FB.SPDLO (R223). -/
def FB.SPDLO (i : Nat) : Nat := regAt (pgFB i) 0x070
/-- FB.SPDHI (R223). -/
def FB.SPDHI (i : Nat) : Nat := regAt (pgFB i) 0x074
/-- FB.SPDWIN (R223). -/
def FB.SPDWIN (i : Nat) : Nat := regAt (pgFB i) 0x078
/-- FB.SOFTLO (R223). -/
def FB.SOFTLO (i : Nat) : Nat := regAt (pgFB i) 0x080
/-- FB.SOFTHI (R223). -/
def FB.SOFTHI (i : Nat) : Nat := regAt (pgFB i) 0x088
/-- FB.ZPOS (R223). -/
def FB.ZPOS (i : Nat) : Nat := regAt (pgFB i) 0x090
/-- FB.POSSET (R223). -/
def FB.POSSET (i : Nat) : Nat := regAt (pgFB i) 0x098
/-- FB.POS (R223). -/
def FB.POS (i : Nat) : Nat := regAt (pgFB i) 0x0A0
/-- FB.COUNT (R223). -/
def FB.COUNT (i : Nat) : Nat := regAt (pgFB i) 0x0A8
/-- FB.ZCAP (R223). -/
def FB.ZCAP (i : Nat) : Nat := regAt (pgFB i) 0x0B0
/-- FB.SPD (R223). -/
def FB.SPD (i : Nat) : Nat := regAt (pgFB i) 0x0B8
/-- FB.FBSTA (R223). -/
def FB.FBSTA (i : Nat) : Nat := regAt (pgFB i) 0x0BC
/-- FB.ERRCNT (R223). -/
def FB.ERRCNT (i : Nat) : Nat := regAt (pgFB i) 0x0C0
/-- FB.SSICNT (R223). -/
def FB.SSICNT (i : Nat) : Nat := regAt (pgFB i) 0x0C4
/-- FB.RESMON (R223). -/
def FB.RESMON (i : Nat) : Nat := regAt (pgFB i) 0x0C8
/-- FB.CFGERR (R223). -/
def FB.CFGERR (i : Nat) : Nat := regAt (pgFB i) 0x0CC
/-- FB.LOSTCNT (R223). -/
def FB.LOSTCNT (i : Nat) : Nat := regAt (pgFB i) 0x0D0
/-- SDM.SDMCLK (R225). -/
def SDM.SDMCLK (i : Nat) : Nat := regAt (pgSDM i) 0x040
/-- SDM.OVRTHR (R225). -/
def SDM.OVRTHR (i : Nat) : Nat := regAt (pgSDM i) 0x044
/-- SDM.EXC (R225). -/
def SDM.EXC (i n : Nat) : Nat := regAt (pgSDM i) (0x048 + 0x4 * n)
/-- SDM.CH_CFG (R225). -/
def SDM.CH_CFG (i n : Nat) : Nat := regAt (pgSDM i) (0x080 + 0x10 * n)
/-- SDM.CH_DATA (R225). -/
def SDM.CH_DATA (i n : Nat) : Nat := regAt (pgSDM i) (0x084 + 0x10 * n)
/-- SDM.CH_STAT (R225). -/
def SDM.CH_STAT (i n : Nat) : Nat := regAt (pgSDM i) (0x088 + 0x10 * n)
/-- SDM.CH_CNT (R225). -/
def SDM.CH_CNT (i n : Nat) : Nat := regAt (pgSDM i) (0x08C + 0x10 * n)
/-- LATCH.LCFG (R226). -/
def LATCH.LCFG (n : Nat) : Nat := regAt pgLATCH (0x040 + 0x4 * n)
/-- LATCH.LARM (R226). -/
def LATCH.LARM : Nat := regAt pgLATCH 0x080
/-- LATCH.LARMSTA (R226). -/
def LATCH.LARMSTA : Nat := regAt pgLATCH 0x084
/-- LATCH.LBASE (R226). -/
def LATCH.LBASE : Nat := regAt pgLATCH 0x088
/-- LATCH.LSIZE (R226). -/
def LATCH.LSIZE : Nat := regAt pgLATCH 0x08C
/-- LATCH.LWR (R226). -/
def LATCH.LWR : Nat := regAt pgLATCH 0x090
/-- LATCH.LRD (R226). -/
def LATCH.LRD : Nat := regAt pgLATCH 0x094
/-- LATCH.LLOST (R226). -/
def LATCH.LLOST : Nat := regAt pgLATCH 0x098
/-- LATCH.LCNT (R226). -/
def LATCH.LCNT (n : Nat) : Nat := regAt pgLATCH (0x0C0 + 0x4 * n)
/-- LATCH.EMU_CFG (R226). -/
def LATCH.EMU_CFG (n : Nat) : Nat := regAt pgLATCH (0x100 + 0x10 * n)
/-- LATCH.EMU_LINES (R226). -/
def LATCH.EMU_LINES (n : Nat) : Nat := regAt pgLATCH (0x104 + 0x10 * n)
/-- LATCH.EMU_ZANG (R226). -/
def LATCH.EMU_ZANG (n : Nat) : Nat := regAt pgLATCH (0x108 + 0x10 * n)
/-- LATCH.EMU_STA (R226). -/
def LATCH.EMU_STA (n : Nat) : Nat := regAt pgLATCH (0x10C + 0x10 * n)
/-- ROUTE.RCTL (R273). -/
def ROUTE.RCTL : Nat := regAt pgROUTE 0x040
/-- ROUTE.RSTATE (R273). -/
def ROUTE.RSTATE : Nat := regAt pgROUTE 0x044
/-- ROUTE.BASE (R273). -/
def ROUTE.BASE : Nat := regAt pgROUTE 0x048
/-- ROUTE.SPACING (R273). -/
def ROUTE.SPACING : Nat := regAt pgROUTE 0x050
/-- ROUTE.FCCTL (R273). -/
def ROUTE.FCCTL : Nat := regAt pgROUTE 0x058
/-- ROUTE.FCARG0 (R273). -/
def ROUTE.FCARG0 : Nat := regAt pgROUTE 0x05C
/-- ROUTE.FCARG1 (R273). -/
def ROUTE.FCARG1 : Nat := regAt pgROUTE 0x060
/-- ROUTE.FCSTA (R273). -/
def ROUTE.FCSTA : Nat := regAt pgROUTE 0x064
/-- ROUTE.FREE (R273). -/
def ROUTE.FREE : Nat := regAt pgROUTE 0x068
/-- ROUTE.FMAPSEL (R273). -/
def ROUTE.FMAPSEL : Nat := regAt pgROUTE 0x06C
/-- ROUTE.FMAP (R273). -/
def ROUTE.FMAP : Nat := regAt pgROUTE 0x070
/-- ROUTE.TICK (R273). -/
def ROUTE.TICK : Nat := regAt pgROUTE 0x074
/-- ROUTE.LADEPTH (R273). -/
def ROUTE.LADEPTH : Nat := regAt pgROUTE 0x078
/-- ROUTE.LAACT (R273). -/
def ROUTE.LAACT : Nat := regAt pgROUTE 0x07C
/-- ROUTE.DECEL (R273). -/
def ROUTE.DECEL : Nat := regAt pgROUTE 0x080
/-- ROUTE.DECMIN (R273). -/
def ROUTE.DECMIN : Nat := regAt pgROUTE 0x084
/-- ROUTE.ALAT (R273). -/
def ROUTE.ALAT : Nat := regAt pgROUTE 0x088
/-- ROUTE.VBAND (R273). -/
def ROUTE.VBAND : Nat := regAt pgROUTE 0x08C
/-- ROUTE.FBVLIM (R273). -/
def ROUTE.FBVLIM : Nat := regAt pgROUTE 0x090
/-- ROUTE.FBTRQ (R273). -/
def ROUTE.FBTRQ : Nat := regAt pgROUTE 0x094
/-- ROUTE.FFK (R273). -/
def ROUTE.FFK : Nat := regAt pgROUTE 0x098
/-- ROUTE.MARKCFG (R273). -/
def ROUTE.MARKCFG : Nat := regAt pgROUTE 0x09C
/-- ROUTE.MARKWIN (R273). -/
def ROUTE.MARKWIN : Nat := regAt pgROUTE 0x0A0
/-- ROUTE.POS (R273). -/
def ROUTE.POS : Nat := regAt pgROUTE 0x0A8
/-- ROUTE.POSSET (R273). -/
def ROUTE.POSSET : Nat := regAt pgROUTE 0x0B0
/-- ROUTE.SPD (R273). -/
def ROUTE.SPD : Nat := regAt pgROUTE 0x0B8
/-- ROUTE.NODE (R273). -/
def ROUTE.NODE : Nat := regAt pgROUTE 0x0BC
/-- ROUTE.CURA (R273). -/
def ROUTE.CURA : Nat := regAt pgROUTE 0x0C0
/-- ROUTE.CURB (R273). -/
def ROUTE.CURB : Nat := regAt pgROUTE 0x0C4
/-- ROUTE.CURC (R273). -/
def ROUTE.CURC : Nat := regAt pgROUTE 0x0C8
/-- ROUTE.VENV (R273). -/
def ROUTE.VENV : Nat := regAt pgROUTE 0x0CC
/-- ROUTE.TENV (R273). -/
def ROUTE.TENV : Nat := regAt pgROUTE 0x0D0
/-- ROUTE.FFOUT (R273). -/
def ROUTE.FFOUT : Nat := regAt pgROUTE 0x0D8
/-- ROUTE.POSCORR (R273). -/
def ROUTE.POSCORR : Nat := regAt pgROUTE 0x0DC
/-- ROUTE.CNT (R273). -/
def ROUTE.CNT : Nat := regAt pgROUTE 0x0E0
/-- ROUTE.NODEERR (R273). -/
def ROUTE.NODEERR : Nat := regAt pgROUTE 0x0E4
/-- ROUTE.TRAXCFG (R273). -/
def ROUTE.TRAXCFG (n : Nat) : Nat := regAt pgROUTE (0x100 + 0x8 * n)
/-- ROUTE.TRAXK (R273). -/
def ROUTE.TRAXK (n : Nat) : Nat := regAt pgROUTE (0x104 + 0x8 * n)
/-- MIG.MCTL (R296). -/
def MIG.MCTL : Nat := regAt pgMIG 0x040
/-- MIG.MSTA (R296). -/
def MIG.MSTA : Nat := regAt pgMIG 0x044
/-- MIG.MARGS (R296). -/
def MIG.MARGS : Nat := regAt pgMIG 0x048
/-- MIG.MCMP (R296). -/
def MIG.MCMP : Nat := regAt pgMIG 0x04C
/-- MIG.MCOPY (R296). -/
def MIG.MCOPY : Nat := regAt pgMIG 0x050
/-- MIG.MSWITCH (R296). -/
def MIG.MSWITCH : Nat := regAt pgMIG 0x054
/-- MIG.LATE_DISCARD (R296). -/
def MIG.LATE_DISCARD : Nat := regAt pgMIG 0x058
/-- MIG.MMISS (R296). -/
def MIG.MMISS : Nat := regAt pgMIG 0x05C
/-- MIG.SPARES (R296). -/
def MIG.SPARES : Nat := regAt pgMIG 0x060
/-- MIG.WARM (R296). -/
def MIG.WARM : Nat := regAt pgMIG 0x064
/-- MIG.DEADCFG (R296). -/
def MIG.DEADCFG : Nat := regAt pgMIG 0x068
/-- MIG.SUPLAST (R296). -/
def MIG.SUPLAST : Nat := regAt pgMIG 0x070
/-- MIG.SUPCNT (R296). -/
def MIG.SUPCNT : Nat := regAt pgMIG 0x078
/-- MIG.EPOCHNEXT (R296). -/
def MIG.EPOCHNEXT : Nat := regAt pgMIG 0x07C
/-- MIG.TCTL (R296). -/
def MIG.TCTL : Nat := regAt pgMIG 0x0C0
/-- MIG.TSTA (R296). -/
def MIG.TSTA : Nat := regAt pgMIG 0x0C4
/-- MIG.TSEL (R296). -/
def MIG.TSEL : Nat := regAt pgMIG 0x0C8
/-- MIG.TRES (R296). -/
def MIG.TRES : Nat := regAt pgMIG 0x0CC
/-- MIG.EPOCH (R296). -/
def MIG.EPOCH (n : Nat) : Nat := regAt pgMIG (0x100 + 0x4 * n)
/-- STW.SCTL (R298). -/
def STW.SCTL : Nat := regAt pgSTW 0x040
/-- STW.STATE (R298). -/
def STW.STATE : Nat := regAt pgSTW 0x044
/-- STW.HOSTA (R298). -/
def STW.HOSTA : Nat := regAt pgSTW 0x048
/-- STW.HOSEL (R298). -/
def STW.HOSEL : Nat := regAt pgSTW 0x04C
/-- STW.OWN (R298). -/
def STW.OWN : Nat := regAt pgSTW 0x050
/-- STW.SHADOW (R298). -/
def STW.SHADOW : Nat := regAt pgSTW 0x054
/-- STW.CFGOWN (R298). -/
def STW.CFGOWN : Nat := regAt pgSTW 0x058
/-- STW.STWTO (R298). -/
def STW.STWTO : Nat := regAt pgSTW 0x05C
/-- STW.LANESTA (R298). -/
def STW.LANESTA : Nat := regAt pgSTW 0x060
/-- STW.CRCCNT (R298). -/
def STW.CRCCNT : Nat := regAt pgSTW 0x064
/-- STW.RINGSEEN (R298). -/
def STW.RINGSEEN : Nat := regAt pgSTW 0x068
/-- STW.DRIFT (R298). -/
def STW.DRIFT : Nat := regAt pgSTW 0x06C
/-- STW.TOVCNT (R298). -/
def STW.TOVCNT : Nat := regAt pgSTW 0x070
/-- STW.TOVAXES (R298). -/
def STW.TOVAXES : Nat := regAt pgSTW 0x074
/-- MEM.SCRCTL (R352). -/
def MEM.SCRCTL : Nat := regAt pgMEM 0x040
/-- MEM.SCRSTA (R352). -/
def MEM.SCRSTA : Nat := regAt pgMEM 0x044
/-- MEM.SCRBASE (R352). -/
def MEM.SCRBASE : Nat := regAt pgMEM 0x048
/-- MEM.SCRLEN (R352). -/
def MEM.SCRLEN : Nat := regAt pgMEM 0x050
/-- MEM.SCRCFG (R352). -/
def MEM.SCRCFG : Nat := regAt pgMEM 0x058
/-- MEM.SCRCNT (R352). -/
def MEM.SCRCNT : Nat := regAt pgMEM 0x05C
/-- MEM.SCRFIRST (R352). -/
def MEM.SCRFIRST : Nat := regAt pgMEM 0x060
/-- MEM.SCRLAST (R352). -/
def MEM.SCRLAST : Nat := regAt pgMEM 0x068
/-- MEM.UELAST (R352). -/
def MEM.UELAST : Nat := regAt pgMEM 0x070
/-- MEM.CECNT (R352). -/
def MEM.CECNT : Nat := regAt pgMEM 0x078
/-- MEM.UECNT (R352). -/
def MEM.UECNT : Nat := regAt pgMEM 0x07C
/-- MEM.BANKSTA (R352). -/
def MEM.BANKSTA : Nat := regAt pgMEM 0x080
/-- MEM.RETCTL (R352). -/
def MEM.RETCTL : Nat := regAt pgMEM 0x084
/-- MEM.RETSTA (R352). -/
def MEM.RETSTA : Nat := regAt pgMEM 0x088
/-- MEM.RETSEL (R352). -/
def MEM.RETSEL : Nat := regAt pgMEM 0x08C
/-- MEM.RETCFG (R352). -/
def MEM.RETCFG : Nat := regAt pgMEM 0x090
/-- MEM.INJADDR (R352). -/
def MEM.INJADDR : Nat := regAt pgMEM 0x0A0
/-- MEM.INJDATA (R352). -/
def MEM.INJDATA : Nat := regAt pgMEM 0x0A8
/-- MEM.INJCFG (R352). -/
def MEM.INJCFG : Nat := regAt pgMEM 0x0B0
/-- MEM.BANKMAP (R352). -/
def MEM.BANKMAP (n : Nat) : Nat := regAt pgMEM (0x100 + 0x4 * n)
/-- MEM.BANKCE (R352). -/
def MEM.BANKCE (n : Nat) : Nat := regAt pgMEM (0x180 + 0x4 * n)
/-- DRAM.DSTA (R354). -/
def DRAM.DSTA : Nat := regAt pgDRAM 0x040
/-- DRAM.INSTALLED (R354). -/
def DRAM.INSTALLED : Nat := regAt pgDRAM 0x048
/-- DRAM.USABLE (R354). -/
def DRAM.USABLE : Nat := regAt pgDRAM 0x050
/-- DRAM.TRAIN (R354). -/
def DRAM.TRAIN : Nat := regAt pgDRAM 0x058
/-- DRAM.REFSTA (R354). -/
def DRAM.REFSTA : Nat := regAt pgDRAM 0x05C
/-- NVM.NSTA (R356). -/
def NVM.NSTA : Nat := regAt pgNVM 0x040
/-- NVM.CSTA (R356). -/
def NVM.CSTA : Nat := regAt pgNVM 0x044
/-- NVM.HEALTH (R356). -/
def NVM.HEALTH : Nat := regAt pgNVM 0x048
/-- NVM.RETRY (R356). -/
def NVM.RETRY : Nat := regAt pgNVM 0x04C
/-- NVM.CTIME (R356). -/
def NVM.CTIME : Nat := regAt pgNVM 0x050
/-- NVM.RETIRED (R356). -/
def NVM.RETIRED : Nat := regAt pgNVM 0x054
/-- NVM.REMAIN (R356). -/
def NVM.REMAIN : Nat := regAt pgNVM 0x058
/-- NVM.WEARMAX (R356). -/
def NVM.WEARMAX : Nat := regAt pgNVM 0x060
/-- NVM.LASTINT (R356). -/
def NVM.LASTINT : Nat := regAt pgNVM 0x064
/-- NVM.JSEQ (R356). -/
def NVM.JSEQ : Nat := regAt pgNVM 0x068
/-- NVM.SECTSEL (R356). -/
def NVM.SECTSEL : Nat := regAt pgNVM 0x070
/-- NVM.SECTINFO (R356). -/
def NVM.SECTINFO : Nat := regAt pgNVM 0x074
/-- BAL0.BSTA (R386). -/
def BAL0.BSTA : Nat := regAt pgBAL0 0x040
/-- BAL0.INSTA (R386). -/
def BAL0.INSTA : Nat := regAt pgBAL0 0x044
/-- BAL0.VINSTA (R386). -/
def BAL0.VINSTA : Nat := regAt pgBAL0 0x048
/-- BAL0.OUTSTA (R386). -/
def BAL0.OUTSTA : Nat := regAt pgBAL0 0x04C
/-- BAL0.STOAX (R386). -/
def BAL0.STOAX : Nat := regAt pgBAL0 0x050
/-- BAL0.VIOLAX (R386). -/
def BAL0.VIOLAX : Nat := regAt pgBAL0 0x054
/-- BAL0.CYCSTA (R386). -/
def BAL0.CYCSTA : Nat := regAt pgBAL0 0x058
/-- BAL0.BRKREQ (R386). -/
def BAL0.BRKREQ : Nat := regAt pgBAL0 0x05C
/-- BAL0.AFSTA (R386). -/
def BAL0.AFSTA (n : Nat) : Nat := regAt pgBAL0 (0x100 + 0x20 * n)
/-- BAL0.SPDSAFE (R386). -/
def BAL0.SPDSAFE (n : Nat) : Nat := regAt pgBAL0 (0x104 + 0x20 * n)
/-- BAL0.BOUND0 (R386). -/
def BAL0.BOUND0 (n : Nat) : Nat := regAt pgBAL0 (0x108 + 0x20 * n)
/-- BAL0.BOUND1 (R386). -/
def BAL0.BOUND1 (n : Nat) : Nat := regAt pgBAL0 (0x10C + 0x20 * n)
/-- BAL0.TYP (R386). -/
def BAL0.TYP (n : Nat) : Nat := regAt pgBAL0 (0x110 + 0x20 * n)
/-- BAL1.GATE (R387). -/
def BAL1.GATE : Nat := regAt pgBAL1 0x040
/-- BAL1.GEN (R387). -/
def BAL1.GEN : Nat := regAt pgBAL1 0x044
/-- BAL1.SIGNOW (R387). -/
def BAL1.SIGNOW : Nat := regAt pgBAL1 0x048
/-- BAL1.LOGSTA (R387). -/
def BAL1.LOGSTA : Nat := regAt pgBAL1 0x04C
/-- BAL1.LOGSEQ (R387). -/
def BAL1.LOGSEQ : Nat := regAt pgBAL1 0x050
/-- BAL1.GENERAL (R387). -/
def BAL1.GENERAL : Nat := regAt pgBAL1 0x054
/-- BAL1.INCFG (R387). -/
def BAL1.INCFG (n : Nat) : Nat := regAt pgBAL1 (0x080 + 0x4 * n)
/-- BAL1.SRCA (R387). -/
def BAL1.SRCA (n : Nat) : Nat := regAt pgBAL1 (0x200 + 0x20 * n)
/-- BAL1.SRCB (R387). -/
def BAL1.SRCB (n : Nat) : Nat := regAt pgBAL1 (0x204 + 0x20 * n)
/-- BAL1.SLSAB (R387). -/
def BAL1.SLSAB (n : Nat) : Nat := regAt pgBAL1 (0x208 + 0x20 * n)
/-- BAL1.SLSCD (R387). -/
def BAL1.SLSCD (n : Nat) : Nat := regAt pgBAL1 (0x20C + 0x20 * n)
/-- BAL1.SS1CFG (R387). -/
def BAL1.SS1CFG (n : Nat) : Nat := regAt pgBAL1 (0x210 + 0x20 * n)
/-- BAL1.SOSCFG (R387). -/
def BAL1.SOSCFG (n : Nat) : Nat := regAt pgBAL1 (0x214 + 0x20 * n)
/-- BAL1.PLCFG (R387). -/
def BAL1.PLCFG (n : Nat) : Nat := regAt pgBAL1 (0x218 + 0x20 * n)
/-- BAL1.MISC (R387). -/
def BAL1.MISC (n : Nat) : Nat := regAt pgBAL1 (0x21C + 0x20 * n)
/-- BAL1.SDCFG (R387). -/
def BAL1.SDCFG (n : Nat) : Nat := regAt pgBAL1 (0x600 + 0x20 * n)
/-- BAL1.SDTIM (R387). -/
def BAL1.SDTIM (n : Nat) : Nat := regAt pgBAL1 (0x604 + 0x20 * n)
/-- BAL1.SDSALT (R387). -/
def BAL1.SDSALT (n : Nat) : Nat := regAt pgBAL1 (0x608 + 0x20 * n)
/-- BAL1.SDIDA (R387). -/
def BAL1.SDIDA (n : Nat) : Nat := regAt pgBAL1 (0x60C + 0x20 * n)
/-- BAL1.SDIDB (R387). -/
def BAL1.SDIDB (n : Nat) : Nat := regAt pgBAL1 (0x610 + 0x20 * n)
/-- BAL1.SDSTA (R387). -/
def BAL1.SDSTA (n : Nat) : Nat := regAt pgBAL1 (0x614 + 0x20 * n)
/-- BAL1.SDCNT (R387). -/
def BAL1.SDCNT (n : Nat) : Nat := regAt pgBAL1 (0x618 + 0x20 * n)
/-- BAL1.SDDATA (R387). -/
def BAL1.SDDATA (n : Nat) : Nat := regAt pgBAL1 (0x61C + 0x20 * n)
/-- CAN.CFG (R410). -/
def CAN.CFG (i : Nat) : Nat := regAt (pgCAN i) 0x040
/-- CAN.NBT (R410). -/
def CAN.NBT (i : Nat) : Nat := regAt (pgCAN i) 0x044
/-- CAN.DBT (R410). -/
def CAN.DBT (i : Nat) : Nat := regAt (pgCAN i) 0x048
/-- CAN.TDCCFG (R410). -/
def CAN.TDCCFG (i : Nat) : Nat := regAt (pgCAN i) 0x04C
/-- CAN.TDCSTA (R410). -/
def CAN.TDCSTA (i : Nat) : Nat := regAt (pgCAN i) 0x050
/-- CAN.ECSTA (R410). -/
def CAN.ECSTA (i : Nat) : Nat := regAt (pgCAN i) 0x054
/-- CAN.CNT1 (R410). -/
def CAN.CNT1 (i : Nat) : Nat := regAt (pgCAN i) 0x058
/-- CAN.CNT2 (R410). -/
def CAN.CNT2 (i : Nat) : Nat := regAt (pgCAN i) 0x05C
/-- CAN.CNT3 (R410). -/
def CAN.CNT3 (i : Nat) : Nat := regAt (pgCAN i) 0x060
/-- CAN.BUSCTL (R410). -/
def CAN.BUSCTL (i : Nat) : Nat := regAt (pgCAN i) 0x064
/-- CAN.WUPT (R410). -/
def CAN.WUPT (i : Nat) : Nat := regAt (pgCAN i) 0x068
/-- CAN.CFGERR (R410). -/
def CAN.CFGERR (i : Nat) : Nat := regAt (pgCAN i) 0x06C
/-- CAN.RXNEW (R410). -/
def CAN.RXNEW (i n : Nat) : Nat := regAt (pgCAN i) (0x070 + 0x4 * n)
/-- CAN.TXPEND (R410). -/
def CAN.TXPEND (i n : Nat) : Nat := regAt (pgCAN i) (0x080 + 0x4 * n)
/-- CAN.ABANDONED (R410). -/
def CAN.ABANDONED (i n : Nat) : Nat := regAt (pgCAN i) (0x090 + 0x4 * n)
/-- CAN.STATCFG (R410). -/
def CAN.STATCFG (i : Nat) : Nat := regAt (pgCAN i) 0x0A0
/-- CAN.STATPER (R410). -/
def CAN.STATPER (i : Nat) : Nat := regAt (pgCAN i) 0x0A4
/-- CAN.TTCFG (R410). -/
def CAN.TTCFG (i : Nat) : Nat := regAt (pgCAN i) 0x0C0
/-- CAN.CYCLEN (R410). -/
def CAN.CYCLEN (i : Nat) : Nat := regAt (pgCAN i) 0x0C4
/-- CAN.REFID (R410). -/
def CAN.REFID (i : Nat) : Nat := regAt (pgCAN i) 0x0C8
/-- CAN.TTSTA (R410). -/
def CAN.TTSTA (i : Nat) : Nat := regAt (pgCAN i) 0x0CC
/-- CAN.TTOFS (R410). -/
def CAN.TTOFS (i : Nat) : Nat := regAt (pgCAN i) 0x0D0
/-- CAN.REFCNT (R410). -/
def CAN.REFCNT (i : Nat) : Nat := regAt (pgCAN i) 0x0D4
/-- CAN.WSTART (R410). -/
def CAN.WSTART (i n : Nat) : Nat := regAt (pgCAN i) (0x100 + 0x4 * n)
/-- CAN.TCTL (R410). -/
def CAN.TCTL (i : Nat) : Nat := regAt (pgCAN i) 0x140
/-- CAN.TSTA (R410). -/
def CAN.TSTA (i : Nat) : Nat := regAt (pgCAN i) 0x144
/-- ETH.ECFG (R427). -/
def ETH.ECFG (i : Nat) : Nat := regAt (pgETH i) 0x040
/-- ETH.LINK (R427). -/
def ETH.LINK (i : Nat) : Nat := regAt (pgETH i) 0x044
/-- ETH.MACADDR (R427). -/
def ETH.MACADDR (i : Nat) : Nat := regAt (pgETH i) 0x048
/-- ETH.TXLAT (R427). -/
def ETH.TXLAT (i : Nat) : Nat := regAt (pgETH i) 0x050
/-- ETH.RXLAT (R427). -/
def ETH.RXLAT (i : Nat) : Nat := regAt (pgETH i) 0x054
/-- ETH.ASYM (R427). -/
def ETH.ASYM (i : Nat) : Nat := regAt (pgETH i) 0x058
/-- ETH.RXBASE (R427). -/
def ETH.RXBASE (i : Nat) : Nat := regAt (pgETH i) 0x060
/-- ETH.RXSIZE (R427). -/
def ETH.RXSIZE (i : Nat) : Nat := regAt (pgETH i) 0x064
/-- ETH.RXWR (R427). -/
def ETH.RXWR (i : Nat) : Nat := regAt (pgETH i) 0x068
/-- ETH.RXRD (R427). -/
def ETH.RXRD (i : Nat) : Nat := regAt (pgETH i) 0x06C
/-- ETH.TXBASE (R427). -/
def ETH.TXBASE (i : Nat) : Nat := regAt (pgETH i) 0x070
/-- ETH.TXSIZE (R427). -/
def ETH.TXSIZE (i : Nat) : Nat := regAt (pgETH i) 0x074
/-- ETH.TXWR (R427). -/
def ETH.TXWR (i : Nat) : Nat := regAt (pgETH i) 0x078
/-- ETH.TXRD (R427). -/
def ETH.TXRD (i : Nat) : Nat := regAt (pgETH i) 0x07C
/-- ETH.CNT1 (R427). -/
def ETH.CNT1 (i : Nat) : Nat := regAt (pgETH i) 0x080
/-- ETH.CNT2 (R427). -/
def ETH.CNT2 (i : Nat) : Nat := regAt (pgETH i) 0x084
/-- ETH.PTPCNT (R427). -/
def ETH.PTPCNT (i : Nat) : Nat := regAt (pgETH i) 0x088
/-- ETH.MDIO (R427). -/
def ETH.MDIO (i : Nat) : Nat := regAt (pgETH i) 0x090
/-- TIME.NOW (R425). -/
def TIME.NOW (n : Nat) : Nat := regAt pgTIME (0x040 + 0x4 * n)
/-- TIME.TSTA (R425). -/
def TIME.TSTA : Nat := regAt pgTIME 0x050
/-- TIME.TCFG (R425). -/
def TIME.TCFG : Nat := regAt pgTIME 0x054
/-- TIME.RATE (R425). -/
def TIME.RATE : Nat := regAt pgTIME 0x058
/-- TIME.OFSNOW (R425). -/
def TIME.OFSNOW : Nat := regAt pgTIME 0x05C
/-- TIME.SETVAL (R425). -/
def TIME.SETVAL (n : Nat) : Nat := regAt pgTIME (0x060 + 0x4 * n)
/-- TIME.TCTL (R425). -/
def TIME.TCTL : Nat := regAt pgTIME 0x070
/-- TIME.SETSTA (R425). -/
def TIME.SETSTA : Nat := regAt pgTIME 0x074
/-- TIME.UTCOFS (R425). -/
def TIME.UTCOFS : Nat := regAt pgTIME 0x078
/-- TIME.DOMCFG (R425). -/
def TIME.DOMCFG (n : Nat) : Nat := regAt pgTIME (0x080 + 0x20 * n)
/-- TIME.DOMSTA (R425). -/
def TIME.DOMSTA (n : Nat) : Nat := regAt pgTIME (0x084 + 0x20 * n)
/-- TIME.DOMGM (R425). -/
def TIME.DOMGM (n : Nat) : Nat := regAt pgTIME (0x088 + 0x20 * n)
/-- TIME.DOMOFS (R425). -/
def TIME.DOMOFS (n : Nat) : Nat := regAt pgTIME (0x090 + 0x20 * n)
/-- TIME.DOMDLY (R425). -/
def TIME.DOMDLY (n : Nat) : Nat := regAt pgTIME (0x094 + 0x20 * n)
/-- TIME.DOMLOCK (R425). -/
def TIME.DOMLOCK (n : Nat) : Nat := regAt pgTIME (0x098 + 0x20 * n)
/-- TIME.DOMCNT (R425). -/
def TIME.DOMCNT (n : Nat) : Nat := regAt pgTIME (0x09C + 0x20 * n)
/-- ACQ.ACTL (R451). -/
def ACQ.ACTL : Nat := regAt pgACQ 0x040
/-- ACQ.ASTA (R451). -/
def ACQ.ASTA : Nat := regAt pgACQ 0x044
/-- ACQ.MBASE (R451). -/
def ACQ.MBASE : Nat := regAt pgACQ 0x048
/-- ACQ.MSIZE (R451). -/
def ACQ.MSIZE : Nat := regAt pgACQ 0x04C
/-- ACQ.RATE (R451). -/
def ACQ.RATE : Nat := regAt pgACQ 0x050
/-- ACQ.GRP_GCFG (R451). -/
def ACQ.GRP_GCFG (n : Nat) : Nat := regAt pgACQ (0x100 + 0x40 * n)
/-- ACQ.GRP_GPER (R451). -/
def ACQ.GRP_GPER (n : Nat) : Nat := regAt pgACQ (0x104 + 0x40 * n)
/-- ACQ.GRP_PRE (R451). -/
def ACQ.GRP_PRE (n : Nat) : Nat := regAt pgACQ (0x108 + 0x40 * n)
/-- ACQ.GRP_POST (R451). -/
def ACQ.GRP_POST (n : Nat) : Nat := regAt pgACQ (0x10C + 0x40 * n)
/-- ACQ.GRP_NSEG (R451). -/
def ACQ.GRP_NSEG (n : Nat) : Nat := regAt pgACQ (0x110 + 0x40 * n)
/-- ACQ.GRP_LAG (R451). -/
def ACQ.GRP_LAG (n : Nat) : Nat := regAt pgACQ (0x114 + 0x40 * n)
/-- ACQ.GRP_GSTA (R451). -/
def ACQ.GRP_GSTA (n : Nat) : Nat := regAt pgACQ (0x118 + 0x40 * n)
/-- ACQ.GRP_GAPCNT (R451). -/
def ACQ.GRP_GAPCNT (n : Nat) : Nat := regAt pgACQ (0x11C + 0x40 * n)
/-- ACQ.SIG (R451). -/
def ACQ.SIG (n m : Nat) : Nat := regAt pgACQ (0x400 + 0x100 * n + 0x4 * m)
/-- ACQ.MASK_CFG (R451). -/
def ACQ.MASK_CFG (n : Nat) : Nat := regAt pgACQ (0x800 + 0x80 * n)
/-- ACQ.MASK_VCNT (R451). -/
def ACQ.MASK_VCNT (n : Nat) : Nat := regAt pgACQ (0x804 + 0x80 * n)
/-- ACQ.MASK_FIRST (R451). -/
def ACQ.MASK_FIRST (n : Nat) : Nat := regAt pgACQ (0x808 + 0x80 * n)
/-- ACQ.MASK_STEP_START (R451). -/
def ACQ.MASK_STEP_START (n m : Nat) : Nat := regAt pgACQ (0x810 + 0x80 * n + 0xC * m)
/-- ACQ.MASK_STEP_UPPER (R451). -/
def ACQ.MASK_STEP_UPPER (n m : Nat) : Nat := regAt pgACQ (0x814 + 0x80 * n + 0xC * m)
/-- ACQ.MASK_STEP_LOWER (R451). -/
def ACQ.MASK_STEP_LOWER (n m : Nat) : Nat := regAt pgACQ (0x818 + 0x80 * n + 0xC * m)
/-- TRG.TCFG (R452). -/
def TRG.TCFG (i : Nat) : Nat := regAt (pgTRG i) 0x040
/-- TRG.TSRC (R452). -/
def TRG.TSRC (i : Nat) : Nat := regAt (pgTRG i) 0x044
/-- TRG.LVLA (R452). -/
def TRG.LVLA (i : Nat) : Nat := regAt (pgTRG i) 0x048
/-- TRG.LVLB (R452). -/
def TRG.LVLB (i : Nat) : Nat := regAt (pgTRG i) 0x04C
/-- TRG.HYST (R452). -/
def TRG.HYST (i : Nat) : Nat := regAt (pgTRG i) 0x050
/-- TRG.HOLD (R452). -/
def TRG.HOLD (i : Nat) : Nat := regAt (pgTRG i) 0x054
/-- TRG.TCTL (R452). -/
def TRG.TCTL (i : Nat) : Nat := regAt (pgTRG i) 0x058
/-- TRG.FIRES (R452). -/
def TRG.FIRES (i : Nat) : Nat := regAt (pgTRG i) 0x05C
/-- TRG.TLAST (R452). -/
def TRG.TLAST (i n : Nat) : Nat := regAt (pgTRG i) (0x060 + 0x4 * n)
/-- REC.RCFG (R453). -/
def REC.RCFG : Nat := regAt pgREC 0x040
/-- REC.RSTA (R453). -/
def REC.RSTA : Nat := regAt pgREC 0x044
/-- REC.RBASE (R453). -/
def REC.RBASE : Nat := regAt pgREC 0x048
/-- REC.RSIZE (R453). -/
def REC.RSIZE : Nat := regAt pgREC 0x04C
/-- REC.RWR (R453). -/
def REC.RWR : Nat := regAt pgREC 0x050
/-- REC.RRD (R453). -/
def REC.RRD : Nat := regAt pgREC 0x054
/-- REC.RSEQ (R453). -/
def REC.RSEQ : Nat := regAt pgREC 0x058
/-- REC.LOST (R453). -/
def REC.LOST : Nat := regAt pgREC 0x05C
/-- REC.FCTL (R453). -/
def REC.FCTL : Nat := regAt pgREC 0x060
/-- REC.FSTA (R453). -/
def REC.FSTA : Nat := regAt pgREC 0x064
/-- REC.FLUNIT (R453). -/
def REC.FLUNIT : Nat := regAt pgREC 0x068
/-- REC.FLRDCTL (R453). -/
def REC.FLRDCTL : Nat := regAt pgREC 0x070
/-- REC.FLRDSTA (R453). -/
def REC.FLRDSTA : Nat := regAt pgREC 0x074
/-- REC.FLRDSEL (R453). -/
def REC.FLRDSEL : Nat := regAt pgREC 0x078
/-- REC.FLRDCNT (R453). -/
def REC.FLRDCNT : Nat := regAt pgREC 0x07C
/-- REC.FLRDDST (R453). -/
def REC.FLRDDST : Nat := regAt pgREC 0x080
/-- REC.FWREC (R453). -/
def REC.FWREC (n : Nat) : Nat := regAt pgREC (0x100 + 0x4 * n)
/-- STORE.SCTL (R454). -/
def STORE.SCTL (i : Nat) : Nat := regAt (pgSTORE i) 0x040
/-- STORE.SSTA (R454). -/
def STORE.SSTA (i : Nat) : Nat := regAt (pgSTORE i) 0x044
/-- STORE.LINK (R454). -/
def STORE.LINK (i : Nat) : Nat := regAt (pgSTORE i) 0x048
/-- STORE.VOLCFG (R454). -/
def STORE.VOLCFG (i : Nat) : Nat := regAt (pgSTORE i) 0x050
/-- STORE.NEXTSEG (R454). -/
def STORE.NEXTSEG (i : Nat) : Nat := regAt (pgSTORE i) 0x058
/-- STORE.WRBYTES (R454). -/
def STORE.WRBYTES (i : Nat) : Nat := regAt (pgSTORE i) 0x060
/-- STORE.BADSEG (R454). -/
def STORE.BADSEG (i : Nat) : Nat := regAt (pgSTORE i) 0x068
/-- STORE.RATE (R454). -/
def STORE.RATE (i : Nat) : Nat := regAt (pgSTORE i) 0x06C
/-- STORE.HPER (R454). -/
def STORE.HPER (i : Nat) : Nat := regAt (pgSTORE i) 0x070
/-- STORE.CTRL_CSTA (R454). -/
def STORE.CTRL_CSTA (i n : Nat) : Nat := regAt (pgSTORE i) (0x100 + 0x40 * n)
/-- STORE.CTRL_CAP (R454). -/
def STORE.CTRL_CAP (i n : Nat) : Nat := regAt (pgSTORE i) (0x108 + 0x40 * n)
/-- STORE.CTRL_WRITTEN (R454). -/
def STORE.CTRL_WRITTEN (i n : Nat) : Nat := regAt (pgSTORE i) (0x110 + 0x40 * n)
/-- STORE.CTRL_HLTH (R454). -/
def STORE.CTRL_HLTH (i n : Nat) : Nat := regAt (pgSTORE i) (0x118 + 0x40 * n)
/-- STORE.CTRL_CTEMP (R454). -/
def STORE.CTRL_CTEMP (i n : Nat) : Nat := regAt (pgSTORE i) (0x11C + 0x40 * n)
/-- STORE.CTRL_DUW (R454). -/
def STORE.CTRL_DUW (i n : Nat) : Nat := regAt (pgSTORE i) (0x120 + 0x40 * n)
/-- FIO.RCTL (R469). -/
def FIO.RCTL (i : Nat) : Nat := regAt (pgFIO i) 0x040
/-- FIO.RSTA (R469). -/
def FIO.RSTA (i : Nat) : Nat := regAt (pgFIO i) 0x044
/-- FIO.TOPO (R469). -/
def FIO.TOPO (i : Nat) : Nat := regAt (pgFIO i) 0x048
/-- FIO.RCFG (R469). -/
def FIO.RCFG (i : Nat) : Nat := regAt (pgFIO i) 0x04C
/-- FIO.LOOPDLY (R469). -/
def FIO.LOOPDLY (i : Nat) : Nat := regAt (pgFIO i) 0x050
/-- FIO.CRCCNT (R469). -/
def FIO.CRCCNT (i : Nat) : Nat := regAt (pgFIO i) 0x054
/-- FIO.CYCLE (R469). -/
def FIO.CYCLE (i : Nat) : Nat := regAt (pgFIO i) 0x058
/-- FIO.SID (R469). -/
def FIO.SID (i n : Nat) : Nat := regAt (pgFIO i) (0x100 + 0x40 * n)
/-- FIO.SSTA (R469). -/
def FIO.SSTA (i n : Nat) : Nat := regAt (pgFIO i) (0x104 + 0x40 * n)
/-- FIO.OUT (R469). -/
def FIO.OUT (i n : Nat) : Nat := regAt (pgFIO i) (0x108 + 0x40 * n)
/-- FIO.IN (R469). -/
def FIO.IN (i n : Nat) : Nat := regAt (pgFIO i) (0x10C + 0x40 * n)
/-- FIO.OVC (R469). -/
def FIO.OVC (i n : Nat) : Nat := regAt (pgFIO i) (0x110 + 0x40 * n)
/-- FIO.PPEND (R469). -/
def FIO.PPEND (i n : Nat) : Nat := regAt (pgFIO i) (0x114 + 0x40 * n)
/-- FIO.LATINFO (R469). -/
def FIO.LATINFO (i n : Nat) : Nat := regAt (pgFIO i) (0x118 + 0x40 * n)
/-- FIO.SUPCNT (R469). -/
def FIO.SUPCNT (i n : Nat) : Nat := regAt (pgFIO i) (0x11C + 0x40 * n)
/-- FIO.LATTIME (R469). -/
def FIO.LATTIME (i n m : Nat) : Nat := regAt (pgFIO i) (0x120 + 0x40 * n + 0x4 * m)
/-- FIO.CHCFG (R469). -/
def FIO.CHCFG (i n m : Nat) : Nat := regAt (pgFIO i) (0x800 + 0x100 * n + 0x4 * m)
/-- FIO.PWM (R469). -/
def FIO.PWM (i n m : Nat) : Nat := regAt (pgFIO i) (0x880 + 0x100 * n + 0x4 * m)
/-- DMA.HEAD (R76). -/
def DMA.HEAD (n : Nat) : Nat := regAt pgDMA (0x100 + 0x40 * n)
/-- DMA.CCTL (R76). -/
def DMA.CCTL (n : Nat) : Nat := regAt pgDMA (0x108 + 0x40 * n)
/-- DMA.CSTA (R76). -/
def DMA.CSTA (n : Nat) : Nat := regAt pgDMA (0x10C + 0x40 * n)
/-- DMA.CUR (R76). -/
def DMA.CUR (n : Nat) : Nat := regAt pgDMA (0x110 + 0x40 * n)
/-- DMA.BYTES (R76). -/
def DMA.BYTES (n : Nat) : Nat := regAt pgDMA (0x118 + 0x40 * n)

end Sys2Proof.Machine
end

