-- ==== Sys2Proof/Machine/Table.lean ====
section
/-!
DEFINITION. Sparse tables: lists of (key, entry) with strictly rising keys.  A key that is not listed reads as a default.
`Tab.set` keeps the canonical form in which no entry equals what an unlisted key reads as, so that equal contents are
equal lists; `Tab.put` stores an entry whatever it is.
-/
namespace Sys2Proof.Machine

/-- A table from natural numbers to entries. -/
abbrev Tab (α : Type) := List (Nat × α)

/-- The entry listed at key `k`, if any. -/
def Tab.find {α : Type} : Tab α → Nat → Option α
  | [], _ => none
  | (k', v) :: t, k => if k = k' then some v else Tab.find t k

/-- The entry at key `k`, or the default. -/
def Tab.get {α : Type} (d : α) (t : Tab α) (k : Nat) : α := (Tab.find t k).getD d

/-- The table with the entry at `k` replaced or inserted in order. -/
def Tab.put {α : Type} : Tab α → Nat → α → Tab α
  | [], k, v => [(k, v)]
  | (k', v') :: t, k, v =>
    if k < k' then (k, v) :: (k', v') :: t
    else if k = k' then (k, v) :: t
    else (k', v') :: Tab.put t k v

/-- The table without an entry at `k`. -/
def Tab.erase {α : Type} : Tab α → Nat → Tab α
  | [], _ => []
  | (k', v') :: t, k => if k = k' then Tab.erase t k else (k', v') :: Tab.erase t k

/-- The table with `v` at `k`, in canonical form for the default `d` (none: a key that has no default). -/
def Tab.set {α : Type} [DecidableEq α] (d : Option α) (t : Tab α) (k : Nat) (v : α) : Tab α :=
  if d = some v then Tab.erase t k else Tab.put t k v

/-- The keys rise strictly and lie above `lo` where there is a bound. -/
def Tab.rising {α : Type} : Option Nat → Tab α → Bool
  | _, [] => true
  | none, (k, _) :: t => Tab.rising (some k) t
  | some lo, (k, _) :: t => decide (lo < k) && Tab.rising (some k) t

/-- The canonical form: strictly rising keys, and no entry equal to what its key reads as when unlisted. -/
def Tab.wf {α : Type} [DecidableEq α] (d : Nat → Option α) (t : Tab α) : Bool :=
  Tab.rising none t && t.all fun e => decide (d e.1 ≠ some e.2)

end Sys2Proof.Machine
end

