-- ==== Sys2Proof/Machine/Ops.lean ====
section
/-!
DEFINITION. The named operations over registers, operations' status registers, TIME, landings' credits and memories.
Every family of commands is written over them.
-/
namespace Sys2Proof.Machine

/-! ### Units present (R2, R7) -/

/-- Galleries, axes, bridges, rings, hall cores, CAN controllers and store ports of a variant (R2). -/
def Variant.galleries : Variant → Nat | .mbm1210 => 10 | _ => 18
def Variant.axes : Variant → Nat | .mbm1210 => 12 | _ => 24
def Variant.bridges : Variant → Nat | .mbm1210 => 24 | _ => 48
def Variant.rings : Variant → Nat | .mbm1210 => 4 | _ => 8
def Variant.halls : Variant → Nat | .mbm1210 => 4 | _ => 8
def Variant.cans : Variant → Nat | .mbm1210 => 4 | _ => 8
def Variant.stores : Variant → Nat | .mbm2418 => 2 | .mbm2418S => 0 | .mbm1210 => 1
/-- The acquisition engine and the trigger units are built (R2). -/
def Variant.acq : Variant → Bool | .mbm2418S => false | _ => true

/-- How many instances of a page kind the variant builds (R2, R7). -/
def Variant.count (v : Variant) : PageKind → Nat
  | .gal => v.galleries
  | .axis => v.axes
  | .brg => v.bridges
  | .rzl => v.rings
  | .hall => v.halls
  | .can => v.cans
  | .store => v.stores
  | .acq => if v.acq then 1 else 0
  | .trg => if v.acq then 4 else 0
  | .fb => 24
  | .sdm => 4
  | .eth => 2
  | .fio => 2
  | .bal1 => 2
  | _ => 1

/-- The page index names a built unit (R4, R8). -/
def Variant.present (v : Variant) (p : Nat) : Bool :=
  match pageOf p with
  | some (k, i) => decide (i < v.count k)
  | none => false

/-- The value SYS.CAPS reads (R6). STEPPING is 0 (log entry 3). -/
def Variant.caps (v : Variant) : Word64 :=
  let code := match v with | .mbm2418 => 1 | .mbm2418S => 2 | .mbm1210 => 3
  BitVec.ofNat 64 (code + v.galleries <<< 8 + 2 <<< 13 + v.axes <<< 16 + v.bridges <<< 21 + v.rings <<< 27
    + v.halls <<< 32 + v.cans <<< 36 + v.stores <<< 40 + (if v.acq then 1 else 0) <<< 42 + 1 <<< 43 + 2 <<< 44 + 2 <<< 46)

/-! ### Registers -/

/-- The CAP value of a page kind (each chapter's page section; 0 where none is given, log entry 2). -/
def capWord (v : Variant) : PageKind → Nat
  | .gal => 0x210E
  | .brg => 0x4F
  | .rzl => 0x3028
  | .fb => 0x1F
  | .sdm => 0x28
  | .axis => 0x8F
  | .route => 0x3000
  | .mig => v.galleries + 2 * 32
  | .stw => 4
  | .newel => 64 + 4 * 256 + 15 * 4096
  | .hall => 0x38
  | .mem => 0x5A
  | .dram => 2
  | .nvm => 0x1000
  | .bal0 => v.axes + 2 * 32
  | .bal1 => 8
  | .can => 0x1C80
  | .time => 6
  | .eth => 7
  | .acq => 0x2204
  | .trg => 7
  | .fio => 0x18
  | .pwr => 7
  | .thm => 13
  | _ => 0

/-- The VFLAGS byte of PID (R52): a gallery built with the spare role (R9); a ring built for duplex mode (log entry 2). -/
def vflags (v : Variant) (k : PageKind) (i : Nat) : Nat :=
  match k with
  | .gal => if i + 2 ≥ v.galleries then 1 else 0
  | .rzl => 1
  | _ => 0

/-- The index of the word of a row that lies at offset `off`, if the row covers it. -/
def RegRow.word? (r : RegRow) (off : Nat) : Option Nat :=
  let words := if r.wide then 8 else 4
  if off < r.off then none
  else
    let d := off - r.off
    let s1 := if r.s1 = 0 then 0x1000 else r.s1
    let s2 := if r.s2 = 0 then s1 else r.s2
    if d / s1 < r.n1 ∧ d % s1 / s2 < r.n2 ∧ d % s1 % s2 < words then some (d % s1 % s2 / 4) else none

/-- The row of a page that covers an offset, with the word of the row (0, or 1 for the high word). -/
def findRow (rows : List RegRow) (off : Nat) : Option (RegRow × Nat) :=
  match rows with
  | [] => none
  | r :: t => match r.word? off with
    | some j => some (r, j)
    | none => findRow t off

/-- Reset value of a header word (R51-R55): PID and VER are built in; PID.MAJOR is 1 and VER names version 1
(log entry 2). -/
def resetHeader (v : Variant) (k : PageKind) (i off : Nat) : Nat :=
  match off with
  | 0x00 => k.type <<< 20 + 1 <<< 16 + i <<< 8 + vflags v k i
  | 0x04 => 0x010101
  | 0x08 => capWord v k
  | _ => 0

/-- Reset value of the register word at an address; words of absent pages and reserved words are 0 (R44, R48). -/
def resetWord (v : Variant) (a : Nat) : Word :=
  let p := a / 0x1000
  let off := a % 0x1000
  match pageOf p with
  | none => 0
  | some (k, i) =>
    if i ≥ v.count k then 0
    else if off < 0x40 then BitVec.ofNat 32 (resetHeader v k i off)
    else if a = SYS.CAPS then loWord v.caps
    else if a = SYS.CAPS + 4 then hiWord v.caps
    else if a = HOST.IVEC 42 then 0x00FFFFFF
    else if a = MIG.SPARES then BitVec.ofNat 32 (3 <<< (v.galleries - 2))
    else if k = .mem ∧ 0x100 ≤ off ∧ off < 0x160 then BitVec.ofNat 32 ((off - 0x100) / 4)
    else match findRow k.rows off with
      | some (r, j) => BitVec.ofNat 32 (r.reset >>> (32 * j))
      | none => 0

namespace State

/-- The register word at an address. -/
def rd (s : State) (a : Nat) : Word := (Tab.find s.regs a).getD (resetWord s.variant a)

/-- The state with a register word written. -/
def wr (s : State) (a : Nat) (v : Word) : State :=
  { s with regs := Tab.set (some (resetWord s.variant a)) s.regs a v }

/-- A 64-bit register, low word first (R12). -/
def rd64 (s : State) (a : Nat) : Word64 := wide (s.rd a) (s.rd (a + 4))

/-- The state with a 64-bit register written. -/
def wr64 (s : State) (a : Nat) (v : Word64) : State := (s.wr a (loWord v)).wr (a + 4) (hiWord v)

/-- Bits [hi:lo] of a register word. -/
def fld (s : State) (a hi lo : Nat) : Nat := wfld (s.rd a) hi lo

/-- The state with bits [hi:lo] of a register word written. -/
def setFld (s : State) (a hi lo v : Nat) : State := s.wr a (wset (s.rd a) hi lo v)

/-- Bit i of a register word. -/
def bit (s : State) (a i : Nat) : Bool := (s.rd a).getLsbD i

/-- The state with bit i of a register word written. -/
def setBit (s : State) (a i : Nat) (b : Bool) : State := s.wr a (wsetBit (s.rd a) i b)

/-- The state with the counter in bits [hi:lo] advanced by `d`, saturating. -/
def count (s : State) (a hi lo : Nat) (d : Nat := 1) : State :=
  s.setFld a hi lo (satAdd (hi + 1 - lo) (s.fld a hi lo) d)

/-- The state with the largest value kept in bits [hi:lo]. -/
def keepMax (s : State) (a hi lo v : Nat) : State :=
  s.setFld a hi lo (Nat.max (s.fld a hi lo) (Nat.min v (2 ^ (hi + 1 - lo) - 1)))

/-- The signed value of a register word. -/
def sint (s : State) (a : Nat) : Int := (s.rd a).toInt

/-- The number of a register word. -/
def num (s : State) (a : Nat) : Nat := (s.rd a).toNat

/-- The next open value (log entry 7), and the state that has drawn it. -/
def draw (s : State) : Word64 × State := (Config.freeValue s.free, { s with free := s.free + 1 })

/-- A configuration register written: SEQ advances where the value changes (R59). `p` is the page. -/
def cfgWr (p a : Nat) (v : Word) (s : State) : State :=
  if s.rd a = v then s else (s.wr a v).wr (HDR.SEQ p) (s.rd (HDR.SEQ p) + 1)

/-- A 64-bit configuration register written (R49, R59). -/
def cfgWr64 (p a : Nat) (v : Word64) (s : State) : State :=
  if s.rd64 a = v then s else (s.wr64 a v).wr (HDR.SEQ p) (s.rd (HDR.SEQ p) + 1)

/-! ### TIME (R17) -/

/-- TIME in 1/16 ns since its epoch. -/
def t16 (s : State) : Nat :=
  ((s.rd64 (TIME.NOW 0)).toNat * 1000000000 + s.num (TIME.NOW 2)) * 16 + s.fld (TIME.NOW 3) 3 0

end State

/-- The four words of a TIME value given in 1/16 ns (R17). -/
def timeWords (t : Nat) : List Word :=
  let ns := t / 16
  let sec := BitVec.ofNat 64 (ns / 1000000000)
  [loWord sec, hiWord sec, BitVec.ofNat 32 (ns % 1000000000), BitVec.ofNat 32 (t % 16)]

/-- TIME in 1/16 ns of four words (R17). -/
def ofTimeWords (ws : List Word) : Nat :=
  ((wide (ws.getD 0 0) (ws.getD 1 0)).toNat * 1000000000 + (ws.getD 2 0).toNat) * 16 + wfld (ws.getD 3 0) 3 0

end Sys2Proof.Machine
end

