-- ==== Sys2Proof/Machine/Memory.lean ====
section
/-!
DEFINITION. The addressed memories and their address-covering code (R326-R329, R521), as raw operations without flags.
Every memory lies in one linear map of the model: mezzanine logical addresses (R66) at 0, gallery g's local map (R84) at
`galBase g`, eMRAM (R342), CAN message RAMs (R393), mailbox pages (R309), LPDDR5 usable addresses (R340) and the host's
memory as the DMA engine reaches it (R74).  The check bits of a storage word are held as the syndrome they give at the
word's own address: 0 good, 0xFF poisoned (R328, R329).
-/
namespace Sys2Proof.Machine

def mezzBase : Nat := 0
def mezzSize : Nat := 0x3000000
/-- Local address 0 of gallery g (R84). -/
def galBase (g : Nat) : Nat := 0x100000000 + g * 0x100000
def emramBase : Nat := 0x200000000
def canBase (c : Nat) : Nat := 0x210000000 + c * 0x8000
def mbxBase (k : Nat) : Nat := 0x220000000 + k * 0x1000
def dramBase : Nat := 0x1000000000
def hostBase : Nat := 0x10000000000000000

/-- The address lies in LPDDR5. -/
def isDram (a : Nat) : Bool := decide (dramBase ≤ a ∧ a < hostBase)

/-- The space of an address as SCRCFG.SPACE numbers it (R334), with the gallery for spaces 2 to 4 and the byte address
within the space; none for a memory without the code (R326). -/
def spaceOf (a : Nat) : Option (Nat × Nat × Nat) :=
  if a < mezzSize then some (0, 0, a)
  else if galBase 0 ≤ a ∧ a < galBase 18 then
    let g := (a - galBase 0) / 0x100000
    let l := (a - galBase 0) % 0x100000
    if l < 0x10000 then some (3, g, l)
    else if l < 0x40000 then some (2, g, l - 0x10000)
    else if l < 0x48000 then some (4, g, l - 0x40000)
    else none
  else if emramBase ≤ a ∧ a < emramBase + 0x1000000 then some (5, 0, a - emramBase)
  else if isDram a then some (1, 0, a - dramBase)
  else none

/-- The address of byte `rel` of a space (R334). -/
def spaceAddr (space g rel : Nat) : Nat :=
  match space with
  | 0 => mezzBase + rel
  | 1 => dramBase + rel
  | 2 => galBase g + 0x10000 + rel
  | 3 => galBase g + rel
  | 4 => galBase g + 0x40000 + rel
  | _ => emramBase + rel

/-- The page of the block that owns a memory (R331). -/
def ownerPage (space g : Nat) : Nat :=
  match space with
  | 0 => pgMEM
  | 1 => pgDRAM
  | 5 => pgNVM
  | _ => pgGAL g

/-- What a byte that is not listed reads as: zero (R521), and nothing fixed in LPDDR5. -/
def byteDefault (a : Nat) : Option Byte := if isDram a then none else some 0

/-- What the syndrome of a word that is not listed is: good (R521), and nothing fixed in LPDDR5. -/
def synDefault (w : Nat) : Option Byte := if isDram (w * 8) then none else some 0

/-- The weight-3 columns in ascending order, then the eight columns of data bits 56 to 63 (R327). -/
def dataColumns : List Nat :=
  ((List.range 256).filter fun v => popcount 8 v = 3) ++ [0x1F, 0x2F, 0x37, 0x3B, 0x3D, 0x3E, 0x4F, 0x57]

/-- The column of each address bit (R327). -/
def addrColumns : List Nat :=
  ((List.range 256).filter fun v => popcount 8 v = 2) ++ [0x0F, 0x17, 0x1B, 0x1D, 0x1E, 0x27, 0x2B, 0x2D]

/-- XOR of the columns of the set bits. -/
def xorColumns : List Nat → Nat → Nat
  | [], _ => 0
  | c :: t, v => (if v % 2 = 1 then c else 0) ^^^ xorColumns t (v / 2)

/-- The check bits of a storage word at a word index (R327). -/
def checkBits (data : Word64) (index : Nat) : Byte :=
  BitVec.ofNat 8 (xorColumns dataColumns data.toNat ^^^ xorColumns addrColumns index)

/-- The classes of R328: a correctable word names the data bit to flip, or none where a check bit is at fault. -/
inductive EccClass where
  | good
  | correctable (bit : Option Nat)
  | uncorrectable
  deriving DecidableEq, Repr

/-- The class of a syndrome (R328). -/
def classify (syn : Byte) : EccClass :=
  if syn = 0 then .good
  else if popcount 8 syn.toNat % 2 = 0 then .uncorrectable
  else match dataColumns.findIdx? (· = syn.toNat) with
    | some i => .correctable (some i)
    | none => if popcount 8 syn.toNat = 1 then .correctable none else .uncorrectable

namespace State

/-- The byte stored at an address. -/
def byte (s : State) (a : Nat) : Byte :=
  match Tab.find s.mem a with
  | some v => v
  | none => if isDram a then Config.dramByte s.dramGen a else 0

/-- The state with a byte stored. -/
def putByte (s : State) (a : Nat) (v : Byte) : State := { s with mem := Tab.set (byteDefault a) s.mem a v }

/-- The state with bytes stored from an address up. -/
def putBytes (s : State) (a : Nat) : List Byte → State
  | [] => s
  | b :: t => putBytes (s.putByte a b) (a + 1) t

/-- `n` bytes from an address up, as stored. -/
def bytes (s : State) (a : Nat) : (n : Nat) → List Byte
  | 0 => []
  | n + 1 => s.byte a :: bytes s (a + 1) n

/-- The data bits of a storage word, as stored. -/
def word64 (s : State) (w : Nat) : Word64 := BitVec.ofNat 64 (ofLeBytes (s.bytes (w * 8) 8))

/-- The syndrome of a storage word at its own address (R328). -/
def syn (s : State) (w : Nat) : Byte :=
  match Tab.find s.ecc w with
  | some v => v
  | none => if isDram (w * 8) then Config.dramSyndrome s.dramGen w else 0

/-- The state with a storage word's syndrome set. -/
def putSyn (s : State) (w : Nat) (v : Byte) : State := { s with ecc := Tab.set (synDefault w) s.ecc w v }

/-- The storage word at which MEM's error injection is armed, if any (R352). -/
def injWord (s : State) : Option Nat :=
  if s.bit MEM.INJCFG 16 then
    some (spaceAddr (s.fld MEM.INJCFG 10 8) (s.fld MEM.INJCFG 15 11) ((s.rd64 MEM.INJADDR).toNat) / 8)
  else none

/-- A full-word write: fresh data and code (R329, R332), with the armed injection applied and disarmed (R352). -/
def storeWord (s : State) (w : Nat) (d : Word64) : State :=
  if s.injWord = some w then
    let x := s.rd64 MEM.INJDATA
    let flips := xorColumns dataColumns x.toNat
    let s := s.putBytes (w * 8) (leBytes 8 (d ^^^ x).toNat)
    let s := s.putSyn w (BitVec.ofNat 8 (flips ^^^ s.fld MEM.INJCFG 7 0))
    s.setBit MEM.INJCFG 16 false
  else (s.putBytes (w * 8) (leBytes 8 d.toNat)).putSyn w 0

/-- A word written back after correction (R330, R333): data and good code, without injection. -/
def fixWord (s : State) (w : Nat) (d : Word64) : State := (s.putBytes (w * 8) (leBytes 8 d.toNat)).putSyn w 0

/-- A word stored poisoned (R329). -/
def poisonWord (s : State) (w : Nat) : State := s.putSyn w 0xFF

/-- Full-word writes of consecutive storage words from an 8-byte-aligned address up; a short tail is filled with zeros. -/
def storeWords (s : State) (a : Nat) : List Word → State
  | [] => s
  | [x] => s.storeWord (a / 8) (wide x 0)
  | x :: y :: t => storeWords (s.storeWord (a / 8) (wide x y)) (a + 8) t

/-- The state with every listed byte and syndrome of an address range dropped: the range reads as unlisted again. -/
def clearRange (s : State) (lo hi : Nat) : State :=
  { s with mem := s.mem.filter (fun e => !(decide (lo ≤ e.1 ∧ e.1 < hi))),
           ecc := s.ecc.filter (fun e => !(decide (lo / 8 ≤ e.1 ∧ e.1 < hi / 8))) }

end State

end Sys2Proof.Machine
end

