-- ==== Sys2Proof/Machine/Flags.lean ====
section
/-!
DEFINITION. Everything a block reports: landings' credits (R26), FLT and EVT bits (R56, R57) with the records they
produce (R438-R442) and the triggers they fire (R432), completion codes and status registers (R61-R63).
-/
namespace Sys2Proof.Machine

/-! ### Landings (R26-R29) -/

/-- The account of a landing's producer. -/
def landKey (l : Landing) (producer : Nat) : Nat :=
  let c := match l with
    | .sample g => 0x0000 + g
    | .setpoint g => 0x0100 + g
    | .edge r => 0x0200 + r
    | .force r => 0x0300 + r
    | .safeData => 0x0400
    | .trace g => 0x0500 + g
    | .mailbox k => 0x0600 + k
    | .stairwell => 0x0700
    | .acquisition => 0x0800
    | .recorder => 0x0900
    | .store p => 0x0A00 + p
  c * 0x1000 + producer

/-- A producer's share of a landing (R27, R28). -/
def landShare (l : Landing) (producer : Nat) : Nat :=
  match l with
  | .sample _ => if producer = 48 then 8 else 4
  | .setpoint _ => 2
  | .edge _ => 8
  | .force _ => 4
  | .safeData => 1
  | .trace _ => 16
  | .mailbox _ => 64
  | .stairwell => 32
  | .acquisition => 128
  | .recorder => if producer = 0 then 16 else 8
  | .store _ => 256

namespace State

/-- The account of a landing's producer. -/
def credit (s : State) (l : Landing) (p : Nat) : Credit := Tab.get {} s.credits (landKey l p)

/-- The state with an account written. -/
def putCredit (s : State) (l : Landing) (p : Nat) (c : Credit) : State :=
  { s with credits := Tab.set (some {}) s.credits (landKey l p) c }

/-- The producer holds at least `n` credits. -/
def hasCredit (s : State) (l : Landing) (p : Nat) (n : Nat := 1) : Bool :=
  decide ((s.credit l p).spent + n ≤ landShare l p)

/-- Sending `n` units costs `n` credits (R26). -/
def spend (s : State) (l : Landing) (p : Nat) (n : Nat := 1) : State :=
  let c := s.credit l p
  s.putCredit l p { c with spent := c.spent + n }

/-- The consumer frees `n` units: their credits travel back (R26). -/
def giveBack (s : State) (l : Landing) (p : Nat) (n : Nat := 1) : State :=
  let c := s.credit l p
  s.putCredit l p { c with back := Nat.min c.spent (c.back + n) }

/-- One returning credit reaches its producer (R26). -/
def creditHome (s : State) (l : Landing) (p : Nat) : State :=
  let c := s.credit l p
  if c.back = 0 then s else s.putCredit l p { spent := c.spent - 1, back := c.back - 1 }

/-- FRESET at either end of a landing: the producer's credits are whole again (R29). -/
def creditReset (s : State) (l : Landing) (p : Nat) : State := s.putCredit l p {}

/-! ### Triggers (R432, R433) -/

def trgOf (s : State) (t : Nat) : Trg := Tab.get {} s.trg t
def putTrg (s : State) (t : Nat) (x : Trg) : State := { s with trg := Tab.put s.trg t x }
def grpOf (s : State) (g : Nat) : Grp := Tab.get {} s.grp g
def putGrp (s : State) (g : Nat) (x : Grp) : State := { s with grp := Tab.put s.grp g x }

/-- A fire reaches group `g`: taken where the group waits for unit `t`, else counted missed (R433). -/
def fireGroup (t stamp : Nat) (s : State) (g : Nat) : State :=
  let x := s.grpOf g
  if x.running ∧ s.bit (ACQ.GRP_GCFG g) 0 = true ∧ s.bit (ACQ.GRP_GCFG g) 1 = false ∧ s.fld (ACQ.GRP_GCFG g) 4 3 = t then
    if x.fire = none ∧ x.trigAt = none then s.putGrp g { x with fire := some (t, stamp) }
    else s.count (ACQ.GRP_GSTA g) 31 24
  else s

/-- A fire of unit `t` arms unit `u` where `u` waits for it (R432). -/
def chainArm (t : Nat) (s : State) (u : Nat) : State :=
  if s.bit (TRG.TCFG u) 3 = true ∧ s.fld (TRG.TCFG u) 5 4 = t ∧ s.fld ACQ.ASTA 9 8 ≠ 0 ∧ s.fld ACQ.ASTA 9 8 ≠ 3 then
    s.putTrg u { s.trgOf u with armed := true }
  else s

/-- Trigger unit `t` fires with a stamp in 1/16 ns (R432, R433). -/
def fire (s : State) (t stamp : Nat) : State :=
  let s := s.count (TRG.FIRES t) 31 0
  let w := timeWords stamp
  let s := (List.range 4).foldl (fun s i => s.wr (TRG.TLAST t i) (w.getD i 0)) s
  let s := s.putTrg t { s.trgOf t with holdUntil := stamp + s.num (TRG.HOLD t) * 16000 }
  let s := (List.range 4).foldl (chainArm t) s
  (List.range 4).foldl (fireGroup t stamp) s

/-- A FLT or EVT bit of page `p` becomes set: units of KIND 7 that watch it fire (R432). -/
def trgPage (p : Nat) (evt : Bool) (bit : Nat) (s : State) : State :=
  (List.range 4).foldl (fun s t =>
    if (s.trgOf t).armed = true ∧ s.fld (TRG.TCFG t) 2 0 = 7 ∧ s.bit (TRG.TCFG t) 6 = evt ∧ s.fld (TRG.TCFG t) 12 8 = bit
        ∧ s.fld (TRG.TSRC t) 31 24 = p ∧ (s.trgOf t).holdUntil ≤ s.t16 then s.fire t s.t16 else s) s

/-! ### Records (R438-R442) -/

/-- TIME is valid (R418). -/
def timeValid (s : State) : Bool := s.bit TIME.TSTA 3

/-- The TIME words a record carries: zero while TIME is not valid (R438). -/
def stampWords (s : State) : List Word := if s.timeValid then timeWords s.t16 else [0, 0, 0, 0]

/-- A record's 64 bytes as words, with the fields the recorder fills (R438). -/
def recordWords (s : State) (head : Word) (payload : List Word) : List Word :=
  let ws := [wsetBit head 24 s.timeValid, BitVec.ofNat 32 s.recd.seq, s.rd SYS.OPTIME, s.rd (SYS.OPTIME + 4), s.rd SYS.PCYCLE, 0]
    ++ s.stampWords ++ (payload ++ [0, 0, 0, 0, 0]).take 5
  ws ++ [crc32 (bytesOf ws)]

/-- Word 0 of a record (R438). -/
def recordHead (page code sev kind : Nat) : Word := BitVec.ofNat 32 (page + code * 256 + sev * 65536 + kind * 1048576)

/-- A commit joins the eMRAM's queue; NVM.CSTA reports it once it is first (R345). -/
def commitStart (s : State) (c : Commit) : State :=
  let s' := { s with commits := s.commits ++ [c] }
  if s.commits = [] then s'.wr NVM.CSTA (BitVec.ofNat 32 (0x200 + c.kind * 4096)) else s'

/-- The records a flush would write (R442): the ring's unflushed ones, then the holding area's. -/
def unflushedCount (s : State) : Nat := s.recd.unflushed + (s.recd.held.length - s.recd.heldFlushed)

/-- A flush starts, or joins the one that runs (R442). `limit` is the greatest number of units it may write: with more
records pending, it writes the newest. -/
def flushStart (cause limit : Nat) (s : State) : State :=
  let ph := s.fld REC.FSTA 9 8
  if ph = 1 ∨ ph = 2 then { s with recd := { s.recd with flushMore := true } }
  else if s.unflushedCount = 0 then s.wr REC.FSTA 0x300
  else
    let beyond := s.unflushedCount - limit * 63
    let r := s.recd
    let s := { s with recd := { r with unflushed := r.unflushed - beyond,
                                       heldFlushed := r.heldFlushed + (beyond - r.unflushed) } }
    let s := (s.wr REC.FSTA 0x200).setBit REC.RSTA 1 true
    let s := { s with recd := { s.recd with flushCause := cause, flushMore := false } }
    s.commitStart { kind := 5, units := (s.unflushedCount + 62) / 63 }

/-- A record enters the ring, or is lost (R440). Answers whether it was lost. -/
def ringAppend (ws : List Word) (s : State) : State × Bool :=
  let size := s.num REC.RSIZE
  if size < 64 ∨ (s.bit REC.RCFG 1 = true ∧ s.recd.unsent * 64 + 64 > size) then 
    ({ s.count REC.LOST 31 0 with recd := { s.recd with beyond := s.recd.beyond + 1 } }, true)
  else
    let at_ := s.num REC.RWR
    let s := s.storeWords (mezzBase + s.num REC.RBASE + at_) ws
    let s := s.wr REC.RWR (BitVec.ofNat 32 (if at_ + 128 ≤ size then at_ + 64 else 0))
    let s := s.wr REC.RSEQ (ws.getD 1 0)
    let r := s.recd
    ({ s with recd := { r with unsent := if s.bit REC.RCFG 1 then r.unsent + 1 else r.unsent,
                               unflushed := Nat.min (r.unflushed + 1) (size / 64) } }, false)

/-- The recorder accepts a record: into the ring, or into the holding area while frozen (R440, R441); a severe record
starts a flush (R442). Answers whether it was lost. -/
def recAccept (head : Word) (payload : List Word) (s : State) : State × Bool :=
  let ws := s.recordWords head payload
  let s := { s with recd := { s.recd with seq := s.recd.seq + 1 } }
  let (s, lost) :=
    if s.bit REC.RSTA 0 then
      if s.recd.held.length < 256 then
        let s := { s with recd := { s.recd with held := s.recd.held ++ [ws] } }
        (s.setFld REC.RSTA 16 8 s.recd.held.length, false)
      else ({ s.count REC.LOST 31 0 with recd := { s.recd with heldLost := s.recd.heldLost + 1 } }, true)
    else s.ringAppend ws
  let s := if lost = false ∧ wfld head 19 16 ≥ s.fld REC.RCFG 7 4 then s.flushStart 1 0x10000 else s
  (s, lost)

/-- A record of producer `who` (0 the gatherer, 1 the acquisition engine, 2 the hall) crosses the recorder landing
(R28); the recorder takes it at once and its credit travels back.  A gatherer record without credit waits in its page's
slot.  Answers whether a record was lost. -/
def submit (who page : Nat) (head : Word) (payload : List Word) (s : State) : State × Bool :=
  if s.bit REC.RCFG 0 = false then (s, false)
  else if s.hasCredit .recorder who then
    ((s.spend .recorder who).giveBack .recorder who).recAccept head payload
  else if who = 0 ∧ Tab.find s.recd.slots page = none then
    ({ s with recd := { s.recd with slots := Tab.put s.recd.slots page (head :: payload) } }, false)
  else (s.count REC.LOST 31 0, true)

/-- The payload of a page's fault and event records (R439). -/
def pagePayload (s : State) (p : Nat) : List Word :=
  [s.rd (HDR.FLT p), s.rd (HDR.STA p), s.rd (regAt p 0x40), s.rd (regAt p 0x44), s.rd (regAt p 0x48)]

/-- FLT bit `b` of page `p` set, with its triggers and its record (R432, R439). Answers whether a record was lost. -/
def fltRecord (p b : Nat) (s : State) : State × Bool :=
  if s.bit (HDR.FLT p) b then (s, false)
  else
    let s := trgPage p false b (s.setBit (HDR.FLT p) b true)
    s.submit 0 p (recordHead p b 2 1) (s.pagePayload p)

/-- EVT bit `n` of page `p` set; a record only where its enable is set (R57, R439). -/
def evtRecord (p n : Nat) (s : State) : State × Bool :=
  if s.bit (HDR.EVT p) n then (s, false)
  else
    let s := trgPage p true n (s.setBit (HDR.EVT p) n true)
    if s.bit (HDR.EVT p) (16 + n) then s.submit 0 p (recordHead p n 1 2) (s.pagePayload p) else (s, false)

/-- A lost record reports on the REC page (R455). -/
def noteLost (s : State) : State := (evtRecord pgREC 2 (fltRecord pgREC 17 s).1).1

/-- A FLT bit of a page becomes set (R56). -/
def raiseFlt (p b : Nat) (s : State) : State :=
  let r := fltRecord p b s
  if r.2 then noteLost r.1 else r.1

/-- An EVT bit of a page becomes set (R57). -/
def raiseEvt (p n : Nat) (s : State) : State :=
  let r := evtRecord p n s
  if r.2 then noteLost r.1 else r.1

/-- FLT.ACCESS, the answer to a discarded write (R48, R56). -/
def refuseWrite (p : Nat) (s : State) : State := raiseFlt p 0 s

/-! ### Operations and completion codes (R61-R63) -/

end State

/-- The completion codes of R61. -/
inductive Code where
  | done | aborted | abortLate | rejLength | rejState | rejLock | failEcc | timeout | superseded
  deriving DecidableEq, Repr

/-- The number of a completion code (R61). -/
def Code.num : Code → Nat
  | .done => 0
  | .aborted => 1
  | .abortLate => 2
  | .rejLength => 3
  | .rejState => 4
  | .rejLock => 5
  | .failEcc => 6
  | .timeout => 7
  | .superseded => 8

namespace State

/-- PHASE of a status register (R62). -/
def phase (s : State) (a : Nat) : Nat := s.fld a 9 8

/-- An operation runs: PHASE 1 or 2 (R62). -/
def busyOp (s : State) (a : Nat) : Bool := s.phase a = 1 || s.phase a = 2

/-- Pages whose power state never goes below IDLE (R480). -/
def alwaysOn (p : Nat) : Bool := [pgSYS, pgHOST, pgPWR, pgCLK, pgTHM, pgTIME, pgNEWEL, pgBAL0, pgBAL1].contains p

/-- A page's block is OFF: its runtime registers read their reset values, and an operation ends REJ_STATE (R480, R481). -/
def offView (s : State) (p : Nat) : Bool := s.booted && s.fld (HDR.STA p) 10 8 == 0 && !alwaysOn p

/-- A page's block that is IDLE starts its clock for work (R480). -/
def restartClock (p : Nat) (s : State) : State :=
  if s.fld (HDR.STA p) 10 8 = 2 then s.setFld (HDR.STA p) 10 8 3 else s

/-- An operation is accepted (PHASE 1) or running (PHASE 2); CODE reads zero until its end (R62). -/
def opPhase (a ph : Nat) (s : State) : State :=
  ({ s.setFld a 9 0 (ph * 256) with pastCompletion := Tab.erase s.pastCompletion a }).restartClock (a / 0x1000)

/-- An operation ends: CODE and PHASE 3 in one write (R61), with the FLT bit of its page that the code calls for. -/
def opEnd (p a : Nat) (c : Code) (s : State) : State :=
  let s := { s.setFld a 9 0 (0x300 + c.num) with pastCompletion := Tab.erase s.pastCompletion a }
  match c with
  | .abortLate => raiseFlt p 8 s
  | .rejLength => raiseFlt p 1 s
  | .rejLock => raiseFlt p 6 s
  | _ => s

/-- The operation has passed its completion instant and not ended (R63). -/
def isPast (s : State) (a : Nat) : Bool := (Tab.find s.pastCompletion a).isSome

/-- The operation passes its completion instant; the flag tells whether an abort has come since (R63). -/
def passCompletion (a : Nat) (s : State) : State := { s with pastCompletion := Tab.put s.pastCompletion a false }

/-- The terminal write of an operation past its completion instant: DONE, or ABORT_LATE if an abort came (R63). -/
def opFinish (p a : Nat) (s : State) : State :=
  opEnd p a (if Tab.find s.pastCompletion a = some true then .abortLate else .done) s

/-- An abort of the operation of status register `a`, resolved against its completion instant (R63). `undo` is what an
abort in time leaves. -/
def opAbort (p a : Nat) (undo : State → State) (s : State) : State :=
  match s.phase a with
  | 0 => s
  | 3 => raiseFlt p 8 s
  | _ => if s.isPast a then { s with pastCompletion := Tab.put s.pastCompletion a true } else opEnd p a .aborted (undo s)

end State

/-- A row about a unit that exists has its effect; one about a unit that is not built is no step of the device. -/
def onUnit (ok : Bool) (t : State) : Host.Outcome State Fault Refusal :=
  if ok then .next t else .fault .noUnit

end Sys2Proof.Machine
end

