-- ==== Sys2Proof/Machine/Ecc.lean ====
section
/-!
DEFINITION. Accesses to the coded memories with the outcome of an error (R328-R333): correction and write-back, counts,
reports, and read-modify-write of partial writes.
-/
namespace Sys2Proof.Machine

namespace State

/-- A correctable error met in the storage word `w` (R331): FLT.ECC_CE of the owner, MEM.CECNT, the bank's count (R338). -/
def noteCe (w : Nat) (s : State) : State :=
  match spaceOf (w * 8) with
  | none => s
  | some (sp, g, rel) =>
    let s := s.raiseFlt (ownerPage sp g) 3
    match sp with
    | 0 => (s.count MEM.CECNT 15 0).count (MEM.BANKCE (s.fld (MEM.BANKMAP (rel / 0x200000)) 4 0)) 15 0
    | 1 => s.count MEM.CECNT 31 16
    | _ => s

/-- An uncorrectable error met in the storage word `w` by requester `who` (R331, R353): FLT.ECC_UE of the owner and of
MEM, MEM.UECNT, MEM's event, and UELAST where it holds none. -/
def noteUe (w who : Nat) (s : State) : State :=
  match spaceOf (w * 8) with
  | none => s
  | some (sp, g, rel) =>
    let s := (s.raiseFlt (ownerPage sp g) 4).raiseFlt pgMEM 4
    let s := match sp with
      | 0 => s.count MEM.UECNT 15 0
      | 1 => s.count MEM.UECNT 31 16
      | _ => s
    let s := s.raiseEvt pgMEM 2
    if s.bit (MEM.UELAST + 4) 31 then s
    else s.wr64 MEM.UELAST (BitVec.ofNat 64 (rel % 2 ^ 40 + sp * 2 ^ 40 + who * 2 ^ 43 + 2 ^ 63))

/-- A read of the storage word `w`: its data, corrected where it can be and then written back if `back`; none for an
uncorrectable word (R328, R330). -/
def readWord (w who : Nat) (back : Bool) (s : State) : Option Word64 × State :=
  match classify (s.syn w) with
  | .good => (some (s.word64 w), s)
  | .correctable b =>
    let d := match b with
      | some i => s.word64 w ^^^ BitVec.ofNat 64 (2 ^ i)
      | none => s.word64 w
    let s := s.noteCe w
    (some d, if back then s.fixWord w d else s)
  | .uncorrectable => (none, s.noteUe w who)

/-- Reads of `n` storage words from word `w` up; none if any is uncorrectable. -/
def readSpan (who : Nat) (back : Bool) : (n w : Nat) → State → Option (List Byte) × State
  | 0, _, s => (some [], s)
  | n + 1, w, s =>
    match s.readWord w who back with
    | (none, s) => (none, s)
    | (some d, s) =>
      match readSpan who back n (w + 1) s with
      | (none, s) => (none, s)
      | (some t, s) => (some (leBytes 8 d.toNat ++ t), s)

/-- A read of `n` bytes from address `a` up (R330). -/
def readBytes (a n who : Nat) (back : Bool) (s : State) : Option (List Byte) × State :=
  if n = 0 then (some [], s)
  else
    let w := a / 8
    match s.readSpan who back ((a + n - 1) / 8 - w + 1) w with
    | (none, s) => (none, s)
    | (some bs, s) => (some ((bs.drop (a % 8)).take n), s)

/-- A write of at most one storage word's bytes at offset `o` of word `w` (R332): a full word succeeds; a partial one is
a read-modify-write, refused on an uncorrectable word.  Answers whether it was done. -/
def writePart (w o who : Nat) (bs : List Byte) (s : State) : Bool × State :=
  if o = 0 ∧ bs.length = 8 then (true, s.storeWord w (BitVec.ofNat 64 (ofLeBytes bs)))
  else
    match s.readWord w who false with
    | (none, s) => (false, s)
    | (some d, s) =>
      let old := leBytes 8 d.toNat
      (true, s.storeWord w (BitVec.ofNat 64 (ofLeBytes (old.take o ++ bs ++ old.drop (o + bs.length)))))

/-- A write of bytes from address `a` up, storage word by storage word; it stops at a refused partial write.  Answers
whether all was written, and how many bytes were.  `n` bounds the storage words. -/
def writeSpan (who : Nat) : (n a : Nat) → List Byte → State → Bool × Nat × State
  | 0, _, _, s => (true, 0, s)
  | n + 1, a, bs, s =>
    if bs = [] then (true, 0, s)
    else
      let k := 8 - a % 8
      match s.writePart (a / 8) (a % 8) who (bs.take k) with
      | (false, s) => (false, 0, s)
      | (true, s) =>
        match writeSpan who n (a + k) (bs.drop k) s with
        | (ok, m, s) => (ok, (bs.take k).length + m, s)

/-- A write of bytes from address `a` up (R332). -/
def writeBytes (a who : Nat) (bs : List Byte) (s : State) : Bool × State :=
  match s.writeSpan who (bs.length + 1) a bs with
  | (ok, _, s) => (ok, s)

end State

end Sys2Proof.Machine
end

