-- ==== Sys2Proof/Machine/Firewall.lean ====
section
/-!
DEFINITION. The newel's firewall (R302, R303).  Spaces are numbered in the order R302 names them: 0 LPDDR5, 1 mezzanine,
2 BAR0, 3 BAR2 (log entry 12).
-/
namespace Sys2Proof.Machine

/-- The rights of a region (R302). -/
inductive Right where
  | read | write | exec
  deriving DecidableEq, Repr

/-- The bit of FWR.ATTR that grants a right (R322). -/
def Right.bit : Right → Nat
  | .read => 0
  | .write => 1
  | .exec => 2

namespace State

/-- Region `j` is valid, lies in the space, admits the requester with the right, and holds the 4 KiB page `pg`. -/
def fwRegion (s : State) (who space pg : Nat) (r : Right) (j : Nat) : Bool :=
  let at_ := s.rd (NEWEL.FWR_ATTR j)
  if at_.getLsbD 31 = false then false
  else
    let base := (s.rd64 (NEWEL.FWR_BASE j)).toNat / 0x1000
    decide (wfld at_ 5 4 = space) && at_.getLsbD r.bit && (s.rd64 (NEWEL.FWR_MASK j)).getLsbD who
      && decide (base ≤ pg ∧ pg < base + s.num (NEWEL.FWR_SIZE j))

/-- The firewall admits an access: every byte of it lies in valid regions that admit the requester (R302). -/
def fwAdmits (s : State) (who space addr len : Nat) (r : Right) : Bool :=
  let first := addr / 0x1000
  let last := (addr + len - 1) / 0x1000
  (List.range (last + 1 - first)).all fun i => (List.range 64).any fun j => s.fwRegion who space (first + i) r j

/-- A refused access (R303): counted, reported on the NEWEL page, and captured in FWLAST where it holds none. -/
def fwRefuse (who space addr : Nat) (s : State) : State :=
  let s := (s.count NEWEL.FWCNT 31 0).raiseFlt pgNEWEL 18
  if s.bit (NEWEL.FWLAST + 4) 31 then s
  else s.wr64 NEWEL.FWLAST (BitVec.ofNat 64 (addr % 2 ^ 40 + who * 2 ^ 40 + space * 2 ^ 46 + 2 ^ 63))

/-- A write to what only the newel writes (R300): discarded, FLT.ACCESS of the page, and counted in NEWEL.FWCNT. -/
def newelOnly (p : Nat) (s : State) : State := (s.refuseWrite p).count NEWEL.FWCNT 31 0

end State

end Sys2Proof.Machine
end

