-- ==== Sys2Proof/Machine/Operands.lean ====
section
/-!
DEFINITION. The operand forms of the gallery's instructions (R82, R86): banked scalar registers, F, V and accumulator
registers, the register or immediate operand, effective addresses and the local memory map (R84).
-/
namespace Sys2Proof.Machine

/-- The bank of a context's G24 to G31 (R82). -/
def Ctx.bank : Ctx → Nat
  | .background => 0
  | .interrupt => 1
  | .tread => 2
  | .trap => 3

/-- The code of a context in PSTAT (R119), in the order R119's PSTAT row and R82 name them. -/
def Ctx.code : Ctx → Nat := Ctx.bank

/-- The place of scalar register `r` of a context in the banked file (R82). -/
def gIndex (c : Ctx) (r : Nat) : Nat := if r < 24 then r else 24 + 8 * c.bank + (r - 24)

/-- Scalar register `r` as the running context reads it; G0 reads zero (R82). -/
def Core.g (c : Core) (r : BitVec 5) : Word :=
  if r = 0 then 0 else Tab.get 0 c.gpr (gIndex c.ctx r.toNat)

/-- F register. -/
def Core.f (c : Core) (r : BitVec 4) : Word := Tab.get 0 c.fr r.toNat

/-- Lane `i` of a V register. -/
def Core.lane (c : Core) (r : BitVec 4) (i : Nat) : Word := Tab.get 0 c.vr (r.toNat * 8 + i)

/-- The eight lanes of a V register. -/
def Core.v (c : Core) (r : BitVec 4) : List Word := (List.range 8).map (c.lane r)

/-- The second operand of an ALU instruction (R86): a register, or the immediate sign-extended. -/
def Core.src (c : Core) : AluSrc → Word
  | .reg b => c.g b
  | .imm v => v.signExtend 32

/-- Base register plus signed byte offset (R86). -/
def Core.ea {n : Nat} (c : Core) (b : BitVec 5) (off : BitVec n) : Word := c.g b + off.signExtend 32

/-- The scalar registers an ALU operand reads. -/
def aluReads : AluSrc → List (BitVec 5)
  | .reg b => [b]
  | .imm _ => []

/-- A load of `n` bytes at a local address is allowed in classes 3 and 5 (R84). -/
def localLoadOk (a n : Nat) : Bool := decide (a % 4 = 0 ∧ 0x10000 ≤ a ∧ a + n ≤ 0x48000)

/-- A store of `n` bytes at a local address is allowed in classes 3 and 5 (R84): data memory only. -/
def localStoreOk (a n : Nat) : Bool := decide (a % 4 = 0 ∧ 0x10000 ≤ a ∧ a + n ≤ 0x3F000)

/-- A class 4 access at a local address lies in the mezzanine window (R84). -/
def mezzWindowOk (a : Nat) : Bool := decide (a % 4 = 0 ∧ 0x10000000 ≤ a ∧ a < 0x13000000)

/-- The condition of a branch (R86). -/
def condHolds (c : Cond) (v : Word) : Bool :=
  match c with
  | .always => true
  | .eqz => decide (v = 0)
  | .nez => decide (v ≠ 0)
  | .ltz => decide (v.toInt < 0)
  | .gez => decide (v.toInt ≥ 0)
  | .gtz => decide (v.toInt > 0)
  | .lez => decide (v.toInt ≤ 0)

/-- The scalar register a condition reads: none for `always`. -/
def condReads (c : Cond) (g : BitVec 5) : List (BitVec 5) :=
  match c with
  | .always => []
  | _ => [g]

end Sys2Proof.Machine
end

