-- ==== Sys2Proof/Machine/Pipe.lean ====
section
/-!
DEFINITION. The gallery's processor as a machine of cycles (R89-R99): issue of one instruction, results in flight, delay
slots, zero-overhead loops, contexts, traps.  Every gallery instruction is a body run by `State.issue`.
-/
namespace Sys2Proof.Machine

/-- Where control goes after an instruction's body: on in order, to an address at once, to a jump after the delay slot,
into a trap, or nowhere yet (the instruction stalls). -/
inductive Next where
  | seq
  | goto (a : Word)
  | branch (j : Jump)
  | trap (c : TrapCause) (addr : Option Word)
  | stay
  deriving DecidableEq, Repr

/-- The cause code of XINFO (R99). -/
def trapCode : TrapCause → Nat
  | .illegal => 1
  | .access => 2
  | .length => 3
  | .fetchUe => 4
  | .dataUe => 5
  | .storeUe => 6
  | .budget => 7
  | .accsat => 8
  | .stsat => 9
  | .fpinv => 10
  | .software c => c.toNat

/-- The FLT bits a trap cause sets (R99, R121). -/
def trapFlts : TrapCause → List Nat
  | .length => [1, 20]
  | .fetchUe => [22, 4]
  | .dataUe => [4, 20]
  | .storeUe => [4, 20]
  | .budget => [19]
  | _ => [20]

namespace State

def galOf (s : State) (g : Nat) : Gal := Tab.get {} s.gal g
def putGal (s : State) (g : Nat) (x : Gal) : State := { s with gal := Tab.put s.gal g x }
def coreOf (s : State) (g : Nat) : Core := (s.galOf g).core
def putCore (s : State) (g : Nat) (c : Core) : State := s.putGal g { s.galOf g with core := c }
def slotRun (s : State) (g n : Nat) : SlotRun := Tab.get {} (s.galOf g).slots n
def putSlotRun (s : State) (g n : Nat) (x : SlotRun) : State :=
  s.putGal g { s.galOf g with slots := Tab.put (s.galOf g).slots n x }
def slotCfg (s : State) (g n : Nat) : SlotCfg := Tab.get {} (s.galOf g).sched n

/-- The committed schedule enables slot `n`. -/
def slotOn (s : State) (g n : Nat) : Bool := (s.slotCfg g n).sbr.getLsbD 7

/-- The bridge that slot `n` serves. -/
def slotBridge (s : State) (g n : Nat) : Nat := wfld (s.slotCfg g n).sbr 5 0

/-- STA.STATE of a gallery (R55, R120). -/
def galState (s : State) (g : Nat) : Nat := s.fld (HDR.STA (pgGAL g)) 3 0

/-- The fast clock runs (R55: PWRSTATE ACTIVE or THROTTLED). -/
def clockOn (s : State) (g : Nat) : Bool := decide (s.fld (HDR.STA (pgGAL g)) 10 8 ≥ 3)

/-- The gallery issues instructions: in service as RUN or SHADOW, clocked, and not stalled in SWAIT or WAITI. -/
def galIssues (s : State) (g : Nat) : Bool :=
  let c := s.coreOf g
  (s.galState g = 3 || s.galState g = 9) && s.clockOn g && c.swait.isNone && !(c.waiti && c.ctx = .background)

/-- The fast clock starts, and a WAITI ends (R22, R105, log entry 23). -/
def startClock (g : Nat) (s : State) : State :=
  let s := if s.fld (HDR.STA (pgGAL g)) 10 8 = 2 then s.setFld (HDR.STA (pgGAL g)) 10 8 3 else s
  s.putCore g { s.coreOf g with waiti := false }

/-! ### Results in flight (R89, R90) -/

/-- The bit of TRAPEN that lets an ASTAT bit trap, and the trap's cause (R99, R120). -/
def trapenOf (b : Nat) : Nat × TrapCause :=
  if b < 8 then (0, .accsat) else if b = 8 then (1, .stsat) else (2, .fpinv)

/-- An ASTAT sticky bit is set; where TRAPEN allows it a deferred trap is raised (R98, R99). -/
def noteAstat (g b : Nat) (s : State) : State :=
  let s := s.setBit (GAL.ASTAT g) b true
  let s := if b < 8 then
      let s := s.raiseFlt (pgGAL g) 25
      let c := s.coreOf g
      if c.ctx = .tread then s.putSlotRun g c.slotno { s.slotRun g c.slotno with accsat := true } else s
    else s
  let (e, cause) := trapenOf b
  if s.bit (GAL.TRAPEN g) e then
    let c := s.coreOf g
    s.putCore g { c with deferred := c.deferred ++ [cause] }
  else s

/-- One result lands: its register takes it (G0 ignores it, R82). -/
def landOne (g : Nat) (s : State) (f : Flight) : State :=
  let c := s.coreOf g
  let w := f.words.getD 0 0
  let s := match f.dest with
    | .g i => if i = 0 then s else s.putCore g { c with gpr := Tab.set (some 0) c.gpr i w }
    | .f i => s.putCore g { c with fr := Tab.set (some 0) c.fr i w }
    | .v i =>
      let vr := (List.range f.words.length).foldl (fun t k => Tab.set (some 0) t (i * 8 + k) (f.words.getD k 0)) c.vr
      s.putCore g { c with vr := vr }
    | .a i =>
      let keep := match Tab.find c.chain i with
        | some (q, _) => if f.mac then decide (q ≠ f.seq) else decide (f.seq < q)
        | none => true
      let s := s.putCore g { c with acc := Tab.set (some 0) c.acc i f.acc.v,
                                    chain := if keep then c.chain else Tab.erase c.chain i }
      s.setBit (GAL.ASTAT g) (16 + i) f.acc.lock
    | .lane i k => s.putCore g { c with vr := Tab.set (some 0) c.vr (i * 8 + k) w }
    | .aput i part =>
      let old := Tab.get 0 c.acc i
      let new : BitVec 72 := match part with
        | 0 => wset old 31 0 w.toNat
        | 1 => wset old 63 32 w.toNat
        | _ => wset old 71 64 w.toNat
      let keep := match Tab.find c.chain i with
        | some (q, _) => decide (f.seq < q)
        | none => true
      let s := s.putCore g { c with acc := Tab.set (some 0) c.acc i new,
                                    chain := if keep then c.chain else Tab.erase c.chain i }
      if part = 2 then s.setBit (GAL.ASTAT g) (16 + i) (w.getLsbD 8) else s
  match f.note with
  | some b => s.noteAstat g b
  | none => s

/-- Every result due by the present cycle lands, in the order of R90. -/
def settle (g : Nat) (s : State) : State :=
  let c := s.coreOf g
  let now := c.flights.filter fun f => decide (f.due ≤ c.cyc)
  let later := c.flights.filter fun f => !decide (f.due ≤ c.cyc)
  now.foldl (landOne g) (s.putCore g { c with flights := later })

/-- A result placed among those in flight: by landing cycle, then issue order (R90). -/
def insertFlight (f : Flight) : List Flight → List Flight
  | [] => [f]
  | h :: t => if f.due < h.due then f :: h :: t else h :: insertFlight f t

/-- The instruction being issued produces a result that can be used `lat` cycles later (R89). -/
def produce (g lat : Nat) (f : Flight) (s : State) : State :=
  let c := s.coreOf g
  s.putCore g { c with flights := insertFlight { f with due := c.cyc + lat, seq := c.seq } c.flights }

/-- A scalar result (R82: in the bank of the running context), with the ASTAT bit it sets when it lands. -/
def produceG (g lat : Nat) (r : BitVec 5) (w : Word) (note : Option Nat) (s : State) : State :=
  s.produce g lat { due := 0, seq := 0, dest := .g (gIndex (s.coreOf g).ctx r.toNat), words := [w], note := note }

/-- A scalar result whose readers wait for it (R89, interlocked). -/
def produceI (g lat : Nat) (r : BitVec 5) (w : Word) (s : State) : State :=
  s.produce g lat
    { due := 0, seq := 0, dest := .g (gIndex (s.coreOf g).ctx r.toNat), words := [w], inter := true }

/-- An F result, with the ASTAT bit it sets when it lands. -/
def produceF (g lat : Nat) (r : BitVec 4) (w : Word) (note : Option Nat) (s : State) : State :=
  s.produce g lat { due := 0, seq := 0, dest := .f r.toNat, words := [w], note := note }

/-- No fixed-latency result is outstanding and no delay slot waits: an interruptible point (R91, R96). -/
def interruptible (s : State) (g : Nat) : Bool :=
  let c := s.coreOf g
  (c.flights.all fun f => f.inter) && c.slotOf.isNone

/-! ### Contexts and traps (R94-R99) -/

/-- The saved ACT field that entry to a context writes, as low bit in `actSaved` (R119). -/
def actField : Ctx → Nat
  | .interrupt => 0
  | .tread => 2
  | _ => 4

/-- Entry to a context at an address (R96): ACT saved and cleared, the register bank switched, the context stacked. -/
def enterCtx (g : Nat) (x : Ctx) (target : Word) (s : State) : State :=
  let c := s.coreOf g
  let lo := actField x
  s.putCore g { c with stack := c.ctx :: c.stack, ctx := x, pc := target, slotOf := none,
                       actSaved := wset c.actSaved (lo + 1) lo c.act.toNat, act := 0 }

/-- Exit from the running context to an address (R96): ACT and the bank of the context below restored. -/
def leaveCtx (g : Nat) (target : Word) (s : State) : State :=
  let c := s.coreOf g
  let lo := actField c.ctx
  s.putCore g { c with ctx := c.stack.headD .background, stack := c.stack.drop 1, pc := target, slotOf := none,
                       act := BitVec.ofNat 2 (wfld c.actSaved (lo + 1) lo) }

/-- Before an exit every fixed-latency result lands (R96). -/
def drain (g : Nat) (s : State) : State :=
  let c := s.coreOf g
  let t := c.flights.foldl (fun m f => if f.inter then m else Nat.max m f.due) c.cyc
  settle g (s.putCore g { c with cyc := t })

/-- Interrupt source `n` gives an event (R94); an allowed one restarts the clock (R105). -/
def raiseIrq (g n : Nat) (s : State) : State :=
  let c := s.coreOf g
  let allowed := c.imask.getLsbD n
  let s := s.putCore g { c with ipend := wsetBit c.ipend n true,
                                irqSince := if allowed ∧ c.irqSince = none then some c.cyc else c.irqSince }
  if allowed then s.startClock g else s

/-- Bytes of a trace record (R115). -/
def traceSize (s : State) (g : Nat) : Nat := 8 + 4 * (s.fld (GAL.TRCFG g) 7 4 + 1)

/-- Records that the trace ring holds (R116, R117). -/
def traceCap (s : State) (g : Nat) : Nat :=
  (if s.bit (GAL.TRCFG g) 0 then s.num (GAL.TRMSIZE g) else 0x8000) / s.traceSize g

/-- The trace trigger (R117): PHASE 2, the index of the trigger record, and how many records are still to be stored. -/
def traceTrigger (g idx left : Nat) (s : State) : State :=
  let s := s.setFld (GAL.TRSTA g) 31 16 idx
  let s := s.setFld (GAL.TRSTA g) 9 8 2
  let x := s.galOf g
  let s := s.putGal g { x with trace := { x.trace with left := left } }
  (s.raiseEvt (pgGAL g) 0).raiseIrq g 3

/-- A trigger condition met outside a record (R120: any trap, supervision trip): the next record is the trigger
record. -/
def traceNotice (g cond : Nat) (s : State) : State :=
  if s.phase (GAL.TRSTA g) = 1 ∧ s.fld (GAL.TRTRIG g) 6 4 = cond then
    s.traceTrigger g (if s.traceCap g = 0 then 0 else (s.galOf g).trace.count % s.traceCap g) (s.num (GAL.TRPOST g) + 1)
  else s

/-- A trap is taken (R98, R99): XINFO, XPC, XADDR and the cause's FLT bits; the trap context starts at 0x0040.  In the
trap context it is a double trap and the gallery is HELD.  A fetch error holds the gallery with no handler. -/
def takeTrap (g : Nat) (cause : TrapCause) (addr : Option Word) (pcv : Word) (dslot : Bool) (s : State) : State :=
  let c := s.coreOf g
  let dbl := decide (c.ctx = .trap)
  let s := s.wr (GAL.XINFO g) (BitVec.ofNat 32 (trapCode cause + c.slotno % 8 * 256 + b01 dbl * 2048 + b01 dslot * 4096))
  let s := s.wr (GAL.XPC g) pcv
  let s := match addr with
    | some a => s.wr (GAL.XADDR g) a
    | none => s
  let s := (trapFlts cause).foldl (fun s b => s.raiseFlt (pgGAL g) b) s
  let s := s.traceNotice g 3
  let s := if cause = .budget then
      let s := s.count (GAL.PLANCNT g) 31 16
      s.putSlotRun g c.slotno { s.slotRun g c.slotno with budgetTrap := true }
    else s
  if cause = .fetchUe then s.setFld (HDR.STA (pgGAL g)) 3 0 6
  else if dbl then (s.setFld (HDR.STA (pgGAL g)) 3 0 6).raiseFlt (pgGAL g) 21
  else
    let s := s.enterCtx g .trap 0x40
    s.putCore g { s.coreOf g with waiti := false, swait := none }

/-- Deferred traps: the oldest is taken at an interruptible point, with XPC at the next instruction (R98). -/
def takeDeferred (g : Nat) (s : State) : State :=
  if s.interruptible g then
    match (s.coreOf g).deferred with
    | [] => s
    | cause :: rest =>
      let c := s.coreOf g
      takeTrap g cause none c.pc false (s.putCore g { c with deferred := rest })
  else s

/-- The budget trap of the running tread (R99): once per tread, held while the trap context runs.  In a delay slot XPC
names the branch (R91). -/
def budgetTrap (g : Nat) (s : State) : State :=
  let c := s.coreOf g
  if c.budgetGone then s
  else if c.ctx = .tread then
    let s := s.putCore g { c with budgetGone := true }
    match c.slotOf with
    | some (_, b) => takeTrap g .budget none b true s
    | none => takeTrap g .budget none c.pc false s
  else if c.ctx = .trap ∧ c.stack.headD .background = .tread then
    s.putCore g { c with budgetGone := true, budgetHeld := true }
  else s

/-- RETX has left the trap context: a held budget trap is taken before the next instruction issues (R99). -/
def takeHeld (g : Nat) (s : State) : State :=
  let c := s.coreOf g
  if c.budgetHeld ∧ c.ctx = .tread then takeTrap g .budget none c.pc false (s.putCore g { c with budgetHeld := false })
  else s

/-! ### Program counter, loops, delay slots (R91-R93) -/

/-- The address after an instruction in order: the loop hardware acts where an active level ends here, level 1 first
(R93). -/
def loopNext (c : Core) : Core :=
  let c1 : Core × Bool :=
    if c.act.getLsbD 1 = true ∧ c.le1 = c.pc then
      if c.lc1.toNat > 1 then ({ c with lc1 := c.lc1 - 1, pc := c.ls1 }, true)
      else ({ c with lc1 := 0, act := wsetBit c.act 1 false }, false)
    else (c, false)
  if c1.2 then c1.1
  else
    let c := c1.1
    if c.act.getLsbD 0 = true ∧ c.le0 = c.pc then
      if c.lc0.toNat > 1 then { c with lc0 := c.lc0 - 1, pc := c.ls0 }
      else { c with lc0 := 0, act := wsetBit c.act 0 false, pc := c.pc + 4 }
    else { c with pc := c.pc + 4 }

/-- Control after an instruction that goes on in order: the jump whose delay slot it was, or the next address. -/
def goOn (g : Nat) (s : State) : State :=
  let c := s.coreOf g
  match c.slotOf with
  | none => s.putCore g (loopNext c)
  | some (.to t, _) => s.putCore g { c with pc := t, slotOf := none }
  | some (.reti, _) => let s := s.drain g; s.leaveCtx g (s.coreOf g).ipc
  | some (.retx, _) => let s := s.drain g; takeHeld g (s.leaveCtx g (s.rd (GAL.XPC g)))

/-- The trap of the instruction being issued (R91, R98): in a delay slot XPC names the branch. -/
def trapHere (g : Nat) (cause : TrapCause) (addr : Option Word) (s : State) : State :=
  let c := s.coreOf g
  match c.slotOf with
  | some (_, b) => takeTrap g cause addr b true s
  | none => takeTrap g cause addr c.pc false s

/-- Control after an instruction's body. -/
def follow (g : Nat) (n : Next) (s : State) : State :=
  let c := s.coreOf g
  match n with
  | .seq => s.goOn g
  | .goto a => s.putCore g { c with pc := a }
  | .branch j => s.putCore g { c with slotOf := some (j, c.pc), pc := c.pc + 4 }
  | .trap (.software k) _ => takeTrap g (.software k) none (c.pc + 4) false s
  | .trap cause addr => trapHere g cause addr s
  | .stay => s

/-- The end of an instruction's cycle: results land, deferred traps are taken. -/
def endCycle (g : Nat) (s : State) : State :=
  let c := s.coreOf g
  takeDeferred g (settle g (s.putCore g { c with cyc := c.cyc + 1, seq := c.seq + 1 }))

/-- The cycle at which an instruction can issue: after the interlocked results it reads have arrived, and after a
running division where it needs that unit (R89). -/
def issueCycle (c : Core) (reads : List (BitVec 5)) (div : Bool) : Nat :=
  let t := c.flights.foldl (fun m f =>
    if f.inter ∧ reads.any (fun r => decide (r ≠ 0 ∧ f.dest = .g (gIndex c.ctx r.toNat))) then Nat.max m f.due else m) c.cyc
  if div then Nat.max t c.divBusy else t

/-- Gallery `g` issues an instruction (R89-R93).  `control` marks the control instructions of R91, `reads` the scalar
registers read, `div` the divide unit.  A fetch outside code memory is an ACCESS trap (R84).  A gallery that issues
nothing leaves the state as it is. -/
def issue (g : Nat) (control : Bool) (reads : List (BitVec 5)) (div : Bool) (body : State → State × Next)
    (s : State) : State :=
  if s.galIssues g then
    let c := s.coreOf g
    let s := settle g (s.putCore g { c with cyc := issueCycle c reads div })
    if (s.coreOf g).pc.toNat ≥ 0x10000 ∨ (s.coreOf g).pc.toNat % 4 ≠ 0 then endCycle g (trapHere g .access none s)
    else if control ∧ (s.coreOf g).slotOf.isSome then endCycle g (trapHere g .illegal none s)
    else
      let r := body s
      endCycle g (follow g r.2 r.1)
  else s

end State

/-- A command of gallery `g`: its effect where the variant builds the gallery (R2). -/
def onGal (g : Nat) (f : State → State) (s : State) : Host.Outcome State Fault Refusal :=
  onUnit (decide (g < s.variant.galleries)) (f s)

end Sys2Proof.Machine
end

