-- ==== Sys2Proof/Machine/Search.lean ====
section
/-!
DEFINITION. The gallery's search unit (R89, R109).
-/
namespace Sys2Proof.Machine

/-- One lane examined (R109). -/
def searchLane (u : Search) (i : Nat) (x : Word) : Search :=
  let better := if u.minimum then decide (x.toInt < u.best.toInt) else decide (x.toInt > u.best.toInt)
  if u.idx = 0xFFFFFFFF ∨ better = true then { u with best := x, idx := u.base + BitVec.ofNat 32 i } else u

/-- SSTEP over a list of lanes (R109). -/
def searchStep (u : Search) (xs : List Word) : Search :=
  let v := ((List.range xs.length).zip xs).foldl (fun u p => searchLane u p.1 p.2) u
  { v with base := v.base + BitVec.ofNat 32 xs.length }

/-- The search state as a read sees it: an update of the cycle before is not seen (R89). -/
def searchSeen (c : Core) : Search :=
  match c.searchAt with
  | some t => if t + 1 = c.cyc then c.searchPrev else c.search
  | none => c.search

namespace State

/-- A search update, in issue order (R89). -/
def searchUpdate (g : Nat) (f : Search → Search) (s : State) : State :=
  let c := s.coreOf g
  s.putCore g { c with search := f c.search, searchPrev := c.search, searchAt := some c.cyc }

end State

/-- SINITMAX (R109). -/
def execSinitmax (g : Nat) (r : BitVec 5) (s : State) : Host.Outcome State Fault Refusal :=
  onGal g (State.issue g false [r] false (fun s =>
    (s.searchUpdate g (fun u => { u with base := (s.coreOf g).g r, idx := 0xFFFFFFFF, minimum := false }), .seq))) s

/-- SINITMIN (R109). -/
def execSinitmin (g : Nat) (r : BitVec 5) (s : State) : Host.Outcome State Fault Refusal :=
  onGal g (State.issue g false [r] false (fun s =>
    (s.searchUpdate g (fun u => { u with base := (s.coreOf g).g r, idx := 0xFFFFFFFF, minimum := true }), .seq))) s

/-- SSTEP (R109). -/
def execSstep (g : Nat) (x : BitVec 4) (lanes : BitVec 3) (s : State) : Host.Outcome State Fault Refusal :=
  onGal g (State.issue g false [] false (fun s =>
    (s.searchUpdate g (fun u => searchStep u (((s.coreOf g).v x).take (lanes.toNat + 1))), .seq))) s

/-- SGET (R89, R109). -/
def execSget (g : Nat) (r : BitVec 5) (s : State) : Host.Outcome State Fault Refusal :=
  onGal g (State.issue g false [] false (fun s => (s.produceG g 2 r (searchSeen (s.coreOf g)).best none, .seq))) s

/-- SGETI (R89, R109). -/
def execSgeti (g : Nat) (r : BitVec 5) (s : State) : Host.Outcome State Fault Refusal :=
  onGal g (State.issue g false [] false (fun s => (s.produceG g 2 r (searchSeen (s.coreOf g)).idx none, .seq))) s

end Sys2Proof.Machine
end

