-- ==== Sys2Proof/Machine/Control.lean ====
section
/-!
DEFINITION. The gallery's control instructions but ENDT, and its system registers (R86, R91-R93, R96, R105, R119).
-/
namespace Sys2Proof.Machine

/-- The address a branch offset names, in instructions from the branch (R86). -/
def branchTarget (c : Core) (off : BitVec 15) : Word := c.pc + (off.signExtend 32 <<< 2)

/-- A code word is a control instruction (R91). -/
def isControlWord (w : Word) : Bool :=
  let op := wfld w 27 24
  decide (wfld w 31 28 = 0 ∧ ((1 ≤ op ∧ op ≤ 10) ∨ op = 12))

/-- A code word is an instruction with a delay slot (R91). -/
def isDelayedWord (w : Word) : Bool :=
  let op := wfld w 27 24
  decide (wfld w 31 28 = 0 ∧ 1 ≤ op ∧ op ≤ 5)

namespace State

/-- A code word of gallery `g`. -/
def codeWord (s : State) (g : Nat) (a : Word) : Word :=
  BitVec.ofNat 32 (ofLeBytes (s.bytes (galBase g + a.toNat % 0x10000) 4))

/-- LOOP and LOOPI (R92, R93): the checks, then the count. -/
def loopStep (g : Nat) (l : Bool) (count : Nat) (off : BitVec 12) (s : State) : State × Next :=
  let c := s.coreOf g
  let first := c.pc + 4
  let last := c.pc + (off.setWidth 32 <<< 2)
  if off = 0 then (s, .trap .illegal none)
  else if l = true ∧ ¬ (c.act.getLsbD 0 = true ∧ c.ls0.toNat ≤ first.toNat ∧ last.toNat ≤ c.le0.toNat) then
    (s, .trap .illegal none)
  else if isControlWord (s.codeWord g last) ∨ (off ≠ 1 ∧ isDelayedWord (s.codeWord g (last - 4))) then
    (s, .trap .illegal none)
  else if count ≥ 0xFFFF then (s, .trap .length none)
  else if count = 0 then
    (s.putCore g { c with act := wsetBit c.act (b01 l) false }, .goto (last + 4))
  else
    let n := BitVec.ofNat 32 count
    let c := if l then { c with ls1 := first, le1 := last, lc1 := n } else { c with ls0 := first, le0 := last, lc0 := n }
    (s.putCore g { c with act := wsetBit c.act (b01 l) true }, .seq)

/-- An allowed interrupt is pending (R94). -/
def irqReady (s : State) (g : Nat) : Bool :=
  let c := s.coreOf g
  decide (c.ipend &&& c.imask ≠ 0)

/-- Some slot waits for dispatch. -/
def anyReady (s : State) (g : Nat) : Bool := (List.range 6).any fun n => (s.slotRun g n).ready

/-- WAITI in the background (R105): nothing to do; the fast clock stops where both conditions hold. -/
def waitStep (g nextDispatchNs : Nat) (s : State) : State :=
  if s.anyReady g ∨ s.irqReady g then s
  else
    let s := s.putCore g { s.coreOf g with waiti := true }
    if nextDispatchNs > 1000 ∧ (s.coreOf g).imask.getLsbD 4 = false then s.setFld (HDR.STA (pgGAL g)) 10 8 2 else s

/-- The count that CYCLE reads (R119). -/
def cycleCount (s : State) (g : Nat) : Word :=
  let c := s.coreOf g
  BitVec.ofNat 32 (if c.ctx = .tread then c.cyc - c.dispatchCyc else c.cyc)

/-- What MFS reads (R119); none for a number the table does not list. -/
def sysRead (s : State) (g n : Nat) : Option Word :=
  let c := s.coreOf g
  match n with
  | 0x000 => some (BitVec.ofNat 32 (c.ctx.code + 4 * c.actSaved.toNat))
  | 0x001 => some c.ipc
  | 0x002 => some c.tpc
  | 0x003 => some (s.rd (GAL.XPC g))
  | 0x004 => some (s.rd (GAL.XINFO g))
  | 0x005 => some (s.rd (GAL.XADDR g))
  | 0x006 => some (c.imask.setWidth 32)
  | 0x007 => some (c.ipend.setWidth 32)
  | 0x010 => some c.ls0
  | 0x011 => some c.le0
  | 0x012 => some c.lc0
  | 0x013 => some c.ls1
  | 0x014 => some c.le1
  | 0x015 => some c.lc1
  | 0x016 => some (c.act.setWidth 32)
  | 0x020 => some (searchSeen c).best
  | 0x021 => some (searchSeen c).idx
  | 0x022 => some (searchSeen c).base
  | 0x030 => some (s.rd (GAL.ASTAT g))
  | 0x031 => some (s.cycleCount g)
  | 0x032 => some (BitVec.ofNat 32 c.slotno)
  | 0x033 => some (s.rd (GAL.TREADCNT g))
  | 0x034 => some c.timecmp
  | _ => none

/-- The latency of MFS (R89): 2 for the search registers. -/
def sysLat (n : Nat) : Nat := if n = 0x020 ∨ n = 0x021 ∨ n = 0x022 then 2 else 1

/-- IMASK written: an interrupt that becomes allowed starts its deferral (R94, R96). -/
def setImask (g : Nat) (m : Byte) (s : State) : State :=
  let c := s.coreOf g
  let c := { c with imask := m &&& 0xFE }
  s.putCore g { c with irqSince := if c.ipend &&& c.imask = 0 then none
                                   else if c.irqSince = none then some c.cyc else c.irqSince }

/-- What MTS writes (R119); none for a read-only register and for a number the table does not list. -/
def sysWrite (s : State) (g n : Nat) (v : Word) : Option State :=
  let c := s.coreOf g
  match n with
  | 0x000 => some (s.putCore g { c with actSaved := BitVec.ofNat 6 (wfld v 7 2) })
  | 0x001 => some (s.putCore g { c with ipc := v })
  | 0x002 => some (s.putCore g { c with tpc := v })
  | 0x003 => some (s.wr (GAL.XPC g) v)
  | 0x006 => some (s.setImask g (v.setWidth 8))
  | 0x010 => some (s.putCore g { c with ls0 := v })
  | 0x011 => some (s.putCore g { c with le0 := v })
  | 0x012 => some (s.putCore g { c with lc0 := v })
  | 0x013 => some (s.putCore g { c with ls1 := v })
  | 0x014 => some (s.putCore g { c with le1 := v })
  | 0x015 => some (s.putCore g { c with lc1 := v })
  | 0x016 => some (s.putCore g { c with act := v.setWidth 2 })
  | 0x020 => some (s.searchUpdate g (fun u => { u with best := v }))
  | 0x021 => some (s.searchUpdate g (fun u => { u with idx := v }))
  | 0x022 => some (s.searchUpdate g (fun u => { u with base := v }))
  | 0x034 => some (s.putCore g { c with timecmp := v })
  | _ => none

end State

/-- NOP (R86). -/
def execNop (g : Nat) (s : State) : Host.Outcome State Fault Refusal :=
  onGal g (State.issue g false [] false (fun s => (s, .seq))) s

/-- B (R86, R91). -/
def execB (g : Nat) (c : Cond) (gc : BitVec 5) (off : BitVec 15) (s : State) : Host.Outcome State Fault Refusal :=
  onGal g (State.issue g true (condReads c gc) false (fun s =>
    let k := s.coreOf g
    (s, .branch (.to (if condHolds c (k.g gc) then branchTarget k off else k.pc + 8))))) s

/-- CALL: the return address is that of the instruction after the delay slot (R82, R91). -/
def execCall (g : Nat) (off : BitVec 15) (s : State) : Host.Outcome State Fault Refusal :=
  onGal g (State.issue g true [] false (fun s =>
    let k := s.coreOf g
    (s.produceG g 1 31 (k.pc + 8) none, .branch (.to (branchTarget k off))))) s

/-- RET: to the address in G31 of the running context (R82, R91). -/
def execRet (g : Nat) (s : State) : Host.Outcome State Fault Refusal :=
  onGal g (State.issue g true [31] false (fun s => (s, .branch (.to ((s.coreOf g).g 31))))) s

/-- RETI (R95, R96). -/
def execReti (g : Nat) (s : State) : Host.Outcome State Fault Refusal :=
  onGal g (State.issue g true [] false (fun s =>
    if (s.coreOf g).ctx = .interrupt then (s, .branch .reti) else (s, .trap .illegal none))) s

/-- RETX (R91, R95, R96). -/
def execRetx (g : Nat) (s : State) : Host.Outcome State Fault Refusal :=
  onGal g (State.issue g true [] false (fun s =>
    if (s.coreOf g).ctx = .trap then (s, .branch .retx) else (s, .trap .illegal none))) s

/-- LOOP: the count is Gc; above 0xFFFF it is a LENGTH trap (R92, R93). -/
def execLoop (g : Nat) (l : Bool) (gc : BitVec 5) (off : BitVec 12) (s : State) : Host.Outcome State Fault Refusal :=
  onGal g (State.issue g true [gc] false (fun s => s.loopStep g l ((s.coreOf g).g gc).toNat off)) s

/-- LOOPI (R92, R93). -/
def execLoopi (g : Nat) (l : Bool) (count : BitVec 11) (off : BitVec 12) (s : State) :
    Host.Outcome State Fault Refusal :=
  onGal g (State.issue g true [] false (fun s => s.loopStep g l count.toNat off)) s

/-- LEXIT (R93). -/
def execLexit (g : Nat) (l : Bool) (s : State) : Host.Outcome State Fault Refusal :=
  onGal g (State.issue g true [] false (fun s =>
    let c := s.coreOf g
    let c := if l then { c with lc1 := 0 } else { c with lc0 := 0 }
    (s.putCore g { c with act := wsetBit c.act (b01 l) false }, .seq))) s

/-- WAITI (R105). -/
def execWaiti (g nextDispatchNs : Nat) (s : State) : Host.Outcome State Fault Refusal :=
  onGal g (State.issue g true [] false (fun s =>
    if (s.coreOf g).ctx = .background then (s.waitStep g nextDispatchNs, .seq) else (s, .trap .illegal none))) s

/-- SYNC: every posted store of this model is already complete (R89, log entry 9). -/
def execSync (g : Nat) (s : State) : Host.Outcome State Fault Refusal :=
  onGal g (State.issue g false [] false (fun s => (s, .seq))) s

/-- TRAP: a code below 0x80 is ILLEGAL (R86, R99). -/
def execTrap (g : Nat) (code : BitVec 8) (s : State) : Host.Outcome State Fault Refusal :=
  onGal g (State.issue g true [] false (fun s =>
    (s, .trap (if code.toNat < 0x80 then .illegal else .software code) none))) s

/-- SEVT: GAL.EVT bit 4 (R86). -/
def execSevt (g : Nat) (s : State) : Host.Outcome State Fault Refusal :=
  onGal g (State.issue g false [] false (fun s => (s.raiseEvt (pgGAL g) 4, .seq))) s

/-- MFS (R89, R119). -/
def execMfs (g : Nat) (r : BitVec 5) (n : BitVec 11) (s : State) : Host.Outcome State Fault Refusal :=
  onGal g (State.issue g false [] false (fun s =>
    match s.sysRead g n.toNat with
    | some v => (s.produceG g (State.sysLat n.toNat) r v none, .seq)
    | none => (s, .trap .illegal none))) s

/-- MTS (R89, R119). -/
def execMts (g : Nat) (r : BitVec 5) (n : BitVec 11) (s : State) : Host.Outcome State Fault Refusal :=
  onGal g (State.issue g false [r] false (fun s =>
    match s.sysWrite g n.toNat ((s.coreOf g).g r) with
    | some s => (s, .seq)
    | none => (s, .trap .illegal none))) s

end Sys2Proof.Machine
end

