-- ==== Sys2Proof/Machine/Bridge.lean ====
section
/-!
DEFINITION. Bridges: carriers and treads (R124-R128), shadow registers and transfer (R129-R134), the device's part of
regulation (R136-R147) and BRG forces (R152, R153, R472).
-/
namespace Sys2Proof.Machine

namespace State

def brgOf (s : State) (b : Nat) : Brg := Tab.get {} s.brg b
def putBrg (s : State) (b : Nat) (x : Brg) : State := { s with brg := Tab.put s.brg b x }
def ringOf (s : State) (r : Nat) : Ring := Tab.get {} s.ring r
def putRing (s : State) (r : Nat) (x : Ring) : State := { s with ring := Tab.put s.ring r x }
def compOf (s : State) (r k : Nat) : Companion := Tab.get {} (s.ringOf r).comps k
def putComp (s : State) (r k : Nat) (c : Companion) : State :=
  s.putRing r { s.ringOf r with comps := Tab.put (s.ringOf r).comps k c }

/-! ### Assignment (R125, R155) -/

def brgAxis (s : State) (b : Nat) : Nat := s.fld (BRG.ASSIGN b) 4 0
def brgIndex (s : State) (b : Nat) : Nat := s.fld (BRG.ASSIGN b) 6 5
def brgIsLead (s : State) (b : Nat) : Bool := s.bit (BRG.ASSIGN b) 7
def brgGal (s : State) (b : Nat) : Nat := s.fld (BRG.ASSIGN b) 12 8
def brgSlot (s : State) (b : Nat) : Nat := s.fld (BRG.ASSIGN b) 15 13
def brgRing (s : State) (b : Nat) : Nat := s.fld (BRG.ASSIGN b) 18 16
def brgPos (s : State) (b : Nat) : Nat := s.fld (BRG.ASSIGN b) 21 19

/-- The bridges of an axis, ascending: those whose ASSIGN names it as lead or with an index (R125). -/
def axisBridges (s : State) (a : Nat) : List Nat :=
  (List.range s.variant.bridges).filter fun b => decide (s.brgAxis b = a ∧ (s.brgIsLead b = true ∨ s.brgIndex b ≠ 0))

/-- The lead bridge of an axis, if any bridge serves it. -/
def axisLead (s : State) (a : Nat) : Option Nat := (s.axisBridges a).find? fun b => s.brgIsLead b

/-- The lead of a bridge's axis; a bridge that no axis claims leads itself. -/
def leadOf (s : State) (b : Nat) : Nat := (s.axisLead (s.brgAxis b)).getD b

/-- The bridges that go with a bridge: its axis's, or itself. -/
def mates (s : State) (b : Nat) : List Nat :=
  let l := s.axisBridges (s.brgAxis b)
  if l.contains b then l else [b]

/-- The gallery and slot whose committed schedule serves the bridge, if any. -/
def bridgeSlot (s : State) (b : Nat) : Option (Nat × Nat) :=
  let g := s.brgGal b
  let n := s.brgSlot b
  if s.slotOn g n ∧ s.slotBridge g n = b then some (g, n)
  else (List.range 108).findSome? fun i =>
    if s.slotOn (i / 6) (i % 6) ∧ s.slotBridge (i / 6) (i % 6) = b then some (i / 6, i % 6) else none

/-- A migration involves gallery `g` (R132, R277). -/
def migrates (s : State) (g : Nat) : Bool := s.busyOp MIG.MSTA && (s.mig.source == g || s.mig.target == g)

/-! ### The axis's speed (R138, R145, R250) -/

/-- The primary feedback port of an axis (R195). -/
def primaryPort (s : State) (a : Nat) : Option Nat :=
  (List.range 24).find? fun n => decide (s.fld (FB.FBCFG n) 20 16 = a) && !s.bit (FB.FBCFG n) 21
    && s.bit (HDR.CTL (pgFB n)) 0

/-- The axis's mechanical speed in Q16.16 rev/s, where it is valid: the estimate's while the axis runs on it. -/
def axisSpeed (s : State) (a : Nat) : Option Int :=
  if s.bit (AXIS.AXSTA a) 6 then (if s.bit (AXIS.AXSTA a) 5 then some (s.sint (AXIS.ESTSPD a)) else none)
  else match s.primaryPort a with
    | some n => if s.bit (FB.FBSTA n) 1 then some (s.sint (AXIS.ACTSPD a)) else none
    | none => none

/-! ### Modes and forces (R136, R152, R472) -/

def sysMode (s : State) : Nat := s.fld SYS.MODE 3 0

/-- STANDBY and SAFE-HOLD apply the mode hold (R472). -/
def holdMode (s : State) : Bool := s.sysMode = 1 || s.sysMode = 7

/-- The bridge is in its safe state (R136). -/
def brgSafe (s : State) (b : Nat) : Bool :=
  decide (s.fld (BRG.REGSTA b) 2 0 = 0) || s.fld (BRG.FORCESTA b) 5 0 == 0x15 || s.fld (BRG.FORCESTA b) 5 0 == 0x2A
    || s.bit (BRG.FORCESTA b) 8

/-- STA.STATE of a bridge that is in service follows R136. -/
def brgState (b : Nat) (s : State) : State :=
  let st := s.fld (HDR.STA (pgBRG b)) 3 0
  if st = 3 ∨ st = 8 then s.setFld (HDR.STA (pgBRG b)) 3 0 (if s.brgSafe b then 8 else 3) else s

/-- Gate levels and upper-gate times under BRG forces of `f`, from a half-period boundary (R150, R152). -/
def forceGates (s0 : State) (b f : Nat) (s : State) : State :=
  let dead := s0.fld (BRG.ACT_DEADT b) 15 0
  let x := (List.range 3).foldl (fun (x : Brg) ph =>
    match wfld (BitVec.ofNat 6 f) (2 * ph + 1) (2 * ph) with
    | 0 => x
    | 3 =>
      let x := { x with gates := wsetBit (wsetBit x.gates (2 * ph) true) (2 * ph + 1) false }
      if (Tab.find x.onSince ph).isSome then x else { x with onSince := Tab.put x.onSince ph (s0.t16 + dead) }
    | k =>
      { x with gates := wsetBit (wsetBit x.gates (2 * ph) false) (2 * ph + 1) (k == 2),
               onSince := Tab.erase x.onSince ph }) (s.brgOf b)
  s.putBrg b x

/-- A half-period boundary: the FORCE written in time, the end of the mode hold, the end of the balustrade's force
(R152, R153, R370, R472). -/
def forceAct (b : Nat) (s : State) : State :=
  let x := s.brgOf b
  if s.bit (BRG.FORCESTA b) 8 = true ∧ x.balRelease = false then s
  else
    let ends := x.modeHold && !s.holdMode && x.planOk
    let hold := x.modeHold && !ends
    let s := s.putBrg b { x with balRelease := false, modeHold := hold }
    let f := if hold then 0x15 else s.fld (BRG.FORCE b) 5 0
    brgState b (s.forceGates b f (s.wr (BRG.FORCESTA b) (BitVec.ofNat 32 f)))

/-! ### Carrier, update mode and period (R124-R128, R140, R143, R473) -/

/-- The loop-rate ceiling in force, in Hz (R471, R473). -/
def loopCeiling (s : State) : Option Nat :=
  let m := match s.sysMode with
    | 2 => some 100000
    | 3 | 5 | 6 => some (s.fld SYS.MODECFG 23 16 * 1000)
    | 4 => some 200000
    | _ => none
  if s.fld THM.TSTEP 2 0 = 4 then
    let l := s.fld THM.TCFG 23 16 * 1000
    some (match m with | some c => Nat.min c l | none => l)
  else m

/-- A rate of `k` treads per period exceeds the ceiling. -/
def aboveCeiling (s : State) (b k : Nat) : Bool :=
  match s.loopCeiling with
  | some c => decide (k * 16000000000 > c * s.num (BRG.ACT_PERIOD b))
  | none => false

/-- The update mode at a period boundary (R128, R144, R473): ACT_CARRIER.UPD, and REGSTA.CEIL. -/
def setUpdate (b : Nat) (s : State) : State :=
  let l := s.leadOf b
  let d := (s.bit (BRG.REGSTA l) 7) || ((s.brgOf b).double && !s.aboveCeiling l 2)
  (s.setBit (BRG.ACT_CARRIER b) 0 d).setBit (BRG.REGSTA b) 25 (s.aboveCeiling l 1)

/-- The dither register steps: Galois form, taps 0xB400 (R140). -/
def lfsrStep (l : Nat) : Nat := if l % 2 = 1 then (l / 2) ^^^ 0xB400 else l / 2

/-- NATIVE is in force on a bridge. -/
def nativeOn (s : State) (b : Nat) : Bool := decide (s.fld (BRG.REGSTA b) 2 0 = 2)

/-- The dither depth in force on a lead bridge (R140, R142). -/
def ditherDepth (s : State) (b : Nat) : Nat :=
  let depth := s.fld (BRG.ACT_DITHER b) 7 0
  let blend := s.fld (BRG.ACT_REG b) 15 8
  let j := s.fld (BRG.REGSTA b) 15 8
  match s.fld (BRG.REGSTA b) 5 4 with
  | 0 => depth
  | 2 => 0
  | _ => if blend = 0 then 0 else depth * (blend - j) / blend

/-- |speed| times the pole pairs of a lead bridge: the electrical frequency in Q16.16 Hz (R143). -/
def elecSpeed (s : State) (b : Nat) : Nat :=
  match s.axisSpeed (s.brgAxis b) with
  | some v => v.natAbs * s.fld (BRG.ACT_MACH b) 6 0
  | none => 0

/-- The synchronous period for N, rounded to 1/16 ns (R143). -/
def syncPeriod (s : State) (b n : Nat) : Nat :=
  let f := n * s.elecSpeed b
  if f = 0 then s.num (BRG.ACT_PERIOD b) else (16000000000 * 65536 + f / 2) / f

/-- The period that begins at a boundary of a lead bridge (R124, R140, R143). -/
def drawPeriod (b : Nat) (s : State) : State :=
  let p := s.num (BRG.ACT_PERIOD b)
  let n := s.fld (BRG.REGSTA b) 20 16
  if s.nativeOn b = false then s.wr (BRG.PERACT b) (BitVec.ofNat 32 p)
  else if n ≠ 0 then
    s.wr (BRG.PERACT b) (BitVec.ofNat 32 (if s.bit (BRG.REGSTA b) 21 then p else s.syncPeriod b n))
  else if s.fld (BRG.REGSTA b) 5 4 = 2 then s.wr (BRG.PERACT b) (BitVec.ofNat 32 p)
  else
    let x := s.brgOf b
    let l := lfsrStep x.lfsr
    let s := s.putBrg b { x with lfsr := l }
    s.wr (BRG.PERACT b) (BitVec.ofNat 32 (p + p * s.ditherDepth b * l / (1024 * 65536)))

/-- The interleave offset of a bridge in 1/16 ns (R126). -/
def ilvOffset (s : State) (b : Nat) : Nat := s.num (BRG.PERACT b) * s.fld (BRG.ACT_CARRIER b) 31 16 / 65536

/-! ### Native state (R141-R145) -/

/-- A blend that has reached its last step is over: BLEND_UP step BLEND is STRONG, BLEND_DOWN step 0 is QUIET (R141). -/
def blendEnd (blend : Nat) (p : Nat × Nat) : Nat × Nat :=
  if p.1 = 1 ∧ p.2 ≥ blend then (2, blend) else if p.1 = 3 ∧ p.2 = 0 then (0, 0) else p

/-- The next native state and step, from the present ones and the speed against Q2S and S2Q (R141). -/
def nativeNext (st j blend : Nat) (up down : Bool) : Nat × Nat :=
  blendEnd blend (match st with
  | 0 => if up then (1, 1) else (0, 0)
  | 1 => if j ≥ blend then (1, j) else if down then (3, j - 1) else (1, j + 1)
  | 2 => if down then (3, blend - 1) else (2, j)
  | _ => if j = 0 then (3, 0) else if up then (1, j + 1) else (3, j - 1))

/-- REGSTA's state and step written, with the events and the count of a change (R141, R155, R156). -/
def setNative (b st j : Nat) (s : State) : State :=
  let old := s.fld (BRG.REGSTA b) 5 4
  let s := (s.setFld (BRG.REGSTA b) 5 4 st).setFld (BRG.REGSTA b) 15 8 j
  if old = st then s
  else
    let s := (s.count (BRG.CNT2 b) 31 16).raiseEvt (pgBRG b) 1
    if (old = 1 ∧ st = 2) ∨ (old = 3 ∧ st = 0) then s.raiseEvt (pgBRG b) 2 else s

/-- The greatest of 21, 15, 9 and 3 that does not exceed the carrier ratio of `f` electrical Hz in Q16.16 (R143). -/
def syncN (period f : Nat) : Nat :=
  ([21, 15, 9].find? fun n => decide (n * period * f ≤ 16000000000 * 65536)).getD 3

/-- SYNCN written (R143). -/
def setN (b n : Nat) (s : State) : State :=
  if s.fld (BRG.REGSTA b) 20 16 = n then s else (s.setFld (BRG.REGSTA b) 20 16 n).raiseEvt (pgBRG b) 4

/-- The next larger member above N (R143). -/
def largerN (n : Nat) : Nat := if n = 3 then 9 else if n = 9 then 15 else 21

/-- Tracking of the carrier ratio at a tread of a lead bridge in STRONG (R143, R144). -/
def trackSync (b : Nat) (s : State) : State :=
  let x := s.brgOf b
  let p := s.num (BRG.ACT_PERIOD b)
  let f := s.elecSpeed b
  let below := fun (num den : Nat) => decide (16000000000 * 65536 * den < num * p * f)
  let n := s.fld (BRG.REGSTA b) 20 16
  let six := s.bit (BRG.REGSTA b) 7
  if six then s
  else if s.bit (BRG.ACT_REG b) 16 = false then
    if n ≠ 0 then s.putBrg b { x with leaveSync := true } else s
  else
    let r := s.fld (BRG.ACT_SYNC b) 5 0
    if n = 0 then
      if below r 1 then s.putBrg b { x with nextN := some (syncN p f) } else s
    else if below (9 * r) 8 = false then s.putBrg b { x with leaveSync := true }
    else
      let s := s.setBit (BRG.REGSTA b) 21 (below 3 1)
      if n > 3 ∧ below n 1 then s.putBrg b { x with nextN := some (syncN p f) }
      else if n < 21 ∧ below (9 * largerN n) 8 = false then s.putBrg b { x with nextN := some (syncN p f) }
      else s.putBrg b { x with nextN := none }

/-- Six-step at a tread of a lead bridge in STRONG (R144). -/
def trackSix (b : Nat) (s : State) : State :=
  let m := (s.brgOf b).demand
  let m6 := s.fld (BRG.ACT_MOD b) 31 16
  if s.bit (BRG.REGSTA b) 7 then
    if m + 256 < m6 then s.putBrg b { s.brgOf b with leaveSync := true } else s
  else if s.bit (BRG.ACT_REG b) 17 = true ∧ m ≥ m6 then (s.setBit (BRG.REGSTA b) 7 true).setN b 3
  else s

/-- The device's native regulation at a tread of a lead bridge (R141, R143-R145). -/
def nativeTread (b : Nat) (s : State) : State :=
  let x := s.brgOf b
  let s := match x.nextState with
    | some (st, j) => (s.putBrg b { x with nextState := none }).setNative b st j
    | none => s
  match s.axisSpeed (s.brgAxis b) with
  | none => (s.setBit (BRG.REGSTA b) 22 true).raiseFlt (pgBRG b) 19
  | some v =>
    let s := s.setBit (BRG.REGSTA b) 22 false
    let v := v.natAbs
    let quiet := decide (s.sysMode = 2)
    let q2s := s.num (if quiet then BRG.ACT_Q2S_QM b else BRG.ACT_Q2S b)
    let s2q := s.num (if quiet then BRG.ACT_S2Q_QM b else BRG.ACT_S2Q b)
    let st := s.fld (BRG.REGSTA b) 5 4
    let j := s.fld (BRG.REGSTA b) 15 8
    let next := nativeNext st j (s.fld (BRG.ACT_REG b) 15 8) (decide (v > q2s)) (decide (v < s2q))
    let s := if st = 2 then trackSync b (trackSix b s) else s
    if st = 2 ∧ next.1 ≠ 2 ∧ s.fld (BRG.REGSTA b) 20 16 ≠ 0 then s.putBrg b { s.brgOf b with leaveSync := true }
    else if next = (st, j) then s
    else s.putBrg b { s.brgOf b with nextState := some next }

/-- The electrical angle of an axis, 32 bits of a revolution, with the pole pairs of its lead (R143). -/
def elecAngle (s : State) (b : Nat) : Nat :=
  match s.primaryPort (s.brgAxis b) with
  | some n => (s.rd64 (FB.POS n)).toNat * s.fld (BRG.ACT_MACH b) 6 0 % 2 ^ 32
  | none => 0

/-- Changes of N and the end of synchronous operation at a period boundary of a lead bridge (R143, R144). -/
def syncBoundary (b : Nat) (s : State) : State :=
  let x := s.brgOf b
  if x.leaveSync then
    let s := s.putBrg b { x with leaveSync := false, nextN := none, crossed := false }
    ((s.setBit (BRG.REGSTA b) 7 false).setBit (BRG.REGSTA b) 21 false).setN b 0
  else match x.nextN with
    | some n => if x.crossed then (s.putBrg b { x with nextN := none, crossed := false }).setN b n else s
    | none => s

/-- Watch for phase U's rising zero crossing at a tread (R143). -/
def watchAngle (b : Nat) (s : State) : State :=
  let x := s.brgOf b
  let a := s.elecAngle b
  let fwd := match s.axisSpeed (s.brgAxis b) with | some v => decide (v ≥ 0) | none => true
  let wrapped := if fwd then decide (a < x.angle) else decide (x.angle < a)
  s.putBrg b { x with angle := a, crossed := x.nextN.isSome && (x.crossed || wrapped) }

/-- Standstill reduction at a tread of a lead bridge (R145, R147). -/
def standstillTread (b : Nat) (s : State) : State :=
  if s.bit (BRG.REGSTA b) 6 then
    let x := s.brgOf b
    match s.axisSpeed (s.brgAxis b) with
    | none => s
    | some v =>
      if (v.natAbs : Int) ≥ s.sint (BRG.ACT_SSTHR b) ∨ x.kind ≠ 3 then
        (s.setBit (BRG.REGSTA b) 6 false).putBrg b { x with ramp := 0 }
      else s.putBrg b { x with ramp := Nat.min 16 (x.ramp + 1) }
  else s

/-- Standstill reduction may engage on a lead bridge (R145, R147). -/
def standstillOk (s : State) (b : Nat) : Bool :=
  let mode := s.fld (BRG.REGSTA b) 2 0
  let slow := match s.axisSpeed (s.brgAxis b) with
    | some v => decide ((v.natAbs : Int) < s.sint (BRG.ACT_SSTHR b))
    | none => false
  slow && decide (s.fld (BRG.ACT_HOLD b) 15 0 ≠ 0) && !s.bit (BRG.REGSTA b) 6 && decide ((s.brgOf b).kind = 3)
    && decide (mode = 3 ∨ (mode = 2 ∧ s.fld (BRG.REGSTA b) 5 4 = 0))

/-- A period boundary of a bridge: duties, update mode, synchronous operation and the period in force (R124-R129). -/
def periodBoundary (b : Nat) (s : State) : State :=
  let x := s.brgOf b
  let s := s.wr64 (BRG.ACT_SHADOW b) x.captured
  let l := s.leadOf b
  let s := if l = b then s.syncBoundary b else s
  let s := s.setUpdate b
  if l = b then s.drawPeriod b else s.wr (BRG.PERACT b) (s.rd (BRG.PERACT l))

/-- The length of the update interval that begins at the last tread, in 1/16 ns (R124). -/
def interval (s : State) (b : Nat) : Nat :=
  let p := s.num (BRG.PERACT b)
  if s.bit (BRG.ACT_CARRIER b) 0 then (if (s.brgOf b).nextPeak then p / 2 else p - p / 2) else p

/-- A tread of a bridge whose carrier runs (R124-R129, R141, R147). -/
def tread (b : Nat) (s : State) : State :=
  let x := s.brgOf b
  let valley := !x.nextPeak
  if valley ∧ (s.bridgeSlot b).isNone then brgState b (s.putBrg b { x with running := false })
  else
    let s := s.wr64 (BRG.TREADCNT b) (s.rd64 (BRG.TREADCNT b) + 1)
    let s := if valley then (s.putBrg b { x with valley := s.t16 }).periodBoundary b else s
    let lead := decide (s.leadOf b = b)
    let s := if lead then s.watchAngle b else s
    let s := if lead ∧ s.nativeOn b then s.nativeTread b else s
    let s := if lead then s.standstillTread b else s
    let peakNext := valley && s.bit (BRG.ACT_CARRIER b) 0
    let x := s.brgOf b
    let x := { x with nextPeak := peakNext, tread := s.t16 }
    s.putBrg b (if peakNext then x
      else { x with captured := s.rd64 (BRG.SHADOW b), xferReady := decide (s.phase (BRG.XFERSTA b) = 1) })

/-! ### Transfer (R130-R134) -/

/-- The shadow offsets that have an active copy (R155). -/
def shadowOffs : List Nat :=
  ((List.range 35).map fun i => 0x080 + 4 * i).filter fun o =>
    !([0x094, 0x098, 0x09C, 0x0D4, 0x0D8, 0x0DC, 0x0EC, 0x0F8, 0x0FC].contains o)

/-- A shadow register of a bridge at an offset. -/
def sh (s : State) (b off : Nat) : Word := s.rd (regAt (pgBRG b) off)

/-- Enabled compare points with destination gallery in the half of the period (0 or 1), as indices (R132, R151). -/
def cmpIn (s : State) (b half : Nat) : List Nat :=
  let p := wfld (s.sh b 0x080) 23 0
  (List.range 4).filter fun k =>
    let w := s.sh b (0x100 + 4 * k)
    w.getLsbD 16 && !w.getLsbD 17 && decide ((if p * wfld w 15 0 / 65536 < p / 2 then 0 else 1) = half)

/-- One row of the checks of R132: whether it offends, its code and its FIELD. -/
def chk (bad : Bool) (c : Code) (f : Nat) : Option (Code × Nat) := if bad then some (c, f) else none

/-- The transfer checks of R132 on one bridge of an axis, in the table's order. -/
def xferCheck (s : State) (lead b : Nat) : Option (Code × Nat) :=
  let p := wfld (s.sh b 0x080) 23 0
  let dbl := (s.sh b 0x084).getLsbD 0
  let intv := if dbl then p / 2 else p
  let dead := wfld (s.sh b 0x088) 15 0
  let minpw := wfld (s.sh b 0x08C) 15 0
  let refint := wfld (s.sh b 0x090) 15 0
  let refw := wfld (s.sh b 0x090) 31 16
  let mode := wfld (s.sh b 0x0A0) 2 0
  let on := decide (b = lead)
  let nat := on && decide (mode = 2)
  let num := fun o => (s.sh b o).toNat
  let mceil := wfld (s.sh b 0x0B8) 15 0
  let delay := wfld (s.sh b 0x0F4) 15 0
  let pairs := wfld (s.sh b 0x0D0) 6 0
  let hor := wfld (s.sh b 0x0D0) 18 16
  let syncr := wfld (s.sh b 0x0BC) 5 0
  let owner := match s.bridgeSlot b with
    | some (g, _) => s.migrates g
    | none => true
  ([chk (decide (p < 160000 ∨ p > 16000000)) .rejState 0x080,
    chk (decide (p ≠ wfld (s.sh lead 0x080) 23 0)) .rejState 0x080,
    chk (dbl != (s.sh lead 0x084).getLsbD 0) .rejState 0x084,
    chk (decide (dead < 800)) .rejState 0x088,
    chk (decide (4 * minpw > intv)) .rejState 0x08C,
    chk (decide (refint = 0xFFFF)) .rejLength 0x090,
    chk (decide (refint ≠ 0 ∧ (refw < minpw ∨ 2 * dead + refw > intv))) .rejState 0x090,
    chk (decide (mode > 3)) .rejState 0x0A0,
    chk (on && decide (wfld (s.sh b 0x0A0) 15 8 = 0xFF)) .rejLength 0x0A0,
    chk (nat && decide (num 0x0A8 ≥ num 0x0A4)) .rejState 0x0A8,
    chk (nat && decide (num 0x0B0 ≥ num 0x0AC)) .rejState 0x0B0,
    chk (nat && decide (wfld (s.sh b 0x0B4) 7 0 > 205 ∨ wfld (s.sh b 0x0B4) 31 16 = 0)) .rejState 0x0B4,
    chk (nat && decide (mceil < 29717 ∨ mceil > 32768 ∨ wfld (s.sh b 0x0B8) 31 16 > mceil)) .rejState 0x0B8,
    chk (nat && (s.sh b 0x0A0).getLsbD 16 && decide (syncr < 4)) .rejState 0x0BC,
    chk (nat && decide (num 0x0C4 = 0)) .rejState 0x0C4,
    chk (nat && decide (num 0x0C8 = 0)) .rejState 0x0C8,
    chk (nat && decide (pairs < 1 ∨ pairs > 64 ∨ hor < 1 ∨ hor > 4)) .rejState 0x0D0,
    chk (on && decide (delay = 0xFFFF)) .rejLength 0x0F4,
    chk (on && decide (delay ≠ 0 ∧ (num 0x0F0 ≥ num 0x0A8 ∨ num 0x0F0 ≥ num 0x0B0))) .rejState 0x0F0,
    chk (if dbl then decide ((s.cmpIn b 0).length > 3 ∨ (s.cmpIn b 1).length > 3)
         else decide ((s.cmpIn b 0).length + (s.cmpIn b 1).length > 3)) .rejState 0x10C,
    chk owner .rejState 0x000] : List (Option (Code × Nat))).findSome? id

/-- The transfer of an axis ends on every bridge of it (R130). -/
def xferEnd (bs : List Nat) (c : Code) (field : Nat) (s : State) : State :=
  bs.foldl (fun s b =>
    let s := opEnd (pgBRG b) (BRG.XFERSTA b) c (s.setFld (BRG.XFERSTA b) 27 16 field)
    let s := s.putBrg b { s.brgOf b with xferReady := false }
    if c = .done then s.raiseEvt (pgBRG b) 0 else s.raiseFlt (pgBRG b) 16) s

/-- XFERCTL.ARM (R130, R132, R153). -/
def xferArm (b : Nat) (s : State) : State :=
  let bs := s.mates b
  let lead := s.leadOf b
  if s.phase (BRG.XFERSTA b) = 1 then s.refuseWrite (pgBRG b)
  else if s.offView (pgBRG b) then opEnd (pgBRG b) (BRG.XFERSTA b) .rejState s
  else match bs.findSome? (fun c => s.xferCheck lead c) with
    | some (c, f) => s.xferEnd bs c f
    | none => bs.foldl (fun s c => (s.putBrg c { s.brgOf c with xferReady := false }).opPhase (BRG.XFERSTA c) 1) s

/-- XFERCTL.ABORT (R133): before B it leaves every active set unchanged; after B the transfer has ended. -/
def xferAbort (b : Nat) (s : State) : State :=
  match s.phase (BRG.XFERSTA b) with
  | 1 => s.xferEnd (s.mates b) .aborted 0
  | 3 => s.raiseFlt (pgBRG b) 8
  | _ => s

/-- A bridge takes its new set (R126, R130, R138, R141, R153, R155). -/
def takeSet (b : Nat) (s : State) : State :=
  let oldMode := s.fld (BRG.REGSTA b) 2 0
  let lead := s.leadOf b
  let s := shadowOffs.foldl (fun s o => s.wr (regAt (pgBRG b) (o + 0x200)) (s.sh b o)) s
  let n := (s.mates b).length
  let ilv := if b = lead then 0
    else if (s.sh b 0x084).getLsbD 1 then s.brgIndex b * 65536 / n else wfld (s.sh b 0x084) 31 16
  let s := s.setFld (BRG.ACT_CARRIER b) 31 16 ilv
  let s := s.putBrg b { s.brgOf b with double := (s.sh b 0x084).getLsbD 0, xferTake := false }
  let mode := wfld (s.sh b 0x0A0) 2 0
  let s := s.setFld (BRG.REGSTA b) 2 0 mode
  let s := s.setUpdate b
  let s := if b = lead then
      let s := s.putBrg b { s.brgOf b with lfsr := wfld (s.sh b 0x0B4) 31 16 }
      let s := if mode ≠ oldMode then
          let s := s.putBrg b { s.brgOf b with nextState := none, nextN := none, leaveSync := false, crossed := false }
          let s := ((s.setBit (BRG.REGSTA b) 6 false).setBit (BRG.REGSTA b) 7 false).setBit (BRG.REGSTA b) 21 false
          let s := s.setN b 0
          let st := match mode, s.axisSpeed (s.brgAxis b) with
            | 2, some v =>
              let q := s.num (if s.sysMode = 2 then BRG.ACT_Q2S_QM b else BRG.ACT_Q2S b)
              if v.natAbs < q then 0 else 2
            | _, _ => 0
          s.setNative b st 0
        else s
      s.drawPeriod b
    else s.wr (BRG.PERACT b) (s.rd (BRG.PERACT lead))
  brgState b s

/-- A period boundary at or after B (R130): the lead's is B itself. -/
def xferBoundary (b : Nat) (s : State) : State :=
  let x := s.brgOf b
  if s.leadOf b = b then
    if s.phase (BRG.XFERSTA b) = 1 ∧ x.xferReady = true then
      let bs := s.mates b
      let s := s.takeSet b
      let s := bs.foldl (fun s c => if c = b then s else s.putBrg c { s.brgOf c with xferTake := true }) s
      s.xferEnd bs .done 0
    else s
  else if x.xferTake then s.takeSet b
  else s

/-- The active record of a bridge (R134). -/
def activeRecord (s : State) (b : Nat) : List Word :=
  ((List.range 36).map fun i => s.rd (regAt (pgBRG b) (0x280 + 4 * i)))
    ++ [s.rd (BRG.PERACT b), BitVec.ofNat 32 (s.ilvOffset b), s.rd (BRG.REGSTA b), 0]

/-- A bridge exists in the variant. -/
def hasBrg (s : State) (b : Nat) : Bool := decide (b < s.variant.bridges)

end State

/-- CARRIER_START: the first valley comes next (R125). -/
def execCarrierStart (b : Nat) (s : State) : Host.Outcome State Fault Refusal :=
  onUnit (s.hasBrg b)
    (if (s.brgOf b).running = false ∧ (s.bridgeSlot b).isSome ∧ (s.leadOf b = b ∨ (s.brgOf (s.leadOf b)).running) then
      let s := s.putBrg b { s.brgOf b with running := true, nextPeak := false, captured := s.rd64 (BRG.SHADOW b) }
      (s.setFld (HDR.STA (pgBRG b)) 3 0 3).brgState b
    else s)

/-- SHADOW_WRITE: a duty above 0x8000 discards the write whole (R129). -/
def execShadowWrite (b : Nat) (v : BitVec 64) (s : State) : Host.Outcome State Fault Refusal :=
  onUnit (s.hasBrg b)
    (if wfld v 15 0 > 0x8000 ∨ wfld v 31 16 > 0x8000 ∨ wfld v 47 32 > 0x8000 then
      (s.refuseWrite (pgBRG b)).raiseFlt (pgBRG b) 21
    else
      let s := s.wr64 (BRG.SHADOW b) (wset v 63 48 0)
      if wfld v 63 48 = 0 then s else s.raiseFlt (pgBRG b) 0)

/-- FORCE_WRITE: HIGH is accepted only in SERVICE (R152). -/
def execForceWrite (b : Nat) (v : BitVec 32) (s : State) : Host.Outcome State Fault Refusal :=
  onUnit (s.hasBrg b)
    (let refused := fun i => decide (wfld v (2 * i + 1) (2 * i) = 3 ∧ s.sysMode ≠ 6)
     let s' := (List.range 3).foldl (fun t i =>
       if refused i then t else t.setFld (BRG.FORCE b) (2 * i + 1) (2 * i) (wfld v (2 * i + 1) (2 * i))) s
     if (List.range 3).any refused then (s'.raiseFlt (pgBRG b) 0).raiseFlt (pgBRG b) 20
     else if wfld v 31 6 = 0 then s' else s'.raiseFlt (pgBRG b) 0)

/-- FORCE_APPLY: the half-period boundary at which a FORCE in time acts (R152, R153). -/
def execForceApply (b : Nat) (s : State) : Host.Outcome State Fault Refusal :=
  onUnit (s.hasBrg b) (s.forceAct b)

/-- XFERCTL_ARM (R130). -/
def execXferctlArm (b : Nat) (s : State) : Host.Outcome State Fault Refusal :=
  onUnit (s.hasBrg b) (s.xferArm b)

/-- XFERCTL_ABORT (R133). -/
def execXferctlAbort (b : Nat) (s : State) : Host.Outcome State Fault Refusal :=
  onUnit (s.hasBrg b) (s.xferAbort b)

/-- XFER_BOUNDARY (R130). -/
def execXferBoundary (b : Nat) (s : State) : Host.Outcome State Fault Refusal :=
  onUnit (s.hasBrg b) (if (s.brgOf b).running then s.xferBoundary b else s)

/-- STANDSTILL_ENGAGE: the speed has stayed below SSTHR for DELAY milliseconds (R145, R147). -/
def execStandstillEngage (b : Nat) (s : State) : Host.Outcome State Fault Refusal :=
  onUnit (s.hasBrg b)
    (if s.standstillOk b then
       let s := s.putBrg b { s.brgOf b with ramp := 0 }
       (s.setBit (BRG.REGSTA b) 6 true).raiseEvt (pgBRG b) 3
     else s)

end Sys2Proof.Machine
end

