-- ==== Sys2Proof/Machine/Edge.lean ====
section
/-!
DEFINITION. Epochs (R275, R276, R293) and the edge sequencer's work on a plan (R23, R36, R148-R151, R166-R170).
-/
namespace Sys2Proof.Machine

namespace State

/-! ### Epochs -/

/-- The newel issues the next epoch from its one counter (R16, R275). -/
def newEpoch (s : State) : Word × State :=
  let e := s.rd MIG.EPOCHNEXT
  (e, s.wr MIG.EPOCHNEXT (if e = 0 then 0 else e + 1))

/-- The counter is raised above an epoch seen in a frame (R275). -/
def seeEpoch (e : Word) (s : State) : State :=
  if (s.rd MIG.EPOCHNEXT).toNat ≤ e.toNat ∧ s.rd MIG.EPOCHNEXT ≠ 0 then s.wr MIG.EPOCHNEXT (e + 1) else s

/-- An epoch becomes the current one of a bridge and of the slot that serves it (R169, R275). -/
def grantEpoch (b : Nat) (e : Word) (s : State) : State :=
  let s := s.wr (MIG.EPOCH b) e
  let g := s.brgGal b
  let n := s.brgSlot b
  s.putSlotRun g n { s.slotRun g n with epoch := e }

/-- A gallery has an enabled slot. -/
def anySlot (s : State) (g : Nat) : Bool := (List.range 6).any fun n => s.slotOn g n

/-- Entry `i` of the image table holds a gallery image (R308). -/
def hasImage (s : State) (i : Nat) : Bool := decide (s.fld (NEWEL.IMG i 2) 7 0 = 1)

/-- Gallery `g` holds image `i`. -/
def holds (s : State) (g i : Nat) : Bool := Tab.find s.mig.held g == some i

/-- The newel loads an image into a gallery's code memory (R85, R308). -/
def loadImage (g i : Nat) (s : State) : State :=
  let s := (s.clearRange (galBase g) (galBase g + 0x10000)).storeWords (galBase g) (Tab.get [] s.newel.images i)
  { s with mig := { s.mig with held := Tab.put s.mig.held g i } }

/-- A warm spare is kept loaded (R282, R296, R308). -/
def warmSpare (g : Nat) (s : State) : State :=
  let i := s.fld MIG.WARM 3 0
  if s.bit MIG.WARM 4 = true ∧ s.galState g = 8 ∧ s.hasImage i = true ∧ s.holds g i = false then s.loadImage g i else s

/-- A gallery takes the spare role (R278, R293, R296). -/
def toSpare (g : Nat) (s : State) : State :=
  ((s.setFld (HDR.STA (pgGAL g)) 3 0 8).setBit MIG.SPARES g true).warmSpare g

/-- A gallery leaves the spare role (R278, R284, R296). -/
def offSpare (g : Nat) (s : State) : State := s.setBit MIG.SPARES g false

/-- A gallery under LBIST and MBIST (R293, R296). -/
def galTest (g : Nat) (s : State) : State :=
  let s := s.setFld (HDR.STA (pgGAL g)) 3 0 4
  if s.busyOp MIG.TSTA then s
  else { s.opPhase MIG.TSTA 2 with mig := { s.mig with testing := g } }

/-- A slot of the committed schedule is disabled; its gallery becomes SPARE when none is left (R278, R293). -/
def dropSlot (g n : Nat) (s : State) : State :=
  let x := s.galOf g
  let c := s.slotCfg g n
  let s := s.putGal g { x with sched := Tab.put x.sched n { c with sbr := wsetBit c.sbr 7 false } }
  let s := s.setBit (GAL.SLOT_ACTIVE g n) 7 false
  if s.anySlot g then s else s.toSpare g

/-- A unit that no longer owns a bridge is superseded (R293): MIG's report. -/
def supersede (b g : Nat) (cross : Bool) (e : Word) (s : State) : State :=
  let s := s.wr64 MIG.SUPLAST (BitVec.ofNat 64 (b + g * 256 + b01 cross * 32768 + 8 * 65536 + e.toNat * 2 ^ 32))
  ((s.count MIG.SUPCNT 31 0).raiseFlt pgMIG 20).raiseEvt pgMIG 3

/-- The epoch filter of R37 and R276. -/
def epochOk (s : State) (p : Plan) : Bool :=
  match (s.brgOf p.bridge).change with
  | some c =>
    let before := decide ((p.tread - c.switchAt).toInt < 0)
    if before then p.epoch == c.old else p.epoch == s.rd (MIG.EPOCH p.bridge)
  | none => p.epoch == s.rd (MIG.EPOCH p.bridge)

/-- A plan that the epoch filter discards (R276, R293): counted, and a gallery that no longer owns the bridge gets a
local reject. -/
def lateDiscard (p : Plan) (s : State) : State :=
  let s := s.count MIG.LATE_DISCARD 31 0
  let after := match (s.brgOf p.bridge).change with
    | some c => decide ((p.tread - c.switchAt).toInt ≥ 0)
    | none => true
  if after = true ∧ (s.brgGal p.bridge ≠ p.gal ∨ s.brgSlot p.bridge ≠ p.slot) then
    let s := (s.supersede p.bridge p.gal false p.epoch).dropSlot p.gal p.slot
    if s.mig.dead.getLsbD p.gal then
      ({ s with mig := { s.mig with dead := wsetBit s.mig.dead p.gal false } }.offSpare p.gal).galTest p.gal
    else s
  else s

end State

/-! ### Edge lists -/

/-- An edge: offset from the tread in 1/16 ns, gate (2 · phase, plus 1 for the lower), level (R168). -/
structure Edge where
  off : Nat
  gate : Nat
  on : Bool
  deriving DecidableEq, Repr

/-- An edge entry of a plan (R168). -/
def edgeOf (w : Word) : Edge := { off := wfld w 24 0, gate := wfld w 27 25, on := w.getLsbD 28 }

/-- An edge as an entry of a frame. -/
def edgeEntry (e : Edge) : EdgeEntry :=
  { off := BitVec.ofNat 25 e.off, gate := BitVec.ofNat 3 e.gate, level := e.on }

/-- An edge placed in order of offset, after those of the same offset. -/
def insertEdge (e : Edge) : List Edge → List Edge
  | [] => [e]
  | h :: t => if e.off < h.off then e :: h :: t else h :: insertEdge e t

/-- Edges in order of offset. -/
def sortEdges (l : List Edge) : List Edge := l.foldl (fun t e => insertEdge e t) []

/-- Offsets do not fall (R168). -/
def edgesOrdered : List Edge → Bool
  | [] => true
  | [_] => true
  | a :: b :: t => decide (a.off ≤ b.off) && edgesOrdered (b :: t)

/-- The other gate of the phase. -/
def other (g : Nat) : Nat := if g % 2 = 0 then g + 1 else g - 1

/-- The first on-pulse in the plan shorter than MINPW: the edges before it, it, and those after it (R149). -/
def findShort (minpw : Nat) : List Edge → List Edge → Option (List Edge × Edge × List Edge)
  | _, [] => none
  | pre, e :: t =>
    match if e.on then t.find? (fun f => f.gate = e.gate) else none with
    | some f => if f.on = false ∧ f.off - e.off < minpw then some (pre, e, t) else findShort minpw (pre ++ [e]) t
    | none => findShort minpw (pre ++ [e]) t

/-- A pulse removed with the edges that gave it way: both gates keep their states from before it (R149). -/
def cutPulse (pre : List Edge) (e : Edge) (post : List Edge) : List Edge :=
  let o := other e.gate
  let pre' := (pre.reverse.eraseP fun f => decide (f.gate = o ∧ f.on = false)).reverse
  let head := post.takeWhile fun f => decide (f.gate ≠ e.gate)
  let tail := (post.dropWhile fun f => decide (f.gate ≠ e.gate)).drop 1
  pre' ++ head ++ (tail.eraseP fun f => decide (f.gate = o ∧ f.on = true))

/-- Every short pulse of the plan removed, and how many (R149). -/
def cutShort (minpw : Nat) : (fuel : Nat) → List Edge → List Edge × Nat
  | 0, l => (l, 0)
  | n + 1, l =>
    match findShort minpw [] l with
    | none => (l, 0)
    | some (pre, e, post) =>
      let r := cutShort minpw n (cutPulse pre e post)
      (r.1, r.2 + 1)

/-- The first edge of a gate moved later by `d`. -/
def delayFirst (g : Nat) (on : Bool) (d : Nat) : List Edge → List Edge
  | [] => []
  | e :: t => if e.gate = g ∧ e.on = on then { e with off := e.off + d } :: t else e :: delayFirst g on d t

/-- A turn-off that follows too soon a turn-on of an earlier plan moves, and the complementary turn-on with it (R149).
`onAt` is the offset of that turn-on from the tread. -/
def stretch (minpw : Nat) (g : Nat) (onAt : Int) (l : List Edge) : List Edge × Nat :=
  match l.find? (fun f => f.gate = g) with
  | some f =>
    if f.on = false ∧ (f.off : Int) < onAt + minpw then
      let d := (onAt + minpw - f.off).toNat
      (sortEdges (delayFirst (other g) true d (delayFirst g false d l)), 1)
    else (l, 0)
  | none => (l, 0)

/-- Gate levels and the offsets of the last turn-off of each gate, walked through the edges: whether R148's dead-time
check holds. -/
def deadOk (dead : Nat) : BitVec 6 → List (Nat × Int) → List Edge → Bool
  | _, _, [] => true
  | lv, offs, e :: t =>
    if e.on then
      if lv.getLsbD e.gate then deadOk dead lv offs t
      else
        let o := other e.gate
        if lv.getLsbD o then false
        else match Tab.find offs o with
          | some x => if (e.off : Int) - x < dead then false else deadOk dead (wsetBit lv e.gate true) offs t
          | none => deadOk dead (wsetBit lv e.gate true) offs t
    else if lv.getLsbD e.gate then
      deadOk dead (wsetBit lv e.gate false) (Tab.put offs e.gate e.off) t
    else deadOk dead lv offs t

namespace State

/-- The interval that begins at the next tread, in 1/16 ns (R124). -/
def servedInterval (s : State) (b : Nat) : Nat :=
  let p := s.num (BRG.PERACT b)
  if s.bit (BRG.ACT_CARRIER b) 0 then (if (s.brgOf b).nextPeak then p - p / 2 else p / 2) else p

/-- The instant of the next tread in 1/16 ns. -/
def nextTread (s : State) (b : Nat) : Nat := (s.brgOf b).tread + s.interval b

/-- The plan passes R170. -/
def planForm (p : Plan) (intv : Nat) : Bool :=
  let l := p.edges.map edgeOf
  decide (p.nedge ≤ (if p.units = 1 then 12 else 28)) && edgesOrdered l
    && l.all (fun e => decide (e.gate < 6 ∧ e.off < intv))

/-- A plan is discarded at step 3 of R148, or by R170. -/
def planReject (b : Nat) (s : State) : State := (s.count (BRG.CNT2 b) 15 0).raiseFlt (pgBRG b) 17

/-- Minimum-pulse treatment (R149): the edges, and how many pulses changed. -/
def minPulse (s : State) (b tref : Nat) (l : List Edge) : List Edge × Nat :=
  let minpw := s.fld (BRG.ACT_MINPW b) 15 0
  let x := s.brgOf b
  let r := cutShort minpw l.length l
  (List.range 6).foldl (fun r g =>
    if x.gates.getLsbD g then
      match Tab.find x.changed g with
      | some t =>
        let q := stretch minpw g ((t : Int) - tref) r.1
        (q.1, r.2 + q.2)
      | none => r
    else r) r

/-- Refresh of one phase (R150, R153): the edges with the inserted ones, and whether they were inserted. -/
def refreshPhase (s : State) (b tref : Nat) (l : List Edge) (ph : Nat) : List Edge × Bool :=
  let refint := s.fld (BRG.ACT_REFRESH b) 15 0
  let refw := s.fld (BRG.ACT_REFRESH b) 31 16
  let dead := s.fld (BRG.ACT_DEADT b) 15 0
  let f := s.fld (BRG.FORCESTA b) (2 * ph + 1) (2 * ph)
  let long := match Tab.find (s.brgOf b).onSince ph with
    | some t => decide (t + refint * 16000 ≤ tref)
    | none => false
  let kept := decide (f = 3) || (decide (f = 0) && (s.brgOf b).gates.getLsbD (2 * ph)
    && !(l.any fun e => decide (e.gate = 2 * ph ∧ e.on = false)))
  if refint ≠ 0 ∧ long = true ∧ kept = true then
    (sortEdges (l ++ [{ off := 0, gate := 2 * ph, on := false }, { off := dead, gate := 2 * ph + 1, on := true },
      { off := dead + refw, gate := 2 * ph + 1, on := false },
      { off := 2 * dead + refw, gate := 2 * ph, on := true }]), true)
  else (l, false)

/-- Refresh insertion (R150): the edges, counted and reported. -/
def refresh (b tref : Nat) (l : List Edge) (s : State) : List Edge × State :=
  (List.range 3).foldl (fun r ph =>
    let q := refreshPhase r.2 b tref r.1 ph
    if q.2 then (q.1, (r.2.count (BRG.CNT1 b) 15 0).raiseEvt (pgBRG b) 5) else r) (l, s)

/-- Gate levels, change instants and upper-gate times after the plan's edges (R149, R150). -/
def trackGates (b tref : Nat) (l : List Edge) (s : State) : State :=
  let x := l.foldl (fun (x : Brg) e =>
    if x.gates.getLsbD e.gate = e.on then x
    else
      let t := tref + e.off
      let x := { x with gates := wsetBit x.gates e.gate e.on, changed := Tab.put x.changed e.gate t }
      if e.gate % 2 = 0 then
        { x with onSince := if e.on then Tab.put x.onSince (e.gate / 2) t else Tab.erase x.onSince (e.gate / 2) }
      else x) (s.brgOf b)
  s.putBrg b x

/-- The sample commands that go with a plan (R151, R166): the tread sample of the following interval and the enabled
compare points that fall into it, in order. -/
def sampleCmds (s : State) (b : Nat) : List SampleEntry :=
  let p := s.num (BRG.PERACT b)
  let dbl := s.bit (BRG.ACT_CARRIER b) 0
  let peak := (s.brgOf b).nextPeak
  let intv := s.servedInterval b
  let entry := fun (off kind cmp : Nat) (acq : Bool) => (off,
    ({ off := BitVec.ofNat 26 off, kind := BitVec.ofNat 2 kind, cmp := BitVec.ofNat 2 cmp, acq := acq } : SampleEntry))
  let pts := (List.range 4).filterMap fun k =>
    let w := s.rd (BRG.ACT_CMP b k)
    let c := p * wfld w 15 0 / 65536
    let off := if dbl then (if peak then intv + c else c) else p + c
    let inside := if dbl then (if peak then decide (c < p / 2) else decide (p / 2 ≤ c)) else true
    if w.getLsbD 16 && inside then some (entry off 1 k (w.getLsbD 17)) else none
  let ins := fun (l : List (Nat × SampleEntry)) (e : Nat × SampleEntry) =>
    (l.filter fun x => decide (x.1 ≤ e.1)) ++ [e] ++ (l.filter fun x => !decide (x.1 ≤ e.1))
  (pts.foldl ins [entry intv 0 0 false]).map (·.2)

/-- RESUME of the next EDGE frame to a slot, and the request used up (R180, R182). -/
def resumeOf (r k : Nat) (s : State) : Bool × State :=
  let st := s.fld (RZL.SLOT_SSTA r k) 2 0
  let x := s.ringOf r
  let asked := x.resume.getLsbD k
  let auto := s.bit (RZL.MISSCFG r) 5 && (st == 5 || st == 6)
  (asked || auto, s.putRing r { x with resume := wsetBit x.resume k false })

/-- A plan passes the edge sequencer (R148-R151, R169, R170): the EDGE frame that is sent. -/
def sendPlan (r : Nat) (p : Plan) (s : State) : State :=
  let b := p.bridge
  let intv := s.servedInterval b
  let tref := s.nextTread b
  if planForm p intv = false then s.planReject b
  else
    let l := p.edges.map edgeOf
    let m := s.minPulse b tref l
    let s := if m.2 = 0 then s else (s.count (BRG.CNT1 b) 31 16 m.2).raiseFlt (pgBRG b) 18
    let x := s.brgOf b
    let offs := x.changed.map fun e => (e.1, (e.2 : Int) - tref)
    if deadOk (s.fld (BRG.ACT_DEADT b) 15 0) x.gates offs m.1 = false then s.planReject b
    else
      let q := s.refresh b tref m.1
      let s := q.2.trackGates b tref q.1
      let z := s.resumeOf r (s.brgPos b)
      let s := z.2
      let f : EdgeFrame := {
        src := p.owner, epoch := p.epoch, tread := p.tread, tref := BitVec.ofNat 48 tref, intv := BitVec.ofNat 25 intv,
        resume := z.1, edges := q.1.map edgeEntry, samples := s.sampleCmds b, lead := 0 }
      s.putBrg b { s.brgOf b with sent := some f, planOk := (s.brgOf b).planOk || !s.holdMode }

/-- The plan at the head of ring `r`'s edge landing (R23, R36, R37, R148, R370). -/
def planProcess (r : Nat) (late : Bool) (s : State) : State :=
  let x := s.ringOf r
  match x.edge with
  | [] => s
  | p :: rest =>
    let s := s.putRing r { x with edge := rest }
    let s := s.giveBack (.edge r) (s.brgPos p.bridge) p.units
    if late then (s.count (RZL.LATECNT r) 15 0).raiseFlt (pgRZL r) 24
    else if x.force.any (fun f => f.bridge = p.bridge) then s.count (RZL.LATECNT r) 31 16
    else if s.bit (BRG.FORCESTA p.bridge) 8 then s
    else if s.epochOk p = false then s.lateDiscard p
    else s.sendPlan r p

end State

/-- PLAN_PROCESS (R148). -/
def execPlanProcess (r : Nat) (late : Bool) (s : State) : Host.Outcome State Fault Refusal :=
  onUnit (decide (r < s.variant.rings)) (s.planProcess r late)

end Sys2Proof.Machine
end

