-- ==== Sys2Proof/Machine/LoadStore.lean ====
section
/-!
DEFINITION. The gallery's loads and stores: data memory, the mezzanine window and vectors (R84, R86, R89, R330).
-/
namespace Sys2Proof.Machine

namespace State

/-- Gallery `g`'s requester number (R302). -/
def galRequester (g : Nat) : Nat := 25 + g

/-- A partial write of the bytes from `a` would meet an uncorrectable word (R332): the first such storage word. -/
def storeUe (a len : Nat) (s : State) : Option Nat :=
  let first := if a % 8 = 0 ∧ len ≥ 8 then [] else [a / 8]
  let last := if (a + len) % 8 = 0 then [] else [(a + len) / 8]
  (first ++ last).find? fun w => decide (classify (s.syn w) = .uncorrectable)

/-- A gallery's load of `n` bytes at machine address `a`, reported as data address `ea` (R330): the words go to `k`; an
uncorrectable word is a DATA_UE trap. -/
def galLoad (g a n : Nat) (ea : Word) (k : List Word → State → State) (s : State) : State × Next :=
  match s.readBytes a n (galRequester g) true with
  | (some bs, s) => (k (leWords (n / 4) bs) s, .seq)
  | (none, s) => (s, .trap .dataUe (some ea))

/-- A gallery's posted store (R83, R89, log entry 9): a partial write of an uncorrectable word is a STORE_UE trap. -/
def galStore (g a : Nat) (ea : Word) (ws : List Word) (s : State) : State × Next :=
  match s.storeUe a (4 * ws.length) with
  | some w => (s.noteUe w (galRequester g), .trap .storeUe (some ea))
  | none => ((s.writeBytes a (galRequester g) (bytesOf ws)).2, .seq)

/-- A load through classes 3 and 5 (R84). -/
def loadLocal (g : Nat) (ea : Word) (n : Nat) (k : List Word → State → State) (s : State) : State × Next :=
  if localLoadOk ea.toNat n then s.galLoad g (galBase g + ea.toNat) n ea k else (s, .trap .access (some ea))

/-- A store through classes 3 and 5 (R84). -/
def storeLocal (g : Nat) (ea : Word) (ws : List Word) (s : State) : State × Next :=
  if localStoreOk ea.toNat (4 * ws.length) then s.galStore g (galBase g + ea.toNat) ea ws
  else (s, .trap .access (some ea))

/-- The mezzanine offset of a class 4 address that the window and the firewall admit (R84, R303): a refused access is
captured. -/
def mezzOffset (g : Nat) (ea : Word) (r : Right) (s : State) : Option Nat × State :=
  if mezzWindowOk ea.toNat then
    let off := ea.toNat - 0x10000000
    if s.fwAdmits (galRequester g) 1 off 4 r then (some off, s)
    else (none, s.fwRefuse (galRequester g) 1 off)
  else (none, s)

end State

/-- LW (R86, R89). -/
def execLw (g : Nat) (d b : BitVec 5) (off : BitVec 14) (s : State) : Host.Outcome State Fault Refusal :=
  onGal g (State.issue g false [b] false (fun s =>
    s.loadLocal g ((s.coreOf g).ea b off) 4 (fun ws s => s.produceG g 3 d (ws.getD 0 0) none))) s

/-- SW (R86, R89). -/
def execSw (g : Nat) (x b : BitVec 5) (off : BitVec 14) (s : State) : Host.Outcome State Fault Refusal :=
  onGal g (State.issue g false [x, b] false (fun s =>
    s.storeLocal g ((s.coreOf g).ea b off) [(s.coreOf g).g x])) s

/-- LF (R86, R89). -/
def execLf (g : Nat) (d : BitVec 4) (b : BitVec 5) (off : BitVec 14) (s : State) : Host.Outcome State Fault Refusal :=
  onGal g (State.issue g false [b] false (fun s =>
    s.loadLocal g ((s.coreOf g).ea b off) 4 (fun ws s => s.produceF g 3 d (ws.getD 0 0) none))) s

/-- SF (R86, R89). -/
def execSf (g : Nat) (x : BitVec 4) (b : BitVec 5) (off : BitVec 14) (s : State) : Host.Outcome State Fault Refusal :=
  onGal g (State.issue g false [b] false (fun s =>
    s.storeLocal g ((s.coreOf g).ea b off) [(s.coreOf g).f x])) s

/-- MLW: interlocked; the data returns `lat` cycles later (R84, R89). -/
def execMlw (g : Nat) (d b : BitVec 5) (off : BitVec 14) (lat : Nat) (s : State) : Host.Outcome State Fault Refusal :=
  onGal g (State.issue g false [b] false (fun s =>
    let ea := (s.coreOf g).ea b off
    match s.mezzOffset g ea .read with
    | (none, s) => (s, .trap .access (some ea))
    | (some m, s) => s.galLoad g (mezzBase + m) 4 ea (fun ws s => s.produceI g (Nat.max 1 lat) d (ws.getD 0 0)))) s

/-- MSW (R84, R89). -/
def execMsw (g : Nat) (x b : BitVec 5) (off : BitVec 14) (s : State) : Host.Outcome State Fault Refusal :=
  onGal g (State.issue g false [x, b] false (fun s =>
    let ea := (s.coreOf g).ea b off
    match s.mezzOffset g ea .write with
    | (none, s) => (s, .trap .access (some ea))
    | (some m, s) => s.galStore g (mezzBase + m) ea [(s.coreOf g).g x])) s

/-- VLD (R84, R86, R89). -/
def execVld (g : Nat) (d : BitVec 4) (b : BitVec 5) (off : BitVec 15) (s : State) : Host.Outcome State Fault Refusal :=
  onGal g (State.issue g false [b] false (fun s =>
    s.loadLocal g ((s.coreOf g).ea b off) 32 (fun ws s =>
      s.produce g 3 { due := 0, seq := 0, dest := .v d.toNat, words := ws }))) s

/-- VST (R84, R86, R89). -/
def execVst (g : Nat) (x : BitVec 4) (b : BitVec 5) (off : BitVec 15) (s : State) : Host.Outcome State Fault Refusal :=
  onGal g (State.issue g false [b] false (fun s =>
    s.storeLocal g ((s.coreOf g).ea b off) ((s.coreOf g).v x))) s

/-- VBC (R86). -/
def execVbc (g : Nat) (d : BitVec 4) (b : BitVec 5) (s : State) : Host.Outcome State Fault Refusal :=
  onGal g (State.issue g false [b] false (fun s =>
    (s.produce g 1 { due := 0, seq := 0, dest := .v d.toNat, words := List.replicate 8 ((s.coreOf g).g b) }, .seq))) s

/-- VINS (R86). -/
def execVins (g : Nat) (d : BitVec 4) (b : BitVec 5) (lane : BitVec 3) (s : State) :
    Host.Outcome State Fault Refusal :=
  onGal g (State.issue g false [b] false (fun s =>
    (s.produce g 1 { due := 0, seq := 0, dest := .lane d.toNat lane.toNat, words := [(s.coreOf g).g b] }, .seq))) s

/-- VEXT (R86). -/
def execVext (g : Nat) (x : BitVec 4) (b : BitVec 5) (lane : BitVec 3) (s : State) :
    Host.Outcome State Fault Refusal :=
  onGal g (State.issue g false [] false (fun s =>
    (s.produceG g 1 b ((s.coreOf g).lane x lane.toNat) none, .seq))) s

end Sys2Proof.Machine
end

