-- ==== Sys2Proof/Machine/Tread.lean ====
section
/-!
DEFINITION. Treads in a gallery: dispatch, landing instructions, ENDT, supervision, trace (R94-R104, R110-R117, R134-R137,
R169), and the comparator of a migration (R280).
-/
namespace Sys2Proof.Machine

/-! ### Carrier modulation (R137) -/

/-- The edges of one phase with duty `d` in the interval that begins at a valley (`peak` false) or a peak. -/
def phaseEdges (period dead d ph : Nat) (peak dbl : Bool) : List Edge :=
  let h := period / 2
  let up := 2 * ph
  let lo := 2 * ph + 1
  if d = 0 then [{ off := 0, gate := up, on := false }, { off := dead, gate := lo, on := true }]
  else if d ≥ 0x8000 then [{ off := 0, gate := lo, on := false }, { off := dead, gate := up, on := true }]
  else
    let rise := h * (0x8000 - d) / 0x8000
    let fall := (period - h) * d / 0x8000
    let r : List Edge := [{ off := rise, gate := lo, on := false }, { off := rise + dead, gate := up, on := true }]
    let f := fun (base : Nat) => ([{ off := base + fall, gate := up, on := false },
      { off := base + fall + dead, gate := lo, on := true }] : List Edge)
    if dbl then (if peak then f 0 else r) else r ++ f h

/-- A modulation's edges in one interval, with those that an earlier interval left over: the edges inside the interval,
and those that fall into the next one. -/
def modulate (period dead intv : Nat) (peak dbl : Bool) (du dv dw : Nat) (spill : List Edge) : List Edge × List Edge :=
  let l := sortEdges (spill ++ phaseEdges period dead du 0 peak dbl ++ phaseEdges period dead dv 1 peak dbl
    ++ phaseEdges period dead dw 2 peak dbl)
  (l.filter fun e => decide (e.off < intv),
   (l.filter fun e => !decide (e.off < intv)).map fun e => { e with off := e.off - intv })

/-- All six gates off (R135). -/
def offEdges : List Edge := (List.range 6).map fun g => { off := 0, gate := g, on := false }

namespace State

/-- An entry of a library plan as an edge. -/
def entryEdge (e : EdgeEntry) : Edge := { off := e.off.toNat, gate := e.gate.toNat, on := e.level }

/-- The ceiling of the modulation index in force (R139, R142). -/
def modCeiling (s : State) (lead : Nat) : Nat :=
  let mceil := s.fld (BRG.ACT_MOD lead) 15 0
  let blend := s.fld (BRG.ACT_REG lead) 15 8
  match s.fld (BRG.REGSTA lead) 5 4 with
  | 0 => 29717
  | 2 => mceil
  | _ => if blend = 0 then mceil else 29717 + (mceil - 29717) * s.fld (BRG.REGSTA lead) 15 8 / blend

/-- What the library of an axis's lead bridge reports to the axis (R249, R250, R252). -/
def libReport (b : Nat) (lib : LibDemand) (s : State) : State :=
  let a := s.brgAxis b
  if (s.axisLead a).isNone then s
  else
    let s := (s.wr (AXIS.ESTSPD a) lib.est).wr (AXIS.LOADANG a) (lib.loadAng.setWidth 32)
    let s := s.setBit (AXIS.AXSTA a) 5 (decide (lib.est.toInt.natAbs ≥ s.num (AXIS.BEMFMIN a)))
    { s with axis := Tab.put s.axis a { Tab.get {} s.axis a with model := lib.model.toInt } }

/-- What the library's demand makes of a slot's tread (R135-R139, R144, R146): MLIM, ILIM, the demand, and the plan. -/
def libStep (g n : Nat) (lib : LibDemand) (s : State) : State :=
  let b := s.slotBridge g n
  let lead := s.leadOf b
  let mode := s.fld (BRG.REGSTA b) 2 0
  let s := s.putBrg lead { s.brgOf lead with demand := lib.depth.toNat }
  let s := if b = lead then libReport b lib s else s
  let s := s.setBit (BRG.REGSTA b) 23 (decide (mode = 2 ∧ lib.depth.toNat > s.modCeiling lead))
  let s := s.setBit (BRG.REGSTA b) 24 (decide (mode = 3 ∧ lib.current.toNat > s.num (BRG.ACT_VILIM lead)))
  let x := s.brgOf b
  let peak := x.nextPeak
  let dbl := s.bit (BRG.ACT_CARRIER b) 0
  let duty := if peak then s.rd64 (BRG.ACT_SHADOW b) else x.captured
  let run := s.slotRun g n
  let m := fun u v w => modulate (s.num (BRG.PERACT b)) (s.fld (BRG.ACT_DEADT b) 15 0) (s.servedInterval b) peak dbl
    u v w (run.libSpill.map entryEdge)
  let r : List Edge × List Edge :=
    if mode = 0 ∨ (s.brgOf lead).kind = 4 then (offEdges, [])
    else if mode = 1 then m (wfld duty 15 0) (wfld duty 31 16) (wfld duty 47 32)
    else m lib.dutyU.toNat lib.dutyV.toNat lib.dutyW.toNat
  s.putSlotRun g n { run with libPlan := r.1.map edgeEntry, libSpill := r.2.map edgeEntry }

/-! ### Coefficients (R110, R111, R134) -/

/-- The place of coefficient `i` (R84). -/
def coefAt (g i : Nat) : Nat := galBase g + 0x3F000 + 4 * (i % 1024)

/-- Coefficient writes applied in landing order (R110). -/
def applyCoefs (g : Nat) (ws : List (Nat × Word)) (s : State) : State :=
  let s := ws.foldl (fun s w => (s.writeBytes (coefAt g w.1) (galRequester g) (bytesOf [w.2])).2) s
  s.count (GAL.COEFQ g) 31 16 ws.length

/-- The queue applied at a dispatch: COEFAPP, EVT bit 2 and interrupt source 2 (R94, R110). -/
def drainCoefs (g : Nat) (s : State) : State :=
  let q := (s.galOf g).coefs
  if q = [] then s
  else
    let s := s.putGal g { s.galOf g with coefs := [] }
    let s := (s.applyCoefs g q).setFld (GAL.COEFQ g) 4 0 0
    let s := s.wr (GAL.COEFAPP g) (s.rd (GAL.TREADCNT g))
    (s.raiseEvt (pgGAL g) 2).raiseIrq g 2

/-- The coefficient index is owned by an enabled slot (R134). -/
def ownedCoef (s : State) (g i : Nat) : Bool :=
  (List.range 6).any fun n => s.slotOn g n && decide (0x300 + 0x28 * n ≤ i ∧ i < 0x328 + 0x28 * n)

/-- A landed COEFW write (R110, R111, R134). -/
def coefWrite (g : Nat) (v : Word64) (s : State) : State :=
  let i := wfld v 41 32
  let s := if wfld v 63 42 = 0 then s else s.raiseFlt (pgGAL g) 0
  if s.ownedCoef g i then s.refuseWrite (pgGAL g)
  else if s.anySlot g = false ∨ s.galState g = 8 then s.applyCoefs g [(i, loWord v)]
  else
    let x := s.galOf g
    if x.coefs.length ≥ 16 then s.raiseFlt (pgGAL g) 24
    else
      let s := s.putGal g { x with coefs := x.coefs ++ [(i, loWord v)] }
      s.setFld (GAL.COEFQ g) 4 0 (x.coefs.length + 1)

/-! ### Dispatch (R95, R96, R100) -/

/-- A sample unit for the bridge waits in the landing. -/
def sampleFor (s : State) (g b : Nat) : Option (Nat × List Word) :=
  (s.galOf g).samples.find? fun u => decide (wfld (u.2.getD 4 0) 5 0 = b)

/-- Slot `n`'s tread program starts (R100): coefficients, the active record, CYCLE and SLOTNO; control at ENTRY. -/
def startTread (g n : Nat) (nested : Bool) (s : State) : State :=
  let b := s.slotBridge g n
  let s := s.wr64 (GAL.TREADCNT g) (s.rd64 (GAL.TREADCNT g) + 1)
  let s := s.drainCoefs g
  let s := s.storeWords (coefAt g (0x300 + 0x28 * n)) (s.activeRecord b)
  let run := s.slotRun g n
  let s := match run.lib with
    | some l => s.libStep g n l
    | none => s
  let c := s.coreOf g
  let s := match c.readySince with
    | some t => s.keepMax (GAL.IRQLAT g) 31 16 (c.cyc - t)
    | none => s
  let run := { s.slotRun g n with
    ready := false, lib := none, missing := false, accsat := false, budgetTrap := false, residual := none,
    sdlPassed := (s.sampleFor g b).isNone, tread := s.rd (BRG.TREADCNT b) + 1 }
  let s := s.putSlotRun g n run
  let entry := (s.slotCfg g n).entry &&& 0xFFFFFFFC
  let c := s.coreOf g
  let c := { c with dispatchCyc := c.cyc, slotno := n, budgetGone := false, budgetHeld := false, waiti := false,
                    readySince := if s.anyReady g then some c.cyc else none }
  if nested then s.putCore g { c with pc := entry, act := 0, slotOf := none }
  else (s.putCore g { c with tpc := c.pc }).enterCtx g .tread entry

/-- The ready slot that starts first: the earliest CDL, the lower number on a tie (R100). -/
def nextSlot (s : State) (g : Nat) : Option Nat :=
  (List.range 6).foldl (fun best n =>
    if (s.slotRun g n).ready ∧ s.slotOn g n then
      match best with
      | none => some n
      | some m => if (s.slotCfg g n).cdl.toNat < (s.slotCfg g m).cdl.toNat then some n else best
    else best) none

/-- The dispatcher finds slot `n` due (R95, R96, R100): it starts the earliest ready slot at an interruptible point of the
background or the interrupt context, else the slot waits. -/
def dispatch (g n : Nat) (lib : LibDemand) (s : State) : State :=
  if s.slotOn g n = false ∨ ¬ (s.galState g = 3 ∨ s.galState g = 9) ∨ s.holdMode then s
  else
    let s := s.startClock g
    let s := s.putSlotRun g n { s.slotRun g n with ready := true, lib := some lib }
    let c := s.coreOf g
    if (c.ctx = .background ∨ c.ctx = .interrupt) ∧ s.interruptible g then
      match s.nextSlot g with
      | some m => s.startTread g m false
      | none => s
    else s.putCore g { c with readySince := if c.readySince = none then some c.cyc else c.readySince }

/-! ### Trace (R115-R117) -/

/-- One node's value (R120 TRSEL). -/
def traceNode (s : State) (g k : Nat) : Word :=
  let w := s.rd (GAL.TRSEL g k)
  let i := wfld w 17 0
  let c := s.coreOf g
  match wfld w 23 20 with
  | 1 => c.g (BitVec.ofNat 5 i)
  | 2 => Tab.get 0 c.vr (i % 128)
  | 3 => (Tab.get 0 c.acc (i % 8) >>> 32).setWidth 32
  | 4 => c.f (BitVec.ofNat 4 i)
  | 5 => if 4 * i < 0x30000 then BitVec.ofNat 32 (ofLeBytes (s.bytes (galBase g + 0x10000 + 4 * i) 4)) else 0
  | _ => 0

/-- The header of a record (R101, R115). -/
def traceHead (s : State) (g : Nat) : List Word :=
  let c := s.coreOf g
  let gap := b01 (s.galOf g).trace.gap * 64
  if c.ctx = .tread then
    let r := s.slotRun g c.slotno
    [r.tread, BitVec.ofNat 32 (c.slotno + b01 r.missing * 8 + b01 r.budgetTrap * 16 + b01 r.accsat * 32 + gap
      + Nat.min 0xFFFF (c.cyc - c.dispatchCyc) * 65536)]
  else [s.rd (GAL.TREADCNT g), BitVec.ofNat 32 (7 + gap)]

/-- Capture ends (R117). -/
def traceEnd (g : Nat) (s : State) : State := (opEnd (pgGAL g) (GAL.TRSTA g) .done s).raiseEvt (pgGAL g) 1

/-- One record captured while capture runs (R115-R117). -/
def traceCapture (g : Nat) (s : State) : State :=
  if s.busyOp (GAL.TRSTA g) = false then s
  else
    let x := s.galOf g
    let size := s.traceSize g
    let cap := s.traceCap g
    let stream := s.bit (GAL.TRCFG g) 0
    let units := (size + 63) / 64
    if cap = 0 ∨ (stream = true ∧ s.hasCredit (.trace g) 0 units = false) then
      let s := s.putGal g { x with trace := { x.trace with gap := true } }
      (s.count (GAL.TRGAP g) 31 0).raiseFlt (pgGAL g) 27
    else
      let nodes := s.fld (GAL.TRCFG g) 7 4 + 1
      let vals := (List.range nodes).map (s.traceNode g)
      let ws := s.traceHead g ++ vals
      let limit := if stream then s.num (GAL.TRMSIZE g) else 0x8000
      let at_ := s.num (GAL.TRPTR g)
      let base := if stream then mezzBase + s.num (GAL.TRMBASE g) else galBase g + 0x40000
      let s := if stream then (s.spend (.trace g) 0 units).giveBack (.trace g) 0 units else s
      let s := (s.writeBytes (base + at_) (galRequester g) (bytesOf ws)).2
      let s := s.wr (GAL.TRPTR g) (BitVec.ofNat 32 (if at_ + 2 * size ≤ limit then at_ + size else 0))
      let s := s.putGal g { x with trace := { x.trace with count := x.trace.count + 1, gap := false } }
      if s.phase (GAL.TRSTA g) = 2 then
        let s := s.putGal g { s.galOf g with trace := { (s.galOf g).trace with left := x.trace.left - 1 } }
        if x.trace.left ≤ 1 then s.traceEnd g else s
      else
        let v := (vals.getD (s.fld (GAL.TRTRIG g) 3 0) 0).toInt
        let th := s.sint (GAL.TRTHR g)
        let c := s.fld (GAL.TRTRIG g) 6 4
        if s.fld (GAL.TRTRIG g) 3 0 < nodes ∧ ((c = 1 ∧ v > th) ∨ (c = 2 ∧ v < th)) then
          let s := s.traceTrigger g (x.trace.count % cap) (s.num (GAL.TRPOST g))
          if s.num (GAL.TRPOST g) = 0 then s.traceEnd g else s
        else s

/-- The record of ENDT, where the trace watches the slot (R115). -/
def traceEndt (g n : Nat) (s : State) : State :=
  let w := s.rd (GAL.TRCFG g)
  let decim := wfld w 23 16
  if decim ≠ 0 ∧ (w.getLsbD 11 = true ∨ wfld w 10 8 = n) then
    let r := s.slotRun g n
    if r.decim + 1 ≥ decim then traceCapture g (s.putSlotRun g n { r with decim := 0 })
    else s.putSlotRun g n { r with decim := r.decim + 1 }
  else s

/-! ### ENDT and supervision (R95, R102, R113) -/

/-- The supervisor's evaluation at ENDT (R113, R114): the residual's magnitude, 0x8000_0000 counting as full scale. -/
def supervise (g n : Nat) (s : State) : State :=
  let cfg := s.rd (GAL.SUPCFG g n)
  if cfg.getLsbD 8 = false ∨ wfld cfg 7 0 = 0 then s
  else
    let win := s.num (GAL.SUPWIN g n)
    let out := match (s.slotRun g n).residual with
      | some v => decide (Nat.min v.toInt.natAbs 0x7FFFFFFF > win)
      | none => true
    let c := s.fld (GAL.SUPCNT g n) 7 0
    let c := if out then Nat.min 255 (c + 1) else c - 1
    (s.setFld (GAL.SUPCNT g n) 7 0 c).keepMax (GAL.SUPCNT g n) 15 8 c

/-- The end of a tread program (R95, R96, R102, R113, R115). -/
def endTread (g : Nat) (s : State) : State :=
  let s := s.drain g
  let c := s.coreOf g
  let n := c.slotno
  let s := s.keepMax (GAL.SLOT_CYCMAX g n) 15 0 (c.cyc - c.dispatchCyc)
  let s := s.supervise g n
  let s := s.traceEndt g n
  match s.nextSlot g with
  | some m => s.startTread g m true
  | none => s.leaveCtx g (s.coreOf g).tpc

/-- A slot's supervisor trips (R113). -/
def supTrip (g n : Nat) (s : State) : State :=
  let lim := s.fld (GAL.SUPCFG g n) 7 0
  if s.bit (GAL.SUPCFG g n) 8 = true ∧ lim ≠ 0 ∧ s.fld (GAL.SUPCNT g n) 7 0 ≥ lim ∧ s.bit (GAL.SUPCNT g n) 16 = false then
    let s := s.setBit (GAL.SUPCNT g n) 16 true
    let s := ((s.raiseFlt (pgGAL g) 23).raiseIrq g 5).traceNotice g 4
    { s with galFault := s.galFault ||| BitVec.ofNat 48 (2 ^ s.slotBridge g n) }
  else s

/-- FLT.SUPTRIP written with 1 (R114). -/
def supClear (g : Nat) (s : State) : State :=
  let s := s.setBit (HDR.FLT (pgGAL g)) 23 false
  (List.range 6).foldl (fun s n =>
    if s.bit (GAL.SUPCNT g n) 16 then (s.setFld (GAL.SUPCNT g n) 7 0 0).setBit (GAL.SUPCNT g n) 16 false else s) s

/-! ### Landing instructions (R28, R101) -/

/-- A status result into the banked register `i`, for which readers wait (R89). -/
def status (g i : Nat) (w : Word) (s : State) : State :=
  s.produce g 1 { due := 0, seq := 0, dest := .g i, words := [w], inter := true }

/-- 64 bytes of a unit: 16 words, zeros where nothing has come (R101). -/
def unitWords (u : List Word) : List Word := (u ++ List.replicate 16 0).take 16

/-- SWAIT's copy (R101): a sample unit, or the slot's previous sample with the miss counted (R28). -/
def swaitCopy (g : Nat) (ea : Word) (reg : Nat) (s : State) : State × Next :=
  let n := (s.coreOf g).slotno
  let b := s.slotBridge g n
  let run := s.slotRun g n
  match s.sampleFor g b with
  | some (p, u) =>
    let r := s.storeLocal g ea (unitWords u)
    match r.2 with
    | .seq =>
      let s := r.1
      let s := s.putGal g { s.galOf g with samples := (s.galOf g).samples.erase (p, u) }
      let s := s.giveBack (.sample g) p
      let s := s.putSlotRun g n { run with lastSample := u, overrun := false }
      (s.status g reg (BitVec.ofNat 32 (2 * b01 run.overrun)), .seq)
    | _ => r
  | none =>
    let r := s.storeLocal g ea (unitWords run.lastSample)
    match r.2 with
    | .seq =>
      let s := r.1.putSlotRun g n { run with missing := true, overrun := false }
      let s := (s.count (GAL.MISSCNT g) 15 0).raiseFlt (pgGAL g) 16
      (s.status g reg (BitVec.ofNat 32 (1 + 2 * b01 run.overrun)), .seq)
    | _ => r

/-- A stalled SWAIT goes on. -/
def swaitResume (g : Nat) (s : State) : State :=
  let c := s.coreOf g
  match c.swait with
  | none => s
  | some (ea, reg) =>
    let r := swaitCopy g ea reg (s.putCore g { c with swait := none })
    endCycle g (follow g r.2 r.1)

/-- LDSP's copy (R101): the newest setpoint of the bridge's axis; it and the older ones of that axis are freed. -/
def ldspCopy (g : Nat) (ea : Word) (reg : Nat) (s : State) : State × Next :=
  let n := (s.coreOf g).slotno
  let a := s.brgAxis (s.slotBridge g n)
  let mine := fun (u : Nat × List Word) => decide (wfld (u.2.getD 1 0) 4 0 = a)
  let q := (s.galOf g).setpoints
  let run := s.slotRun g n
  match (q.filter mine).getLast? with
  | some u =>
    let r := s.storeLocal g ea (unitWords u.2)
    match r.2 with
    | .seq =>
      let s := r.1
      let s := s.putGal g { s.galOf g with setpoints := q.filter fun u => !mine u }
      let s := (q.filter mine).foldl (fun s u => s.giveBack (.setpoint g) u.1) s
      ((s.putSlotRun g n { run with lastSetpoint := u.2 }).status g reg 1, .seq)
    | _ => r
  | none =>
    let r := s.storeLocal g ea (unitWords run.lastSetpoint)
    match r.2 with
    | .seq => (r.1.status g reg 0, .seq)
    | _ => r

/-! ### Plans (R101, R169, R280) -/

/-- The largest offset difference of two plans with the same gates and levels; none where these differ (R280). -/
def planDiff (p q : Plan) : Option Nat :=
  let l := p.edges.map edgeOf
  let m := q.edges.map edgeOf
  if l.length = m.length ∧ (l.zip m).all (fun e => decide (e.1.gate = e.2.gate ∧ e.1.on = e.2.on)) then
    some ((l.zip m).foldl (fun d e => Nat.max d ((e.1.off : Int) - e.2.off).natAbs) 0)
  else none

/-- The clock that the mode asks of a gallery, never below its schedule floors (R104, R279, R471, R490). -/
def modeClock (s : State) (g : Nat) : Nat :=
  let floor := Nat.max 400 (s.fld (GAL.CLKSTA g) 26 16)
  let floor := if s.busyOp MIG.MSTA ∧ s.mig.source = g then Nat.max floor s.mig.floor else floor
  match s.sysMode with
  | 2 => floor
  | 4 => 1200
  | 3 | 5 | 6 => Nat.min 1200 (Nat.max floor (s.fld SYS.MODECFG 10 0))
  | _ => Nat.max floor (s.fld (GAL.CLKSTA g) 10 0)

/-- The gallery takes the clock of the mode (R490). -/
def galClock (g : Nat) (s : State) : State := s.setFld (GAL.CLKSTA g) 10 0 (s.modeClock g)

/-- A planned migration ends before its switch: the source keeps every slot, the target returns to SPARE (R280, R281,
R284). -/
def migStop (c : Code) (s : State) : State :=
  let t := s.mig.target
  let s := (opEnd pgMIG MIG.MSTA c s).setFld MIG.MSTA 12 10 0
  let x := s.galOf t
  let s := s.putGal t { x with sched := [], core := {} }
  let s := (List.range 6).foldl (fun s n => s.wr (GAL.SLOT_ACTIVE t n) 0) s
  ((s.toSpare t).galClock s.mig.source).raiseEvt pgMIG 1

/-- The comparator finds a mismatch (R280). -/
def mismatch (b : Nat) (tread : Word) (d : Nat) (s : State) : State :=
  let after := (tread - s.mig.copyTread).toNat
  let s := s.wr MIG.MMISS (BitVec.ofNat 32 (b + Nat.min 255 after * 256 + Nat.min 0xFFFF d * 65536))
  (s.migStop .rejState).raiseFlt pgMIG 16

/-- Every moved bridge has MINCMP consecutive matches (R278). -/
def migReady (s : State) : Bool :=
  (bitsOf 6 s.mig.slots.toNat).all fun n =>
    decide (s.fld MIG.MCMP 7 0 ≤ Tab.get 0 s.mig.hits (s.slotBridge s.mig.target n))

/-- One moved slot passes to the target with a new epoch, from switch tread `sw` on (R276, R278). -/
def migMove (g t n : Nat) (sw : Word) (s : State) : State :=
  let b := s.slotBridge t n
  let e := s.newEpoch
  let s := e.2
  let s := s.putBrg b { s.brgOf b with change := some { old := s.rd (MIG.EPOCH b), switchAt := sw } }
  let s := s.wr (MIG.EPOCH b) e.1
  let s := s.putSlotRun t n { s.slotRun t n with epoch := e.1, shadow := (s.slotRun g n).shadow }
  s.setFld (BRG.ASSIGN b) 12 8 t

/-- The source's slot receives no more dispatches (R278). -/
def migLeave (g n : Nat) (s : State) : State :=
  let c := s.slotCfg g n
  let s := s.putGal g { s.galOf g with sched := Tab.put (s.galOf g).sched n { c with sbr := wsetBit c.sbr 7 false } }
  s.setBit (GAL.SLOT_ACTIVE g n) 7 false

/-- Step 4 of a migration: the new epochs in one write, the completion instant (R278). -/
def migSwitch (s : State) : State :=
  let m := s.mig
  let l := bitsOf 6 m.slots.toNat
  let s := match l.head? with
    | some n => s.wr MIG.MSWITCH ((s.slotRun m.source (l.foldl (fun k i =>
        if s.slotBridge m.target i < s.slotBridge m.target k then i else k) n)).tread + 1)
    | none => s
  let s := l.foldl (fun s n => migLeave m.source n (migMove m.source m.target n ((s.slotRun m.source n).tread + 1) s)) s
  (s.setFld MIG.MSTA 12 10 5).passCompletion MIG.MSTA |>.setFld (HDR.STA (pgGAL m.target)) 3 0 3

/-- A plan of the source or the target while the target shadows (R278 step 3, R280). -/
def comparePlan (fromTarget : Bool) (p : Plan) (s : State) : State :=
  let m := s.mig
  if s.phase MIG.MSTA ≠ 2 ∨ s.fld MIG.MSTA 12 10 ≠ 3 then s
  else
    let own := if fromTarget then m.tgt else m.src
    let peer := if fromTarget then m.src else m.tgt
    match Tab.find peer p.bridge with
    | some q =>
      if q.tread = p.tread then
        match planDiff p q with
        | some d =>
          if d ≤ s.fld MIG.MCMP 31 16 then
            let s := { s with mig := { m with src := Tab.erase m.src p.bridge, tgt := Tab.erase m.tgt p.bridge,
                                              hits := Tab.put m.hits p.bridge (Tab.get 0 m.hits p.bridge + 1) } }
            if s.migReady then s.migSwitch else s
          else s.mismatch p.bridge p.tread d
        | none => s.mismatch p.bridge p.tread 0xFFFF
      else s.mismatch p.bridge q.tread 0xFFFF
    | none =>
      if (Tab.find own p.bridge).isSome then s.mismatch p.bridge p.tread 0xFFFF
      else if fromTarget then { s with mig := { m with tgt := Tab.put m.tgt p.bridge p } }
      else if m.slots.getLsbD p.slot ∧ p.gal = m.source then { s with mig := { m with src := Tab.put m.src p.bridge p } }
      else s

/-! ### Shadow slots of a duplex pair (R286) -/

/-- The plan of a shadow slot against the frame that the owner sent for the same tread (R286). -/
def shadowCheck (b : Nat) (s : State) : State :=
  match Tab.find s.stw.plans b, (s.compOf (s.brgRing b) (s.brgPos b)).last with
  | some p, some f =>
    if f.tread ≠ p.tread then s
    else
      let m := s.minPulse b f.tref.toNat (p.edges.map edgeOf)
      let q := s.refresh b f.tref.toNat m.1
      let tol := s.fld STW.DRIFT 15 0
      let l := f.edges.map entryEdge
      let ok := decide (q.1.length = l.length) &&
        (q.1.zip l).all fun e => decide (e.1.gate = e.2.gate ∧ e.1.on = e.2.on
          ∧ ((e.1.off : Int) - e.2.off).natAbs ≤ tol)
      let w := s.stw
      let s := { s with stw := { w with
        plans := Tab.erase w.plans b,
        hits := Tab.put w.hits b (if ok then Tab.get 0 w.hits b + 1 else 0),
        drift := Tab.put w.drift b (if ok then 0 else Tab.get 0 w.drift b + 1) } }
      s.trackGates b f.tref.toNat l
  | _, _ => s

/-- A plan unit read at data address `ea`, with what PCOMMIT writes into it (R169). -/
def planOf (s : State) (g n : Nat) (ws : List Word) : Plan :=
  let b := s.slotBridge g n
  let units := wfld (ws.getD 0 0) 8 8 + 1
  let k := wfld (ws.getD 0 0) 4 0
  let owner := g + (if s.fld (RZL.TOPO (s.brgRing b)) 1 0 = 2 then 0x20 else 0)
  { bridge := b, gal := g, slot := n, units := units, owner := BitVec.ofNat 8 owner, epoch := (s.slotRun g n).epoch,
    tread := (s.slotRun g n).tread, nedge := k,
    edges := (List.range (Nat.min k (if units = 1 then 12 else 28))).map fun i => ws.getD (4 + i) 0 }

/-- PCOMMIT of a plan (R101): the comparator in a shadow gallery (R278), else the edge landing; the status. -/
def commitPlan (g : Nat) (p : Plan) (s : State) : State × Word :=
  if s.galState g = 9 ∨ (s.slotRun g p.slot).shadow then
    if s.busyOp MIG.MSTA ∧ s.mig.target = g then (s.comparePlan true p, 0)
    else ({ s with stw := { s.stw with plans := Tab.put s.stw.plans p.bridge p } }.shadowCheck p.bridge, 0)
  else
    let r := s.brgRing p.bridge
    let k := s.brgPos p.bridge
    if s.hasCredit (.edge r) k p.units then
      let s := s.spend (.edge r) k p.units
      let s := s.putRing r { s.ringOf r with edge := (s.ringOf r).edge ++ [p] }
      (s.comparePlan false p, 0)
    else ((s.count (GAL.PLANCNT g) 15 0).raiseFlt (pgGAL g) 18, 1)

/-- PCOMMIT reads its one or two units (R169) and commits the plan. -/
def pcommitStep (g : Nat) (ea : Word) (reg : Nat) (s : State) : State × Next :=
  let n := (s.coreOf g).slotno
  let two := s.byte (galBase g + ea.toNat % 0x100000 + 1) &&& 1 = 1
  s.loadLocal g ea (if two then 128 else 64) (fun ws s =>
    let r := s.commitPlan g (s.planOf g n ws)
    r.1.status g reg r.2)

/-- A landing instruction: ILLEGAL outside a tread context (R101). -/
def landing (g : Nat) (a b : BitVec 5) (f : Word → Nat → State → State × Next) (s : State) : State :=
  s.issue g false [a] false (fun s =>
    let c := s.coreOf g
    if c.ctx = .tread then f (c.g a) (gIndex c.ctx b.toNat) s else (s, .trap .illegal none))

/-- A sample unit reaches gallery `g`'s sample landing (R28, R101). -/
def sampleArrive (g p : Nat) (u : List Word) (s : State) : State :=
  if s.hasCredit (.sample g) p then
    let s := s.spend (.sample g) p
    let s := s.putGal g { s.galOf g with samples := (s.galOf g).samples ++ [(p, unitWords u)] }
    let c := s.coreOf g
    if c.swait.isSome ∧ (s.sampleFor g (s.slotBridge g c.slotno)).isSome then s.swaitResume g else s
  else
    let s := (s.count (GAL.MISSCNT g) 31 16).raiseFlt (pgGAL g) 17
    (List.range 6).foldl (fun s n =>
      if s.slotOn g n ∧ s.slotBridge g n = wfld ((unitWords u).getD 4 0) 5 0 then
        s.putSlotRun g n { s.slotRun g n with overrun := true }
      else s) s

/-- A setpoint unit enters gallery `g`'s setpoint landing (R28, R94). -/
def setpointTake (g core : Nat) (u : List Word) (s : State) : State :=
  let s := s.spend (.setpoint g) core
  (s.putGal g { s.galOf g with setpoints := (s.galOf g).setpoints ++ [(core, unitWords u)] }).raiseIrq g 6

/-- A hall core stores a setpoint unit into gallery `g`'s landing (R28): without a credit, or behind a store of its own
that stalls, the store stalls. -/
def setpointArrive (g core : Nat) (u : List Word) (s : State) : State :=
  let x := s.galOf g
  if s.hasCredit (.setpoint g) core = true ∧ x.stalled.any (fun e => e.1 == core) = false then s.setpointTake g core u
  else s.putGal g { x with stalled := x.stalled ++ [(core, unitWords u)] }

/-- A credit has come back: the oldest stalled store of the core resumes (R28). -/
def setpointResume (g core : Nat) (s : State) : State :=
  let x := s.galOf g
  match x.stalled.find? fun e => e.1 == core with
  | some e =>
    if s.hasCredit (.setpoint g) core then
      (s.putGal g { x with stalled := x.stalled.eraseP fun e => e.1 == core }).setpointTake g core e.2
    else s
  | none => s

/-- A hall core waits in a store that stalls. -/
def hallStalls (s : State) (core : Nat) : Bool :=
  (List.range 18).any fun g => (s.galOf g).stalled.any fun e => e.1 == core

/-! ### Schedule commit (R102-R104, R125, R522) -/

/-- The staged slots as a table (R102): BUDGET 0 is committed as disabled. -/
def stagedSlot (s : State) (g n : Nat) : SlotCfg :=
  let sbr := s.rd (GAL.SLOT_SBR g n)
  let bud := s.rd (GAL.SLOT_BUDGET g n) &&& 0xFFFF
  { sbr := if bud = 0 then wsetBit sbr 7 false else sbr, entry := s.rd (GAL.SLOT_ENTRY g n), budget := bud,
    sdl := s.rd (GAL.SLOT_SDL g n), cdl := s.rd (GAL.SLOT_CDL g n) }

/-- The enabled entries of a table. -/
def onSlots (t : List (Nat × SlotCfg)) : List (Nat × SlotCfg) := t.filter fun e => e.2.sbr.getLsbD 7

/-- The first check of R103 at `mhz` for one slot, with blocking at least `block` cycles (R279). -/
def slotFits (mhz block : Nat) (t : List (Nat × SlotCfg)) (x : SlotCfg) : Bool :=
  let l := (onSlots t).map (·.2)
  let blocking := l.foldl (fun m y => if y.cdl.toNat > x.cdl.toNat then Nat.max m y.budget.toNat else m) block
  let demand := l.foldl (fun d y => if y.cdl.toNat ≤ x.cdl.toNat then d + y.budget.toNat else d) 0
  decide (x.sdl.toNat * mhz + 1000 * (blocking + demand) ≤ x.cdl.toNat * mhz)

/-- The load of a table in cycles per second, as a fraction (R103). -/
def slotLoad (s : State) (t : List (Nat × SlotCfg)) : Nat × Nat :=
  (onSlots t).foldl (fun q e =>
    let b := wfld e.2.sbr 5 0
    let p := s.num (BRG.ACT_PERIOD b)
    let k := if (s.brgOf b).double then 2 else 1
    (q.1 * p + e.2.budget.toNat * k * 16000000000 * q.2, q.2 * p)) (0, 1)

/-- The schedule checks of R103 at `mhz`: none where they pass, else the SLOT field. -/
def scheduleFails (s : State) (mhz block : Nat) (t : List (Nat × SlotCfg)) : Option Nat :=
  match (onSlots t).find? fun e => !slotFits mhz block t e.2 with
  | some e => some e.1
  | none =>
    let q := s.slotLoad t
    if q.1 * 10 > 9 * mhz * 1000000 * q.2 then some 7 else none

/-- The schedule floor (R104, R279). -/
def scheduleFloor (s : State) (block : Nat) (t : List (Nat × SlotCfg)) : Nat :=
  if onSlots t = [] then 400
  else (([400, 500, 600, 700, 800, 900, 1000, 1100].find? fun f => (s.scheduleFails f block t).isNone).getD 1200)

/-- A table takes effect (R103, R104, R120, R155): the dispatcher, SLOT.ACTIVE, CLKSTA, and BRG.ASSIGN. -/
def installSchedule (g : Nat) (t : List (Nat × SlotCfg)) (s : State) : State :=
  let s := (List.range 6).foldl (fun s n =>
    let c := Tab.get {} t n
    let was := s.slotOn g n
    let s := s.wr (GAL.SLOT_ACTIVE g n) c.sbr
    if c.sbr.getLsbD 7 then
      let b := wfld c.sbr 5 0
      let s := (s.setFld (BRG.ASSIGN b) 12 8 g).setFld (BRG.ASSIGN b) 15 13 n
      if was ∧ s.slotBridge g n = b then s
      else s.putSlotRun g n { ({} : SlotRun) with epoch := s.rd (MIG.EPOCH b) }
    else s) s
  let s := s.putGal g { s.galOf g with sched := t }
  (s.setFld (GAL.CLKSTA g) 26 16 (s.scheduleFloor 0 t)).galClock g

/-- The checks of a schedule commit (R102, R103, R125): the code and the SLOT field where it fails. -/
def scheduleCheck (s : State) (g : Nat) (t : List (Nat × SlotCfg)) : Option (Code × Nat) :=
  let on := onSlots t
  let bridges := on.map fun e => wfld e.2.sbr 5 0
  let kept := fun b => bridges.contains b || (match s.bridgeSlot b with | some (h, _) => h != g | none => false)
  if on.any (fun e => e.2.budget = 0xFFFF) then some (.rejLength, 0)
  else match s.scheduleFails 1200 0 t with
    | some n => some (.rejState, n)
    | none =>
      if s.migrates g ∨ bridges.any (fun b => !s.hasBrg b) then some (.rejState, 0)
      else if (List.range 6).any (fun n => s.slotOn g n && !bridges.contains (s.slotBridge g n)
          && !s.brgSafe (s.slotBridge g n)) then some (.rejState, 0)
      else if (List.range s.variant.bridges).any (fun b =>
          kept b && !s.brgIsLead b && decide (s.leadOf b ≠ b) && !kept (s.leadOf b)) then some (.rejState, 0)
      else none

/-- The newel finishes a schedule commit (R103, R522). -/
def scheduleDone (g : Nat) (s : State) : State :=
  if s.busyOp (GAL.SCHSTA g) then
    let t := (List.range 6).map fun n => (n, s.stagedSlot g n)
    match s.scheduleCheck g t with
    | some (c, n) => (opEnd (pgGAL g) (GAL.SCHSTA g) c (s.setFld (GAL.SCHSTA g) 18 16 n)).raiseFlt (pgGAL g) 26
    | none =>
      let s := (s.installSchedule g t).setFld (GAL.SCHSTA g) 18 16 0
      (opEnd (pgGAL g) (GAL.SCHSTA g) .done s).raiseEvt (pgGAL g) 3
  else s

end State

/-- TREAD_DISPATCH (R100). -/
def execTreadDispatch (g slot : Nat) (lib : LibDemand) (s : State) : Host.Outcome State Fault Refusal :=
  onUnit (decide (g < s.variant.galleries ∧ slot < 6)) (s.dispatch g slot lib)

/-- INTERRUPT_ENTRY: at an interruptible point of the background (R94, R96). -/
def execInterruptEntry (g : Nat) (s : State) : Host.Outcome State Fault Refusal :=
  onGal g (fun s =>
    let c := s.coreOf g
    match lowestBit 8 (c.ipend &&& c.imask).toNat with
    | none => s
    | some n =>
      if (s.galState g = 3 ∨ s.galState g = 9) ∧ c.ctx = .background ∧ s.interruptible g then
        let s := s.startClock g
        let c := s.coreOf g
        let s := match c.irqSince with
          | some t => s.keepMax (GAL.IRQLAT g) 15 0 (c.cyc - t)
          | none => s
        let s := if n = 1 then s.setBit (GAL.DOORBELL g) 0 false else s
        let pend := wsetBit c.ipend n false
        let c := { c with ipc := c.pc, ipend := pend, irqSince := if pend &&& c.imask = 0 then none else some c.cyc }
        (s.putCore g c).enterCtx g .interrupt (BitVec.ofNat 32 (8 * n))
      else s) s

/-- TRAP_ENTRY: a precise trap at the instruction to issue, a deferred one at an interruptible point (R98, R99). -/
def execTrapEntry (g : Nat) (c : TrapCause) (xaddr : BitVec 32) (s : State) : Host.Outcome State Fault Refusal :=
  onGal g (fun s =>
    if s.galIssues g then
      match c with
      | .accsat | .stsat | .fpinv =>
        let k := s.coreOf g
        (s.putCore g { k with deferred := k.deferred ++ [c] }).takeDeferred g
      | .budget => s.budgetTrap g
      | .access | .dataUe | .storeUe => s.trapHere g c (some xaddr)
      | _ => s.trapHere g c none
    else s) s

/-- BUDGET_EXPIRY (R99, R102). -/
def execBudgetExpiry (g : Nat) (s : State) : Host.Outcome State Fault Refusal :=
  onGal g (fun s => if s.galState g = 3 ∨ s.galState g = 9 then s.budgetTrap g else s) s

/-- FETCH_UE: the gallery is HELD (R99, R330). -/
def execFetchUe (g : Nat) (s : State) : Host.Outcome State Fault Refusal :=
  onGal g (fun s =>
    if s.galIssues g then
      let s := s.noteUe ((galBase g + (s.coreOf g).pc.toNat % 0x10000) / 8) (State.galRequester g)
      s.trapHere g .fetchUe none
    else s) s

/-- SAMPLE_DEADLINE: SDL has passed with no sample (R101). -/
def execSampleDeadline (g : Nat) (s : State) : Host.Outcome State Fault Refusal :=
  onGal g (fun s =>
    let c := s.coreOf g
    if c.swait.isSome then s.swaitResume g
    else if c.ctx = .tread then s.putSlotRun g c.slotno { s.slotRun g c.slotno with sdlPassed := true }
    else s) s

/-- DOORBELL (R94, R105). -/
def execDoorbell (g : Nat) (s : State) : Host.Outcome State Fault Refusal :=
  onGal g (fun s => ((s.setBit (GAL.DOORBELL g) 0 true).raiseIrq g 1).startClock g) s

/-- LOCAL_TIMER: the background count has become equal to TIMECMP (R94). -/
def execLocalTimer (g : Nat) (s : State) : Host.Outcome State Fault Refusal :=
  onGal g (fun s => s.raiseIrq g 4) s

/-- SCHCTL_COMMIT (R122, R522). -/
def execSchctlCommit (g : Nat) (s : State) : Host.Outcome State Fault Refusal :=
  onGal g (fun s => 
    if s.busyOp (GAL.SCHSTA g) then s.refuseWrite (pgGAL g)
    else if s.offView (pgGAL g) then State.opEnd (pgGAL g) (GAL.SCHSTA g) .rejState s
    else s.opPhase (GAL.SCHSTA g) 1) s

/-- SCHCTL_ABORT: before the write of the table it leaves the committed table unchanged (R522). -/
def execSchctlAbort (g : Nat) (s : State) : Host.Outcome State Fault Refusal :=
  onGal g (fun s =>
    let t := s.opAbort (pgGAL g) (GAL.SCHSTA g) id
    if s.busyOp (GAL.SCHSTA g) then t.raiseFlt (pgGAL g) 26 else t) s

/-- SCHEDULE_COMMIT_DONE (R103, R522). -/
def execScheduleCommitDone (g : Nat) (s : State) : Host.Outcome State Fault Refusal :=
  onGal g (State.scheduleDone g) s

/-- COEFW_WRITE (R105, R110, R111, R134). -/
def execCoefwWrite (g : Nat) (v : BitVec 64) (s : State) : Host.Outcome State Fault Refusal :=
  onGal g (fun s => (s.coefWrite g v).startClock g) s

/-- TRCTL_ARM (R117). -/
def execTrctlArm (g : Nat) (s : State) : Host.Outcome State Fault Refusal :=
  onGal g (fun s =>
    let post := s.num (GAL.TRPOST g)
    if s.busyOp (GAL.TRSTA g) then s.refuseWrite (pgGAL g)
    else if s.offView (pgGAL g) then State.opEnd (pgGAL g) (GAL.TRSTA g) .rejState s
    else if post > s.traceCap g ∨ post = 0xFFFF then State.opEnd (pgGAL g) (GAL.TRSTA g) .rejLength s
    else
      let s := (s.setFld (GAL.TRSTA g) 31 16 0).opPhase (GAL.TRSTA g) 1
      let s := (s.wr (GAL.TRPTR g) 0).putGal g { s.galOf g with trace := {} }
      if s.fld (GAL.TRTRIG g) 6 4 = 0 then s.traceTrigger g 0 (post + 1) else s) s

/-- TRCTL_STOP (R117). -/
def execTrctlStop (g : Nat) (s : State) : Host.Outcome State Fault Refusal :=
  onGal g (fun s => s.opAbort (pgGAL g) (GAL.TRSTA g) id) s

/-- SUPTRIP_CLEAR (R114). -/
def execSuptripClear (g : Nat) (s : State) : Host.Outcome State Fault Refusal :=
  onGal g (State.supClear g) s

/-- SUPERVISOR_TRIP (R113). -/
def execSupervisorTrip (g slot : Nat) (s : State) : Host.Outcome State Fault Refusal :=
  onUnit (decide (g < s.variant.galleries ∧ slot < 6)) (s.supTrip g slot)

/-- ENDT (R95, R96, R100, R102, R113, R115). -/
def execEndt (g : Nat) (s : State) : Host.Outcome State Fault Refusal :=
  onGal g (State.issue g true [] false (fun s =>
    if (s.coreOf g).ctx = .tread then (s.endTread g, .stay) else (s, .trap .illegal none))) s

/-- SWAIT: stalls until a sample or SDL (R101). -/
def execSwait (g : Nat) (a b : BitVec 5) (s : State) : Host.Outcome State Fault Refusal :=
  onGal g (State.landing g a b (fun ea reg s =>
    let c := s.coreOf g
    if (s.sampleFor g (s.slotBridge g c.slotno)).isNone ∧ (s.slotRun g c.slotno).sdlPassed = false then
      (s.putCore g { c with swait := some (ea, reg) }, .stay)
    else s.swaitCopy g ea reg)) s

/-- LDSP (R26, R101). -/
def execLdsp (g : Nat) (a b : BitVec 5) (s : State) : Host.Outcome State Fault Refusal :=
  onGal g (State.landing g a b (fun ea reg s => s.ldspCopy g ea reg)) s

/-- PCOMMIT (R101, R169, R278). -/
def execPcommit (g : Nat) (a b : BitVec 5) (s : State) : Host.Outcome State Fault Refusal :=
  onGal g (State.landing g a b (fun ea reg s => s.pcommitStep g ea reg)) s

/-- OBSR: Ga is the slot's residual; status 0, usable in the next cycle (R89, R101). -/
def execObsr (g : Nat) (a b : BitVec 5) (s : State) : Host.Outcome State Fault Refusal :=
  onGal g (State.landing g a b (fun v _ s =>
    let n := (s.coreOf g).slotno
    ((s.putSlotRun g n { s.slotRun g n with residual := some v }).produceG g 1 b 0 none, .seq))) s

/-- TRCAP: in any context (R101, R115). -/
def execTrcap (g : Nat) (s : State) : Host.Outcome State Fault Refusal :=
  onGal g (State.issue g false [] false (fun s => (s.traceCapture g, .seq))) s

/-- SAMPLE_UNIT_ARRIVAL (R28). -/
def execSampleUnitArrival (g producer : Nat) (u : List (BitVec 32)) (s : State) : Host.Outcome State Fault Refusal :=
  onGal g (State.sampleArrive g producer u) s

/-- SETPOINT_UNIT_ARRIVAL: without a credit the hall's store stalls and nothing arrives (R28, R94). -/
def execSetpointUnitArrival (g core : Nat) (u : List (BitVec 32)) (s : State) : Host.Outcome State Fault Refusal :=
  onGal g (State.setpointArrive g core u) s

/-- FAST_CLOCK_REQUEST (R22). -/
def execFastClockRequest (g : Nat) (s : State) : Host.Outcome State Fault Refusal :=
  onGal g (State.startClock g) s

end Sys2Proof.Machine
end

