-- ==== Sys2Proof/Machine/Motion.lean ====
section
/-!
DEFINITION. What the motion service of an axis shares (R227-R252): setpoint limits, stops, the unverified mark, paths and
the stairwell's frames.  The motion service runs on hall core 0 (log entry 24).
-/
namespace Sys2Proof.Machine

namespace State

def axisOf (s : State) (a : Nat) : AxisRun := Tab.get {} s.axis a
def putAxis (s : State) (a : Nat) (x : AxisRun) : State := { s with axis := Tab.put s.axis a x }

/-- A row about an axis that the variant builds. -/
def hasAxis (s : State) (a : Nat) : Bool := decide (a < s.variant.axes)

/-- MSTATE: 0 DISABLED, 1 IDLE, 2 MOVING, 3 GEARED, 4 DIRECT, 5 STOPPING, 6 STOPPED_HOLD, 7 STOPPED_OFF (R253). -/
def mstate (s : State) (a : Nat) : Nat := s.fld (AXIS.AXSTA a) 3 0
def setMstate (a v : Nat) (s : State) : State := s.setFld (AXIS.AXSTA a) 3 0 v

/-- CMODE: 0 TORQUE, 1 SPEED, 2 POSITION, 3 DIRECT (R230). -/
def cmode (s : State) (a : Nat) : Nat := s.fld (AXIS.AXCFG a) 1 0

def unverified (s : State) (a : Nat) : Bool := s.bit (AXIS.AXSTA a) 4
def sensorless (s : State) (a : Nat) : Bool := s.bit (AXIS.AXCFG a) 2
def onEstimate (s : State) (a : Nat) : Bool := s.bit (AXIS.AXSTA a) 6
def estValid (s : State) (a : Nat) : Bool := s.bit (AXIS.AXSTA a) 5
def resumable (s : State) (a : Nat) : Bool := s.bit (AXIS.AXSTA a) 7

/-- A 64-bit register as a signed number. -/
def sint64 (s : State) (a : Nat) : Int := (s.rd64 a).toInt

/-- AXIS n is enabled: CTL.EN (R54). -/
def axisOn (s : State) (a : Nat) : Bool := s.bit (HDR.CTL (pgAXIS a)) 0

/-! ### The stairwell's senders (R28, R287, R288) -/

/-- A frame handed to the stairwell: it stalls while the stairwell landing has no credit (R28). -/
def stwSend (ws : List Word) (s : State) : State :=
  if s.hasCredit .stairwell 0 then
    let s := (s.spend .stairwell 0).giveBack .stairwell 0
    { s with stw := { s.stw with last := ws, sent := s.stw.sent + 1 } }
  else { s with stw := { s.stw with wait := s.stw.wait ++ [ws] } }

/-- A credit has come back: the oldest stalled frame goes (R28). -/
def stwResume (s : State) : State :=
  match s.stw.wait with
  | [] => s
  | ws :: r => stwSend ws { s with stw := { s.stw with wait := r } }

/-- The axis is owned in a pair that is PAIRED: its writes and units are mirrored (R287). -/
def mirrors (s : State) (a : Nat) : Bool := decide (s.fld STW.STATE 3 0 = 2) && s.bit STW.OWN a

/-- An accepted write to the page of an axis is mirrored (R287). -/
def mirrorWrite (a off : Nat) (wide : Bool) (v : Word64) (s : State) : State :=
  if s.mirrors a then s.stwSend [3, BitVec.ofNat 32 (off + a * 4096 + b01 wide * 131072), loWord v, hiWord v] else s

/-! ### The unverified mark and the position (R240, R250) -/

/-- UNVERIFIED follows the primary port's TRACE and the estimate (R240, R251). -/
def verify (a : Nat) (s : State) : State :=
  let traced := match s.primaryPort a with
    | some n => s.bit (FB.FBSTA n) 3
    | none => false
  s.setBit (AXIS.AXSTA a) 4 (s.onEstimate a || s.sensorless a || !traced)

/-- REMAIN follows TARGET - ACTPOS while RESUMABLE, and is 0 otherwise (R253). -/
def remain (a : Nat) (s : State) : State :=
  if s.resumable a then s.wr64 (AXIS.REMAIN a) (pos64 (s.sint64 (AXIS.TARGET a) - s.sint64 (AXIS.ACTPOS a)))
  else s.wr64 (AXIS.REMAIN a) 0

def setResumable (a : Nat) (b : Bool) (s : State) : State := (s.setBit (AXIS.AXSTA a) 7 b).remain a

/-- The measured or estimated position and speed of an axis (R195, R250). -/
def setActual (a : Nat) (p : Int) (v : Word) (s : State) : State :=
  ((s.wr64 (AXIS.ACTPOS a) (pos64 p)).wr (AXIS.ACTSPD a) v).remain a

/-- Position and speed of a port reach the axis that it serves as primary (R195). -/
def axisFollow (n : Nat) (s : State) : State :=
  let a := s.fld (FB.FBCFG n) 20 16
  if a < s.variant.axes ∧ s.primaryPort a = some n then
    let s := if s.onEstimate a ∨ s.sensorless a then s else s.setActual a (s.sint64 (FB.POS n)) (s.rd (FB.SPD n))
    s.verify a
  else s

/-! ### Limits (R229, R253, R270, R474, R475) -/

/-- A speed magnitude limited in QUIET (R474). -/
def quietCap (s : State) (a v : Nat) : Nat :=
  if s.sysMode = 2 ∧ s.bit SYS.QUIETAX a = true ∧ s.num SYS.QUIETSPD ≠ 0 then Nat.min v (s.num SYS.QUIETSPD) else v

/-- The limits of a profile of an axis (R253, R474). -/
def limitsOf (s : State) (a : Nat) : Limits :=
  { v := ofQ16 (s.quietCap a (s.num (AXIS.VMAX a))), a := ofQ16 (s.num (AXIS.AMAX a)), d := ofQ16 (s.num (AXIS.DMAX a)),
    j := ofQ16 (s.num (AXIS.JMAX a)) }

/-- A torque fraction in 2^-15 of full scale as Q1.31, saturated (R14). -/
def torque15 (v : Nat) : Nat := Nat.min (v * 65536) 0x7FFFFFFF

/-- The newest route tick is older than 2 × TICK, or there is none (R270). -/
def routeStale (s : State) : Bool :=
  match s.route.lastTick with
  | some t => decide (t + 2 * s.fld ROUTE.TICK 7 0 * 16000000 < s.t16)
  | none => true

/-- A setpoint that meets a stale envelope records it (R270). -/
def noteStale (s : State) : State :=
  if s.bit ROUTE.RSTATE 3 then s
  else ((s.setBit ROUTE.RSTATE 3 true).count ROUTE.NODEERR 31 16).raiseFlt pgROUTE 19

/-- The route envelope of an axis: positive and negative limit (R270). -/
def routeLimit (s : State) : Nat × Nat :=
  if s.routeStale then (torque15 (s.fld ROUTE.FBTRQ 15 0), torque15 (s.fld ROUTE.FBTRQ 31 16))
  else (s.num ROUTE.TENV, s.num (ROUTE.TENV + 4))

/-- The power-stage derating of an axis (R475, R496). -/
def derateLimit (s : State) (a : Nat) : Nat :=
  let f := Nat.min (s.fld (THM.DRTACT a) 16 0 * 32768) 0x7FFFFFFF
  if s.sysMode = 5 then Nat.min f (torque15 (s.fld SYS.LIMPCFG 15 0)) else f

/-- The smallest of the four limits of R229 and its source: 0 register, 1 route, 2 derating, 3 full scale. -/
def tightest (reg : Nat) (route : Option Nat) (derate : Nat) : Nat × Nat :=
  let l : List (Nat × Nat) := [(reg, 0)] ++ (match route with | some r => [(r, 1)] | none => []) ++
    [(derate, 2), (0x7FFFFFFF, 3)]
  l.foldl (fun m x => if x.1 < m.1 then x else m) (reg, 0)

/-- TLIMACT and TLIMSRC (R229). -/
def setLimits (a : Nat) (s : State) : State :=
  let env := s.bit (ROUTE.TRAXCFG a) 1
  let s := if env ∧ s.routeStale then s.noteStale else s
  let r := s.routeLimit
  let d := s.derateLimit a
  let p := tightest (s.num (AXIS.TLIMP a)) (if env then some r.1 else none) d
  let n := tightest (s.num (AXIS.TLIMN a)) (if env then some r.2 else none) d
  let s := (s.wr (AXIS.TLIMACT a) (BitVec.ofNat 32 p.1)).wr (AXIS.TLIMACT a + 4) (BitVec.ofNat 32 n.1)
  s.setFld (AXIS.AXSTA a) 18 16 (if n.1 < p.1 then n.2 else p.2)

/-! ### Paths -/

/-- The axes that share a's running path, itself included: those that name its leader (R243). -/
def partyOf (s : State) (a : Nat) : List Nat :=
  match (s.axisOf a).leader with
  | some l => (List.range s.variant.axes).filter fun i => (s.axisOf i).leader = some l
  | none => [a]

/-- The axis's running path, if it has one. -/
def pathOf (s : State) (a : Nat) : Option Profile :=
  match (s.axisOf a).leader with
  | some l => (s.axisOf l).path
  | none => none

/-- Place and speed on a path of an axis at an instant: path position, path speed and acceleration. -/
def pathAt (s : State) (a t : Nat) : Rat × Rat × Rat :=
  match s.pathOf a with
  | some p => evalSegs p.segs 0 p.v0 (if t < p.t0 then 0 else secs p.t0 t)
  | none => (0, 0, 0)

/-- The axis's commanded position at a path position (R233, R244). -/
def sharePos (x : AxisRun) (p : Rat) : Int := x.start + ((x.delta : Rat) * p / x.len).floor

/-- The factor from path speed to the axis's speed (R244). -/
def shareFactor (x : AxisRun) : Rat := (x.delta : Rat) / (x.len * 4294967296)

/-- A path of one axis's own, in revolutions from its commanded position. -/
def ownPath (a : Nat) (v0 : Rat) (segs : List Seg) (decelAt : Option Rat) (goal : Int) (s : State) : State :=
  let x := s.axisOf a
  s.putAxis a { x with
    leader := some a, path := some { t0 := Nat.max x.at_ s.t16, v0 := v0, segs := segs, decelAt := decelAt },
    start := s.sint64 (AXIS.CMDPOS a), delta := 4294967296, len := 1, goal := goal, arrived := false }

/-- An axis leaves its path at rest. -/
def clearPath (a : Nat) (s : State) : State :=
  s.putAxis a { s.axisOf a with leader := none, path := none, arrived := false, vel := 0, acc := 0 }

/-- CMDPOS takes ACTPOS (R239, R241, R291). -/
def cmdToAct (a : Nat) (s : State) : State := s.wr64 (AXIS.CMDPOS a) (s.rd64 (AXIS.ACTPOS a))

/-- The new owner of an axis continues it (R291): in POSITION mode it holds at ACTPOS, a running operation ends. -/
def continueAxis (a : Nat) (s : State) : State :=
  if s.cmode a ≠ 2 ∨ s.mstate a = 0 ∨ s.mstate a ≥ 4 then s
  else
    let s := if s.busyOp (AXIS.MVSTA a) then (opEnd (pgAXIS a) (AXIS.MVSTA a) .rejState s).setResumable a true else s
    let s := ((s.clearPath a).setBit (AXIS.AXSTA a) 8 false).setMstate a 1
    s.cmdToAct a

/-! ### Stops (R237-R239, R245, R248) -/

/-- Category 0's FORCE OFF on every bridge of the axis, and its release (R237, R239). -/
def axisForce (a : Nat) (off : Bool) (s : State) : State :=
  (s.axisBridges a).foldl (fun s b => s.setFld (BRG.FORCE b) 5 0 (if off then 0x15 else 0)) s

/-- The FLT bit of a stop cause (R249, R252, R254). -/
def causeFlt (cause : Nat) : Option Nat :=
  match cause with
  | 2 => some 21
  | 3 => some 16
  | 4 => some 17
  | 5 => some 18
  | 9 => some 20
  | _ => none

/-- One axis enters a stop of category `cat` for `cause`: its operation ends, its state and cause are recorded (R237-R239). -/
def enterStop (a cause cat : Nat) (s : State) : State :=
  let moving := match s.pathOf a with
    | some p => p.decelAt.isSome
    | none => false
  let s := if s.busyOp (AXIS.MVSTA a) then opEnd (pgAXIS a) (AXIS.MVSTA a) .rejState s else s
  let s := if moving then s.setResumable a true else s
  let s := ((s.setMstate a 5).setFld (AXIS.AXSTA a) 11 10 cat).setFld (AXIS.AXSTA a) 15 12 cause
  let s := (s.setBit (AXIS.AXSTA a) 8 false).setBit (AXIS.AXSTA a) 9 false
  let s := match causeFlt cause with
    | some b => s.raiseFlt (pgAXIS a) b
    | none => s
  let s := if cause = 5 then s.count (AXIS.UNDERCNT a) 31 16 else s
  s.raiseEvt (pgAXIS a) 1

/-- Category 0 acts on an axis (R237). -/
def cutOff (a : Nat) (s : State) : State :=
  ((s.clearPath a).wr (AXIS.CMDSPD a) 0).axisForce a true

/-- The greatest deceleration along a party's path that keeps every member within its STOPDEC (R237, R245). -/
def partyDecel (s : State) (l : List Nat) : Rat :=
  l.foldl (fun m i =>
    let k := ratAbs (shareFactor (s.axisOf i))
    if k = 0 then m
    else
      let d := ofQ16 (s.num (AXIS.STOPDEC i)) / k
      if m < 0 ∨ d < m then d else m) (-1)

/-- The axis stops (R237-R239, R245). -/
def axisStop (a cause cat : Nat) (s : State) : State :=
  let m := s.mstate a
  let cat := if m = 4 ∨ s.num (AXIS.STOPDEC a) = 0 then 0 else cat
  if m = 0 ∨ m = 7 then s
  else if m = 5 ∨ m = 6 then
    if cat < s.fld (AXIS.AXSTA a) 11 10 then
      let s := (s.setFld (AXIS.AXSTA a) 11 10 cat).setMstate a 5
      if cat = 0 then s.cutOff a else if m = 6 then s.putAxis a { s.axisOf a with arrived := true } else s
    else s
  else
    let party := s.partyOf a
    let grouped := decide (party.length > 1)
    let now := Nat.max (s.axisOf a).at_ s.t16
    let at_ := s.pathAt a now
    let decel := s.partyDecel party
    let cat := if grouped ∧ decel ≤ 0 then 0 else cat
    let s := if grouped then party.foldl (fun s i => s.enterStop i (if i = a then cause else 8) cat) s
      else s.enterStop a cause cat
    if cat = 0 then party.foldl (fun s i => s.cutOff i) s
    else if grouped then
      let segs := phaseSegs (-ratSign at_.2.1) (ratAbs at_.2.1) decel 0
      match (s.axisOf a).leader with
      | some l =>
        let s := party.foldl (fun s i =>
          s.putAxis i { s.axisOf i with start := sharePos (s.axisOf i) at_.1, arrived := false }) s
        s.putAxis l { s.axisOf l with path := some { t0 := now, v0 := at_.2.1, segs := segs } }
      | none => s
    else
      let v := (s.axisOf a).vel
      s.ownPath a v (phaseSegs (-ratSign v) (ratAbs v) (ofQ16 (s.num (AXIS.STOPDEC a))) 0) none 0

/-- A cause's category in STOPCFG (R238). -/
def causeCat (s : State) (a cause : Nat) : Nat :=
  match cause with
  | 1 => s.fld (AXIS.STOPCFG a) 1 0
  | 3 => s.fld (AXIS.STOPCFG a) 3 2
  | 4 => s.fld (AXIS.STOPCFG a) 5 4
  | 5 => s.fld (AXIS.STOPCFG a) 7 6
  | 9 => s.fld (AXIS.STOPCFG a) 9 8
  | _ => 0

/-- The axis stops with the category its cause has (R238). -/
def stopFor (a cause : Nat) (s : State) : State := s.axisStop a cause (s.causeCat a cause)

/-- The primary feedback of an axis is lost (R239, R250). -/
def feedbackGone (a : Nat) (s : State) : State :=
  let s := s.putAxis a { s.axisOf a with back := 0 }
  if s.sensorless a ∨ s.mstate a = 0 then s.verify a
  else if s.estValid a then ((s.setBit (AXIS.AXSTA a) 6 true).verify a).raiseEvt (pgAXIS a) 4
  else (s.verify a).stopFor a 2

/-- The master of a gear is absent, disabled, LOST or stopped in category 0 (R246, R248). -/
def masterGone (s : State) (a : Nat) : Bool :=
  let i := s.fld (AXIS.GEARSRC a) 6 2
  match s.fld (AXIS.GEARSRC a) 1 0 with
  | 2 => decide (i ≥ 24) || !s.bit (HDR.CTL (pgFB i)) 0 || s.bit (FB.FBSTA i) 2
  | 3 => true
  | _ => decide (i ≥ s.variant.axes ∨ s.mstate i = 0 ∨ (s.mstate i ≥ 5 ∧ s.fld (AXIS.AXSTA i) 11 10 = 0))
    || (match s.primaryPort i with
      | some n => s.bit (FB.FBSTA n) 2 && !s.onEstimate i
      | none => false)

/-- The master's position and speed (R246). -/
def masterAt (s : State) (a : Nat) : Int × Int :=
  let i := s.fld (AXIS.GEARSRC a) 6 2
  match s.fld (AXIS.GEARSRC a) 1 0 with
  | 0 => (s.sint64 (AXIS.CMDPOS i), s.sint (AXIS.CMDSPD i))
  | 1 => (s.sint64 (AXIS.ACTPOS i), s.sint (AXIS.ACTSPD i))
  | _ => (s.sint64 (FB.POS i), s.sint (FB.SPD i))

/-- A bridge of the axis is safe by misses, lease expiry or protection latch (R238). -/
def stageSafe (s : State) (a : Nat) : Bool :=
  (s.axisBridges a).any fun b => decide (5 ≤ s.fld (RZL.SLOT_SSTA (s.brgRing b) (s.brgPos b)) 2 0)

/-- The cause of an axis's stop is still present (R239). -/
def causePresent (s : State) (a : Nat) : Bool :=
  match s.fld (AXIS.AXSTA a) 15 12 with
  | 2 => (match s.primaryPort a with
      | some n => s.bit (FB.FBSTA n) 2 && !s.estValid a
      | none => false)
  | 6 => (s.axisBridges a).any fun b => s.bit (BRG.FORCESTA b) 8
  | 7 => s.stageSafe a
  | 9 => s.masterGone a
  | _ => false

end State

end Sys2Proof.Machine
end

