-- ==== Sys2Proof/Machine/Axis.lean ====
section
/-!
DEFINITION. The motion service's commands (R227-R254): setpoint units, moves, linear moves, gearing, stops, checks.
-/
namespace Sys2Proof.Machine

/-- The KINDs of a setpoint unit (R228). -/
inductive Kind where
  | torque | speed | position | hold | off
  deriving DecidableEq, Repr

/-- The number of a KIND (R228). -/
def Kind.num : Kind → Nat
  | .torque => 0
  | .speed => 1
  | .position => 2
  | .hold => 3
  | .off => 4

/-- What a unit commands: position, speed, acceleration and KIND. -/
structure Command where
  pos : Int
  vel : Rat
  acc : Rat
  kind : Kind
  deriving DecidableEq, Repr

/-- The speed after `dt` seconds of a ramp from `v` to `w`: AMAX away from zero, DMAX towards it (R230). -/
def rampTo (v w a d dt : Rat) : Rat :=
  if v = w then w
  else if (v ≥ 0 ∧ w > v) ∨ (v ≤ 0 ∧ w < v) then
    if ratAbs (w - v) ≤ a * dt then w else v + ratSign (w - v) * a * dt
  else
    let stop := if v * w < 0 then 0 else w
    if ratAbs (stop - v) ≤ d * dt then stop else v + ratSign (stop - v) * d * dt

namespace State

/-! ### The setpoint unit (R227, R228) -/

/-- The tread that the next unit serves, where one may be issued (R227), and its instant: after the sample instant of
tread T - 2, before the dispatch that serves T. -/
def unitTread (s : State) (a lead : Nat) : Option (Word × Nat) :=
  let n := s.rd (BRG.TREADCNT lead)
  let x := s.axisOf a
  let dispatched : Bool := match s.bridgeSlot lead with
    | some (g, k) => decide ((s.slotRun g k).tread = n + 1)
    | none => true
  let t1 := s.nextTread lead
  if x.issued = some (n + 2) then none
  else if x.issued = some (n + 1) ∨ dispatched = true then some (n + 2, t1 + s.servedInterval lead)
  else some (n + 1, t1)

/-- The estimate's position and speed reach the axis (R250). -/
def followEstimate (a : Nat) (dt : Rat) (s : State) : State :=
  if (s.onEstimate a ∨ s.sensorless a) ∧ s.estValid a = true then
    let v := s.sint (AXIS.ESTSPD a)
    s.setActual a (s.sint64 (AXIS.ACTPOS a) + ((v : Rat) * 65536 * dt).floor) (s.rd (AXIS.ESTSPD a))
  else s

/-- The commanded speed that SPEED mode ramps to (R230, R271, R474); a TRAXK of 0 leaves the route's limit open. -/
def speedTarget (s : State) (a : Nat) : Rat × State :=
  let set := s.sint (AXIS.SPDSET a)
  let m := s.quietCap a set.natAbs
  let k := (s.sint (ROUTE.TRAXK a)).natAbs
  let r : Nat × State :=
    if s.bit (ROUTE.TRAXCFG a) 1 = false then (m, s)
    else if k = 0 then (Nat.min m (loWord s.draw.1).toNat, s.draw.2)
    else (Nat.min m (s.num ROUTE.VENV * 65536 / k), s)
  (mkRat (if set < 0 then -(r.1 : Int) else r.1) 65536, r.2)

/-- What a running path commands at an instant (R233, R244). -/
def pathCommand (s : State) (a t : Nat) (k : Kind) : Command :=
  let x := s.axisOf a
  match s.pathOf a with
  | some p =>
    let e := s.pathAt a t
    let f := shareFactor x
    let ended := decide (secs p.t0 t ≥ segsTime p.segs)
    { pos := if ended ∧ p.decelAt.isSome then x.goal else sharePos x e.1, vel := f * e.2.1, acc := f * e.2.2, kind := k }
  | none => { pos := s.sint64 (AXIS.CMDPOS a), vel := 0, acc := 0, kind := k }

/-- The engaged slave's command (R247, R248), with a ratio written since taken over; none where the displacement
saturates. -/
def gearCommand (a : Nat) (s : State) : Option Command × State :=
  let x := s.axisOf a
  let m := s.masterAt a
  let pos := x.p0 + ((m.1 - x.m0) * x.gnum) / x.gden
  if pos > sMax 64 ∨ pos < sMin 64 then (none, s)
  else
    let n := s.sint (AXIS.GNUM a)
    let d := s.sint (AXIS.GDEN a)
    let s := if x.gnum = n ∧ x.gden = d then s
      else s.putAxis a { x with gnum := n, gden := d, m0 := m.1, p0 := pos }
    let x := s.axisOf a
    (some { pos := pos, vel := mkRat m.2 65536 * x.gnum / x.gden, acc := 0, kind := .position }, s)

/-- What the axis commands at the tread at instant `t`, `dt` seconds after the last unit's (R228, R230, R231, R237,
R247, R251). -/
def axisCommand (a t : Nat) (dt : Rat) (s : State) : Command × State :=
  let x := s.axisOf a
  let here := s.sint64 (AXIS.CMDPOS a)
  let still := fun k => ({ pos := here, vel := 0, acc := 0, kind := k } : Command)
  let m := s.mstate a
  let speedKind := if s.cmode a = 2 then Kind.position else Kind.speed
  if m = 7 then (still .off, s)
  else if m = 6 then (still (if x.holdOff then .position else .hold), s)
  else if m = 5 then
    if s.fld (AXIS.AXSTA a) 11 10 = 0 then (still .off, s) else (s.pathCommand a t speedKind, s)
  else if m = 4 then ({ still .torque with vel := x.vel }, s)
  else if m = 3 then
    match s.gearCommand a with
    | (some c, s) => (c, s)
    | (none, s) => (still .position, s.stopFor a 9)
  else if m = 2 ∧ x.leader.isSome then (s.pathCommand a t .position, s)
  else if m = 2 then
    if s.bit (AXIS.GEARSRC a) 8 then
      let want := mkRat (s.masterAt a).2 65536 * x.gnum / x.gden
      let v := rampTo x.vel want (ofQ16 (s.num (AXIS.AMAX a))) (ofQ16 (s.num (AXIS.DMAX a))) dt
      ({ pos := here + ((x.vel + v) / 2 * dt * 4294967296).floor, vel := v, acc := if dt = 0 then 0 else (v - x.vel) / dt,
         kind := .position }, s.putAxis a { x with matched := x.matched || decide (v = want) })
    else (still .position, s)
  else if s.cmode a = 2 then (still (if x.holdOff then .position else .hold), s)
  else if s.cmode a = 1 then
    let r := s.speedTarget a
    let v := rampTo x.vel r.1 (ofQ16 (s.num (AXIS.AMAX a))) (ofQ16 (s.num (AXIS.DMAX a))) dt
    ({ pos := here + ((x.vel + v) / 2 * dt * 4294967296).floor, vel := v, acc := if dt = 0 then 0 else (v - x.vel) / dt,
       kind := .speed }, r.2)
  else ({ pos := s.sint64 (AXIS.ACTPOS a), vel := mkRat (s.sint (AXIS.ACTSPD a)) 65536, acc := 0, kind := .torque }, s)

/-- The path's instants at a tread (R235-R237): the completion instant of a move, and its end. -/
def pathProgress (a t : Nat) (s : State) : State :=
  match s.pathOf a with
  | none => if (s.axisOf a).leader.isSome then s.putAxis a { s.axisOf a with arrived := true } else s
  | some p =>
    let el := secs p.t0 t
    let s := match p.decelAt with
      | some d => if s.busyOp (AXIS.MVSTA a) ∧ s.isPast (AXIS.MVSTA a) = false ∧ d ≤ el then
          s.passCompletion (AXIS.MVSTA a) else s
      | none => s
    if segsTime p.segs ≤ el then
      let s := s.putAxis a { s.axisOf a with arrived := true }
      let party := s.partyOf a
      if s.mstate a = 2 ∧ p.decelAt.isNone ∧ party.all (fun i => (s.axisOf i).arrived) then
        party.foldl (fun s i => (s.clearPath i).setMstate i 1) s
      else s
    else s

/-- DEV, DEVMAX and the deviation and slip counts at a tread (R249, R252), and the hold reduction (R242). -/
def axisChecks (a : Nat) (k : Kind) (s : State) : State :=
  if s.mstate a = 4 then s
  else
    let meas := if s.bit (AXIS.AXCFG a) 3 then (s.axisOf a).model else s.sint64 (AXIS.ACTPOS a)
    let dev := satInt 32 ((s.sint64 (AXIS.CMDPOS a) - meas) / 65536)
    let mag := dev.toInt.natAbs
    let s := (s.wr (AXIS.DEV a) dev).keepMax (AXIS.DEVMAX a) 31 0 mag
    let win := s.num (AXIS.DEVWIN a)
    let en := s.bit (AXIS.DEVCFG a) 8
    let x := s.axisOf a
    let x := if en = false ∨ s.unverified a then x else { x with devs := if mag > win then x.devs + 1 else 0 }
    let la := ((s.rd (AXIS.LOADANG a)).setWidth 16 : BitVec 16).toInt.natAbs
    let x := if s.bit (AXIS.SLIPCFG a) 24 = true ∧ s.estValid a = true then
      { x with slips := if la > s.fld (AXIS.SLIPCFG a) 15 0 then x.slips + 1 else 0 } else x
    if k = .hold ∧ en = true ∧ mag > win / 2 then
      (s.putAxis a { x with holdOff := true, calm := 0 }).raiseEvt (pgAXIS a) 5
    else if x.holdOff then
      let calm := if mag ≤ win / 4 then x.calm + 1 else 0
      s.putAxis a { x with holdOff := decide (calm < 64), calm := if calm < 64 then calm else 0 }
    else s.putAxis a x

/-- The unit of R228. -/
def unitOf (s : State) (a : Nat) (tread : Word) (c : Command) : List Word :=
  let est := (s.onEstimate a || s.sensorless a) && s.estValid a
  let ff := s.bit (ROUTE.TRAXCFG a) 2 && (c.kind == .speed || c.kind == .position || c.kind == .hold)
  let tq := if c.kind = .torque then s.rd (AXIS.TRQSET a) else if ff then s.rd ROUTE.FFOUT else 0
  let p := pos64 c.pos
  [tread, BitVec.ofNat 32 (a + c.kind.num * 32 + b01 est * 256), loWord p, hiWord p, q16 c.vel, q16 c.acc, tq,
   s.rd (AXIS.TLIMACT a), s.rd (AXIS.TLIMACT a + 4), 0, 0, 0, 0, 0, 0, 0]

/-- The unit enters the setpoint landing, a migration's target and the partner's (R227, R278, R287). -/
def deliverSetpoint (a lead : Nat) (u : List Word) (s : State) : State :=
  let g := s.brgGal lead
  let s := s.setpointArrive g 0 u
  let s := if s.busyOp MIG.MSTA ∧ s.mig.source = g ∧ s.fld MIG.MSTA 12 10 = 3 ∧ s.mig.slots.getLsbD (s.brgSlot lead) then
    s.setpointArrive s.mig.target 0 u else s
  if s.mirrors a then s.stwSend (2 :: u) else s

/-- What changes at the tread before the unit is formed: DIRECT, the step of POS, the estimate, the gear's master
(R231, R240, R248, R250). -/
def beforeUnit (a : Nat) (dt : Rat) (s : State) : State :=
  let x := s.axisOf a
  let s := (s.putAxis a { x with posStep := 0, start := x.start + x.posStep, p0 := x.p0 + x.posStep }).wr64 (AXIS.CMDPOS a)
    (pos64 (s.sint64 (AXIS.CMDPOS a) + x.posStep))
  let s := s.followEstimate a dt
  let s := if s.cmode a = 3 ∧ s.mstate a = 1 then s.setMstate a 4 else s
  let s := if s.onEstimate a ∧ s.sensorless a = false ∧ s.estValid a = false then s.stopFor a 2 else s
  let s := if (s.mstate a = 3 ∨ (s.mstate a = 2 ∧ s.busyOp (AXIS.MVSTA a) ∧ s.fld (AXIS.MVSTA a) 11 10 = 2))
    ∧ s.masterGone a then s.stopFor a 9 else s
  match s.primaryPort a with
  | some n => if s.onEstimate a ∧ s.bit (FB.FBSTA n) 2 = false then
      s.putAxis a { s.axisOf a with back := (s.axisOf a).back + 1 } else s
  | none => s

/-- The motion service issues one unit (R227-R252). -/
def issueUnit (a lead : Nat) (tread : Word) (t : Nat) (s : State) : State :=
  let x := s.axisOf a
  let dt := if x.issued.isSome ∧ x.at_ < t then secs x.at_ t else 0
  let s := s.beforeUnit a dt
  let r := s.axisCommand a t dt
  let c := r.1
  let s := r.2
  let s := if s.mstate a = 4 then s else s.wr64 (AXIS.CMDPOS a) (pos64 c.pos)
  let s := s.wr (AXIS.CMDSPD a) (q16 c.vel)
  let s := s.putAxis a { s.axisOf a with issued := some tread, at_ := t, vel := c.vel, acc := c.acc }
  let s := s.pathProgress a t
  let s := s.axisChecks a c.kind
  let s := s.setLimits a
  let s := s.putBrg lead { s.brgOf lead with kind := c.kind.num }
  s.deliverSetpoint a lead (s.unitOf a tread c)

/-- SETPOINT_ISSUE: not while a store of the core that runs the motion service stalls (R28). -/
def setpointIssue (a : Nat) (s : State) : State :=
  match s.axisLead a with
  | none => s
  | some lead =>
    if s.axisOn a = false ∨ s.mstate a = 0 ∨ s.bit STW.SHADOW a = true ∨ s.hallStalls 0 = true then s
    else match s.unitTread a lead with
      | some (n, t) => s.issueUnit a lead n t
      | none => s

/-! ### Moves (R230-R236, R240, R241) -/

/-- An operation of the axis ends at once with a code (R61). -/
def axisEnd (a op : Nat) (c : Code) (s : State) : State :=
  opEnd (pgAXIS a) (AXIS.MVSTA a) c (s.setFld (AXIS.MVSTA a) 11 10 op)

/-- A motion operation may not start: SERVICE, another mode than POSITION, not IDLE (R230-R232, R243, R246, R476). -/
def motionBlocked (s : State) (a : Nat) : Bool :=
  decide (s.sysMode = 6 ∨ s.cmode a ≠ 2 ∨ s.mstate a ≠ 1)

/-- A distance above 2^63 - 1 (R232). -/
def tooFar (d : Int) : Bool := decide ((d.natAbs : Int) > sMax 64)

/-- A zero limit (R232). -/
def zeroLimit (s : State) (a : Nat) : Bool :=
  decide (s.num (AXIS.VMAX a) = 0 ∨ s.num (AXIS.AMAX a) = 0 ∨ s.num (AXIS.DMAX a) = 0)

/-- A move from CMDPOS to a target begins (R232, R233). -/
def beginMove (a : Nat) (target : Int) (s : State) : State :=
  let d := target - s.sint64 (AXIS.CMDPOS a)
  let p := planFrom 0 0 (mkRat d 4294967296) (s.limitsOf a)
  let s := (s.setFld (AXIS.MVSTA a) 11 10 0).opPhase (AXIS.MVSTA a) 2
  ((s.setMstate a 2).setBit (AXIS.AXSTA a) 9 false).ownPath a 0 p.1 (some p.2) target

/-- A move operation is checked and begins (R232, R240). -/
def startMove (a : Nat) (s : State) : State :=
  let target := s.sint64 (AXIS.TARGET a)
  let d := target - s.sint64 (AXIS.CMDPOS a)
  if s.busyOp (AXIS.MVSTA a) then s.refuseWrite (pgAXIS a)
  else if s.motionBlocked a then s.axisEnd a 0 .rejState
  else if s.unverified a then (s.axisEnd a 0 .rejState).raiseFlt (pgAXIS a) 19
  else if s.zeroLimit a then s.axisEnd a 0 .rejState
  else if tooFar d then s.axisEnd a 0 .rejLength
  else
    let s := s.setResumable a false
    if d = 0 then (s.axisEnd a 0 .done).raiseEvt (pgAXIS a) 0 else s.beginMove a target

/-- The members of a's group, ascending (R243). -/
def groupOf (s : State) (a : Nat) : List Nat :=
  (List.range s.variant.axes).filter fun i =>
    s.bit (AXIS.AXCFG i) 7 && decide (s.fld (AXIS.AXCFG i) 6 4 = s.fld (AXIS.AXCFG a) 6 4)

/-- The smallest positive of X_i × L / |Δi| over moving members (R244); a limit of 0 stands for none (JMAX). -/
def groupLimit (x : Nat → Rat) (l : List (Nat × Int)) (len : Rat) : Rat :=
  l.foldl (fun m e =>
    let k := x e.1 * len / mkRat e.2.natAbs 4294967296
    if e.2 = 0 ∨ k = 0 then m else if m = 0 ∨ k < m then k else m) 0

/-- The path limits of a linear move (R244). -/
def groupLimits (s : State) (l : List (Nat × Int)) (len : Rat) : Limits :=
  { v := groupLimit (fun i => (s.limitsOf i).v) l len, a := groupLimit (fun i => (s.limitsOf i).a) l len,
    d := groupLimit (fun i => (s.limitsOf i).d) l len, j := groupLimit (fun i => (s.limitsOf i).j) l len }

/-- A member's scaled limit is the one in force (R244). -/
def limiting (s : State) (m : Limits) (len : Rat) (e : Nat × Int) : Bool :=
  let k := len / mkRat e.2.natAbs 4294967296
  let x := s.limitsOf e.1
  decide (e.2 ≠ 0 ∧ (x.v * k = m.v ∨ x.a * k = m.a ∨ x.d * k = m.d ∨ (m.j ≠ 0 ∧ x.j * k = m.j)))

/-- A linear move of members with displacements `l`, led by `a`, from path speed `v` and acceleration `acc` (R244). -/
def groupPath (a : Nat) (l : List (Nat × Int)) (v acc : Rat) (s : State) : State :=
  let far := l.foldl (fun m e => Nat.max m e.2.natAbs) 0
  let len := mkRat far 4294967296
  let m := s.groupLimits l len
  let p := planFrom v acc len m
  let t0 := Nat.max (s.axisOf a).at_ s.t16
  let s := l.foldl (fun s e =>
    let here := s.sint64 (AXIS.CMDPOS e.1)
    let s := s.putAxis e.1 { s.axisOf e.1 with
      leader := some a, start := here, delta := e.2, len := len, goal := here + e.2, arrived := false, path := none }
    (s.setMstate e.1 2).setBit (AXIS.AXSTA e.1) 9 (s.limiting m len e)) s
  s.putAxis a { s.axisOf a with path := some { t0 := t0, v0 := v, segs := p.1, decelAt := some p.2 } }

/-- A linear move is checked and begins (R243, R245). -/
def startLinear (a : Nat) (s : State) : State :=
  let g := s.groupOf a
  let l := g.map fun i => (i, s.sint64 (AXIS.TARGET i) - s.sint64 (AXIS.CMDPOS i))
  if s.busyOp (AXIS.MVSTA a) then s.refuseWrite (pgAXIS a)
  else if s.bit (AXIS.AXCFG a) 7 = false ∨ g.head? ≠ some a ∨ g.length > 8 ∨ g.any (fun i => s.motionBlocked i) then
    s.axisEnd a 1 .rejState
  else if g.any (fun i => s.unverified i) then (s.axisEnd a 1 .rejState).raiseFlt (pgAXIS a) 19
  else if l.any (fun e => e.2 ≠ 0 && s.zeroLimit e.1) then s.axisEnd a 1 .rejState
  else if l.any (fun e => tooFar e.2) then s.axisEnd a 1 .rejLength
  else
    let s := g.foldl (fun s i => s.setResumable i false) s
    if l.all (fun e => e.2 = 0) then (s.axisEnd a 1 .done).raiseEvt (pgAXIS a) 0
    else ((s.setFld (AXIS.MVSTA a) 11 10 1).opPhase (AXIS.MVSTA a) 2).groupPath a l 0 0

/-- MVCTL.RESUME (R241, R245). -/
def resumeMove (a : Nat) (s : State) : State :=
  let g := s.groupOf a
  let group := s.bit (AXIS.AXCFG a) 7 && decide (g.head? = some a) && decide (g.length > 1)
    && g.all (fun i => s.resumable i)
  if s.busyOp (AXIS.MVSTA a) then s.refuseWrite (pgAXIS a)
  else if s.resumable a = false ∨ s.motionBlocked a then s.axisEnd a (if group then 1 else 0) .rejState
  else if group then (g.foldl (fun s i => s.cmdToAct i) s).startLinear a
  else (s.cmdToAct a).startMove a

/-- MVCTL.RETARGET (R234, R245): before the completion instant the running move takes the new targets. -/
def retarget (a : Nat) (s : State) : State :=
  if s.phase (AXIS.MVSTA a) ≠ 2 ∨ s.isPast (AXIS.MVSTA a) ∨ s.zeroLimit a then s.refuseWrite (pgAXIS a)
  else
    let x := s.axisOf a
    match s.fld (AXIS.MVSTA a) 11 10 with
    | 0 =>
      let target := s.sint64 (AXIS.TARGET a)
      let d := target - s.sint64 (AXIS.CMDPOS a)
      if tooFar d then s.axisEnd a 0 .rejLength
      else
        let p := planFrom x.vel x.acc (mkRat d 4294967296) (s.limitsOf a)
        s.ownPath a x.vel p.1 (some p.2) target
    | 1 =>
      let at_ := s.pathAt a x.at_
      let l := (s.partyOf a).map fun i => (i, s.sint64 (AXIS.TARGET i) - s.sint64 (AXIS.CMDPOS i))
      if l.all (fun e => e.2 = 0) ∨ l.any (fun e => tooFar e.2) then s.refuseWrite (pgAXIS a)
      else s.groupPath a l at_.2.1 at_.2.2
    | _ => s.refuseWrite (pgAXIS a)

/-- A move or a linear move aborted before its completion instant: every member decelerates to rest (R236, R245). -/
def abortMove (a : Nat) (s : State) : State :=
  let x := s.axisOf a
  let now := x.at_
  let at_ := s.pathAt a now
  let party := s.partyOf a
  let len := x.len
  let l := party.map fun i => (i, (s.axisOf i).delta)
  let m := if party.length > 1 then s.groupLimits l len else s.limitsOf a
  let s := party.foldl (fun s i =>
    (s.putAxis i { s.axisOf i with start := sharePos (s.axisOf i) at_.1 }).setResumable i true) s
  s.putAxis a { s.axisOf a with path := some { t0 := now, v0 := at_.2.1, segs := planRest at_.2.1 at_.2.2 m.d m.j } }

/-- A gear engage aborted before the engage instant: the slave decelerates to rest (R247). -/
def abortGear (a : Nat) (s : State) : State :=
  let x := s.axisOf a
  let m := s.limitsOf a
  if x.vel = 0 then s.setMstate a 1 else s.ownPath a x.vel (planRest x.vel x.acc m.d m.j) none 0

/-- MVCTL.ABORT (R63, R236, R245, R247). -/
def axisAbort (a : Nat) (s : State) : State :=
  s.opAbort (pgAXIS a) (AXIS.MVSTA a)
    (fun s => if s.fld (AXIS.MVSTA a) 11 10 = 2 then s.abortGear a else s.abortMove a)

/-- The tread at which a move's commanded position equals TARGET at rest (R235). -/
def moveTerminal (a : Nat) (s : State) : State :=
  let x := s.axisOf a
  let party := s.partyOf a
  if s.busyOp (AXIS.MVSTA a) ∧ s.fld (AXIS.MVSTA a) 11 10 ≠ 2 ∧ x.leader = some a
      ∧ party.all (fun i => (s.axisOf i).arrived) then
    let s := party.foldl (fun s i => ((s.clearPath i).setMstate i 1).setBit (AXIS.AXSTA i) 9 false) s
    (s.opFinish (pgAXIS a) (AXIS.MVSTA a)).raiseEvt (pgAXIS a) 0
  else s

/-! ### Gearing (R246-R248) -/

/-- The gear chain from axis `i` through masters of kind 0 or 1 reaches axis `a` (R246). -/
def gearLoops (s : State) (a : Nat) : (fuel i : Nat) → Bool
  | 0, _ => false
  | f + 1, i => decide (i = a) || (decide (s.mstate i = 3 ∧ s.fld (AXIS.GEARSRC i) 1 0 < 2)
      && gearLoops s a f (s.fld (AXIS.GEARSRC i) 6 2))

/-- MVCTL.GEAR (R246, R247). -/
def gearStart (a : Nat) (s : State) : State :=
  let i := s.fld (AXIS.GEARSRC a) 6 2
  let loops := decide (s.fld (AXIS.GEARSRC a) 1 0 < 2) && s.gearLoops a 25 i
  if s.busyOp (AXIS.MVSTA a) then s.refuseWrite (pgAXIS a)
  else if s.motionBlocked a then s.axisEnd a 2 .rejState
  else if s.unverified a then (s.axisEnd a 2 .rejState).raiseFlt (pgAXIS a) 19
  else if loops ∨ s.masterGone a then s.axisEnd a 2 .rejState
  else
    let s := (s.setResumable a false).setFld (AXIS.MVSTA a) 11 10 2
    let s := (s.opPhase (AXIS.MVSTA a) 2).setMstate a 2
    s.putAxis a { s.axisOf a with
      gnum := s.sint (AXIS.GNUM a), gden := s.sint (AXIS.GDEN a), matched := false, leader := none, path := none }

/-- The engage instant (R247). -/
def gearEngage (a : Nat) (s : State) : State :=
  let x := s.axisOf a
  if s.busyOp (AXIS.MVSTA a) ∧ s.fld (AXIS.MVSTA a) 11 10 = 2 ∧ (s.bit (AXIS.GEARSRC a) 8 = false ∨ x.matched) then
    let s := s.putAxis a { x with
      gnum := s.sint (AXIS.GNUM a), gden := s.sint (AXIS.GDEN a), m0 := (s.masterAt a).1, p0 := s.sint64 (AXIS.CMDPOS a) }
    let s := opEnd (pgAXIS a) (AXIS.MVSTA a) .done s
    ((s.setMstate a 3).setBit (AXIS.AXSTA a) 8 true).raiseEvt (pgAXIS a) 3
  else s

/-- MVCTL.UNGEAR (R248). -/
def ungear (a : Nat) (s : State) : State :=
  if s.mstate a = 3 then
    let x := s.axisOf a
    let m := s.limitsOf a
    let s := (s.setMstate a 2).setBit (AXIS.AXSTA a) 8 false
    s.ownPath a x.vel (planRest x.vel x.acc m.d m.j) none 0
  else s.refuseWrite (pgAXIS a)

/-- A ratio written (R15, R248): both words at once; a denominator of zero or below is refused. -/
def gearRatio (a : Nat) (n d : Word) (s : State) : State :=
  if d.toInt ≤ 0 then s.refuseWrite (pgAXIS a)
  else
    let s := (s.cfgWr (pgAXIS a) (AXIS.GNUM a) n).cfgWr (pgAXIS a) (AXIS.GDEN a) d
    (s.mirrorWrite a 0xA4 false (n.setWidth 64)).mirrorWrite a 0xA8 false (d.setWidth 64)

/-! ### Stopped states (R237, R239) -/

/-- A stopping axis has come to rest (R237). -/
def stopAtRest (a : Nat) (s : State) : State :=
  let cat := s.fld (AXIS.AXSTA a) 11 10
  if s.mstate a = 5 ∧ (cat = 0 ∨ (s.axisOf a).arrived) then
    let s := if cat = 2 then (s.clearPath a).setMstate a 6 else (s.cutOff a).setMstate a 7
    s.raiseEvt (pgAXIS a) 2
  else s

/-- MVCTL.CLRSTOP (R231, R239). -/
def clearStop (a : Nat) (s : State) : State :=
  if s.mstate a < 6 ∨ s.causePresent a then s.refuseWrite (pgAXIS a)
  else
    let s := ((s.axisForce a false).clearPath a).cmdToAct a
    let s := (s.setFld (AXIS.AXSTA a) 15 10 0).setMstate a 1
    s.putAxis a { s.axisOf a with devs := 0, slips := 0, holdOff := false, calm := 0 }

/-- A write of CMODE (R230). -/
def cmodeWrite (a v : Nat) (s : State) : State :=
  let m := s.mstate a
  if m = 0 ∨ m = 1 ∨ m ≥ 6 then
    let w := wset (s.rd (AXIS.AXCFG a)) 1 0 v
    (s.cfgWr (pgAXIS a) (AXIS.AXCFG a) w).mirrorWrite a 0x40 false (w.setWidth 64)
  else s.refuseWrite (pgAXIS a)

/-- A write of TARGET (R241). -/
def targetWrite (a : Nat) (v : Word64) (s : State) : State :=
  (s.cfgWr64 (pgAXIS a) (AXIS.TARGET a) v).setResumable a false

/-- An MVCTL bit written on an axis that is built, with its mirror (R253, R287). -/
def mvctl (a bit : Nat) (f : State → State) (s : State) : Host.Outcome State Fault Refusal :=
  onUnit (s.hasAxis a) (f (s.mirrorWrite a 0x48 false (BitVec.ofNat 64 (2 ^ bit))))

end State

/-- SETPOINT_ISSUE (R227). -/
def execSetpointIssue (a : Nat) (s : State) : Host.Outcome State Fault Refusal :=
  onUnit (s.hasAxis a) (s.setpointIssue a)

/-- UNDERRUN_STOP: UNDERMAX 0 disables it (R227, R237). -/
def execUnderrunStop (a : Nat) (s : State) : Host.Outcome State Fault Refusal :=
  onUnit (s.hasAxis a)
    (let lim := s.fld (AXIS.DEVCFG a) 23 16
     if lim ≠ 0 ∧ (s.axisOf a).under ≥ lim then
       (s.putAxis a { s.axisOf a with under := 0 }).stopFor a 5
     else s)

/-- CMODE_WRITE (R230, R231). -/
def execCmodeWrite (a : Nat) (v : BitVec 2) (s : State) : Host.Outcome State Fault Refusal :=
  onUnit (s.hasAxis a) (s.cmodeWrite a v.toNat)

/-- MVCTL_START (R232). -/
def execMvctlStart (a : Nat) (s : State) : Host.Outcome State Fault Refusal := s.mvctl a 0 (State.startMove a)

/-- MVCTL_ABORT (R236). -/
def execMvctlAbort (a : Nat) (s : State) : Host.Outcome State Fault Refusal := s.mvctl a 1 (State.axisAbort a)

/-- MVCTL_RETARGET (R234). -/
def execMvctlRetarget (a : Nat) (s : State) : Host.Outcome State Fault Refusal := s.mvctl a 2 (State.retarget a)

/-- MVCTL_RESUME (R241). -/
def execMvctlResume (a : Nat) (s : State) : Host.Outcome State Fault Refusal := s.mvctl a 3 (State.resumeMove a)

/-- MVCTL_INTERP (R243). -/
def execMvctlInterp (a : Nat) (s : State) : Host.Outcome State Fault Refusal := s.mvctl a 4 (State.startLinear a)

/-- MVCTL_STOP (R237). -/
def execMvctlStop (a : Nat) (s : State) : Host.Outcome State Fault Refusal := s.mvctl a 5 (State.stopFor a 1)

/-- MVCTL_GEAR (R246). -/
def execMvctlGear (a : Nat) (s : State) : Host.Outcome State Fault Refusal := s.mvctl a 6 (State.gearStart a)

/-- MVCTL_UNGEAR (R248). -/
def execMvctlUngear (a : Nat) (s : State) : Host.Outcome State Fault Refusal := s.mvctl a 7 (State.ungear a)

/-- MVCTL_CLRSTOP (R239). -/
def execMvctlClrstop (a : Nat) (s : State) : Host.Outcome State Fault Refusal := s.mvctl a 8 (State.clearStop a)

/-- MOVE_TERMINAL (R235). -/
def execMoveTerminal (a : Nat) (s : State) : Host.Outcome State Fault Refusal :=
  onUnit (s.hasAxis a) (s.moveTerminal a)

/-- GEAR_ENGAGE (R247). -/
def execGearEngage (a : Nat) (s : State) : Host.Outcome State Fault Refusal :=
  onUnit (s.hasAxis a) (s.gearEngage a)

/-- GEAR_RATIO_WRITE (R15, R248). -/
def execGearRatioWrite (a : Nat) (num den : BitVec 32) (s : State) : Host.Outcome State Fault Refusal :=
  onUnit (s.hasAxis a) (s.gearRatio a num den)

/-- TARGET_WRITE (R241). -/
def execTargetWrite (a : Nat) (v : BitVec 64) (s : State) : Host.Outcome State Fault Refusal :=
  onUnit (s.hasAxis a) ((s.mirrorWrite a 0x50 true v).targetWrite a v)

/-- STOP_AT_REST (R237). -/
def execStopAtRest (a : Nat) (s : State) : Host.Outcome State Fault Refusal :=
  onUnit (s.hasAxis a) (s.stopAtRest a)

/-- STALL_DETECT (R249). -/
def execStallDetect (a : Nat) (s : State) : Host.Outcome State Fault Refusal :=
  onUnit (s.hasAxis a)
    (let lim := s.fld (AXIS.DEVCFG a) 7 0
     if s.bit (AXIS.DEVCFG a) 8 = true ∧ lim ≠ 0 ∧ (s.axisOf a).devs ≥ lim ∧ s.unverified a = false ∧ s.mstate a ≠ 4 then
       (s.putAxis a { s.axisOf a with devs := 0 }).stopFor a 3
     else s)

/-- SLIP_DETECT (R252). -/
def execSlipDetect (a : Nat) (s : State) : Host.Outcome State Fault Refusal :=
  onUnit (s.hasAxis a)
    (let lim := s.fld (AXIS.SLIPCFG a) 23 16
     if s.bit (AXIS.SLIPCFG a) 24 = true ∧ lim ≠ 0 ∧ (s.axisOf a).slips ≥ lim ∧ s.mstate a ≠ 4 then
       (s.putAxis a { s.axisOf a with slips := 0 }).stopFor a 4
     else s)

/-- SENSORLESS_TIMEOUT: the commanded speed has stayed below BEMFMIN for more than 2 s (R251). -/
def execSensorlessTimeout (a : Nat) (s : State) : Host.Outcome State Fault Refusal :=
  onUnit (s.hasAxis a)
    (if s.sensorless a ∧ (s.sint (AXIS.CMDSPD a)).natAbs < s.num (AXIS.BEMFMIN a) then s.stopFor a 2 else s)

/-- ESTIMATE_LEAVE: 16 treads after the primary feedback has recovered (R250). -/
def execEstimateLeave (a : Nat) (s : State) : Host.Outcome State Fault Refusal :=
  onUnit (s.hasAxis a)
    (if s.onEstimate a ∧ s.sensorless a = false ∧ (s.axisOf a).back ≥ 16 then
       let s := s.setBit (AXIS.AXSTA a) 6 false
       match s.primaryPort a with
       | some n => s.axisFollow n
       | none => s.verify a
     else s)

end Sys2Proof.Machine
end

