-- ==== Sys2Proof/Machine/Nodes.lean ====
section
/-!
DEFINITION. The nodes that the acquisition engine and the trigger units watch (R429): their stamped values and the trigger
kinds 1 to 5 (R432).
-/
namespace Sys2Proof.Machine

/-- A node's source is a built unit and no reserved node (R429). -/
def Variant.node (v : Variant) (n : Nat) : Bool :=
  if n < 0x120 then decide (n / 6 < v.bridges)
  else if n < 0x140 then true
  else if n < 0x1A0 then true
  else if n < 0x320 then decide ((n - 0x1A0) / 16 < v.axes ∧ (n - 0x1A0) % 16 ≠ 15)
  else if n < 0x3E0 then decide ((n - 0x320) / 4 < v.bridges)
  else decide (n < 0x3E8)

namespace State

/-- A value of the node decides whether an armed trigger unit fires, and readies it (R432). -/
def trgNode (t stamp : Nat) (v : Word) (s : State) : State :=
  let x := s.trgOf t
  let a := (s.rd (TRG.LVLA t)).toInt
  let b := (s.rd (TRG.LVLB t)).toInt
  let h : Int := s.num (TRG.HYST t)
  let w := v.toInt
  let inside := fun (u : Int) => decide (b ≤ u ∧ u ≤ a)
  let old := x.last.map BitVec.toInt
  let kind := s.fld (TRG.TCFG t) 2 0
  if stamp < x.holdUntil then s
  else
    let hit : Bool := match kind, old with
      | 1, _ => x.ready && decide (w ≥ a)
      | 2, _ => x.ready && decide (w ≤ a)
      | 3, some u => decide (u < a ∧ w ≥ a)
      | 4, some u => decide (u > a ∧ w ≤ a)
      | 5, some u => inside u && !inside w
      | _, _ => false
    let far := if kind = 1 then decide (w < a - h) else if kind = 2 then decide (w > a + h) else false
    let s := s.putTrg t { x with last := some v, ready := far || (x.ready && !hit) }
    if hit then s.fire t stamp else s

/-- A node's new value with its stamp in 1/16 ns (R429): the newest 128 are kept. -/
def note (n stamp : Nat) (v : Word) (s : State) : State :=
  let old := Tab.get [] s.nodes n
  let s := { s with nodes := Tab.put s.nodes n (((stamp, v) :: old).take 128) }
  (List.range 4).foldl (fun s t =>
    if (s.trgOf t).armed = true ∧ s.fld (TRG.TSRC t) 9 0 = n ∧ 1 ≤ s.fld (TRG.TCFG t) 2 0 ∧ s.fld (TRG.TCFG t) 2 0 ≤ 5 then
      s.trgNode t stamp v else s) s

/-- A sense unit's nodes (R429). -/
def noteSense (b stamp : Nat) (u : List Word) (s : State) : State :=
  (List.range 6).foldl (fun s i => s.note (6 * b + i) stamp (u.getD (6 + i) 0)) s

/-- An axis's nodes as its registers stand. -/
def axisNodes (s : State) (a b : Nat) : List Word :=
  let ff := match s.bridgeSlot b with
    | some (g, n) => ((Tab.get {} (Tab.get {} s.gal g).slots n).lastSetpoint.getD 6 0)
    | none => 0
  [s.rd (AXIS.CMDPOS a), s.rd (AXIS.CMDPOS a + 4), s.rd (AXIS.ACTPOS a), s.rd (AXIS.ACTPOS a + 4), s.rd (AXIS.CMDSPD a),
   s.rd (AXIS.ACTSPD a), s.rd (AXIS.DEV a), s.rd (AXIS.ESTSPD a), s.rd (AXIS.LOADANG a), s.rd (AXIS.TLIMACT a),
   s.rd (AXIS.TLIMACT a + 4), ff, s.rd (AXIS.AXSTA a), s.rd (BAL0.SPDSAFE a), s.rd (BAL0.AFSTA a)]

/-- The nodes of an axis, its bridges and its feedback ports at a tread sample instant of its lead bridge (R429). -/
def noteTread (b : Nat) (s : State) : State :=
  if s.brgIsLead b = false ∨ (s.brgOf b).running = false then s
  else
    let a := s.brgAxis b
    let t := (s.brgOf b).tread
    let put := fun (base : Nat) (ws : List Word) (s : State) =>
      ws.zipIdx.foldl (fun s (e : Word × Nat) => s.note (base + e.2) t e.1) s
    let s := put (0x1A0 + 16 * a) (s.axisNodes a b) s
    let s := (s.mates b).foldl (fun s j =>
      put (0x320 + 4 * j) [s.rd (BRG.REGSTA j), s.rd (BRG.PERACT j), s.rd (BRG.FORCESTA j), s.rd (BRG.CNT2 j)] s) s
    (List.range 24).foldl (fun s p =>
      if s.fld (FB.FBCFG p) 20 16 = a then
        put (0x140 + 4 * p) [s.rd (FB.POS p), s.rd (FB.POS p + 4), s.rd (FB.SPD p), s.rd (FB.FBSTA p)] s
      else s) s

/-- A device node takes its register's value now (R429). -/
def noteNow (n a : Nat) (s : State) : State := s.note n s.t16 (s.rd a)

/-- The route's nodes (R429). -/
def noteRoute (s : State) : State :=
  (((s.noteNow 0x3E1 ROUTE.VENV).noteNow 0x3E2 ROUTE.SPD).noteNow 0x3E3 ROUTE.TENV).noteNow 0x3E4 ROUTE.FFOUT

end State

end Sys2Proof.Machine
end

