-- ==== Sys2Proof/Machine/Modes.lean ====
section
/-!
DEFINITION. What a change of mode does everywhere (R471-R480), and the closing of the balustrade's configuration gate
with the bounds it computes (R373-R376).
-/
namespace Sys2Proof.Machine

namespace State

/-! ### Reaction times and the gate (R373-R376) -/

/-- The reaction times of an axis, in 1/80 ns where not yet rounded (R373, R374). -/
def axisBounds (a : Nat) (s : State) : State :=
  let bs := s.axisBridges a
  let us := 80000
  let intv := bs.foldl (fun m b => Nat.max m (5 * (if s.bit (BRG.ACT_CARRIER b) 0 then (s.num (BRG.PERACT b) + 1) / 2
    else s.num (BRG.PERACT b)))) 0
  let h := bs.foldl (fun m b =>
    let a := RZL.SLOT_SSTA (s.brgRing b) (s.brgPos b)
    Nat.max m (Nat.max (s.fld a 15 12) (s.fld a 19 16))) 0
  let ring := bs.foldl (fun m b =>
    let r := s.brgRing b
    Nat.max m (Nat.min ((s.fld (RZL.MISSCFG r) 2 0 + 1) * intv) (s.fld (RZL.LEASETO r) 15 0 * us))) 0
  let t := Nat.max (27904 + 8000 * h) ring
  let sfilt := s.fld BAL1.GENERAL 7 0
  let tin := (sfilt + 50) * us
  let spd := intv + us / 5 + (s.fld (BAL1.MISC a) 23 16 + 1) * 25 * us
  let up := fun (v : Nat) => Nat.min 0xFFFF ((v + us - 1) / us)
  let s := s.wr (BAL0.BOUND0 a) (BitVec.ofNat 32 (up (tin + t) + up (55 * us + t) * 65536))
  let s := s.wr (BAL0.BOUND1 a) (BitVec.ofNat 32 (up (tin + us) + up (spd + t) * 65536))
  s.wr (BAL0.TYP a) (BitVec.ofNat 32 ((sfilt * us + 37 * us + us / 2 + 7 * us / 20 + h * us / 20 + us / 2) / us))

def gateOpen (s : State) : Bool := s.bit BAL1.GATE 0

/-- An input whose INCFG a commit has changed starts its guard test again (R364). -/
def guardAgain (old s : State) (k : Nat) : State :=
  if s.rd (BAL1.INCFG k) ≠ old.rd (BAL1.INCFG k) then
    let s := { s with bal := { s.bal with guardOpen := wsetBit s.bal.guardOpen k false } }
    s.setBit BAL0.INSTA (16 + k) (s.bit (BAL1.INCFG k) 1)
  else s

/-- The gate closes (R58, R373, R375, R376): a completed commit takes effect, every other edit is dropped, the pages
lock, and the bounds are computed anew. -/
def gateClose (s : State) : State :=
  if s.gateOpen = false then s
  else
    let s := match s.bal.committed, s.bal.committing with
      | true, some ws => (List.range 8).foldl (guardAgain s) (ws.foldl (fun s (e : Nat × Word) => s.wr e.1 e.2) s)
      | _, _ => s
    let s := { s with bal := { s.bal with edits := [], committing := none, committed := false } }
    let s := (List.range 171).foldl (fun s p => s.wr (HDR.LOCK p) 0) s
    let s := ((s.setBit BAL1.GATE 0 false).setFld BAL1.GATE 31 16 0).setBit BAL0.BSTA 6 false
    let s := (List.range s.variant.axes).foldl (fun s a => s.axisBounds a) s
    s.raiseEvt pgBAL1 1

/-! ### Modes (R471-R480) -/

/-- STA.PWRSTATE of a page (R55). -/
def setPower (p v : Nat) (s : State) : State := s.setFld (HDR.STA p) 10 8 v

/-- A gallery's power and clock in the mode in force (R471, R480, R490); its memories start anew as it leaves OFF
(R521). -/
def galMode (g : Nat) (s : State) : State :=
  let p := pgGAL g
  let m := s.sysMode
  let was := s.fld (HDR.STA p) 10 8
  let inUse := s.bit (HDR.CTL p) 0 || s.galState g ≥ 8
  let hint := s.fld (HDR.CTL p) 5 4
  let rest := if hint = 3 ∧ inUse = false then 0 else 1
  let v := if m = 0 then 0 else if m = 1 ∨ m = 7 then rest else if inUse then Nat.max 2 was else rest
  let s := if was = 0 ∧ v ≠ 0 then s.clearRange (galBase g) (galBase g + 0x100000) else s
  (s.setPower p v).galClock g

/-- The mode hold of a bridge (R472). -/
def holdBridge (b : Nat) (s : State) : State :=
  let s := s.putBrg b { s.brgOf b with modeHold := true, planOk := false }
  if s.bit (BRG.FORCESTA b) 8 then s
  else brgState b (s.forceGates b 0x15 (s.wr (BRG.FORCESTA b) 0x15))

/-- The mode in force changes (R471-R476, R495). -/
def enterMode (m cause : Nat) (s : State) : State :=
  let old := s.sysMode
  let s := s.wr SYS.MODE (BitVec.ofNat 32 (m + old * 16 + cause * 256))
  let s := if old = 6 ∧ m ≠ 6 then s.gateClose else s
  let s := if old = 7 ∧ m ≠ 7 then (s.setBit THM.SDSTA 1 false).setBit BAL0.OUTSTA 2 false else s
  let s := if m = 0 ∨ m = 1 ∨ m = 7 then (List.range s.variant.bridges).foldl (fun s b => s.holdBridge b) s else s
  let s := (List.range s.variant.galleries).foldl (fun s g => s.galMode g) s
  let s := (List.range s.variant.axes).foldl (fun s a =>
    let s := if m = 5 ∧ s.axisOn a = true ∧ s.bit SYS.LIMPAX a = false then s.stopFor a 1 else s
    s.setLimits a) s
  s.raiseEvt pgSYS 0

/-- The device changes mode by itself (R479): a request that runs ends REJ_STATE. DORMANT is left only by a wake (R478). -/
def autoMode (m cause : Nat) (s : State) : State :=
  if s.sysMode = 0 ∧ m ≠ 1 then s
  else
  let s := if s.busyOp SYS.MODESTA then opEnd pgSYS SYS.MODESTA .rejState s else s
  s.enterMode m cause

/-- A LIMP trigger (R479). -/
def limpTrigger (k : Nat) (s : State) : State :=
  let m := s.sysMode
  if s.bit SYS.LIMPCFG (16 + k) = true ∧ (m = 2 ∨ m = 3 ∨ m = 4) then
    ((s.autoMode 5 6).raiseFlt pgSYS 17).raiseEvt pgSYS 1
  else s

end State

end Sys2Proof.Machine
end

