-- ==== Sys2Proof/Machine/Rzl.lean ====
section
/-!
DEFINITION. Rings at the device: ring start, version negotiation, calibration, sample units, protection reports, rejects
and lanes (R171-R177, R180, R181, R183-R185, R188, R189, R192, R193).
-/
namespace Sys2Proof.Machine

namespace State

/-- Ring state in RSTA (R192): 0 DOWN, 1 STARTING, 2 RUN, 3 DEGRADED. -/
def ringState (s : State) (r : Nat) : Nat := s.fld (RZL.RSTA r) 11 10
def setRingState (r v : Nat) (s : State) : State := s.setFld (RZL.RSTA r) 11 10 v

/-- A slot's state in SSTA (R192). -/
def slotState (s : State) (r k : Nat) : Nat := s.fld (RZL.SLOT_SSTA r k) 2 0
def setSlotState (r k v : Nat) (s : State) : State := s.setFld (RZL.SLOT_SSTA r k) 2 0 v

/-- The lease of a slot is ours (R192). -/
def leaseOurs (s : State) (r k : Nat) : Bool := s.bit (RZL.SLOT_SSTA r k) 3

/-- The device bit of this device on a ring (R158, R164): end B sends with bit 5. -/
def deviceBit (s : State) (r : Nat) : Bool := s.fld (RZL.TOPO r) 1 0 = 2

/-- The address belongs to this device on the ring. -/
def ownAddr (s : State) (r : Nat) (a : Byte) : Bool := a.getLsbD 5 == s.deviceBit r && !a.getLsbD 7

/-- The bridge in a ring slot, if one is assigned (R155). -/
def bridgeAt (s : State) (r k : Nat) : Option Nat :=
  (List.range s.variant.bridges).find? fun b =>
    decide (s.brgRing b = r ∧ s.brgPos b = k) && (s.brgIsLead b || s.brgIndex b != 0)

/-- The ring goes down with no lease held (R173). -/
def ringDown (r : Nat) (s : State) : State :=
  let s := s.setRingState r 0
  let s := (List.range 8).foldl (fun s k =>
    let s := s.setBit (RZL.SLOT_SSTA r k) 3 false
    if s.slotState r k ≥ 2 then s.setSlotState r k 1 else s) s
  let s := (s.setBit (RZL.LANESTA r) 2 false).setBit (RZL.LANESTA r) 3 false
  s.putRing r { s.ringOf r with claimed := 0, calReq := false }

/-- The longest update interval of a ring's bridges, in 1/16 ns (R184). -/
def longestInterval (s : State) (r : Nat) : Nat :=
  (List.range 8).foldl (fun m k => match s.bridgeAt r k with
    | some b => Nat.max m (s.num (BRG.ACT_PERIOD b) / (if (s.brgOf b).double then 2 else 1))
    | none => m) 0

/-- RCTL.START (R173, R184). -/
def ringStart (r : Nat) (s : State) : State :=
  let leaseTo := s.fld (RZL.LEASETO r) 15 0
  if s.busyOp (RZL.RSTA r) then s.refuseWrite (pgRZL r)
  else if s.offView (pgRZL r) = true ∨ s.ringState r ≠ 0 then opEnd (pgRZL r) (RZL.RSTA r) .rejState s
  else if leaseTo = 0xFFFF then opEnd (pgRZL r) (RZL.RSTA r) .rejLength s
  else if leaseTo < 20 ∨ leaseTo * 16000 < 2 * s.longestInterval r then opEnd (pgRZL r) (RZL.RSTA r) .rejState s
  else
    let s := (s.opPhase (RZL.RSTA r) 2).setRingState r 1
    let s := (s.setBit (RZL.LANESTA r) 2 true).setBit (RZL.LANESTA r) 3 true
    let s := (s.setFld (RZL.TOPO r) 23 16 0).setFld (RZL.TOPO r) 11 8 0
    let s := (List.range 8).foldl (fun s k => s.wr (RZL.SLOT_SSTA r k) 0) s
    s.putRing r { s.ringOf r with claimed := 0 }

/-- The start has ended DONE when every present slot that a BRG page assigns has accepted its CLAIM (R173). -/
def ringClaimed (r : Nat) (s : State) : State :=
  if s.busyOp (RZL.RSTA r) ∧ (List.range 8).all (fun k =>
      !(s.bit (RZL.TOPO r) (16 + k) && (s.bridgeAt r k).isSome && decide (s.slotState r k ≠ 1))
        || (s.ringOf r).claimed.getLsbD k) then
    let s := opEnd (pgRZL r) (RZL.RSTA r) .done (s.setRingState r 2)
    let s := (s.setBit (RZL.LANESTA r) 4 true).setBit (RZL.LANESTA r) 5 true
    let s := (List.range 8).foldl (fun s k => if s.leaseOurs r k then s.setSlotState r k 3 else s) s
    (s.setFld (HDR.STA (pgRZL r)) 3 0 3).raiseEvt (pgRZL r) 0
  else s

/-- A companion's REPLY reaches the device (R173, R174). -/
def vnegReply (r k lo hi : Nat) (ty : BitVec 16) (cw : Nat) (s : State) : State :=
  let s := s.wr (RZL.SLOT_SID r k) (BitVec.ofNat 32 (ty.toNat + lo % 256 * 65536 + hi % 256 * 2 ^ 24))
  let s := s.setFld (RZL.SLOT_SSTA r k) 15 12 cw
  let run := decide (s.ringState r ≥ 2)
  let ver := s.fld (RZL.PVER r) 7 0
  let ok := if run then decide (lo ≤ ver ∧ ver ≤ hi) else decide (lo ≤ 3 ∧ 2 ≤ hi)
  if ok then
    let s := s.setBit (RZL.TOPO r) (16 + k) true
    let s := s.setFld (RZL.TOPO r) 11 8 (popcount 8 (s.fld (RZL.TOPO r) 23 16))
    let n := s.fld (RZL.TOPO r) 11 8
    let s := (List.range 8).foldl (fun s j => if s.bit (RZL.TOPO r) (16 + j) then
      s.setFld (RZL.SLOT_SSTA r j) 19 16 (if s.fld (RZL.TOPO r) 1 0 = 1 then n + 1 - j else n - j) else s) s
    let s := s.setSlotState r k 2
    if run then s.raiseEvt (pgRZL r) 1 else s
  else (s.setSlotState r k 1).raiseFlt (pgRZL r) 22

/-- The versions that the device and every slot that stays share: lowest and highest (R173, R174). -/
def commonVersion (s : State) (r : Nat) : Nat × Nat :=
  (List.range 8).foldl (fun q k =>
    if s.slotState r k ≥ 2 then
      (Nat.max q.1 (s.fld (RZL.SLOT_SID r k) 23 16), Nat.min q.2 (s.fld (RZL.SLOT_SID r k) 31 24))
    else q) (2, 3)

/-- LT48 of TIME (R167). -/
def lt48 (t : Nat) : BitVec 48 := BitVec.ofNat 48 t

/-- An LT48 value expanded to the TIME nearest the device's own (R167). -/
def expandLt (s : State) (l : BitVec 48) : Nat :=
  let now := s.t16
  let d := (l - lt48 now).toInt
  ((now : Int) + d).toNat

/-- A 16-bit code in Q1.31 (R171). -/
def codeQ31 (c : BitVec 16) : Word := c.setWidth 32 <<< 16

/-- The sample unit of a SENSE frame (R171). -/
def senseUnit (s : State) (b : Nat) (f : SenseFrame) : List Word :=
  timeWords (s.expandLt f.lt48) ++
    [BitVec.ofNat 32 (b + f.kind.toNat * 64 + f.cmp.toNat * 256 + b01 f.ccw * 1024), f.status, codeQ31 f.iu,
     codeQ31 f.iv, codeQ31 f.iw, codeQ31 f.vdc, codeQ31 f.vaux, f.tmod.signExtend 32, 0, 0, 0, 0]

/-- A power stage that has gone safe by misses, lease expiry or a latch stops an owned axis (R238, R291). -/
def stageStop (r k old new : Nat) (s : State) : State :=
  match s.bridgeAt r k with
  | none => s
  | some b =>
    let a := s.brgAxis b
    if a ≥ s.variant.axes then s
    else if new < 5 then
      if 5 ≤ old then { s with stw := { s.stw with taken := wsetBit s.stw.taken a false } } else s
    else if 5 ≤ old ∨ s.bit STW.SHADOW a = true ∨ s.stw.taken.getLsbD a = true then s
    else s.stopFor a 7

/-- The slot registers as a SENSE frame's STATUS reports them (R172, R179, R192, R193). -/
def slotReport (r k : Nat) (st : Word) (s : State) : State :=
  let c := s.compOf r k
  let old := s.slotState r k
  let new := if st.getLsbD 6 then 7 else if st.getLsbD 4 then 6 else if st.getLsbD 3 then 5
    else if st.getLsbD 1 then 4 else if st.getLsbD 0 then 3 else 2
  let s := s.setSlotState r k new
  let s := (s.setBit (RZL.SLOT_SSTA r k) 4 (st.getLsbD 5)).setBit (RZL.SLOT_SSTA r k) 5 (st.getLsbD 7)
  let s := s.setFld (RZL.SLOT_SSTA r k) 10 8 (wfld st 10 8)
  let holds := BitVec.ofNat 8 (wfld st 23 16)
  let crcs := BitVec.ofNat 8 (wfld st 31 24)
  let s := s.count (RZL.SLOT_SHOLD r k) 15 0 (holds - c.seenHolds).toNat
  let s := s.count (RZL.SLOT_SCRC r k) 15 0 (crcs - c.seenCrc).toNat
  let s := s.putComp r k { s.compOf r k with seenHolds := holds, seenCrc := crcs }
  let s := if st.getLsbD 1 then s.raiseEvt (pgRZL r) 6 else s
  let s := if (new = 5 ∨ new = 6) ∧ old ≠ 5 ∧ old ≠ 6 then s.count (RZL.SLOT_SHOLD r k) 31 16 else s
  let s := s.stageStop r k old new
  let s := if new = 5 ∧ old ≠ 5 then s.raiseFlt (pgRZL r) 18 else s
  if st.getLsbD 0 = false ∧ s.leaseOurs r k then (s.setBit (RZL.SLOT_SSTA r k) 3 false).raiseFlt (pgRZL r) 19 else s

/-- Copies of a frame that failed at the device (R165, R181). -/
def copiesFailed (r : Nat) (c : Copies) (s : State) : State :=
  match c with
  | .both => s
  | .one => s.count (RZL.CRCCNT r) 15 0
  | .none => (s.count (RZL.CRCCNT r) 15 0 2).count (RZL.CRCCNT r) 31 16

/-- A sample unit goes to the owning gallery, and to a migration's target while it shadows (R171, R278). -/
def deliverSample (b p : Nat) (u : List Word) (s : State) : State :=
  let g := s.brgGal b
  let s := s.sampleArrive g p u
  if s.busyOp MIG.MSTA ∧ s.mig.source = g ∧ s.fld MIG.MSTA 12 10 = 3 ∧ s.mig.slots.getLsbD (s.brgSlot b) then
    s.sampleArrive s.mig.target p u
  else s

/-- A valid TMOD of a bridge (R171, R496). -/
def noteTmod (b : Nat) (t : BitVec 16) (s : State) : State :=
  if t = 0x8000 then s else { s with pwr := { s.pwr with tmod := Tab.put s.pwr.tmod b (t.toInt, 0) } }

/-- A SENSE frame at the device (R171, R172). -/
def senseFrame (r k : Nat) (f : SenseFrame) (c : Copies) (s : State) : State :=
  let s := s.copiesFailed r c
  if c = .none then s
  else
    let s := s.slotReport r k f.status
    match s.bridgeAt r k with
    | none => s
    | some b =>
      let u := s.senseUnit b f
      let s := (s.putBrg b { s.brgOf b with unit := u }).noteTmod b f.tmod
      let dest := (s.rd (BRG.ACT_CMP b f.cmp.toNat)).getLsbD 17
      let s := if f.kind = 0 ∨ (f.kind = 1 ∧ dest) then s.noteSense b (s.expandLt f.lt48) u else s
      if f.kind = 1 ∧ dest then s
      else s.deliverSample b b u

/-- A PROT frame at the device (R188, R189). -/
def protFrame (r k : Nat) (f : ProtFrame) (s : State) : State :=
  let s := s.wr (RZL.SLOT_SCTRIP r k) (BitVec.ofNat 32 (f.trips.toNat + f.latches.toNat * 65536))
  let s := s.setBit (RZL.SLOT_SSTA r k) 4 (f.tripped != 0)
  let s := if f.tripped ≠ 0 then s.raiseEvt (pgRZL r) 4 else s
  let s := if f.latched ≠ 0 then
      ((s.setSlotState r k 7).raiseFlt (pgRZL r) 21).stageStop r k 0 7
    else s
  if f.resultValid = true ∧ s.busyOp (RZL.PTSTA r) ∧ s.fld (RZL.PTCTL r) 6 4 = k then
    let s := (s.setFld (RZL.PTSTA r) 19 16 f.passMask.toNat).setFld (RZL.PTSTA r) 23 20 f.failMask.toNat
    let s := (opEnd (pgRZL r) (RZL.PTSTA r) .done s).raiseEvt (pgRZL r) 5
    if f.failMask ≠ 0 then s.raiseFlt (pgRZL r) 23 else s
  else s

/-- PTCTL.START (R189, R191). -/
def selfTestStart (r : Nat) (s : State) : State :=
  let k := s.fld (RZL.PTCTL r) 6 4
  let off := match s.bridgeAt r k with
    | some b => decide (s.fld (BRG.REGSTA b) 2 0 = 0 ∨ s.fld (BRG.FORCESTA b) 5 0 = 0x15)
    | none => true
  if s.busyOp (RZL.PTSTA r) then s.refuseWrite (pgRZL r)
  else if s.offView (pgRZL r) = true ∨ s.sysMode ≠ 6 ∨ off = false ∨ s.leaseOurs r k = false ∨ s.slotState r k = 7 then
    opEnd (pgRZL r) (RZL.PTSTA r) .rejState s
  else
    let s := (s.setFld (RZL.PTSTA r) 19 16 0).setFld (RZL.PTSTA r) 23 20 0
    s.opPhase (RZL.PTSTA r) 2

/-- A REJECT reaches the device (R183, R293). -/
def rejectFrame (r k : Nat) (f : RejectFrame) (s : State) : State :=
  let s := s.wr64 (RZL.REJLAST r) (BitVec.ofNat 64 (f.epoch.toNat + f.src.toNat * 2 ^ 32 + f.reason.toNat * 2 ^ 40
    + k % 8 * 2 ^ 48 + 2 ^ 63))
  let s := (s.count (RZL.REJCNT r) 31 0).raiseFlt (pgRZL r) 20
  let s := (s.seeEpoch f.epoch).seeEpoch f.leaseEpoch
  let g := f.dst.toNat % 32
  if (f.reason = 0 ∨ f.reason = 1) ∧ s.ownAddr r f.dst ∧ g < 18 then
    match s.bridgeAt r k with
    | none => s
    | some b =>
      let cross := decide (f.reason = 1 ∧ s.ownAddr r f.leaseOwner = false)
      let s := s.supersede b g cross f.epoch
      if cross then
        let a := s.brgAxis b
        let n := s.brgSlot b
        let s := s.putSlotRun g n { s.slotRun g n with shadow := true }
        let s := (s.setBit STW.OWN a false).setBit STW.SHADOW a true
        (s.raiseFlt pgSTW 20).raiseEvt pgSTW 5
      else match (List.range 6).find? fun n => s.slotOn g n && decide (s.slotBridge g n = b) with
        | some n => if s.brgGal b = g ∧ s.brgSlot b = n ∧ (s.slotRun g n).epoch = s.rd (MIG.EPOCH b) then s else s.dropSlot g n
        | none => s
  else s

/-- A ring that runs on one lane, or is cut (R181). -/
def degrade (r : Nat) (s : State) : State := if s.ringState r = 2 then (s.setRingState r 3).limpTrigger 1 else s

/-- A takeover of a partner's axis (R185, R293): CLAIM on every ring that serves it. -/
def takeAxis (a : Nat) (s : State) : State :=
  let s := (s.axisBridges a).foldl (fun s b =>
    let e := s.newEpoch
    let s := e.2.grantEpoch b e.1
    let s := s.putSlotRun (s.brgGal b) (s.brgSlot b) { s.slotRun (s.brgGal b) (s.brgSlot b) with shadow := false }
    s.putRing (s.brgRing b) { s.ringOf (s.brgRing b) with frames := (s.ringOf (s.brgRing b)).frames + 1 }) s
  let s := (s.setBit STW.OWN a true).setBit STW.SHADOW a false
  let s := { s with stw := { s.stw with taken := wsetBit s.stw.taken a true } }
  let s := (s.count STW.TOVCNT 15 0).wr STW.TOVAXES (BitVec.ofNat 32 (2 ^ a))
  (((s.continueAxis a).raiseFlt pgSTW 19).raiseEvt pgSTW 3).limpTrigger 2

/-- A ring and a slot exist. -/
def hasSlot (s : State) (r k : Nat) : Bool := decide (r < s.variant.rings ∧ k < 8)
def hasRing (s : State) (r : Nat) : Bool := decide (r < s.variant.rings)

end State

/-- RCTL_START (R173). -/
def execRctlStart (r : Nat) (s : State) : Host.Outcome State Fault Refusal := onUnit (s.hasRing r) (s.ringStart r)

/-- RCTL_STOP: every lease released, then DOWN (R192). -/
def execRctlStop (r : Nat) (s : State) : Host.Outcome State Fault Refusal :=
  onUnit (s.hasRing r)
    (let s := if s.busyOp (RZL.RSTA r) then State.opEnd (pgRZL r) (RZL.RSTA r) .aborted s else s
     s.ringDown r)

/-- RCTL_ABORT: the ring is left DOWN (R63, R173). -/
def execRctlAbort (r : Nat) (s : State) : Host.Outcome State Fault Refusal :=
  onUnit (s.hasRing r) (s.opAbort (pgRZL r) (RZL.RSTA r) (State.ringDown r))

/-- RCTL_CALNOW (R176, R177): end B sends no MARK. -/
def execRctlCalnow (r : Nat) (s : State) : Host.Outcome State Fault Refusal :=
  onUnit (s.hasRing r)
    (if s.ringState r = 0 ∨ s.deviceBit r then s else s.putRing r { s.ringOf r with calReq := true })

/-- RCTL_RESUME (R180). -/
def execRctlResume (r k : Nat) (s : State) : Host.Outcome State Fault Refusal :=
  onUnit (s.hasSlot r k) (s.putRing r { s.ringOf r with resume := wsetBit (s.ringOf r).resume k true })

/-- RING_START_TIMEOUT (R173). -/
def execRingStartTimeout (r : Nat) (s : State) : Host.Outcome State Fault Refusal :=
  onUnit (s.hasRing r)
    (if s.busyOp (RZL.RSTA r) then State.opEnd (pgRZL r) (RZL.RSTA r) .timeout (s.ringDown r) else s)

/-- VNEG_OFFER_REPEAT: while a slot is DOWN (R174). -/
def execVnegOfferRepeat (r : Nat) (s : State) : Host.Outcome State Fault Refusal :=
  onUnit (s.hasRing r)
    (if s.ringState r ≥ 2 ∧ (List.range 8).any (fun k => decide (s.slotState r k = 1)) then
      s.putRing r { s.ringOf r with frames := (s.ringOf r).frames + 1 }
    else s)

/-- VNEG_REPLY (R173, R174). -/
def execVnegReply (r k lo hi : Nat) (ty : BitVec 16) (cwHops : Nat) (s : State) : Host.Outcome State Fault Refusal :=
  onUnit (s.hasSlot r k) (s.vnegReply r k lo hi ty cwHops)

/-- SENSE_FRAME (R171, R172, R181). -/
def execSenseFrame (r k : Nat) (f : SenseFrame) (copies : Copies) (s : State) : Host.Outcome State Fault Refusal :=
  onUnit (s.hasSlot r k) (s.senseFrame r k f copies)

/-- PROT_FRAME (R188, R189). -/
def execProtFrame (r k : Nat) (f : ProtFrame) (s : State) : Host.Outcome State Fault Refusal :=
  onUnit (s.hasSlot r k) (s.protFrame r k f)

/-- REJECT_FRAME (R183, R293). -/
def execRejectFrame (r k : Nat) (f : RejectFrame) (s : State) : Host.Outcome State Fault Refusal :=
  onUnit (s.hasSlot r k) (s.rejectFrame r k f)

/-- RENEW_DUE: no accepted frame for LEASETO / 4 (R184). -/
def execRenewDue (r k : Nat) (s : State) : Host.Outcome State Fault Refusal :=
  onUnit (s.hasSlot r k)
    (if s.leaseOurs r k then s.putRing r { s.ringOf r with frames := (s.ringOf r).frames + 1 } else s)

/-- PARTNER_CLAIM (R185). -/
def execPartnerClaim (a : Nat) (s : State) : Host.Outcome State Fault Refusal :=
  onUnit (decide (a < s.variant.axes)) (if s.bit STW.SHADOW a then s.takeAxis a else s)

/-- PTCTL_START (R189). -/
def execPtctlStart (r : Nat) (s : State) : Host.Outcome State Fault Refusal :=
  onUnit (s.hasRing r) (s.selfTestStart r)

/-- PTCTL_ABORT (R189). -/
def execPtctlAbort (r : Nat) (s : State) : Host.Outcome State Fault Refusal :=
  onUnit (s.hasRing r) (s.opAbort (pgRZL r) (RZL.PTSTA r) id)

/-- SELFTEST_TIMEOUT (R189). -/
def execSelftestTimeout (r : Nat) (s : State) : Host.Outcome State Fault Refusal :=
  onUnit (s.hasRing r) (if s.busyOp (RZL.PTSTA r) then State.opEnd (pgRZL r) (RZL.PTSTA r) .timeout s else s)

/-- LANE_LOCK_LOST (R181). -/
def execLaneLockLost (r port : Nat) (s : State) : Host.Outcome State Fault Refusal :=
  onUnit (decide (r < s.variant.rings ∧ port < 2))
    (((s.setBit (RZL.LANESTA r) port false).raiseFlt (pgRZL r) 16).degrade r)

/-- OWN_FRAMES_LOST: the ring is cut (R161, R181). -/
def execOwnFramesLost (r : Nat) (ccw : Bool) (s : State) : Host.Outcome State Fault Refusal :=
  onUnit (s.hasRing r) ((s.setBit (RZL.LANESTA r) (if ccw then 5 else 4) false).degrade r)

end Sys2Proof.Machine
end

