-- ==== Sys2Proof/Machine/Feedback.lean ====
section
/-!
DEFINITION. Feedback ports, sigma-delta channels, latches and encoder emulation (R194-R226), and the tread of a bridge
with what comes about in it (R124, R217, R227).  Speeds are rounded toward zero (log entry 26).
-/
namespace Sys2Proof.Machine

namespace State

def portOf (s : State) (n : Nat) : Port := Tab.get {} s.port n
def putPort (s : State) (n : Nat) (x : Port) : State := { s with port := Tab.put s.port n x }

/-- MODE: 0 NONE, 1 ABZ, 2 HALL, 3 SSI, 4 RESOLVER (R223). -/
def fbMode (s : State) (n : Nat) : Nat := s.fld (FB.FBCFG n) 2 0

/-- The port is enabled: CTL.EN (R195). -/
def fbOn (s : State) (n : Nat) : Bool := s.bit (HDR.CTL (pgFB n)) 0

def fbLost (s : State) (n : Nat) : Bool := s.bit (FB.FBSTA n) 2

/-! ### Configuration (R195, R204, R210, R214) -/

/-- Bits of an SSI word (R204). -/
def ssiBits (s : State) (n : Nat) : Nat :=
  s.fld (FB.SSICFG n) 10 6 + s.fld (FB.SSICFG n) 5 0 + s.fld (FB.SSICFG n) 11 11 + s.fld (FB.SSICFG n) 15 12

/-- The offset of the first invalid field of a port's configuration (R195). -/
def fbBadField (s : State) (n : Nat) : Option Nat :=
  let mode := s.fbMode n
  let a := s.fld (FB.FBCFG n) 20 16
  let twice := !s.bit (FB.FBCFG n) 21 && (List.range 24).any fun m =>
    decide (m ≠ n ∧ s.fld (FB.FBCFG m) 20 16 = a) && !s.bit (FB.FBCFG m) 21 && s.fbOn m
  let lpr := s.fld (FB.LPR n) 19 0
  let pp := s.fld (FB.HALLCFG n) 6 0
  let stb := s.fld (FB.SSICFG n) 5 0
  let clk := s.fld (FB.SSICFG n) 31 26
  let mono := s.fld (FB.SSITIM n) 7 0
  let avg := s.fld (FB.SPDWIN n) 7 0
  let bad := fun (p : Bool) (o : Nat) => if p then some o else none
  [bad (decide (mode > 4 ∨ a ≥ s.variant.axes) || twice) 0x040,
   bad (decide (mode = 1 ∧ lpr = 0)) 0x044,
   bad (decide (mode = 2 ∧ (pp < 1 ∨ pp > 64))) 0x04C,
   bad (decide (mode = 3 ∧ (stb < 1 ∨ stb > 32 ∨ s.fld (FB.SSICFG n) 10 6 > 24 ∨ s.fld (FB.SSICFG n) 15 12 > 8 ∨ clk < 1
     ∨ clk > 40))) 0x050,
   bad (decide (mode = 3 ∧ (mono < 10 ∨ s.fld (FB.SSITIM n) 11 8 = 0
     ∨ s.fld (FB.SSITIM n) 31 16 * clk < (s.ssiBits n + 1) * 10 + mono * clk))) 0x054,
   bad (decide (mode = 4 ∧ s.fld (FB.RESCFG n) 31 24 = 0)) 0x05C,
   bad (decide (mode = 4 ∧ s.fld (FB.RESTRK n) 23 16 = 0)) 0x064,
   bad (decide (s.sint (FB.SPDLO n) ≥ s.sint (FB.SPDHI n))) 0x070,
   bad (decide ((mode = 1 ∨ mode = 2) ∧ (avg < 1 ∨ avg > 64))) 0x078,
   bad (decide (s.sint64 (FB.SOFTLO n) ≥ s.sint64 (FB.SOFTHI n))) 0x080].findSome? id

/-! ### Position (R199, R202, R206, R207, R214) -/

/-- The position of the last good words, extrapolated to an instant, without the offset (R206). -/
def ssiAt (x : Port) (t : Nat) : Int :=
  match x.last, x.prev with
  | some l, some p =>
    if l.at_ ≤ p.at_ then l.pos else l.pos + (l.pos - p.pos) * ((t : Int) - l.at_) / ((l.at_ : Int) - p.at_)
  | some l, none => l.pos
  | _, _ => 0

/-- The position derived from the input at an instant, without the offset. -/
def inputPos (s : State) (n t : Nat) : Int :=
  let x := s.portOf n
  match s.fbMode n with
  | 1 => s.sint64 (FB.COUNT n) * 0x40000000 / s.fld (FB.LPR n) 19 0
  | 2 => s.sint64 (FB.COUNT n) * 0x100000000 / (6 * s.fld (FB.HALLCFG n) 6 0)
  | 3 => ssiAt x t
  | 4 => x.res + x.resVel * 65536 * ((t : Int) - x.resAt) / 16000000000
  | _ => 0

/-- A position inside the soft limits (R214). -/
def softClamp (s : State) (n : Nat) (p : Int) : Int :=
  if p > s.sint64 (FB.SOFTHI n) then s.sint64 (FB.SOFTHI n)
  else if p < s.sint64 (FB.SOFTLO n) then s.sint64 (FB.SOFTLO n) else p

/-- The port's position at an instant, with its offset and soft limits. -/
def portPos (s : State) (n t : Nat) : Int := s.softClamp n (s.inputPos n t + (s.portOf n).offset)

/-- POS from the input (R199, R214). -/
def putPos (n : Nat) (p : Int) (s : State) : State :=
  let hi := decide (p > s.sint64 (FB.SOFTHI n))
  let lo := decide (p < s.sint64 (FB.SOFTLO n))
  let was := s.bit (FB.FBSTA n) 5 || s.bit (FB.FBSTA n) 6
  let s := s.wr64 (FB.POS n) (pos64 (s.softClamp n p))
  let s := (s.setBit (FB.FBSTA n) 5 lo).setBit (FB.FBSTA n) 6 hi
  if (hi ∨ lo) ∧ was = false then (s.raiseFlt (pgFB n) 27).raiseEvt (pgFB n) 4 else s

/-- POS follows the input, unless the feedback is lost (R212). -/
def trackPos (n t : Nat) (s : State) : State :=
  if s.fbLost n then s else s.putPos n (s.inputPos n t + (s.portOf n).offset)

/-- POS takes a value (R201, R215): the offset moves, TRACE is set, and the axis's CMDPOS follows by the same step at
the next tread (R240). -/
def reference (n : Nat) (v : Int) (s : State) : State :=
  let old := s.sint64 (FB.POS n)
  let s := s.putPort n { s.portOf n with offset := v - s.inputPos n s.t16 }
  let s := (s.putPos n v).setBit (FB.FBSTA n) 3 true
  let a := s.fld (FB.FBCFG n) 20 16
  let s := if s.primaryPort a = some n then
    s.putAxis a { s.axisOf a with posStep := (s.axisOf a).posStep + (s.sint64 (FB.POS n) - old) } else s
  s.axisFollow n

/-! ### Loss and recovery (R211-R213) -/

/-- A fault of the port: recovery starts anew (R213). -/
def fbFlt (n b : Nat) (s : State) : State :=
  (s.raiseFlt (pgFB n) b).putPort n { s.portOf n with dirty := true, clean := 0 }

/-- SPDVALID (R211). -/
def speedValid (n : Nat) (s : State) : State :=
  let x := s.portOf n
  let code := s.fld (FB.FBSTA n) 10 8
  let ok := match s.fbMode n with
    | 1 => decide (x.seen ≥ 2)
    | 2 => decide (x.seen ≥ 2 ∧ code ≠ 0 ∧ code ≠ 7)
    | 3 => x.prev.isSome
    | 4 => true
    | _ => false
  s.setBit (FB.FBSTA n) 1 (ok && !s.fbLost n)

/-- Feedback is lost (R212). -/
def lose (n : Nat) (s : State) : State :=
  if s.fbLost n then s
  else
    let a := s.fld (FB.FBCFG n) 20 16
    let s := if s.fbMode n = 3 then s.trackPos n s.t16 else s
    let s := ((s.setBit (FB.FBSTA n) 0 false).setBit (FB.FBSTA n) 1 false).setBit (FB.FBSTA n) 3 false
    let s := s.setBit (FB.FBSTA n) 2 true
    let s := ((s.fbFlt n 26).raiseEvt (pgFB n) 2).count (FB.LOSTCNT n) 15 0
    let s := { s with fbFault := wsetBit s.fbFault a true }
    if s.primaryPort a = some n then s.feedbackGone a else s

/-- One more capture, word or pair, counted where it is free of faults (R213). -/
def cleanOne (n : Nat) (s : State) : State :=
  let x := s.portOf n
  s.putPort n { x with clean := if x.dirty then 0 else Nat.min 16 (x.clean + 1), dirty := false }

/-- LOST clears (R213). -/
def lostClear (n : Nat) (s : State) : State :=
  if s.fbLost n ∧ (s.portOf n).clean ≥ 16 then
    let a := s.fld (FB.FBCFG n) 20 16
    let s := ((s.setBit (FB.FBSTA n) 2 false).setBit (FB.FBSTA n) 0 true).count (FB.LOSTCNT n) 31 16
    let s := if s.fbMode n = 3 ∧ s.fld (FB.SSICFG n) 10 6 ≠ 0 then s.setBit (FB.FBSTA n) 3 true else s
    let others := (List.range 24).any fun m => decide (m ≠ n ∧ s.fld (FB.FBCFG m) 20 16 = a) && s.fbLost m
    let s := { s with fbFault := wsetBit s.fbFault a others }
    ((((s.trackPos n s.t16).speedValid n).raiseEvt (pgFB n) 3)).axisFollow n
  else s

/-! ### Increments (R199-R203, R209-R211) -/

/-- Increments per revolution (R209). -/
def perRev (s : State) (n : Nat) : Nat := if s.fbMode n = 1 then 4 * s.fld (FB.LPR n) 19 0 else 6 * s.fld (FB.HALLCFG n) 6 0

/-- The PERIOD method's speed at an instant, Q16.16 rev/s (R209). -/
def periodSpeed (s : State) (n t : Nat) : Int :=
  let x := s.portOf n
  if x.incs < 2 ∨ x.idle then 0
  else
    let d := Nat.max (x.lastInc - x.prevInc) (t - x.lastInc)
    let v : Int := if d = 0 then sMax 32 else 65536 * 16000000000 / (s.perRev n * d)
    if x.forward then v else -v

/-- The FREQUENCY method's speed (R209). -/
def freqSpeed (s : State) (n t : Nat) : Int :=
  let x := s.portOf n
  match x.caps[0]?, x.caps[s.fld (FB.SPDWIN n) 7 0]? with
  | some k, some j =>
    if k.2 ≤ j.2 then s.periodSpeed n t
    else Int.tdiv ((k.1 - j.1) * (65536 * 16000000000)) ((s.perRev n : Int) * ((k.2 : Int) - j.2))
  | _, _ => s.periodSpeed n t

/-- SPD written, saturated (R14). -/
def putSpeed (n : Nat) (v : Int) (s : State) : State := s.wr (FB.SPD n) (satInt 32 v)

/-- The time stamp of an event of a filtered input, in steps of 4 ns, without the filter's delay (R199, R220). -/
def stampOf (s : State) (filt : Nat) : Nat := (s.t16 - filt * 64) / 64 * 64

/-- `d` increments counted (R199, R202). -/
def increment (n : Nat) (d : Int) (s : State) : State :=
  let x := s.portOf n
  let fwd := decide (d > 0)
  let s := s.wr64 (FB.COUNT n) (pos64 (s.sint64 (FB.COUNT n) + d))
  let s := s.putPort n { x with
    prevInc := x.lastInc, lastInc := s.stampOf (s.fld (FB.FBCFG n) 13 8), seen := Nat.min 2 (x.seen + d.natAbs),
    incs := if x.forward = fwd then Nat.min 2 (x.incs + d.natAbs) else 1, forward := fwd, idle := false }
  let s := (s.trackPos n s.t16).speedValid n
  let s := if s.bit (FB.FBSTA n) 4 then s else s.putSpeed n (s.periodSpeed n s.t16)
  s.axisFollow n

/-- QUAD_EDGE (R199, R200). -/
def quadEdge (n : Nat) (e : QuadStep) (s : State) : State :=
  if s.fbOn n = false ∨ s.fbMode n ≠ 1 then s
  else
    let inv := s.bit (FB.FBCFG n) 3
    match e with
    | .forward => s.increment n (if inv then -1 else 1)
    | .backward => s.increment n (if inv then 1 else -1)
    | .both => (((s.count (FB.ERRCNT n) 15 0).fbFlt n 16).setBit (FB.FBSTA n) 3 false).axisFollow n

/-- Z_EDGE (R201). -/
def zEdge (n : Nat) (s : State) : State :=
  if s.fbOn n = false ∨ s.fbMode n ≠ 1 then s
  else
    let x := s.portOf n
    let c := s.sint64 (FB.COUNT n)
    let s := ((s.wr64 (FB.ZCAP n) (s.rd64 (FB.COUNT n))).setBit (FB.FBSTA n) 20 true).raiseEvt (pgFB n) 0
    let bad : Bool := match x.zLast with
      | some (c0, fwd) => decide (fwd = x.forward ∧
          ((((c - c0).natAbs : Int) - (4 * s.fld (FB.LPR n) 19 0 : Nat)).natAbs > s.fld (FB.ZTOL n) 15 0))
      | none => false
    let s := if s.bit (FB.FBCFG n) 5 = true ∧ bad = true then (s.count (FB.ERRCNT n) 31 16).fbFlt n 17 else s
    let first := x.zFirst
    let s := s.putPort n { s.portOf n with zLast := some (c, x.forward), zFirst := false }
    if first then s.reference n (s.sint64 (FB.ZPOS n)) else s

/-- The sector of a Hall code (R202): 0 to 5 along the forward sequence. -/
def hallSector (s : State) (n code : Nat) : Option Nat :=
  ((if s.bit (FB.HALLCFG n) 8 then [5, 4, 6, 2, 3, 1] else [1, 3, 2, 6, 4, 5]).findIdx? (· = code))

/-- HALL_CODE_CHANGE (R202, R203). -/
def hallChange (n code : Nat) (s : State) : State :=
  if s.fbOn n = false ∨ s.fbMode n ≠ 2 then s
  else
    let s := s.setFld (FB.FBSTA n) 10 8 code
    match s.hallSector n code with
    | none => ((s.fbFlt n 18).speedValid n).axisFollow n
    | some k =>
      let x := s.portOf n
      let s := s.setFld (FB.FBSTA n) 14 12 k
      let s := s.putPort n { x with sector := some k }
      match x.sector with
      | none => (((s.setBit (FB.FBSTA n) 0 (!s.fbLost n)).trackPos n s.t16).speedValid n).axisFollow n
      | some j =>
        let skip := fun (s : State) => (s.count (FB.ERRCNT n) 15 0).fbFlt n 19
        match (k + 6 - j) % 6 with
        | 0 => (s.speedValid n).axisFollow n
        | 1 => s.increment n 1
        | 5 => s.increment n (-1)
        | 2 => (skip s).increment n 2
        | 4 => (skip s).increment n (-2)
        | _ => ((skip s).setBit (FB.FBSTA n) 3 false).axisFollow n

/-! ### SSI (R204-R206) -/

/-- Bits as a number, the first the most significant. -/
def bitsVal (l : List Bool) : Nat := l.foldl (fun v b => 2 * v + b01 b) 0

/-- The CRC of R204 of degree `k` over bits. -/
def ssiCrc (k poly : Nat) (l : List Bool) : Nat :=
  l.foldl (fun c b =>
    let top := c.testBit (k - 1) != b
    ((2 * c) ^^^ (if top then poly else 0)) % 2 ^ k) 0

/-- The failures of R205. -/
inductive SsiFail where
  | timeout | crc | errbit | jump
  deriving DecidableEq, Repr

/-- The position a word carries (R204). -/
def ssiPos (s : State) (n : Nat) (l : List Bool) : Int :=
  let mtb := s.fld (FB.SSICFG n) 10 6
  let stb := s.fld (FB.SSICFG n) 5 0
  let v := bitsVal (l.take (mtb + stb))
  let sv : Int := if mtb > 0 ∧ v ≥ 2 ^ (mtb + stb - 1) then (v : Int) - 2 ^ (mtb + stb) else v
  sv * 2 ^ (32 - stb)

/-- The first reason for which a word fails (R205). -/
def ssiJudge (s : State) (n : Nat) (l : List Bool) (timedOut : Bool) : Option SsiFail :=
  let w := s.rd (FB.SSICFG n)
  let pos := wfld w 10 6 + wfld w 5 0
  let err := wfld w 11 11
  let k := wfld w 15 12
  let sent := bitsVal ((l.drop (pos + err)).take k)
  let crc := ssiCrc k (wfld w 23 16) (l.take (pos + err))
  let want := if w.getLsbD 24 then (2 ^ k - 1) ^^^ crc else crc
  let x := s.portOf n
  let jump := s.num (FB.SSIJUMP n)
  if timedOut ∨ l.length < pos + err + k then some .timeout
  else if k ≠ 0 ∧ sent ≠ want then some .crc
  else if err = 1 ∧ (l.drop pos).head? = some true then some .errbit
  else if jump ≠ 0 ∧ x.last.isSome ∧ (s.ssiPos n l - ssiAt x x.reqAt).natAbs > jump * 65536 then some .jump
  else none

/-- A failed word (R205, R206). -/
def ssiBad (n : Nat) (e : SsiFail) (s : State) : State :=
  let c : Nat × Nat × Nat := match e with
    | .timeout => (23, 16, 22)
    | .crc => (7, 0, 20)
    | .errbit => (15, 8, 21)
    | .jump => (31, 24, 20)
  let s := (s.count (FB.SSICNT n) c.1 c.2.1).fbFlt n c.2.2
  let s := s.putPort n { s.portOf n with fails := (s.portOf n).fails + 1, dirty := false }
  let s := (s.setBit (FB.FBSTA n) 7 true).setFld (FB.FBSTA n) 19 16 (Nat.min 15 (s.portOf n).fails)
  (s.trackPos n s.t16).axisFollow n

/-- A good word (R206, R213, R240). -/
def ssiGood (n : Nat) (p : Int) (s : State) : State :=
  let x := s.portOf n
  let s := s.putPort n { x with prev := x.last, last := some { pos := p, at_ := x.reqAt }, fails := 0, dirty := false }
  let s := (s.cleanOne n).setFld (FB.FBSTA n) 19 16 0
  let s := s.setBit (FB.FBSTA n) 7 false
  let s := if s.fbLost n then s else
    let s := s.setBit (FB.FBSTA n) 0 true
    if s.fld (FB.SSICFG n) 10 6 ≠ 0 then s.setBit (FB.FBSTA n) 3 true else s
  let s := match x.last with
    | some l => if l.at_ < x.reqAt then
        s.putSpeed n (Int.tdiv ((p - l.pos) * 16000000000) (((x.reqAt : Int) - l.at_) * 65536)) else s
    | none => s
  ((s.trackPos n s.t16).speedValid n).axisFollow n

/-- SSI_WORD (R204-R206). -/
def ssiWord (n : Nat) (l : List Bool) (timedOut : Bool) (s : State) : State :=
  if s.fbOn n = false ∨ s.fbMode n ≠ 3 then s
  else match s.ssiJudge n l timedOut with
    | some e => s.ssiBad n e
    | none => s.ssiGood n (s.ssiPos n l)

/-! ### Resolvers (R207, R208) -/

/-- RESOLVER_PAIR (R207, R208): the tracking loop's position and velocity come with the pair (log entry 27). -/
def resolverPair (n : Nat) (sv cv : Int) (angle vel : Int) (track : Nat) (s : State) : State :=
  if s.fbOn n = false ∨ s.fbMode n ≠ 4 then s
  else
    let rpp : Int := s.fld (FB.RESCFG n) 22 20 + 1
    let amp := Nat.min 0xFFFF (isqrt (sv * sv + cv * cv).natAbs / 32768)
    let s := s.wr (FB.RESMON n) (BitVec.ofNat 32 (amp + Nat.min 0xFFFF track * 65536))
    let badA := decide (amp < s.fld (FB.RESAMP n) 15 0 ∨ amp > s.fld (FB.RESAMP n) 31 16)
    let badT := decide (track > s.fld (FB.RESTRK n) 15 0)
    let s := if badA then s.fbFlt n 23 else s
    let s := if badT then s.fbFlt n 24 else s
    let x := s.portOf n
    let s := s.putPort n { x with
      res := angle / rpp, resVel := Int.tdiv vel rpp, resAt := s.t16, bad := if badA ∨ badT then x.bad + 1 else 0 }
    let s := s.cleanOne n
    let s := if s.fbLost n then s else s.setBit (FB.FBSTA n) 0 true
    (((s.trackPos n s.t16).putSpeed n (Int.tdiv vel rpp)).speedValid n).axisFollow n

/-! ### Captures (R196-R198, R206, R209, R210) -/

/-- The speed method and the speed at a capture (R209, R210). -/
def captureSpeed (n : Nat) (s : State) : State :=
  if s.fbMode n = 1 ∨ s.fbMode n = 2 then
    let x := s.portOf n
    let s := s.putPort n { x with caps := ((s.sint64 (FB.COUNT n), x.lastInc) :: x.caps).take 65 }
    let per := s.periodSpeed n s.t16
    let frq := s.freqSpeed n s.t16
    if s.bit (FB.FBSTA n) 4 then
      if (frq.natAbs : Int) < s.sint (FB.SPDLO n) then
        ((s.setBit (FB.FBSTA n) 4 false).raiseEvt (pgFB n) 1).putSpeed n per
      else s.putSpeed n frq
    else if (per.natAbs : Int) ≥ s.sint (FB.SPDHI n) then
      ((s.setBit (FB.FBSTA n) 4 true).raiseEvt (pgFB n) 1).putSpeed n frq
    else s.putSpeed n per
  else s

/-- The feedback unit of R198. -/
def feedbackUnit (s : State) (n lead : Nat) : List Word :=
  timeWords s.t16 ++ [BitVec.ofNat 32 (lead + 2 * 64 + n * 256 + s.fld (FB.FBCFG n) 21 21 * 8192), s.rd (FB.FBSTA n),
    s.rd (FB.POS n), s.rd (FB.POS n + 4), s.rd (FB.SPD n), 0, 0, 0, 0, 0, 0, 0]

/-- FB_CAPTURE: at a tread sample instant of the axis's lead bridge (R196). -/
def capture (n : Nat) (s : State) : State :=
  let a := s.fld (FB.FBCFG n) 20 16
  match s.axisLead a with
  | none => s
  | some lead =>
    if s.fbOn n = false ∨ (s.brgOf lead).running = false then s
    else
      let s := s.captureSpeed n
      let s := if s.fbMode n = 1 ∨ s.fbMode n = 2 then s.cleanOne n else s
      let s := (s.trackPos n s.t16).axisFollow n
      s.deliverSample lead 48 (s.feedbackUnit n lead)

/-- A write of EN (R195, R199, R201, R211). -/
def fbEnable (n : Nat) (en : Bool) (s : State) : State :=
  if en then
    match s.fbBadField n with
    | some o => (s.refuseWrite (pgFB n)).setFld (FB.CFGERR n) 11 0 o
    | none =>
      let s := (s.cfgWr (pgFB n) (HDR.CTL (pgFB n)) (wsetBit (s.rd (HDR.CTL (pgFB n))) 0 true)).setFld (FB.CFGERR n) 11 0 0
      let x := s.portOf n
      let s := s.putPort n { ({} : Port) with offset := x.offset, zFirst := s.bit (FB.FBCFG n) 6 }
      let s := (s.setFld (HDR.STA (pgFB n)) 3 0 3).setBit (FB.FBSTA n) 0 (decide (s.fbMode n = 1))
      (s.speedValid n).axisFollow n
  else
    let a := s.fld (FB.FBCFG n) 20 16
    let s := s.cfgWr (pgFB n) (HDR.CTL (pgFB n)) (wsetBit (s.rd (HDR.CTL (pgFB n))) 0 false)
    let s := s.setFld (HDR.STA (pgFB n)) 3 0 2
    if a < s.variant.axes then s.verify a else s

/-! ### Sigma-delta channels (R216-R218) -/

/-- Weight of sample `i` of a sinc3 window with oversampling ratio `r` (R216). -/
def sincWeight (r i : Nat) : Nat :=
  let t := fun (k : Nat) => if i < k then 0 else (i - k + 2) * (i - k + 1) / 2
  t 0 + 3 * t (2 * r) - 3 * t r - t (3 * r)

/-- The output of a window: 2p - 1 in Q1.31 (R216). -/
def sincValue (r : Nat) (l : List Bool) : Word :=
  let ones := ((List.range (3 * r - 2)).zip l).foldl (fun v e => if e.2 then v + sincWeight r e.1 else v) 0
  let cube := r * r * r
  satInt 32 ((2 * (ones : Int) - cube) * 2147483648 / cube)

/-- The samples of a window change. -/
def changes (l : List Bool) : Bool := l.any id && l.any not

/-- SDM_OUTPUT (R216-R218). -/
def sdmOutput (k j : Nat) (l : List Bool) (s : State) : State :=
  let r := s.fld (SDM.CH_CFG k j) 8 0
  let mhz := s.fld (SDM.SDMCLK k) 4 0
  if s.bit (SDM.CH_CFG k j) 9 = false ∨ s.bit (SDM.SDMCLK k) 8 = false ∨ r = 0 then s
  else
    let v := sincValue r l
    let half := (3 * r - 3) * 16000 / (2 * mhz)
    let s := (s.wr (SDM.CH_DATA k j) v).setFld (SDM.CH_STAT k j) 17 0 ((3 * r - 3) * 1000 / (2 * mhz))
    let s := { s with sdm := Tab.put s.sdm (8 * k + j) (s.t16 - half) }.note (0x120 + 8 * k + j) (s.t16 - half) v
    let s := if changes l then s.setBit (SDM.CH_STAT k j) 24 false else s
    let ovr := decide (v.toInt.natAbs ≥ s.num (SDM.OVRTHR k))
    let s := s.setBit (SDM.CH_STAT k j) 25 ovr
    if ovr then ((s.count (SDM.CH_CNT k j) 15 0).raiseFlt (pgSDM k) 17).raiseEvt (pgSDM k) 1 else s

/-- SDM_STUCK (R218). -/
def sdmStuck (k j : Nat) (s : State) : State :=
  if s.bit (SDM.CH_CFG k j) 9 then
    (((s.setBit (SDM.CH_STAT k j) 24 true).count (SDM.CH_CNT k j) 31 16).raiseFlt (pgSDM k) 16).raiseEvt (pgSDM k) 0
  else s

/-- A channel's newest output goes to the gallery at a tread of its bridge (R198, R217). -/
def sdmDeliver (b c : Nat) (s : State) : State :=
  let k := c / 8
  let j := c % 8
  let w := s.rd (SDM.CH_CFG k j)
  match Tab.find s.sdm c with
  | none => s
  | some t =>
    if w.getLsbD 9 = true ∧ w.getLsbD 18 = true ∧ wfld w 17 12 = b then
      s.deliverSample b 48 (timeWords t ++
        [BitVec.ofNat 32 (b + 3 * 64 + c * 256 + wfld w 22 20 * 8192), s.rd (SDM.CH_STAT k j), s.rd (SDM.CH_DATA k j),
         0, 0, 0, 0, 0, 0, 0, 0, 0])
    else s

/-! ### The tread of a bridge -/

/-- A tread of an axis's lead bridge without a setpoint unit is an underrun (R227). -/
def noteUnderrun (b : Nat) (s : State) : State :=
  let a := s.brgAxis b
  if s.axisLead a = some b ∧ a < s.variant.axes ∧ s.axisOn a = true ∧ s.mstate a ≠ 0 then
    let x := s.axisOf a
    let n := s.rd (BRG.TREADCNT b)
    if x.issued = some n ∨ x.issued = some (n + 1) then s.putAxis a { x with under := 0 }
    else (s.putAxis a { x with under := x.under + 1 }).count (AXIS.UNDERCNT a) 15 0
  else s

/-- A tread of a bridge, its underrun check and the sigma-delta units (R124, R217, R227). -/
def bridgeTread (b : Nat) (s : State) : State :=
  if (s.brgOf b).running then
    let s := s.tread b
    if (s.brgOf b).running then (List.range 32).foldl (fun s c => s.sdmDeliver b c) (s.noteUnderrun b) else s
  else s

/-! ### Latches (R220, R221) -/

/-- Units of KIND 6 that watch latch input `l` fire (R432). -/
def trgLatch (l stamp : Nat) (s : State) : State :=
  (List.range 4).foldl (fun s t =>
    if (s.trgOf t).armed = true ∧ s.fld (TRG.TCFG t) 2 0 = 6 ∧ s.fld (TRG.TSRC t) 19 16 = l
        ∧ (s.trgOf t).holdUntil ≤ stamp then s.fire t stamp else s) s

/-- A port's position is valid at a capture (R221). -/
def latchValid (s : State) (p : Nat) : Bool := s.fbOn p && !s.fbLost p

/-- The record of R221. -/
def latchRecord (s : State) (l : Nat) (falling : Bool) (t : Nat) : List Word :=
  let mask := fun (f : Nat → Bool) => BitVec.ofNat 32 ((List.range 24).foldl (fun m p => m + b01 (f p) * 2 ^ p) 0)
  let pos := (List.range 24).flatMap fun p =>
    let v := if s.latchValid p then pos64 (s.portPos p t) else 0
    [loWord v, hiWord v]
  timeWords t ++ [BitVec.ofNat 32 (l + b01 falling * 16 + s.fld (LATCH.LCNT l) 15 0 * 65536),
    mask s.latchValid, mask (fun p => s.bit (FB.FBSTA p) 3), 0] ++ pos ++ List.replicate 8 0

/-- A record enters the ring, or is lost (R221). -/
def latchStore (ws : List Word) (s : State) : State :=
  let size := s.num LATCH.LSIZE
  if size = 0 then s
  else
    let at_ := s.num LATCH.LWR
    let next := if at_ + 256 < size then at_ + 256 else 0
    if next = s.num LATCH.LRD then (s.count LATCH.LLOST 31 0).raiseFlt pgLATCH 16
    else ((s.storeWords (mezzBase + s.num LATCH.LBASE + at_) ws).wr LATCH.LWR (BitVec.ofNat 32 next)).raiseEvt pgLATCH 0

/-- An edge is captured (R220). -/
def latchTakes (s : State) (l : Nat) (falling : Bool) : Bool :=
  let e := s.fld (LATCH.LCFG l) 1 0
  (if falling then e.testBit 1 else e.testBit 0) && (!s.bit (LATCH.LCFG l) 8 || s.bit LATCH.LARMSTA l)

/-- A capture: count, record, triggers (R220, R221, R432). -/
def latchCapture (l : Nat) (falling : Bool) (s : State) : State :=
  let t := s.stampOf (s.fld (LATCH.LCFG l) 7 2)
  let s := if s.bit (LATCH.LCFG l) 8 then s.setBit LATCH.LARMSTA l false else s
  let s := s.count (LATCH.LCNT l) 31 0
  (s.latchStore (s.latchRecord l falling t)).trgLatch l t

/-! ### Encoder emulation (R222) -/

def emuOf (s : State) (e : Nat) : Emu := Tab.get {} s.emu e

/-- One microsecond of an emulation output: at most ten edges (R222). -/
def emuUpdate (e : Nat) (s : State) : State :=
  let p := s.fld (LATCH.EMU_CFG e) 4 0
  let put := fun (x : Emu) (s : State) => { s with emu := Tab.put s.emu e x }
  if s.bit (LATCH.EMU_CFG e) 5 = false ∨ p ≥ 24 then put {} s
  else if s.fbLost p then s
  else
    let lines := s.fld (LATCH.EMU_LINES e) 16 0
    let per : Int := 4 * lines
    let pos := s.sint64 (FB.POS p)
    let t0 := pos * per / 4294967296
    let target := if s.bit (LATCH.EMU_CFG e) 6 then -t0 else t0
    let x := s.emuOf e
    let sent := if x.started then x.sent else target
    let due := target - sent
    let go : Int := if due > 10 then 10 else if due < -10 then -10 else due
    let left := (due - go).natAbs
    let beyond := decide (due.natAbs > 10)
    if left > 65535 then
      let s := put { sent := target, started := true, zQuiet := some (target + per) } s
      let s := ((s.setFld (LATCH.EMU_STA e) 15 0 0).setBit (LATCH.EMU_STA e) 16 true).setBit (LATCH.EMU_STA e) 17 true
      (s.raiseFlt pgLATCH 17).raiseFlt pgLATCH 18
    else
      let sent := sent + go
      let quiet := match x.zQuiet with
        | some z => if (sent - z).natAbs < 2 * per.natAbs ∧ sent < z ∧ z - 2 * per < sent then some z else none
        | none => none
      let s := put { sent := sent, started := true, zQuiet := quiet } s
      let s := (s.setFld (LATCH.EMU_STA e) 15 0 left).setBit (LATCH.EMU_STA e) 16 beyond
      let s := s.setBit (LATCH.EMU_STA e) 17 quiet.isSome
      if beyond then s.raiseFlt pgLATCH 17 else s

/-- A port that exists. -/
def hasPort (_s : State) (n : Nat) : Bool := decide (n < 24)
def hasChan (_s : State) (k j : Nat) : Bool := decide (k < 4 ∧ j < 8)

end State

/-- FBCFG_EN_WRITE (R195). -/
def execFbcfgEnWrite (n : Nat) (en : Bool) (s : State) : Host.Outcome State Fault Refusal :=
  onUnit (s.hasPort n) (s.fbEnable n en)

/-- QUAD_EDGE (R199). -/
def execQuadEdge (n : Nat) (e : QuadStep) (s : State) : Host.Outcome State Fault Refusal :=
  onUnit (s.hasPort n) (s.quadEdge n e)

/-- Z_EDGE (R201). -/
def execZEdge (n : Nat) (s : State) : Host.Outcome State Fault Refusal := onUnit (s.hasPort n) (s.zEdge n)

/-- HALL_CODE_CHANGE (R202, R203). -/
def execHallCodeChange (n : Nat) (code : BitVec 3) (s : State) : Host.Outcome State Fault Refusal :=
  onUnit (s.hasPort n) (s.hallChange n code.toNat)

/-- HALL_TIMEOUT (R203). -/
def execHallTimeout (n : Nat) (s : State) : Host.Outcome State Fault Refusal :=
  onUnit (s.hasPort n)
    (let code := s.fld (FB.FBSTA n) 10 8
     if s.fbOn n ∧ s.fbMode n = 2 ∧ (code = 0 ∨ code = 7) then s.lose n else s)

/-- SSI_REQUEST: the sample moment of the word it starts (R204). -/
def execSsiRequest (n : Nat) (s : State) : Host.Outcome State Fault Refusal :=
  onUnit (s.hasPort n) (if s.fbOn n ∧ s.fbMode n = 3 then s.putPort n { s.portOf n with reqAt := s.t16 } else s)

/-- SSI_WORD (R204-R206). -/
def execSsiWord (n : Nat) (bits : List Bool) (timedOut : Bool) (s : State) : Host.Outcome State Fault Refusal :=
  onUnit (s.hasPort n) (s.ssiWord n bits timedOut)

/-- SSI_HOLD_EXCEEDED (R206). -/
def execSsiHoldExceeded (n : Nat) (s : State) : Host.Outcome State Fault Refusal :=
  onUnit (s.hasPort n)
    (if s.fbOn n ∧ s.fbMode n = 3 ∧ (s.portOf n).fails > s.fld (FB.SSITIM n) 11 8 ∧ s.fbLost n = false then
      (s.lose n).raiseFlt (pgFB n) 22 else s)

/-- RESOLVER_PAIR (R207, R208). -/
def execResolverPair (n : Nat) (sv cv : BitVec 32) (angle vel : Int) (trackErr : Nat) (s : State) :
    Host.Outcome State Fault Refusal :=
  onUnit (s.hasPort n) (s.resolverPair n sv.toInt cv.toInt angle vel trackErr)

/-- AMPCNT_EXCEEDED (R208). -/
def execAmpcntExceeded (n : Nat) (s : State) : Host.Outcome State Fault Refusal :=
  onUnit (s.hasPort n)
    (if s.fbOn n ∧ s.fbMode n = 4 ∧ (s.portOf n).bad ≥ s.fld (FB.RESTRK n) 23 16 then s.lose n else s)

/-- AUX_FAULT (R212). -/
def execAuxFault (n : Nat) (s : State) : Host.Outcome State Fault Refusal :=
  onUnit (s.hasPort n)
    (if s.fbOn n ∧ s.bit (FB.FBCFG n) 4 ∧ (s.fbMode n = 1 ∨ s.fbMode n = 2) then (s.fbFlt n 25).lose n else s)

/-- LOST_CLEAR (R213). -/
def execLostClear (n : Nat) (s : State) : Host.Outcome State Fault Refusal := onUnit (s.hasPort n) (s.lostClear n)

/-- FB_CAPTURE (R196-R198, R206, R209-R211). -/
def execFbCapture (n : Nat) (s : State) : Host.Outcome State Fault Refusal := onUnit (s.hasPort n) (s.capture n)

/-- ZEROTO_EXPIRY (R209). -/
def execZerotoExpiry (n : Nat) (s : State) : Host.Outcome State Fault Refusal :=
  onUnit (s.hasPort n)
    (if s.fbOn n ∧ (s.fbMode n = 1 ∨ s.fbMode n = 2) then
       let s := s.putPort n { s.portOf n with idle := true }
       if s.bit (FB.FBSTA n) 4 then s else (s.putSpeed n 0).axisFollow n
     else s)

/-- FB_POSSET_WRITE (R215, R240). -/
def execFbPossetWrite (n : Nat) (v : BitVec 64) (s : State) : Host.Outcome State Fault Refusal :=
  onUnit (s.hasPort n) (s.reference n v.toInt)

/-- SDM_OUTPUT (R216). -/
def execSdmOutput (k j : Nat) (ones : List Bool) (s : State) : Host.Outcome State Fault Refusal :=
  onUnit (s.hasChan k j) (s.sdmOutput k j ones)

/-- SDM_STUCK (R218). -/
def execSdmStuck (k j : Nat) (s : State) : Host.Outcome State Fault Refusal :=
  onUnit (s.hasChan k j) (s.sdmStuck k j)

/-- LARM_WRITE (R220). -/
def execLarmWrite (v : BitVec 16) (s : State) : Host.Outcome State Fault Refusal :=
  .next (s.wr LATCH.LARMSTA (s.rd LATCH.LARMSTA ||| v.setWidth 32))

/-- EMU_UPDATE (R222). -/
def execEmuUpdate (e : Nat) (s : State) : Host.Outcome State Fault Refusal :=
  onUnit (decide (e < 8)) (s.emuUpdate e)

end Sys2Proof.Machine
end

