-- ==== Sys2Proof/Machine/Route.lean ====
section
/-!
DEFINITION. The route store and its look-ahead (R255-R274), and the latch edge with the marker sighting in it (R220, R263).
The route service runs on hall core 1 (log entry 24).  Squares of speeds are kept exact; a speed is their root rounded
down.
-/
namespace Sys2Proof.Machine

/-- A node of the route (R256). -/
structure RNode where
  elev : Int
  grade : Int
  adh : Nat
  curv : Int
  vlim : Nat
  crr : Nat
  tdrv : Nat
  tbrk : Nat
  flags : Nat
  zone : Nat
  flight : Nat
  deriving DecidableEq, Repr

def RNode.stop (n : RNode) : Bool := n.flags.testBit 0
def RNode.mark (n : RNode) : Bool := n.flags.testBit 1
def RNode.last (n : RNode) : Bool := n.flags.testBit 2

/-- A signed number of the low `k` bits. -/
def signed (k v : Nat) : Int := if v % 2 ^ k ≥ 2 ^ (k - 1) then ((v % 2 ^ k : Nat) : Int) - 2 ^ k else ((v % 2 ^ k : Nat) : Int)

/-- The fields of a node's eight words (R256). -/
def nodeOf (w : List Word) : RNode :=
  let f := fun i hi lo => wfld (w.getD i 0) hi lo
  { elev := (w.getD 0 0).toInt, grade := signed 16 (f 1 15 0), adh := f 1 31 16, curv := (w.getD 2 0).toInt,
    vlim := f 3 15 0, crr := f 3 31 16, tdrv := f 4 15 0, tbrk := f 4 31 16, flags := f 5 15 8, zone := f 5 7 0,
    flight := f 7 12 0 }

/-- Why a node fails R257: 1 CRC, 2 FLIGHT tag, 3 field or reserved (R273). -/
def nodeFault (flight : Nat) (bs : List Byte) : Option Nat :=
  let w := leWords 8 bs
  let n := nodeOf w
  if crc16 (bs.take 30) ≠ (w.getD 7 0 >>> 16).setWidth 16 then some 1
  else if n.flight ≠ flight then some 2
  else if n.tdrv > 0x8000 ∨ n.tbrk > 0x8000 ∨ wfld (w.getD 5 0) 31 12 ≠ 0 ∨ w.getD 6 0 ≠ 0 ∨ wfld (w.getD 7 0) 15 13 ≠ 0 then
    some 3
  else none

/-- What a tick finds at a node's index. -/
inductive Found where
  | node (n : RNode)
  | bad
  | unmapped
  deriving DecidableEq, Repr

/-- The square of a node's speed limit in (m/s)² (R267). -/
def vlim2 (alat : Nat) (n : RNode) : Rat :=
  if n.stop ∨ n.last then 0
  else
    let v := mkRat (n.vlim * n.vlim) 65536
    if n.curv = 0 then v
    else
      let c := mkRat (alat * 256) n.curv.natAbs
      if c < v then c else v

/-- Interpolation between two values a fraction `f` of the way, rounded toward zero (R266). -/
def between (a b : Int) (f : Rat) : Int :=
  let x := (a : Rat) + ((b : Rat) - a) * f
  Int.tdiv x.num x.den

/-- The speed in units of 1/`k` m/s whose square in (m/s)² is given, rounded down. -/
def rootIn (k : Nat) (x : Rat) : Nat := isqrt ((x * (k * k : Nat)).floor.toNat)

/-- The median of values; of an even number, the mean of the two middle ones, rounded toward zero (R262). -/
def medianOf (l : List Int) : Int :=
  let ins := fun (t : List Int) (x : Int) => (t.filter fun y => decide (y ≤ x)) ++ [x] ++ (t.filter fun y => decide (x < y))
  let t := l.foldl ins []
  let n := t.length
  if n = 0 then 0
  else if n % 2 = 1 then t.getD (n / 2) 0
  else Int.tdiv (t.getD (n / 2 - 1) 0 + t.getD (n / 2) 0) 2

namespace State

def putRoute (x : RouteRun) (s : State) : State := { s with route := x }

/-- RSTATE: 0 IDLE, 1 READY, 2 RUN, 3 FALLBACK (R273). -/
def routeState (s : State) : Nat := s.fld ROUTE.RSTATE 1 0

def setRouteState (v : Nat) (s : State) : State :=
  if s.routeState = v then s else (s.setFld ROUTE.RSTATE 1 0 v).raiseEvt pgROUTE 1

/-- The map's entry of a flight (R258). -/
def mapEntry (s : State) (l : Nat) : Nat × Bool := Tab.get (l, false) s.route.map l

/-- FMAP shows the selected entry (R273). -/
def showMap (s : State) : State :=
  let e := s.mapEntry (s.fld ROUTE.FMAPSEL 12 0)
  s.wr ROUTE.FMAP (BitVec.ofNat 32 (e.1 + b01 e.2 * 32768))

/-- The bytes of node `i` of frame `p`, read by the hall core through the firewall (R258, R302); none where the firewall
refuses or an uncorrectable error is met. -/
def frameNode (p i : Nat) (s : State) : Option (List Byte) × State :=
  let a := (s.rd64 ROUTE.BASE).toNat + p * 0x20000 + i * 32
  if s.fwAdmits 2 0 a 32 .read then s.readBytes (dramBase + a) 32 2 true
  else (none, s.fwRefuse 2 0 a)

/-- Node `k` of the route as a tick reads it (R257, R267). -/
def routeNode (k : Nat) (s : State) : Found × State :=
  let e := s.mapEntry (k / 4096)
  if k ≥ 0x2000000 ∨ e.2 = false then (.unmapped, s)
  else match s.frameNode e.1 (k % 4096) with
    | (some bs, s) => (match nodeFault (k / 4096) bs with
      | none => .node (nodeOf (leWords 8 bs))
      | some _ => .bad, s)
    | (none, s) => (.bad, s)

/-- An invalid node met by a tick (R268, R272). -/
def badNode (s : State) : State := (s.count ROUTE.NODEERR 15 0).raiseFlt pgROUTE 16

/-! ### Commits (R259, R260) -/

/-- The first failing node of frame `p` read as flight `l`: its index, and the reason or an uncorrectable error. -/
def scanFrame (l p : Nat) : (n : Nat) → State → Option (Nat × Option Nat) × State
  | 0, s => (none, s)
  | n + 1, s =>
    match s.frameNode p (4095 - n) with
    | (none, s) => (some (4095 - n, none), s)
    | (some bs, s) =>
      match nodeFault l bs with
      | some r => (some (4095 - n, some r), s)
      | none => scanFrame l p n s

/-- A commit ends other than DONE (R259, R274). -/
def commitFails (c : Code) (arg node reason : Nat) (s : State) : State :=
  let s := ((s.setFld ROUTE.FCSTA 10 10 arg).setFld ROUTE.FCSTA 13 12 reason).setFld ROUTE.FCSTA 27 16 node
  ((opEnd pgROUTE ROUTE.FCSTA c s).putRoute { s.route with pairs := [] }).raiseFlt pgROUTE 20

/-- A pair names a free frame, or its flight's own frame where ticks do not use it (R259). -/
def pairOk (s : State) (l p : Nat) : Bool :=
  decide (p = s.fld ROUTE.FREE 13 0 ∨ p = s.fld ROUTE.FREE 29 16 ∨ (p = (s.mapEntry l).1 ∧ s.routeState < 2))

/-- FCCTL.COMMIT (R259). -/
def flightCommit (count : Nat) (s : State) : State :=
  let arg := fun i => s.rd (if i = 0 then ROUTE.FCARG0 else ROUTE.FCARG1)
  let pairs := (List.range count).map fun i => (wfld (arg i) 12 0, wfld (arg i) 29 16)
  let twice := match pairs with
    | [a, b] => decide (a.1 = b.1 ∨ a.2 = b.2)
    | _ => false
  if s.busyOp ROUTE.FCSTA then s.refuseWrite pgROUTE
  else
    let s := (s.cfgWr pgROUTE ROUTE.FCCTL (wset (s.rd ROUTE.FCCTL) 3 2 count)).wr ROUTE.FCSTA 0
    if s.offView pgROUTE then opEnd pgROUTE ROUTE.FCSTA .rejState s
    else if count = 0 then opEnd pgROUTE ROUTE.FCSTA .done s
    else if count = 3 then s.commitFails .rejLength 0 0 0
    else match (List.range count).find? fun i => !s.pairOk (pairs.getD i (0, 0)).1 (pairs.getD i (0, 0)).2 with
      | some i => s.commitFails .rejState i 0 0
      | none =>
        if twice then s.commitFails .rejState 1 0 0
        else
          let s := s.opPhase ROUTE.FCSTA 2
          let r := (List.range count).foldl (fun (r : Option (Nat × Nat × Option Nat) × State) i =>
            match r.1 with
            | some _ => r
            | none =>
              let q := scanFrame (pairs.getD i (0, 0)).1 (pairs.getD i (0, 0)).2 4096 r.2
              (q.1.map fun e => (i, e.1, e.2), q.2)) (none, s)
          match r.1 with
          | some (i, k, some w) => r.2.commitFails .rejState i k w
          | some (i, k, none) => r.2.commitFails .failEcc i k 0
          | none => r.2.putRoute { r.2.route with pairs := pairs }

/-- One pair of the map write: a displaced frame becomes free (R260). -/
def mapPair (s : State) (e : Nat × Nat) : State :=
  let old := (s.mapEntry e.1).1
  let s := s.putRoute { s.route with map := Tab.put s.route.map e.1 (e.2, true) }
  if old = e.2 then s
  else if s.fld ROUTE.FREE 13 0 = e.2 then s.setFld ROUTE.FREE 13 0 old
  else if s.fld ROUTE.FREE 29 16 = e.2 then s.setFld ROUTE.FREE 29 16 old
  else s

/-- The map write at a tick boundary (R260). -/
def flightMapWrite (s : State) : State :=
  if s.busyOp ROUTE.FCSTA then
    let s := s.route.pairs.foldl mapPair s
    let s := (s.putRoute { s.route with pairs := [] }).showMap
    let s := (opEnd pgROUTE ROUTE.FCSTA .done s).raiseEvt pgROUTE 0
    if s.routeState = 0 then s.setRouteState 1 else s
  else s

/-! ### Odometry (R261-R264) -/

/-- The usable odometry axes (R261). -/
def odoAxes (s : State) : List Nat :=
  (List.range s.variant.axes).filter fun a =>
    s.bit (ROUTE.TRAXCFG a) 0 && decide (s.mstate a ≠ 0)
      && (s.onEstimate a || match s.primaryPort a with | some n => !s.fbLost n | none => false)

/-- The median displacement in 2^-32 m since the previous tick, given each axis's position now (R262). -/
def odoStep (s : State) (axes : List Nat) (pos : Nat → Int) : Int :=
  let l := axes.filterMap fun a => (Tab.find s.route.odo a).map fun p => (pos a - p) * s.sint (ROUTE.TRAXK a)
  Int.tdiv (medianOf l) 65536

/-- The median speed in Q16.16 m/s (R262). -/
def odoSpeed (s : State) (axes : List Nat) : Int :=
  Int.tdiv (medianOf (axes.map fun a => s.sint (AXIS.ACTSPD a) * s.sint (ROUTE.TRAXK a))) 65536

/-- The route distance of node `k` in 2^-32 m (R255). -/
def nodePos (s : State) (k : Nat) : Int := ((k * s.fld ROUTE.SPACING 13 0 * 4294967296 / 1000 : Nat) : Int)

/-- The MARK node nearest a position within MARKWIN (R263). -/
def nearestMark (p : Int) (s : State) : Option Nat × State :=
  let sp := s.fld ROUTE.SPACING 13 0
  let win : Int := s.num ROUTE.MARKWIN * 65536
  let idx := fun (x : Int) => (x * 1000 / (4294967296 * sp)).toNat
  let lo := idx (p - win)
  let hi := idx (p + win) + 1
  (List.range (hi + 1 - lo)).foldl (fun (r : Option Nat × State) i =>
    let k := lo + i
    let d := (r.2.nodePos k - p).natAbs
    if (d : Int) > win then r
    else match r.2.routeNode k with
      | (.node n, s) =>
        if n.mark = true ∧ (match r.1 with | some j => decide (d < (s.nodePos j - p).natAbs) | none => true) = true then
          (some k, s) else (r.1, s)
      | (_, s) => (r.1, s)) (none, s)

/-- A marker sighting (R263, R272). -/
def markerSeen (t : Nat) (s : State) : State :=
  let axes := s.odoAxes
  let at_ := fun a => match s.primaryPort a with
    | some n => if s.latchValid n then s.portPos n t else 0
    | none => 0
  let p := s.sint64 ROUTE.POS + s.odoStep axes at_
  match s.nearestMark p with
  | (none, s) => s.count ROUTE.CNT 31 16
  | (some k, s) =>
    let s := if s.route.marker.isSome then s.count ROUTE.CNT 31 16 else s
    s.putRoute { s.route with marker := some (s.nodePos k - p) }

/-! ### The tick (R262-R269) -/

/-- RSTATE.DIR after a tick's speed (R262): true for reverse. -/
def routeDir (s : State) (spd : Int) : Bool :=
  if spd * 10 > 65536 then false else if spd * 10 < -65536 then true else s.bit ROUTE.RSTATE 2

/-- The deceleration at a node in m/s² (R267). -/
def decelAt (s : State) (rev : Bool) (n : RNode) : Rat :=
  let g := mkRat 980665 100000
  let d := ofQ16 (s.num ROUTE.DECEL)
  let lim := g * mkRat n.adh 65536
  let d := if n.adh ≠ 0 ∧ lim < d then lim else d
  let a := d + g * mkRat (if rev then -n.grade else n.grade) 65536
  let m := ofQ16 (s.num ROUTE.DECMIN)
  if a < m then m else a

/-- The nodes of the window from index `k` on, nearest first, at most `n` of them; whether an invalid node or an unmapped
flight ended it (R267). -/
def window (rev : Bool) : (n k : Nat) → State → List RNode × Bool × State
  | 0, _, s => ([], false, s)
  | n + 1, k, s =>
    match s.routeNode k with
    | (.node x, s) =>
      if (rev = false ∧ x.last = true) ∨ (rev = true ∧ k = 0) then ([x], false, s)
      else
        let r := window rev n (if rev then k - 1 else k + 1) s
        (x :: r.1, r.2)
    | (.bad, s) => ([], true, s.badNode)
    | (.unmapped, s) => ([], true, s)

/-- The square of the envelope speed at the first node of a window (R265, R267). -/
def backward (s : State) (rev cut : Bool) : List RNode → Rat
  | [] => 0
  | [x] =>
    let v := vlim2 (s.num ROUTE.ALAT) x
    let f := mkRat (s.fld ROUTE.FBVLIM 15 0 * s.fld ROUTE.FBVLIM 15 0) 65536
    if cut ∧ f < v then f else v
  | x :: y :: t =>
    let v := vlim2 (s.num ROUTE.ALAT) x
    let w := backward s rev cut (y :: t) + 2 * s.decelAt rev x * mkRat (s.fld ROUTE.SPACING 13 0) 1000
    if w < v then w else v

/-- The fallback outputs (R268). -/
def fallbackOut (s : State) : State :=
  let s := s.wr ROUTE.VENV (BitVec.ofNat 32 (s.fld ROUTE.FBVLIM 15 0 * 256))
  let s := s.wr ROUTE.TENV (BitVec.ofNat 32 (torque15 (s.fld ROUTE.FBTRQ 15 0)))
  (s.wr (ROUTE.TENV + 4) (BitVec.ofNat 32 (torque15 (s.fld ROUTE.FBTRQ 31 16)))).wr ROUTE.FFOUT 0

/-- The outputs of R266 and R269 at POS, between the node behind it and the node ahead, `f` of the way. -/
def routeOut (rev : Bool) (behind ahead below : RNode) (f v2 : Rat) (spd : Int) (s : State) : State :=
  let alat := s.num ROUTE.ALAT
  let ratMin := fun (a b : Rat) => if b < a then b else a
  let vl := ratMin (vlim2 alat behind) (vlim2 alat ahead)
  let step := mkRat (s.fld ROUTE.SPACING 13 0) 1000
  let venv := rootIn 65536 (ratMin vl (v2 + 2 * s.decelAt rev behind * (1 - f) * step))
  let grade := between behind.grade ahead.grade f
  let crr := between behind.crr ahead.crr f
  let s := s.wr ROUTE.CURA (BitVec.ofInt 16 crr ++ BitVec.ofInt 16 grade)
  let s := s.wr ROUTE.CURB (BitVec.ofInt 32 (between behind.curv ahead.curv f))
  let s := s.wr ROUTE.CURC (BitVec.ofNat 32 (Nat.min 0xFFFF (rootIn 256 vl) + below.zone * 65536 + below.flags * 2 ^ 24))
  let s := s.wr ROUTE.VENV (satInt 32 venv)
  let band := s.num ROUTE.VBAND
  let room := (venv : Int) - spd.natAbs
  let drv : Nat := Nat.min behind.tdrv ahead.tdrv
  let pos : Nat := if room ≤ 0 then 0 else if room ≥ band then drv * 65536 else drv * 65536 * room.toNat / band
  let s := s.wr ROUTE.TENV (BitVec.ofNat 32 (Nat.min pos 0x7FFFFFFF))
  let s := s.wr (ROUTE.TENV + 4) (BitVec.ofNat 32 (torque15 (Nat.min behind.tbrk ahead.tbrk)))
  let ff := (s.num ROUTE.FFK : Int) * (grade + crr) / 512
  s.wr ROUTE.FFOUT (satInt 32 (if rev then -ff else ff))

/-- The look-ahead at POS (R265-R269). -/
def lookAhead (spd : Int) (s : State) : State :=
  let p := s.sint64 ROUTE.POS
  let rev := s.bit ROUTE.RSTATE 2
  let den : Int := 4294967296 * s.fld ROUTE.SPACING 13 0
  let num := p * 1000
  let low := num / den
  let exact := decide (num % den = 0)
  let s := s.wr ROUTE.NODE (BitVec.ofNat 32 (low.toNat % 0x2000000))
  let off := fun (s : State) => (((s.setBit ROUTE.RSTATE 4 true).raiseFlt pgROUTE 18).setRouteState 3).fallbackOut
  if p < 0 then off s
  else
    let k := low.toNat
    let back := if rev ∧ exact = false then k + 1 else k
    match s.routeNode back with
    | (.unmapped, s) => off s
    | (.bad, s) => off s.badNode
    | (.node b, s) =>
      let alone := exact && ((!rev && b.last) || (rev && decide (k = 0)))
      let next := if alone then back else if rev then back - 1 else back + 1
      match s.routeNode next with
      | (.unmapped, s) => off s
      | (.bad, s) => off s.badNode
      | (.node a, s) =>
        let below := if back ≤ next then b else a
        if exact = false ∧ below.last = true then off s
        else
          let f0 := mkRat (num % den) den.toNat
          let f := if rev ∧ exact = false then 1 - f0 else f0
          let w := window rev (Nat.max 1 (s.fld ROUTE.LAACT 12 0)) next s
          let s := (w.2.2.setBit ROUTE.RSTATE 4 false).setRouteState 2
          s.routeOut rev b a below f (s.backward rev w.2.1 w.1) spd

/-- ROUTE_TICK (R261-R272). -/
def routeTick (s : State) : State :=
  if s.routeState < 2 then s
  else
    let depth := s.fld ROUTE.LADEPTH 12 0
    let s := s.wr ROUTE.LAACT (BitVec.ofNat 32
      (if s.fld THM.TSTEP 2 0 ≥ 2 then Nat.min depth (s.fld ROUTE.LADEPTH 28 16) else depth))
    let axes := s.odoAxes
    let step := s.odoStep axes (fun a => s.sint64 (AXIS.ACTPOS a))
    let spd := s.odoSpeed axes
    let x := s.route
    let moved := s.sint64 ROUTE.POS + step
    let pos := match x.posset with
      | some p => p
      | none => moved + x.marker.getD 0
    let s := match x.marker, x.posset with
      | some _, some _ => s.count ROUTE.CNT 31 16
      | some c, none => ((s.wr ROUTE.POSCORR (satInt 32 (Int.tdiv c 65536))).count ROUTE.CNT 15 0).raiseEvt pgROUTE 2
      | none, _ => s
    let s := (s.wr64 ROUTE.POS (pos64 pos)).wr ROUTE.SPD (satInt 32 spd)
    let s := s.setBit ROUTE.RSTATE 2 (s.routeDir spd)
    let s := s.putRoute { x with
      odo := axes.map (fun a => (a, s.sint64 (AXIS.ACTPOS a))), lastTick := some s.t16, posset := none, marker := none }
    let s := s.setBit ROUTE.RSTATE 3 false
    if axes = [] then ((s.raiseFlt pgROUTE 17).setRouteState 3).fallbackOut else s.lookAhead spd

/-- RCTL.RUN (R272, R273). -/
def routeRun (s : State) : State :=
  if s.routeState ≠ 1 then s.refuseWrite pgROUTE
  else
    let s := s.putRoute { s.route with odo := [] }
    let p := s.sint64 ROUTE.POS
    let k := (p * 1000 / (4294967296 * s.fld ROUTE.SPACING 13 0)).toNat
    if p < 0 ∨ k ≥ 0x2000000 ∨ (s.mapEntry (k / 4096)).2 = false then
      (((s.setBit ROUTE.RSTATE 4 true).raiseFlt pgROUTE 18).setRouteState 3).fallbackOut
    else (s.setBit ROUTE.RSTATE 4 false).setRouteState 2

/-- RCTL.CLEAR (R258, R272). -/
def routeClear (s : State) : State :=
  if s.routeState ≥ 2 then s.refuseWrite pgROUTE
  else ((s.putRoute { s.route with map := [] }).wr ROUTE.FREE 0x20012000).showMap.setRouteState 0

/-- LATCH_EDGE (R220, R221, R263, R432). -/
def latchEdge (l : Nat) (falling : Bool) (s : State) : State :=
  if s.latchTakes l falling = false then s
  else
    let t := s.stampOf (s.fld (LATCH.LCFG l) 7 2)
    let s := s.latchCapture l falling
    if s.bit ROUTE.MARKCFG 4 = true ∧ s.fld ROUTE.MARKCFG 3 0 = l then s.markerSeen t else s

end State

/-- LATCH_EDGE (R220, R221). -/
def execLatchEdge (l : Nat) (falling : Bool) (s : State) : Host.Outcome State Fault Refusal :=
  onUnit (decide (l < 16)) (s.latchEdge l falling)

/-- ROUTE_RCTL_RUN (R273). -/
def execRouteRctlRun (s : State) : Host.Outcome State Fault Refusal := .next s.routeRun

/-- ROUTE_RCTL_STOP: to READY (R273). -/
def execRouteRctlStop (s : State) : Host.Outcome State Fault Refusal :=
  .next (if s.routeState ≥ 2 then s.setRouteState 1 else s)

/-- ROUTE_RCTL_CLEAR (R258). -/
def execRouteRctlClear (s : State) : Host.Outcome State Fault Refusal := .next s.routeClear

/-- FCCTL_COMMIT (R259). -/
def execFcctlCommit (count : BitVec 2) (s : State) : Host.Outcome State Fault Refusal := .next (s.flightCommit count.toNat)

/-- FCCTL_ABORT: before the map write nothing has changed (R260). -/
def execFcctlAbort (s : State) : Host.Outcome State Fault Refusal :=
  .next (let t := s.opAbort pgROUTE ROUTE.FCSTA (fun s => s.putRoute { s.route with pairs := [] })
         if s.busyOp ROUTE.FCSTA then t.raiseFlt pgROUTE 20 else t)

/-- FLIGHT_MAP_WRITE (R260). -/
def execFlightMapWrite (s : State) : Host.Outcome State Fault Refusal := .next s.flightMapWrite

/-- ROUTE_TICK (R265). -/
def execRouteTick (s : State) : Host.Outcome State Fault Refusal :=
  .next (if s.routeState ≥ 2 then s.routeTick.noteRoute else s)

/-- ROUTE_POSSET_WRITE (R264). -/
def execRoutePossetWrite (v : BitVec 64) (s : State) : Host.Outcome State Fault Refusal :=
  .next (s.putRoute { s.route with posset := some v.toInt })

end Sys2Proof.Machine
end

