-- ==== Sys2Proof/Machine/Spares.lean ====
section
/-!
DEFINITION. Migrations, emergency migrations and the gallery test (R277-R284, R293, R296), and the duplex pair: pair
start, the stairwell's frames, handover, loss and return of the stairwell (R285-R292, R298).
-/
namespace Sys2Proof.Machine

namespace State

/-! ### Planned migration (R277-R281) -/

/-- The copy time in ns for `n` bytes of state (R279). -/
def copyNs (n : Nat) : Nat := 100 + (n + 4096 + 15) / 16

/-- The copy time in cycles of a clock. -/
def copyCycles (mhz n : Nat) : Nat := (copyNs n * mhz + 999) / 1000

/-- The capacity of STATELEN (R118). -/
def stateCap (s : State) (g : Nat) : Nat := 0x2F000 - (s.num (GAL.STATEBASE g) - 0x10000)

/-- The source's schedule while the copy may block it (R279): none where it passes, else the SLOT field. -/
def copyFails (s : State) (g mhz : Nat) : Option Nat :=
  s.scheduleFails mhz (copyCycles mhz (s.num (GAL.STATELEN g))) (s.galOf g).sched

/-- The schedule floor of a migration's source (R279). -/
def copyFloor (s : State) (g : Nat) : Nat :=
  ([400, 500, 600, 700, 800, 900, 1000, 1100].find? fun f => (s.copyFails g f).isNone).getD 1200

/-- The moved slots of the source, as the target's table (R278). -/
def movedTable (s : State) (g : Nat) (slots : Nat) : List (Nat × SlotCfg) :=
  (List.range 6).map fun n => (n, if slots.testBit n then s.slotCfg g n else {})

/-- A table in a gallery that the newel commits for a migration: the dispatcher and SLOT.ACTIVE, without BRG.ASSIGN. -/
def giveTable (t : Nat) (tab : List (Nat × SlotCfg)) (s : State) : State :=
  let s := tab.foldl (fun s e => (s.wr (GAL.SLOT_ACTIVE t e.1) e.2.sbr).putSlotRun t e.1 {}) s
  let s := s.putGal t { s.galOf t with sched := tab }
  (s.setFld (GAL.CLKSTA t) 26 16 (s.scheduleFloor 0 tab)).galClock t

/-- The image that MARGS names (R296): an entry, or the source's own. -/
def namedImage (s : State) (g : Nat) : Option Nat :=
  if s.bit MIG.MARGS 28 then Tab.find s.mig.held g else some (s.fld MIG.MARGS 27 24)

/-- A migration refused at START (R277): its code, and MSTA.SLOT. -/
def migReject (c : Code) (slot : Nat) (s : State) : State :=
  (opEnd pgMIG MIG.MSTA c (s.setFld MIG.MSTA 18 10 (slot * 64))).raiseEvt pgMIG 1

/-- MCTL.START (R277, R278 step 1, R279, R295). -/
def migStart (s : State) : State :=
  let g := s.fld MIG.MARGS 4 0
  let t := s.fld MIG.MARGS 12 8
  let slots := s.fld MIG.MARGS 21 16
  let moved := bitsOf 6 slots
  let match_ := s.fld MIG.MCMP 7 0
  let tab := s.movedTable g slots
  if s.busyOp MIG.MSTA then s.refuseWrite pgMIG
  else if s.offView pgMIG = true ∨ s.galState t ≠ 8 ∨ g = t then s.migReject .rejState 0
  else if slots = 0 then (opEnd pgMIG MIG.MSTA .done (s.setFld MIG.MSTA 18 10 0)).raiseEvt pgMIG 0
  else if moved.any (fun n => !s.slotOn g n) then s.migReject .rejState 0
  else if match_ = 0 ∨ match_ = 1 then s.migReject .rejState 0
  else if match_ = 0xFF then s.migReject .rejLength 0
  else if s.num (GAL.STATELEN g) > s.stateCap g then s.migReject .rejLength 0
  else if moved.any (fun n => decide (s.phase (BRG.XFERSTA (s.slotBridge g n)) = 1))
      ∨ s.busyOp (GAL.SCHSTA g) = true ∨ s.busyOp (GAL.SCHSTA t) = true then s.migReject .rejState 0
  else if s.fld STW.STATE 3 0 = 3 ∨ s.fld STW.STATE 3 0 = 4 then s.migReject .rejState 0
  else match s.copyFails g 1200, s.scheduleFails 1200 0 tab with
    | some n, _ => s.migReject .rejState n
    | none, some n => s.migReject .rejState n
    | none, none =>
      if s.num MIG.EPOCHNEXT = 0 ∨ s.num MIG.EPOCHNEXT + moved.length > 0x100000000 then s.migReject .rejState 0
      else match s.namedImage g with
        | none => (s.migReject .rejState 0).raiseFlt pgMIG 17
        | some i =>
          if s.holds t i = false ∧ s.hasImage i = false then (s.migReject .rejState 0).raiseFlt pgMIG 17
          else
            let s := (s.setFld MIG.MSTA 18 10 2).opPhase MIG.MSTA 2
            let s := s.wr MIG.MCOPY (BitVec.ofNat 32 (copyNs (s.num (GAL.STATELEN g))))
            let s := if s.holds t i then s else s.loadImage t i
            let s := { s with mig := { s.mig with source := g, target := t, slots := BitVec.ofNat 6 slots, image := i,
                                                  hits := [], src := [], tgt := [], floor := s.copyFloor g } }
            (s.giveTable t tab).galClock g

/-- A gallery's state region and coefficient area copied into another (R278, R279): whether it met no uncorrectable
word. -/
def copyState (g t : Nat) (s : State) : Bool × State :=
  let at_ := s.num (GAL.STATEBASE g)
  let len := Nat.min (s.num (GAL.STATELEN g)) (s.stateCap g)
  match s.readBytes (galBase g + at_) len 44 false with
  | (none, s) => (false, s)
  | (some bs, s) =>
    match s.readBytes (galBase g + 0x3F000) 4096 44 false with
    | (none, s) => (false, s)
    | (some cs, s) =>
      (true, ((s.writeBytes (galBase t + at_) 44 bs).2.writeBytes (galBase t + 0x3F000) 44 cs).2)

/-- The copy tread (R278 steps 2 and 3). -/
def migrationCopy (s : State) : State :=
  if s.busyOp MIG.MSTA = false ∨ s.fld MIG.MSTA 12 10 ≠ 2 then s
  else
    let m := s.mig
    match s.copyState m.source m.target with
    | (false, s) => (s.migStop .failEcc).raiseFlt pgMIG 18
    | (true, s) =>
      let l := bitsOf 6 m.slots.toNat
      let ref := l.foldl (fun b n => Nat.min b (s.slotBridge m.target n)) 63
      let s := { s with mig := { s.mig with copyTread := s.rd (BRG.TREADCNT ref) } }
      let s := (s.setFld (HDR.STA (pgGAL m.target)) 3 0 9).setFld MIG.MSTA 12 10 3
      if s.fld (HDR.STA (pgGAL m.target)) 10 8 < 2 ∧ s.holdMode = false then
        s.setFld (HDR.STA (pgGAL m.target)) 10 8 2 else s

/-- A migration past its switch ends (R278 step 5, R281, R284). -/
def migFinish (s : State) : State :=
  let g := s.mig.source
  let late := decide (Tab.find s.pastCompletion MIG.MSTA = some true)
  let s := (s.opFinish pgMIG MIG.MSTA).setFld MIG.MSTA 12 10 0
  let s := s.offSpare s.mig.target
  let s := if s.anySlot g ∨ s.galState g = 6 then s else s.toSpare g
  (s.galClock g).raiseEvt pgMIG (b01 late)

/-- The switch tread of the reference bridge (R278 step 5). -/
def migrationRelease (s : State) : State :=
  if s.busyOp MIG.MSTA = true ∧ s.fld MIG.MSTA 12 10 = 5 then s.migFinish else s

/-- MCTL.ABORT (R63, R281). -/
def migAbort (s : State) : State :=
  if s.busyOp MIG.MSTA = true ∧ s.isPast MIG.MSTA = false then s.migStop .aborted
  else s.opAbort pgMIG MIG.MSTA id

/-! ### Emergency migration (R282-R284) -/

/-- No plan for DEADCFG.TREADS treads (R282, R297). -/
def galleryDead (g : Nat) (s : State) : State :=
  if s.fld MIG.DEADCFG 3 0 = 0 ∨ s.anySlot g = false then s
  else ({ s with mig := { s.mig with dead := wsetBit s.mig.dead g true } }).raiseFlt pgMIG 21

/-- The planned migration that an emergency meets (R284): whether the emergency migration goes on, and the target to
take first. -/
def meetPlanned (g : Nat) (s : State) : Bool × Option Nat × State :=
  let m := s.mig
  if s.busyOp MIG.MSTA = false then (true, none, s)
  else if s.isPast MIG.MSTA then (true, none, s.migFinish)
  else if m.target = g then
    let s := (opEnd pgMIG MIG.MSTA .rejState s).setFld MIG.MSTA 12 10 0
    let s := s.putGal g { s.galOf g with sched := [] }
    let s := (List.range 6).foldl (fun s n => s.wr (GAL.SLOT_ACTIVE g n) 0) s
    (false, none, ((s.offSpare g).galClock m.source).raiseEvt pgMIG 1)
  else (true, if m.source = g then some m.target else none, s.migStop .rejState)

/-- The spare that an emergency migration takes (R282, R284). -/
def chooseSpare (s : State) (first : Option Nat) (img : Option Nat) : Option Nat :=
  let spares := (List.range s.variant.galleries).filter fun t => decide (s.galState t = 8)
  let warm := fun t => match img with
    | some i => s.holds t i
    | none => false
  match first.bind (fun t => if spares.contains t && warm t then some t else none) with
  | some t => some t
  | none => match spares.find? warm with
    | some t => some t
    | none => spares.head?

/-- An emergency migration that cannot be done (R282, R479). -/
def emergencyFails (c : Code) (bit : Nat) (s : State) : State :=
  let s := ((opEnd pgMIG MIG.MSTA c s).setFld MIG.MSTA 12 10 0).setBit MIG.MSTA 13 true
  ((((s.raiseFlt pgMIG bit).raiseFlt pgMIG 19).raiseEvt pgMIG 1).raiseEvt pgMIG 2).limpTrigger 0

/-- An emergency migration of every enabled slot of gallery `g` (R282, R284). -/
def emergency (g : Nat) (s : State) : State :=
  let z := s.meetPlanned g
  let s := z.2.2
  let slots := (List.range 6).filter fun n => s.slotOn g n
  if z.1 = false ∨ slots = [] then s
  else
    let s := (s.wr MIG.MSTA 0).opPhase MIG.MSTA 2
    let img := Tab.find s.mig.held g
    match s.chooseSpare z.2.1 img with
    | none => s.emergencyFails .rejState 22
    | some t =>
      let s := s.setFld MIG.MSTA 13 10 9
      let load := match img with
        | some i => !s.holds t i
        | none => true
      let miss := match img with
        | some i => !s.hasImage i
        | none => true
      if (load && miss) = true then s.emergencyFails .rejState 17
      else if s.num MIG.EPOCHNEXT = 0 ∨ s.num MIG.EPOCHNEXT + slots.length > 0x100000000 then
        let s := ((opEnd pgMIG MIG.MSTA .rejState s).setFld MIG.MSTA 12 10 0).setBit MIG.MSTA 13 true
        (((s.raiseFlt pgMIG 19).raiseEvt pgMIG 1).raiseEvt pgMIG 2).limpTrigger 0
      else
        let s := if load then s.loadImage t (img.getD 0) else s
        match s.copyState g t with
        | (false, s) => s.emergencyFails .failEcc 18
        | (true, s) =>
          let s := s.giveTable t (s.movedTable g (slots.foldl (fun m n => m + 2 ^ n) 0))
          let ref := slots.foldl (fun b n => Nat.min b (s.slotBridge t n)) 63
          let s := s.wr MIG.MSWITCH (s.rd (BRG.TREADCNT ref) + 2)
          let s := slots.foldl (fun s n =>
            let s := migMove g t n (s.rd (BRG.TREADCNT (s.slotBridge t n)) + 2) s
            if s.mig.dead.getLsbD g then s else s.migLeave g n) s
          let s := (s.setFld (HDR.STA (pgGAL t)) 3 0 3).offSpare t
          let s := if s.fld (HDR.STA (pgGAL t)) 10 8 < 2 ∧ s.holdMode = false then s.setFld (HDR.STA (pgGAL t)) 10 8 2 else s
          let s := ((opEnd pgMIG MIG.MSTA .done s).setFld MIG.MSTA 12 10 0).setBit MIG.MSTA 13 true
          ((s.raiseFlt pgMIG 19).raiseEvt pgMIG 0).raiseEvt pgMIG 2

/-! ### The gallery test (R296) -/

def migTestStart (s : State) : State :=
  let g := s.fld MIG.TSEL 4 0
  if s.busyOp MIG.TSTA then s.refuseWrite pgMIG
  else if s.offView pgMIG = true ∨ s.galState g ≠ 8 then opEnd pgMIG MIG.TSTA .rejState s
  else s.galTest g

def galleryTestDone (lbist mbist : Bool) (bad : Nat) (s : State) : State :=
  if s.busyOp MIG.TSTA = false then s
  else
    let g := s.mig.testing
    let s := s.wr MIG.TRES (BitVec.ofNat 32 (b01 lbist + 2 * b01 mbist + bad * 256))
    let s := if lbist ∧ mbist then s.toSpare g
      else ((s.setFld (HDR.STA (pgGAL g)) 3 0 7).offSpare g).raiseFlt pgMIG 23
    (opEnd pgMIG MIG.TSTA .done s).raiseEvt pgMIG 4

/-! ### The duplex pair (R285-R292) -/

/-- STW.STATE (R298). -/
def pairState (s : State) : Nat := s.fld STW.STATE 3 0
def setPairState (v : Nat) (s : State) : State := s.setFld STW.STATE 3 0 v

/-- The bridges of a set of axes, in ascending order. -/
def bridgesOf (s : State) (axes : Nat) : List Nat :=
  (List.range s.variant.bridges).filter fun b =>
    axes.testBit (s.brgAxis b) && (s.axisBridges (s.brgAxis b)).contains b

/-- Marks the slots of bridges as shadow slots, or as owned ones (R285). -/
def setShadow (on : Bool) (bs : List Nat) (s : State) : State :=
  bs.foldl (fun s b =>
    let g := s.brgGal b
    let n := s.brgSlot b
    s.putSlotRun g n { s.slotRun g n with shadow := on }) s

/-- The STATE frames of one area, at most 25 storage words of data each (R288). -/
def areaFrames (b : Nat) (coef : Bool) (tread : Word) : (fuel off : Nat) → List Byte → List (List Word)
  | 0, _, _ => []
  | n + 1, off, bs =>
    if bs = [] then []
    else ([4, BitVec.ofNat 32 (b + 64 * b01 coef + off * 256), tread] ++ leWords 50 (bs.take 200)
      |>.take (3 + 2 * ((Nat.min 200 bs.length + 7) / 8))) :: areaFrames b coef tread n (off + 200) (bs.drop 200)

/-- A bridge's slot state goes to the partner by STATE frames (R285, R288). -/
def sendState (b : Nat) (s : State) : State :=
  let g := s.brgGal b
  let len := Nat.min (s.num (GAL.STATELEN g)) (s.stateCap g)
  let t := s.rd (BRG.TREADCNT b)
  let x := s.readBytes (galBase g + s.num (GAL.STATEBASE g)) len 44 false
  let y := x.2.readBytes (galBase g + 0x3F000) 4096 44 false
  let fs := areaFrames b false t 1024 0 (x.1.getD []) ++ areaFrames b true t 1024 0 (y.1.getD [])
  fs.foldl (fun s f => s.stwSend f) y.2

/-- The state of every owned slot goes to the partner (R285, R289, R298). -/
def sendOwned (s : State) : State := (s.bridgesOf (s.fld STW.OWN 23 0)).foldl (fun s b => s.sendState b) s

/-- SCTL.START (R285, R298). -/
def pairStart (partnerOwn : BitVec 24) (agree : Bool) (s : State) : State :=
  let own := s.fld STW.CFGOWN 23 0
  let mode := if s.bit STW.STATE 4 then 2 else 1
  let bad := (List.range s.variant.rings).any (fun r => decide (s.fld (RZL.TOPO r) 1 0 ≠ mode))
    || decide ((BitVec.ofNat 24 own &&& partnerOwn) ≠ 0)
    || (List.range s.variant.axes).any (fun a => s.axisOn a && !own.testBit a && !partnerOwn.getLsbD a)
    || !agree
  if s.busyOp STW.HOSTA then s.refuseWrite pgSTW
  else if s.offView pgSTW = true ∨ s.pairState ≠ 0 then opEnd pgSTW STW.HOSTA .rejState s
  else if bad then (opEnd pgSTW STW.HOSTA .rejState s).raiseFlt pgSTW 22
  else
    let s := ((s.opPhase STW.HOSTA 2).wr STW.OWN (BitVec.ofNat 32 own)).wr STW.SHADOW (partnerOwn.setWidth 32)
    let s := (s.setPairState 1).setShadow true (s.bridgesOf partnerOwn.toNat)
    s.sendOwned

/-- Shadows stop (R298). -/
def endShadows (s : State) : State :=
  let s := (s.bridgesOf (s.fld STW.SHADOW 23 0)).foldl (fun s b => s.dropSlot (s.brgGal b) (s.brgSlot b)) s
  { s.wr STW.SHADOW 0 with stw := { s.stw with plans := [], hits := [], drift := [], handAxes := 0, switching := [],
                                               incoming := false } }

/-- SCTL.STOP (R298). -/
def pairStop (s : State) : State :=
  let s := if s.busyOp STW.HOSTA then opEnd pgSTW STW.HOSTA .aborted s else s
  (s.endShadows).setPairState 0

/-- Pair start's completion instant (R298). -/
def stateCopyDone (s : State) : State :=
  if s.pairState = 1 ∧ s.busyOp STW.HOSTA then
    (opEnd pgSTW STW.HOSTA .done (s.setPairState 2)).raiseEvt pgSTW 0
  else s

/-- The switch instant of a handover asked for at `t`, as LT48 bits [47:24] (R292). -/
def switchInstant (t : Nat) : BitVec 24 := BitVec.ofNat 24 ((t + 16000000 + 0xFFFFFF) / 0x1000000)

/-- SCTL.HANDOVER (R292). -/
def handover (s : State) : State :=
  let sel := s.rd STW.HOSEL &&& 0xFFFFFF
  if s.busyOp STW.HOSTA then s.refuseWrite pgSTW
  else if s.offView pgSTW then opEnd pgSTW STW.HOSTA .rejState s
  else if sel = 0 then opEnd pgSTW STW.HOSTA .done s
  else if s.pairState ≠ 2 ∨ sel &&& ~~~ s.rd STW.OWN ≠ 0 then opEnd pgSTW STW.HOSTA .rejState s
  else
    let at_ := switchInstant s.t16
    let s := { s.opPhase STW.HOSTA 2 with stw := { s.stw with handAxes := sel.setWidth 24, handAt := at_, incoming := false } }
    s.stwSend [6, sel, 0, at_.setWidth 32, 0]

/-- The handover ends before its completion instant: the owner keeps the axes (R292). -/
def dropHandover (s : State) : State := { s with stw := { s.stw with handAxes := 0, switching := [], incoming := false } }

/-- SCTL.ABORT of a handover or a pair start (R63, R292). -/
def pairAbort (s : State) : State :=
  s.opAbort pgSTW STW.HOSTA fun s =>
    if s.pairState = 1 then (s.endShadows).setPairState 0 else s.dropHandover

/-- The first tread of a bridge at or after an instant given as LT48 bits [47:24] (R292). -/
def switchTread (s : State) (b : Nat) (at_ : BitVec 24) : Word :=
  let t := s.expandLt (at_ ++ (0 : BitVec 24))
  let x := s.brgOf b
  let p := s.num (BRG.PERACT b)
  let k := if s.bit (BRG.ACT_CARRIER b) 0 then 2 else 1
  s.rd (BRG.TREADCNT b) + BitVec.ofNat 32 (if p = 0 then 0 else ((t - x.tread) * k + p - 1) / p)

/-- The change of epoch of the bridges handed over: new epochs from `e` up, each from its switch tread (R276, R292). -/
def handChange (bs : List Nat) (at_ : BitVec 24) (e : Word) (s : State) : State :=
  let z := bs.foldl (fun (z : State × Word) b =>
    let s := z.1
    let s := s.putBrg b { s.brgOf b with change := some { old := s.rd (MIG.EPOCH b), switchAt := s.switchTread b at_ } }
    (s.wr (MIG.EPOCH b) z.2, z.2 + 1)) (s, e)
  { z.1 with stw := { z.1.stw with switching := bs } }

/-- HO_ACK at the owner (R292). -/
def hoAck (axes : BitVec 24) (accepted : Bool) (e : Word) (s : State) : State :=
  if s.busyOp STW.HOSTA = false ∨ s.stw.incoming = true ∨ s.stw.handAxes = 0 ∨ s.stw.handAxes ≠ axes
      ∨ s.isPast STW.HOSTA = true then s
  else if accepted = false then (opEnd pgSTW STW.HOSTA .rejState s).dropHandover
  else
    let bs := s.bridgesOf axes.toNat
    let s := (s.handChange bs s.stw.handAt e).seeEpoch (e + BitVec.ofNat 32 (bs.length - 1))
    let s := bs.foldl (fun s b =>
      let r := s.brgRing b
      s.putRing r { s.ringOf r with frames := (s.ringOf r).frames + 1 }) s
    s.passCompletion STW.HOSTA

/-- HO_REQ from the owner (R292): accepted where the shadow of every bridge has MINCMP consecutive matches. -/
def hoReq (axes at_ : BitVec 24) (s : State) : State :=
  let bs := s.bridgesOf axes.toNat
  let ok := decide (s.pairState = 2) && decide (axes &&& ~~~ (s.rd STW.SHADOW).setWidth 24 = 0)
    && bs.all (fun b => decide (s.fld MIG.MCMP 7 0 ≤ Tab.get 0 s.stw.hits b))
    && decide (s.num MIG.EPOCHNEXT ≠ 0 ∧ s.num MIG.EPOCHNEXT + bs.length ≤ 0x100000000)
    && !s.busyOp STW.HOSTA && decide (s.stw.switching = [])
  if ok then
    let e := s.rd MIG.EPOCHNEXT
    let s := bs.foldl (fun s _ => (s.newEpoch).2) s
    let s := (s.handChange bs at_ e)
    let s := { s with stw := { s.stw with handAxes := axes, handAt := at_, incoming := true } }
    s.stwSend [7, axes.setWidth 32 ||| 0x1000000, 0, e, 0]
  else s.stwSend [7, axes.setWidth 32, 0, 0, 0]

/-- A bridge under handover reaches a tread (R276, R292): the partner's slot serves from the switch tread on. -/
def handTread (b : Nat) (s : State) : State :=
  if s.stw.switching.contains b = false then s
  else match (s.brgOf b).change with
    | none => s
    | some c =>
      let now := s.rd (BRG.TREADCNT b)
      let g := s.brgGal b
      let n := s.brgSlot b
      let s := if s.stw.incoming = true ∧ now + 1 = c.switchAt then
          s.putSlotRun g n { s.slotRun g n with shadow := false, epoch := s.rd (MIG.EPOCH b) } else s
      if (now - c.switchAt).toInt < 0 then s
      else
        let inc := s.stw.incoming
        let s := if inc then s.putSlotRun g n { s.slotRun g n with shadow := false, epoch := s.rd (MIG.EPOCH b) }
          else s.putSlotRun g n { s.slotRun g n with shadow := true }
        let s := { s with stw := { s.stw with switching := s.stw.switching.erase b } }
        if s.stw.switching ≠ [] then s
        else
          let ax := s.stw.handAxes.setWidth 32
          let s := if inc then (s.wr STW.OWN (s.rd STW.OWN ||| ax)).wr STW.SHADOW (s.rd STW.SHADOW &&& ~~~ ax)
            else (s.wr STW.OWN (s.rd STW.OWN &&& ~~~ ax)).wr STW.SHADOW (s.rd STW.SHADOW ||| ax)
          let s := (s.dropHandover).raiseEvt pgSTW 4
          if inc then s else s.opFinish pgSTW STW.HOSTA

/-- A HEARTBEAT from the partner (R275, R288, R289). -/
def heartbeat (e : Word) (stw mode : BitVec 4) (owned : BitVec 24) (lt : BitVec 48) (s : State) : State :=
  let s := (s.seeEpoch e).setFld STW.STATE 11 8 stw.toNat
  let s := { s with stw := { s.stw with partnerMode := mode, partnerOwn := owned, partnerLt := lt } }
  if s.pairState = 3 ∨ s.pairState = 4 then ((s.setPairState 2).sendOwned).raiseEvt pgSTW 2 else s

/-- The HEARTBEAT that the device sends (R288). -/
def heartbeatFrame (s : State) : List Word :=
  let lt := lt48 s.t16
  [1, s.rd MIG.EPOCHNEXT, BitVec.ofNat 32 (s.pairState + s.sysMode * 16 + s.fld STW.OWN 23 0 * 256),
   lt.setWidth 32, (lt >>> 32).setWidth 32]

/-- The stairwell goes down (R289, R292). -/
def stairwellDown (alive : Byte) (s : State) : State :=
  if s.pairState ≠ 1 ∧ s.pairState ≠ 2 then s
  else
    let s := s.wr STW.RINGSEEN (alive.setWidth 32)
    let s := if s.busyOp STW.HOSTA = true ∧ s.isPast STW.HOSTA = false then
        (opEnd pgSTW STW.HOSTA .rejState s).dropHandover else s
    if alive = 0 then s else ((s.setPairState 3).raiseFlt pgSTW 16).raiseEvt pgSTW 1

/-- No ring shows the partner (R289). -/
def partnerSilent (s : State) : State :=
  if s.pairState = 0 ∨ s.pairState = 4 then s
  else ((s.wr STW.RINGSEEN 0).setPairState 4).raiseFlt pgSTW 17

/-- DRIFT.N consecutive failed comparisons of one bridge (R286). -/
def driftResync (b : Nat) (s : State) : State :=
  let a := s.brgAxis b
  let n := Tab.get 0 s.stw.drift b
  if s.bit STW.OWN a then ((s.count STW.TOVCNT 31 16).raiseFlt pgSTW 21).sendState b
  else if s.bit STW.SHADOW a = true ∧ s.fld STW.DRIFT 23 16 ≤ n then
    let s := { s with stw := { s.stw with drift := Tab.put s.stw.drift b 0, hits := Tab.put s.stw.hits b 0 } }
    (s.count STW.TOVCNT 31 16).raiseFlt pgSTW 21
  else s

/-- A STATE frame writes a shadow gallery (R285, R288). -/
def stateFrame (b : Nat) (coef : Bool) (off : Nat) (data : List Word64) (s : State) : State :=
  let g := s.brgGal b
  let size := if coef then 4096 else Nat.min (s.num (GAL.STATELEN g)) (s.stateCap g)
  if (s.slotRun g (s.brgSlot b)).shadow = true ∧ off % 8 = 0 ∧ off + 8 * data.length ≤ size then
    s.storeWords (galBase g + (if coef then 0x3F000 else s.num (GAL.STATEBASE g)) + off)
      (data.flatMap fun d => [loWord d, hiWord d])
  else s

/-- A mirrored setpoint unit (R287). -/
def mirrorSp (u : List Word) (s : State) : State :=
  let a := wfld (u.getD 1 0) 4 0
  match s.axisLead a with
  | some b => if s.bit STW.SHADOW a then s.setpointArrive (s.brgGal b) 0 u else s
  | none => s

end State

/-- MCTL_START (R277-R279). -/
def execMctlStart (s : State) : Host.Outcome State Fault Refusal := .next s.migStart

/-- MCTL_ABORT (R281). -/
def execMctlAbort (s : State) : Host.Outcome State Fault Refusal := .next s.migAbort

/-- MIGRATION_COPY (R278, R279). -/
def execMigrationCopy (s : State) : Host.Outcome State Fault Refusal := .next s.migrationCopy

/-- MIGRATION_RELEASE (R278). -/
def execMigrationRelease (s : State) : Host.Outcome State Fault Refusal := .next s.migrationRelease

/-- GALLERY_DEAD (R282). -/
def execGalleryDead (g : Nat) (s : State) : Host.Outcome State Fault Refusal :=
  onUnit (decide (g < s.variant.galleries)) (s.galleryDead g)

/-- EMERGENCY_MIGRATION (R282-R284). -/
def execEmergencyMigration (g : Nat) (s : State) : Host.Outcome State Fault Refusal :=
  onUnit (decide (g < s.variant.galleries)) (s.emergency g)

/-- MIG_TCTL_START (R296). -/
def execMigTctlStart (s : State) : Host.Outcome State Fault Refusal := .next s.migTestStart

/-- MIG_TCTL_ABORT (R296): the gallery returns to SPARE. -/
def execMigTctlAbort (s : State) : Host.Outcome State Fault Refusal :=
  .next (s.opAbort pgMIG MIG.TSTA (fun s => s.toSpare s.mig.testing))

/-- GALLERY_TEST_DONE (R296). -/
def execGalleryTestDone (lbist mbist : Bool) (firstBad : BitVec 4) (s : State) : Host.Outcome State Fault Refusal :=
  .next (s.galleryTestDone lbist mbist firstBad.toNat)

/-- SCTL_START (R285). -/
def execSctlStart (partnerOwn : BitVec 24) (verAgree : Bool) (s : State) : Host.Outcome State Fault Refusal :=
  .next (s.pairStart partnerOwn verAgree)

/-- SCTL_STOP (R298). -/
def execSctlStop (s : State) : Host.Outcome State Fault Refusal := .next s.pairStop

/-- SCTL_HANDOVER (R292). -/
def execSctlHandover (s : State) : Host.Outcome State Fault Refusal := .next s.handover

/-- SCTL_ABORT (R292). -/
def execSctlAbort (s : State) : Host.Outcome State Fault Refusal := .next s.pairAbort

/-- SCTL_RESYNC (R298). -/
def execSctlResync (s : State) : Host.Outcome State Fault Refusal :=
  .next (if s.pairState = 2 then s.sendOwned else s.refuseWrite pgSTW)

/-- STATE_COPY_DONE (R285, R298). -/
def execStateCopyDone (s : State) : Host.Outcome State Fault Refusal := .next s.stateCopyDone

/-- HEARTBEAT (R275, R288, R289). -/
def execHeartbeat (epoch : BitVec 32) (stw mode : BitVec 4) (owned : BitVec 24) (lt : BitVec 48) (s : State) :
    Host.Outcome State Fault Refusal := .next (s.heartbeat epoch stw mode owned lt)

/-- HEARTBEAT_SEND (R288). -/
def execHeartbeatSend (s : State) : Host.Outcome State Fault Refusal :=
  .next (if s.pairState = 0 then s else s.stwSend s.heartbeatFrame)

/-- MIRROR_SP (R287). -/
def execMirrorSp (u : List (BitVec 32)) (s : State) : Host.Outcome State Fault Refusal := .next (s.mirrorSp u)

/-- STATE_FRAME (R285, R288). -/
def execStateFrame (b : Nat) (coef : Bool) (off : Nat) (_tread : BitVec 32) (data : List (BitVec 64)) (s : State) :
    Host.Outcome State Fault Refusal :=
  onUnit (s.hasBrg b) (s.stateFrame b coef off data)

/-- EPOCH_FRAME (R275). -/
def execEpochFrame (epoch : BitVec 32) (s : State) : Host.Outcome State Fault Refusal := .next (s.seeEpoch epoch)

/-- HO_REQ (R292). -/
def execHoReq (axes switch : BitVec 24) (s : State) : Host.Outcome State Fault Refusal := .next (s.hoReq axes switch)

/-- HO_ACK (R292). -/
def execHoAck (axes : BitVec 24) (accepted : Bool) (epoch : BitVec 32) (s : State) : Host.Outcome State Fault Refusal :=
  .next (s.hoAck axes accepted epoch)

/-- STAIRWELL_DOWN (R289). -/
def execStairwellDown (alive : BitVec 8) (s : State) : Host.Outcome State Fault Refusal := .next (s.stairwellDown alive)

/-- PARTNER_SILENT (R289). -/
def execPartnerSilent (s : State) : Host.Outcome State Fault Refusal := .next s.partnerSilent

/-- DRIFT_RESYNC (R286). -/
def execDriftResync (b : Nat) (s : State) : Host.Outcome State Fault Refusal := onUnit (s.hasBrg b) (s.driftResync b)

/-- BRIDGE_TREAD (R124, R217, R227, R292). -/
def execBridgeTread (b : Nat) (s : State) : Host.Outcome State Fault Refusal :=
  onUnit (s.hasBrg b) (((s.bridgeTread b).handTread b).noteTread b)

end Sys2Proof.Machine
end

