-- ==== Sys2Proof/Machine/Nvm.lean ====
section
/-!
DEFINITION. Mailbox calls' frame (R309-R311), the eMRAM: commit units, change log, recorder flush units, wear and
interruption (R342-R351, R379, R442, R443), the scrubber, bank retirement and error injection (R334-R338, R352).
-/
namespace Sys2Proof.Machine

/-- A register address holds RWS fields (R375). -/
def isRws (a : Nat) : Bool :=
  match pageOf (a / 0x1000) with
  | some (k, _) => match findRow k.rows (a % 0x1000) with
    | some (r, _) => r.bits.any fun b => decide (b.1 = .rws)
    | none => false
  | none => false

namespace State

/-! ### Mailbox pages (R309, R310) -/

/-- A word of core `k`'s mailbox page. -/
def mbx (s : State) (k off : Nat) : Word := BitVec.ofNat 32 (ofLeBytes (s.bytes (mbxBase k + off) 4))

def putMbx (k off : Nat) (v : Word) (s : State) : State := s.putBytes (mbxBase k + off) (leBytes 4 v.toNat)

/-- PHASE in MSTAT. -/
def callPhase (s : State) (k : Nat) : Nat := wfld (s.mbx k 8) 9 8

/-- A call runs on core `k`. -/
def callRuns (s : State) (k : Nat) : Bool := s.callPhase k = 1 || s.callPhase k = 2

/-- A call ends (R310, R311): results, MSTAT, the NEWEL page's counts, event and common FLT bits. -/
def callEnd (k : Nat) (c : Code) (ret : List Byte) (s : State) : State :=
  let s := (s.putBytes (mbxBase k + 0x40) ret).putMbx k 12 (BitVec.ofNat 32 ret.length)
  let s := s.putMbx k 8 (wset (s.mbx k 8) 9 0 (0x300 + c.num))
  let s := (s.setBit NEWEL.MBXSTA k false).count NEWEL.CALLCNT 31 0
  let s := match c with
    | .rejLength => s.raiseFlt pgNEWEL 1
    | .rejLock => s.raiseFlt pgNEWEL 6
    | .abortLate => s.raiseFlt pgNEWEL 8
    | _ => s
  s.raiseEvt pgNEWEL 0

/-- A CALL write of core `k` (R309, R310): refused while a call runs; the length rule on ARGLEN; else the call's own
work, which ends it or leaves it running. -/
def call (k code seq arglen cap : Nat) (body : State → State) (s : State) : State :=
  if s.callRuns k then s.putMbx k 20 (BitVec.ofNat 32 (Code.rejState.num + seq * 65536))
  else
    let s := (s.putMbx k 0 (BitVec.ofNat 32 (code + seq * 65536))).putMbx k 4 (BitVec.ofNat 32 arglen)
    let s := (s.putMbx k 8 (BitVec.ofNat 32 (0x200 + seq * 65536))).setBit NEWEL.MBXSTA k true
    if arglen > cap then s.callEnd k .rejLength []
    else if arglen = 0 ∧ cap ≠ 0 then s.callEnd k .done []
    else body s

/-! ### Sectors (R342, R346, R349-R351) -/

/-- The physical sector of a logical one. -/
def physOf (s : State) (l : Nat) : Nat := Tab.get l s.nvm.map l

/-- The address of byte `o` of a logical sector. -/
def sectAddr (s : State) (l o : Nat) : Nat := emramBase + s.physOf l * 4096 + o

/-- The flush area's logical sectors in use, in ring order (R350). -/
def flushRing (s : State) : List Nat := (List.range 3020).filter fun i => !s.nvm.dropped.contains i

/-- NVM.HEALTH.LEVEL (R351). -/
def healthLevel (s : State) : Nat :=
  if 128 - s.nvm.spares ≤ 8 then 3
  else if s.nvm.retired ≠ [] then 2
  else if s.fld NVM.RETRY 15 0 ≥ 64 ∨ s.num NVM.WEARMAX ≥ 800000 then 1 else 0

/-- HEALTH after a change (R351, R357). -/
def health (s : State) : State :=
  let old := s.fld NVM.HEALTH 9 8
  let new := s.healthLevel
  let life := 100 * (s.rd64 NVM.REMAIN).toNat / 3020000000
  let s := (s.setFld NVM.HEALTH 7 0 life).setFld NVM.HEALTH 9 8 new
  if new > old then s.raiseEvt pgNVM 2 else s

/-- One write of a logical sector (R349, R351). -/
def wear (l : Nat) (s : State) : State :=
  let p := s.physOf l
  let n := Tab.get 0 s.nvm.writes p + 1
  let s := { s with nvm := { s.nvm with writes := Tab.put s.nvm.writes p n } }
  let s := s.keepMax NVM.WEARMAX 31 0 n
  if 0x3B4 ≤ l ∧ l < 0xF80 ∧ n ≤ 1000000 then s.wr64 NVM.REMAIN (s.rd64 NVM.REMAIN - 1) else s

/-- The retries and the time of a unit (R344, R349, R356). -/
def unitStats (l retries us16 : Nat) (s : State) : State :=
  let n := s.nvm
  let rs := (retries :: n.retries).take 1024
  let s := { s with nvm := { n with retries := rs, units := n.units + 1, time := n.time + us16,
                                    lastRetry := Tab.put n.lastRetry (s.physOf l) retries } }
  let s := s.setFld NVM.RETRY 15 0 (Nat.min 0xFFFF (rs.foldl (· + ·) 0 * 256 / rs.length))
  let s := s.keepMax NVM.RETRY 31 16 retries
  let s := s.keepMax NVM.CTIME 15 0 (us16 / 16)
  let s := s.setFld NVM.CTIME 31 16 (Nat.min 0xFFFF (s.nvm.time / s.nvm.units))
  if retries > 0 then s.raiseFlt pgNVM 16 else s

/-- A sector that fails verify is retired (R346, R350): its contents move to a spare; none where no spare is left. -/
def retireSector (l : Nat) (s : State) : Option State :=
  let n := s.nvm
  if n.spares ≥ 128 then none
  else
    let old := s.physOf l
    let new := 0xF80 + n.spares
    let keep := s.bytes (emramBase + old * 4096) 4096
    let s := s.storeWords (emramBase + new * 4096) (leWords 1024 keep)
    let s := { s with nvm := { s.nvm with map := Tab.put n.map l new, spares := n.spares + 1, retired := old :: n.retired } }
    let s := s.wr NVM.RETIRED (BitVec.ofNat 32 (s.nvm.retired.length % 4096 + (128 - s.nvm.spares) * 65536))
    some ((s.raiseFlt pgNVM 17).raiseEvt pgNVM 1)

/-! ### The change log (R379) -/

/-- The safety configuration as its registers hold it (R375). -/
def safetyConfig (s : State) : List (Nat × Word) := s.regs.filter fun e => isRws e.1

/-- The safety configuration that a commit makes (R375). -/
def editedConfig (s : State) (ws : List (Nat × Word)) : List (Nat × Word) :=
  (ws.foldl (fun s e => s.wr e.1 e.2) s).safetyConfig

/-- The eight words of a digest, as stored. -/
def digestWords (d : BitVec 256) : List Word := (List.range 8).map fun i => (d >>> (32 * i)).setWidth 32

/-- Place of change-log entry `n` (R342, R379). -/
def logAddr (s : State) (n : Nat) : Nat := s.sectAddr (0x350 + n % 1024 / 16) (n % 16 * 256)

/-- An entry's words with its CRC. -/
def withCrc (ws : List Word) : List Word := ws ++ [crc32 (bytesOf ws)]

/-- A new change-log entry (R379). -/
def logAppend (state kind user req genAfter changed : Nat) (before after : BitVec 256) (comment : List Byte) (s : State) :
    State :=
  let n := s.nvm.logEntries + 1
  let ws := [BitVec.ofNat 32 n, BitVec.ofNat 32 (state + kind * 16)] ++ s.stampWords ++
    [s.rd SYS.OPTIME, s.rd (SYS.OPTIME + 4) &&& 0xFFFF, s.rd SYS.PCYCLE, BitVec.ofNat 32 (user + req * 65536),
     s.rd BAL1.GEN, BitVec.ofNat 32 genAfter] ++ digestWords before ++ digestWords after ++
    [BitVec.ofNat 32 (changed + comment.length * 65536)] ++ leWords 32 (comment.take 128) ++ [0, 0]
  let s := s.storeWords (s.logAddr n) (withCrc ws)
  let s := { s with nvm := { s.nvm with logEntries := n } }
  let s := (s.wr BAL1.LOGSEQ (BitVec.ofNat 32 n)).setFld BAL1.LOGSTA 9 0 (n % 1024)
  s.setFld BAL1.LOGSTA 31 16 (Nat.min 0xFFFF (n - 1024))

/-- The newest entry marked COMPLETE (2) or INTERRUPTED (3) (R347, R379). -/
def logMark (state cause : Nat) (s : State) : State :=
  let a := s.logAddr s.nvm.logEntries
  let ws := leWords 64 (s.bytes a 256)
  let head := wset (wset (ws.getD 1 0) 1 0 state) 11 8 cause
  s.storeWords a (withCrc ((ws.take 63).set 1 head))

/-! ### Flush units (R442, R443) -/

/-- The `i`-th oldest record of the ring that is not flushed, if its line is good (R330). -/
def ringRecord (i : Nat) (s : State) : Option (List Byte) × State :=
  let cap := s.num REC.RSIZE / 64
  let at_ := (s.num REC.RWR / 64 + cap - s.recd.unflushed + i) % cap
  s.readBytes (mezzBase + s.num REC.RBASE + at_ * 64) 64 45 false

/-- One flush unit: the oldest records not flushed into the next sector of the ring (R442, R443). -/
def flushUnit (l : Nat) (s : State) : State :=
  let n := Nat.min 63 s.recd.unflushed
  let h := Nat.min (63 - n) (s.recd.held.length - s.recd.heldFlushed)
  let z := (List.range n).foldl (fun (z : List (List Word) × State) i =>
    match z.2.ringRecord i with
    | (some bs, s) => (z.1 ++ [leWords 16 bs], s)
    | (none, s) => (z.1, s.count REC.LOST 31 0)) ([], s)
  let recs := z.1 ++ (s.recd.held.drop s.recd.heldFlushed).take h
  let s := z.2
  let head := [0x4C46424D, s.nvm.flushSeq, (recs.head?.bind (·[1]?)).getD 0,
      BitVec.ofNat 32 (recs.length + s.recd.flushCause * 256)] ++ s.stampWords ++
    [s.rd SYS.OPTIME, s.rd (SYS.OPTIME + 4) &&& 0xFFFF, s.rd SYS.PCYCLE, 0, 0, 0, 0]
  let ws := (withCrc head ++ recs.flatten ++ List.replicate 1024 0).take 1024
  let s := s.storeWords (s.sectAddr l 0) ws
  let s := s.wr REC.FLUNIT s.nvm.flushSeq
  { s with
    nvm := { s.nvm with flushSeq := s.nvm.flushSeq + 1, flushNext := s.nvm.flushNext + 1 },
    recd := { s.recd with unflushed := s.recd.unflushed - n, heldFlushed := s.recd.heldFlushed + h } }

/-! ### Commits (R344-R347) -/

/-- The logical sector that unit `i` of a commit writes (R342, R345). -/
def unitSector (s : State) (c : Commit) (i : Nat) : Nat :=
  match c.kind with
  | 2 =>
    if i = 0 ∨ i = 97 then 0x350 + (s.nvm.logEntries + b01 (decide (i = 0))) % 1024 / 16
    else if i ≤ 32 then 0x390 + (i - 1)
    else if i ≤ 64 then 0x310 + (i - 33)
    else 0x330 + (i - 65)
  | 5 => 0x3B4 + (s.flushRing.getD (s.nvm.flushNext % Nat.max 1 s.flushRing.length) 0)
  | _ => match c.act with
    | .password _ _ => 0x200
    | _ => 0x201

/-- The generation that a safety commit makes, and the digests before and after it. -/
def safetyDigests (s : State) : BitVec 256 × BitVec 256 :=
  (Config.safetyDigest s.safetyConfig, Config.safetyDigest (s.editedConfig (s.bal.committing.getD [])))

/-- How many RWS registers the edits change (R379). -/
def changedCount (s : State) (ws : List (Nat × Word)) : Nat := (ws.filter fun e => decide (s.rd e.1 ≠ e.2)).length

/-- The effect of a unit of a safety commit on the change log (R345). -/
def safetyUnit (c : Commit) (s : State) : State :=
  match c.act with
  | .safety user comment =>
    let d := s.safetyDigests
    if c.done = 0 then
      s.logAppend 1 2 user.toNat (c.core.getD 0 + 1) (s.num BAL1.GEN + 1) (s.changedCount (s.bal.committing.getD [])) d.1 d.2
        comment
    else if c.done = 97 then s.logMark 2 0
    else s
  | _ => s

/-- A commit's effect at its completion instant (R307, R311, R345, R377, R378). -/
def commitAct (c : Commit) (s : State) : State :=
  match c.act with
  | .nothing => s
  | .activate setB tries =>
    { s with newel := { s.newel with preferred := setB, trial := true, tries := tries } }.raiseEvt pgNEWEL 2
  | .confirm =>
    let svn := if s.bit NEWEL.BOOTSTA 4 then s.newel.svnB else s.newel.svnA
    let s := s.keepMax NEWEL.SVNMIN 31 0 svn.toNat
    { s.setBit NEWEL.BOOTSTA 5 false with newel := { s.newel with trial := false } }
  | .safety _ _ =>
    let d := s.safetyDigests
    let s := (s.wr BAL1.GEN (s.rd BAL1.GEN + 1)).wr BAL1.SIGNOW (d.2.setWidth 32)
    let s := { s with bal := { s.bal with committed := true } }
    s.raiseEvt pgBAL1 2
  | .password salt hash =>
    let s := { s with nvm := { s.nvm with salt := salt, hash := hash } }
    let s := s.logAppend 2 3 0 (c.core.getD 0 + 1) (s.num BAL1.GEN) 0 s.safetyDigests.1 s.safetyDigests.1 []
    s.setBit BAL1.GATE 2 true

/-- The end of a flush (R442, R455, R483): FSTA; after a power-fail flush PWR's report, and SAFE-HOLD on a hold-up
supply. -/
def flushEnd (c : Code) (s : State) : State :=
  let s := (opEnd pgREC REC.FSTA c s).setBit REC.RSTA 1 false
  let s := if c = Code.done then s.raiseEvt pgREC 0 else s.raiseFlt pgREC 18
  if s.recd.flushCause = 2 ∧ c = Code.done then
    let s := (s.setBit PWR.SWLAST 24 true).raiseEvt pgPWR 3
    if s.bit PWR.PWRCFG 0 then s.autoMode 7 4 else s
  else s

/-- The first commit of the queue ends, and the next begins (R345). -/
def commitEnd (c : Code) (s : State) : State :=
  match s.commits with
  | [] => s
  | x :: rest =>
    let s := { opEnd pgNVM NVM.CSTA c s with commits := rest }
    let s := if c = Code.done then s.raiseEvt pgNVM 0 else s
    let s := match x.act with
      | .safety _ _ =>
        if c = Code.done then s
        else { s with bal := { s.bal with committing := none } }.logMark 3 (x.stopping.getD 0)
      | _ => s
    let s := match x.core with
      | some k => s.callEnd k c []
      | none => s
    let s := match x.act with
      | .safety _ _ => if c = Code.done then s.gateClose else s
      | _ => s
    let s := if x.kind = 5 then s.flushEnd c else s
    match s.commits with
    | [] => s
    | y :: _ => s.wr NVM.CSTA (BitVec.ofNat 32 (0x200 + y.kind * 4096))

/-- A commit that an event cuts short is remembered for the next start (R346, R347). -/
def noteCut (x : Commit) (cause : Nat) (s : State) : State :=
  { s with nvm := { s.nvm with cut := some (x.kind, x.done, cause) } }

/-- No commit starts another unit (R346): those that wait end at once, the one in progress at the end of its unit. -/
def commitsStop (cause : Nat) (s : State) : State :=
  match s.commits with
  | [] => s
  | x :: rest =>
    let s := { s with commits := [{ x with stopping := some cause }] }
    rest.foldl (fun s y =>
      let s := match y.core with
        | some k => s.callEnd k .aborted []
        | none => s
      if y.kind = 5 then s.flushEnd .aborted else s) s

/-- A unit of the first commit is complete (R344-R346, R349, R350). -/
def unitComplete (retries : Nat) (verifyFails : Bool) (us16 : Nat) (s : State) : State :=
  match s.commits with
  | [] => s
  | x :: _ =>
    let l := s.unitSector x x.done
    let s := s.unitStats l retries us16
    if verifyFails then
      match s.retireSector l with
      | some s => s
      | none =>
        let s := s.raiseFlt pgNVM 18
        if x.kind = 5 then { s with nvm := { s.nvm with dropped := (l - 0x3B4) :: s.nvm.dropped } }
        else
          let s := if x.kind ≠ 2 then s
            else if x.done ≤ 32 ∨ x.done = 97 then s
            else s.setBit NVM.NSTA (if x.done ≤ 64 then 2 else 3) false
          s.commitEnd .failEcc
    else
      let s := if x.kind = 5 then s.flushUnit l else s.safetyUnit x
      let s := if x.kind = 5 then s.wear l
        else
          let j := s.num NVM.JSEQ
          let s := s.wr NVM.JSEQ (BitVec.ofNat 32 (j + 1))
          (((s.wear (0x3B0 + j % 2)).wear (0x3B2 + j % 2)).wear (0x3B2 + j % 2)).wear l
      let s := s.health
      let x := { x with done := x.done + 1 }
      let s := { s with commits := x :: s.commits.drop 1 }
      let s := s.setFld NVM.CSTA 31 16 x.done
      let beyond : Bool := if x.kind = 5 then
          decide (s.unflushedCount = 0 ∨ (x.done ≥ x.units ∧ (s.recd.flushMore = false ∨ s.recd.flushCause = 2)))
        else decide (x.done ≥ x.units)
      match x.stopping with
      | some cause =>
        if beyond = true ∧ cause ≠ 0 then (s.commitAct x).commitEnd .done
        else
          let s := if cause = 0 then s else s.noteCut x cause
          let s := if cause = 2 then s.raiseFlt pgNVM 21 else s
          s.commitEnd .aborted
      | none => if beyond then (s.commitAct x).commitEnd .done else s

/-- An abort of the call of core `k` (R310, R345, R346): a commit that has begun stops at its unit's end. -/
def callAbort (k : Nat) (s : State) : State :=
  match s.callPhase k with
  | 0 => s
  | 3 => s.raiseFlt pgNEWEL 8
  | _ =>
    match s.commits with
    | [] => s.callEnd k .aborted []
    | x :: rest =>
      if x.core = some k then { s with commits := { x with stopping := some 0 } :: rest }
      else { s with commits := x :: rest.filter fun y => decide (y.core ≠ some k) }.callEnd k .aborted []

/-- A call exceeds its time bound (R310): it ends TIMEOUT, and its commit stops. -/
def callTimeout (k : Nat) (s : State) : State :=
  if s.callRuns k = false then s
  else
    let cs := match s.commits with
      | [] => []
      | x :: rest =>
        (if x.core = some k then { x with core := none, stopping := some 0 } else x)
          :: rest.filter fun y => decide (y.core ≠ some k)
    { s with commits := cs }.callEnd k .timeout []

/-! ### The scrubber (R334-R336, R348) -/

/-- The size of a space (R334). -/
def spaceSize (s : State) (sp : Nat) : Nat :=
  match sp with
  | 0 => mezzSize
  | 1 => (s.rd64 DRAM.USABLE).toNat
  | 2 => 0x30000
  | 3 => 0x10000
  | 4 => 0x8000
  | _ => 0x1000000

/-- The logical sector that lies at a physical one. -/
def logicalOf (s : State) (p : Nat) : Nat :=
  match s.nvm.map.find? fun e => decide (e.2 = p) with
  | some e => e.1
  | none => p

/-- An uncorrectable word of eMRAM (R348). -/
def emramBad (a : Nat) (s : State) : State :=
  let l := s.logicalOf ((a - emramBase) / 4096)
  let s := if l < 0x100 then s.setBit NVM.NSTA 4 false
    else if l < 0x200 then s.setBit NVM.NSTA 5 false
    else if 0x210 ≤ l ∧ l < 0x290 then (s.setBit NVM.NSTA 0 false).setBit NVM.NSTA 6 true
    else if 0x290 ≤ l ∧ l < 0x310 then (s.setBit NVM.NSTA 1 false).setBit NVM.NSTA 6 true
    else if 0x310 ≤ l ∧ l < 0x330 then (s.setBit NVM.NSTA 2 false).setBit NVM.NSTA 6 true
    else if 0x330 ≤ l ∧ l < 0x350 then (s.setBit NVM.NSTA 3 false).setBit NVM.NSTA 6 true
    else if 0x3B4 ≤ l ∧ l < 0xF80 then
      s.count REC.LOST 31 0 (wfld (BitVec.ofNat 32 (ofLeBytes (s.bytes (s.sectAddr l 12) 4))) 5 0)
    else s
  s.raiseFlt pgNVM 20

/-- One word checked by the scrubber (R335). -/
def scrubWord (sp base w : Nat) (z : List (Nat × Bool) × State) : List (Nat × Bool) × State :=
  let s := z.2
  let rel := w * 8 - base
  match classify (s.syn w) with
  | .good => z
  | .correctable b =>
    let d := match b with
      | some i => s.word64 w ^^^ BitVec.ofNat 64 (2 ^ i)
      | none => s.word64 w
    let s := s.noteCe w
    let s := if sp = 3 then s else s.fixWord w d
    let s := if sp = 5 then s.wear (s.logicalOf ((w * 8 - emramBase) / 4096)) else s
    (z.1 ++ [(rel, false)], s)
  | .uncorrectable =>
    let s := s.noteUe w 43
    (z.1 ++ [(rel, true)], if sp = 5 then s.emramBad (w * 8) else s)

/-- `n` words from word `w` up. -/
def scrubWords (sp base : Nat) : (n w : Nat) → List (Nat × Bool) × State → List (Nat × Bool) × State
  | 0, _, z => z
  | n + 1, w, z => scrubWords sp base n (w + 1) (scrubWord sp base w z)

/-- The summary over the errors below an address (R336). -/
def scrubSummary (l : List (Nat × Bool)) (s : State) : State :=
  let ce := (l.filter fun e => !e.2).length
  let ue := (l.filter fun e => e.2).length
  let s := s.wr MEM.SCRCNT (BitVec.ofNat 32 (Nat.min 0xFFFF ce + Nat.min 0xFFFF ue * 65536))
  let s := match l.head? with
    | some e => s.wr64 MEM.SCRFIRST (BitVec.ofNat 64 e.1)
    | none => s
  match l.getLast? with
  | some e => s.wr64 MEM.SCRLAST (BitVec.ofNat 64 e.1)
  | none => s

/-- SCRCTL.START (R334-R336): the pass meets the words in the state that this step finds. -/
def scrubStart (s : State) : State :=
  let sp := s.fld MEM.SCRCFG 2 0
  let g := s.fld MEM.SCRCFG 12 8
  let base := (s.rd64 MEM.SCRBASE).toNat / 64 * 64
  let len := (s.rd64 MEM.SCRLEN).toNat / 64 * 64
  if s.busyOp MEM.SCRSTA then s.refuseWrite pgMEM
  else if s.offView pgMEM = true ∨ sp ≥ 6 ∨ (2 ≤ sp ∧ sp ≤ 4 ∧ g ≥ s.variant.galleries) then opEnd pgMEM MEM.SCRSTA .rejState s
  else if s.rd64 MEM.SCRLEN = BitVec.allOnes 64 ∨ len + base > s.spaceSize sp ∧ len ≠ 0 then
    opEnd pgMEM MEM.SCRSTA .rejLength s
  else
    let s := ((s.wr MEM.SCRCNT 0).wr64 MEM.SCRFIRST 0).wr64 MEM.SCRLAST 0
    if len = 0 then opEnd pgMEM MEM.SCRSTA .done s
    else
      let a := spaceAddr sp g base
      let z := scrubWords sp (spaceAddr sp g 0) (len / 8) (a / 8) ([], s)
      { z.2.opPhase MEM.SCRSTA 2 with memOps := { z.2.memOps with found := z.1, scrubAt := z.2.t16 } }

/-- The last line is checked (R336). -/
def scrubEnd (s : State) : State :=
  if s.busyOp MEM.SCRSTA = false then s
  else
    let l := s.memOps.found
    let s := (opEnd pgMEM MEM.SCRSTA .done (s.scrubSummary l)).raiseEvt pgMEM 0
    if l.any (·.2) then s.raiseFlt pgMEM 16 else s

/-- SCRCTL.ABORT (R335, R336): the summary covers the lines that RATE has let the pass check. -/
def scrubAbort (s : State) : State :=
  let lines := (s.t16 - s.memOps.scrubAt) * s.fld MEM.SCRCFG 23 16 / 16000
  let top := (s.rd64 MEM.SCRBASE).toNat / 64 * 64 + lines * 64
  let l := s.memOps.found.filter fun e => decide (e.1 < top)
  let was := s.busyOp MEM.SCRSTA
  let s := s.opAbort pgMEM MEM.SCRSTA (scrubSummary l)
  if was then
    let s := s.raiseEvt pgMEM 0
    if l.any (·.2) then s.raiseFlt pgMEM 16 else s
  else s

/-! ### Bank retirement (R337, R338) -/

/-- The lowest physical bank that no logical bank uses and that is not retired. -/
def spareBank (s : State) : Option Nat :=
  (List.range 26).find? fun p => !s.bit MEM.BANKSTA p
    && (List.range 24).all fun l => decide (s.fld (MEM.BANKMAP l) 4 0 ≠ p)

/-- A retirement of a logical bank starts, or is refused (R337). -/
def retireBank (l : Nat) (s : State) : State :=
  if s.memOps.retire.isSome ∨ l ≥ 24 then opEnd pgMEM MEM.RETSTA .rejState s
  else match s.spareBank with
    | none => (opEnd pgMEM MEM.RETSTA .rejState s).raiseFlt pgMEM 17
    | some p => { s.opPhase MEM.RETSTA 2 with memOps := { s.memOps with retire := some (l, p) } }

/-- The words of a logical bank as its copy holds them: corrected, or poisoned (R329, R337). -/
def recodeBank (l : Nat) (s : State) : State :=
  s.ecc.foldl (fun s e =>
    if l * 0x40000 ≤ e.1 ∧ e.1 < (l + 1) * 0x40000 then
      match classify (s.syn e.1) with
      | .good => s
      | .correctable (some i) => (s.noteCe e.1).fixWord e.1 (s.word64 e.1 ^^^ BitVec.ofNat 64 (2 ^ i))
      | .correctable none => (s.noteCe e.1).putSyn e.1 0
      | .uncorrectable => (s.noteUe e.1 44).poisonWord e.1
    else s) s

/-- The map entry is written (R337, R338). -/
def bankMapWrite (s : State) : State :=
  match s.memOps.retire with
  | none => s
  | some (l, p) =>
    let s := s.recodeBank l
    let old := s.fld (MEM.BANKMAP l) 4 0
    let s := (s.wr (MEM.BANKMAP l) (BitVec.ofNat 32 p)).setBit MEM.BANKSTA old true
    let s := s.setFld MEM.BANKSTA 29 28 (s.fld MEM.BANKSTA 29 28 - 1)
    let s := { s with memOps := { s.memOps with retire := none } }
    ((opEnd pgMEM MEM.RETSTA .done s).raiseFlt pgMEM 18).raiseEvt pgMEM 1

/-- RETCTL.ABORT (R337). -/
def retireAbort (s : State) : State :=
  s.opAbort pgMEM MEM.RETSTA fun s => { s with memOps := { s.memOps with retire := none } }

/-- A physical bank's correctable count reaches THR (R338). -/
def autoRetire (p : Nat) (s : State) : State :=
  let thr := s.fld MEM.RETCFG 15 8
  match (List.range 24).find? fun l => decide (s.fld (MEM.BANKMAP l) 4 0 = p) with
  | some l =>
    if s.bit MEM.RETCFG 0 = true ∧ thr ≠ 0 ∧ thr ≤ s.fld (MEM.BANKCE p) 15 0 ∧ s.memOps.retire.isNone then s.retireBank l
    else s
  | none => s

/-- A write of INJCFG with ARM (R352). -/
def injectArm (v : Word) (s : State) : State :=
  let sp := wfld v 10 8
  if s.sysMode ≠ 6 ∨ sp ≥ 6 ∨ (2 ≤ sp ∧ sp ≤ 4 ∧ wfld v 15 11 ≥ s.variant.galleries) then
    (s.refuseWrite pgMEM).raiseFlt pgMEM 19
  else cfgWr pgMEM MEM.INJCFG ((v &&& 0xFFFF) ||| 0x10000) s

/-- The invalid configuration copies are rewritten from the valid ones (R347, R348). -/
def copyRewrite (s : State) : State :=
  if s.bit NVM.NSTA 6 = false then s
  else
    let s := if s.fld NVM.NSTA 1 0 ≠ 0 then s.setFld NVM.NSTA 1 0 3 else s
    let s := if s.fld NVM.NSTA 3 2 ≠ 0 then s.setFld NVM.NSTA 3 2 3 else s
    (s.setBit NVM.NSTA 6 false).raiseEvt pgNVM 3

end State

/-- SCRCTL_START (R334-R336). -/
def execScrctlStart (s : State) : Host.Outcome State Fault Refusal := .next s.scrubStart

/-- SCRCTL_ABORT (R336). -/
def execScrctlAbort (s : State) : Host.Outcome State Fault Refusal := .next s.scrubAbort

/-- SCRUB_PASS_END (R336). -/
def execScrubPassEnd (s : State) : Host.Outcome State Fault Refusal := .next s.scrubEnd

/-- RETCTL_START (R337). -/
def execRetctlStart (s : State) : Host.Outcome State Fault Refusal := 
  .next (if s.offView pgMEM then State.opEnd pgMEM MEM.RETSTA .rejState s else s.retireBank (s.fld MEM.RETSEL 4 0))

/-- RETCTL_ABORT (R337). -/
def execRetctlAbort (s : State) : Host.Outcome State Fault Refusal := .next s.retireAbort

/-- BANK_MAP_WRITE (R337). -/
def execBankMapWrite (s : State) : Host.Outcome State Fault Refusal := .next s.bankMapWrite

/-- AUTO_RETIREMENT (R338). -/
def execAutoRetirement (p : Nat) (s : State) : Host.Outcome State Fault Refusal :=
  onUnit (decide (p < 26)) (s.autoRetire p)

/-- INJCFG_ARM (R352). -/
def execInjcfgArm (v : BitVec 32) (s : State) : Host.Outcome State Fault Refusal := .next (s.injectArm v)

/-- UNIT_COMPLETE (R344-R346, R349-R351). -/
def execUnitComplete (retries : Nat) (verifyFails : Bool) (us : Nat) (s : State) : Host.Outcome State Fault Refusal :=
  .next (s.unitComplete retries verifyFails us)

/-- CONFIG_COPY_REWRITE (R347). -/
def execConfigCopyRewrite (s : State) : Host.Outcome State Fault Refusal := .next s.copyRewrite

/-- MABORT (R310). -/
def execMabort (core : Nat) (s : State) : Host.Outcome State Fault Refusal :=
  onUnit (decide (core < s.variant.halls)) (s.callAbort core)

/-- CALL_TIMEOUT (R310). -/
def execCallTimeout (core : Nat) (s : State) : Host.Outcome State Fault Refusal :=
  onUnit (decide (core < s.variant.halls)) (s.callTimeout core)

end Sys2Proof.Machine
end

