-- ==== Sys2Proof/Machine/Reset.lean ====
section
/-!
DEFINITION. What each kind of reset keeps and clears: function re-initialise (R54), warm reset (R80, R81), power-up (R516,
R521), wake from DORMANT (R478, R481, R521); the balustrade's restart (R358, R359, R361, R364).
-/
namespace Sys2Proof.Machine

/-- The bits of a header word that FRESET keeps: configuration, SEQ and LDISC (R51, R54, R57). -/
def headerKept (off : Nat) : Word :=
  match off with
  | 0x04 => 0x00FF0000
  | 0x0C => 0x00000031
  | 0x18 => 0xFFFFFFFF
  | 0x1C => 0xFFFF0000
  | 0x24 => 0xFFFFFFFF
  | 0x28 => 0xFFFFFFFF
  | _ => 0

/-- The configuration bits of a register word: RW and RWS (R45, R54). -/
def cfgMask (a : Nat) : Word :=
  let off := a % 0x1000
  if off < 0x40 then headerKept off
  else match pageOf (a / 0x1000) with
    | none => 0
    | some (k, _) => match findRow k.rows off with
      | none => 0
      | some (r, j) =>
        BitVec.ofNat 32 ((r.bits.foldl (fun m b => if b.1 = .rw ∨ b.1 = .rws then m ||| b.2 else m) 0) >>> (32 * j))

/-- Registers that a warm reset keeps (R81): those of the time base, the always-on domain and the balustrade (R41, R358),
what eMRAM holds, what R275 and R9 make last, and the link's state; the bank map keeps the mezzanine's words in place
(log entry 31). -/
def keptWarm (a : Nat) : Bool :=
  let p := a / 0x1000
  p = pgBAL0 || p = pgBAL1 || p = pgTIME || p = pgPWR || p = pgCLK || isRws a ||
  [SYS.MODE, SYS.OPTIME, SYS.OPTIME + 4, SYS.PCYCLE, HOST.LINK, HOST.WAKECAUSE, THM.TJMAX, THM.TSTEP, THM.SDSTA,
   NEWEL.SVNMIN, NEWEL.SETAVER, NEWEL.SETBVER, NVM.HEALTH, NVM.RETRY, NVM.RETIRED, NVM.REMAIN, NVM.REMAIN + 4, NVM.WEARMAX,
   NVM.JSEQ, MEM.BANKSTA, MIG.EPOCHNEXT, MIG.SPARES, REC.FLUNIT, REC.RSEQ].contains a ||
  (List.range 24).any (fun l => a = MEM.BANKMAP l) || (List.range 14).any (fun i => a = THM.TJ i) ||
  (List.range 64).any (fun c => a = THM.HK c)

/-- Registers that a power-up keeps: what eMRAM holds (R342, R377, R498), the epoch counter and the spare role. -/
def keptCold (a : Nat) : Bool :=
  isRws a ||
  [SYS.OPTIME, SYS.OPTIME + 4, SYS.PCYCLE, NEWEL.SVNMIN, NEWEL.SETAVER, NEWEL.SETBVER, NVM.HEALTH, NVM.RETRY, NVM.RETIRED,
   NVM.REMAIN, NVM.REMAIN + 4, NVM.WEARMAX, NVM.JSEQ, MIG.EPOCHNEXT, MIG.SPARES, REC.FLUNIT, BAL1.GATE, BAL1.GEN,
   BAL1.SIGNOW, BAL1.LOGSTA, BAL1.LOGSEQ].contains a

/-- Registers that a recovery power cycle keeps besides: the always-on domain's (R486). -/
def keptCycle (a : Nat) : Bool :=
  let p := a / 0x1000
  keptCold a || p = pgTIME || p = pgPWR || p = pgCLK || a = HOST.WAKECAUSE || a = SYS.MODE || a = THM.SDSTA

/-- Registers that a wake from DORMANT keeps whole: the always-on domain's and the host port's, and what eMRAM holds. -/
def keptWake (a : Nat) : Bool :=
  let p := a / 0x1000
  keptCycle a || p = pgHOST || p = pgSYS

namespace State

/-- Every listed register word changed, in canonical form. -/
def mapRegs (f : Nat → Word → Word) (s : State) : State :=
  { s with regs := s.regs.filterMap fun e =>
      let v := f e.1 e.2
      if v = resetWord s.variant e.1 then none else some (e.1, v) }

/-- A register word with its configuration bits kept and the others at their reset value. -/
def restartWord (s : State) (a : Nat) (w : Word) : Word :=
  (w &&& cfgMask a) ||| (resetWord s.variant a &&& ~~~ cfgMask a)

/-- FRESET on a page's registers (R54); `keep` are those that the page's chapter keeps besides. -/
def restartPage (p : Nat) (keep : Nat → Bool) (s : State) : State :=
  s.mapRegs fun a w => if a / 0x1000 = p ∧ keep a = false then s.restartWord a w else w

/-- Registers at their reset value except the kept ones. -/
def clearRegs (keep : Nat → Bool) (s : State) : State :=
  s.mapRegs fun a w => if keep a then w else resetWord s.variant a

/-- The state apart from registers that a reset of the device clears; companions and the partner are devices of their
own. -/
def clearUnits (s : State) : State :=
  let s := s.clearRange (mbxBase 0) (mbxBase 8)
  { s with
    booted := false, credits := [], pastCompletion := [],
    host := { s.host with snaps := [], timeSnaps := [], dma := [] },
    gal := [], brg := [], ring := s.ring.map (fun e => (e.1, { comps := e.2.comps })), galFault := 0, mig := {}, stw := {},
    newel := { s.newel with loaded := 0, verified := 0 }, hall := [], can := [], eth := [], vol := {},
    fio := s.fio.map (fun e => (e.1, { comps := e.2.comps })), axis := [], port := [], fbFault := 0, sdm := [], emu := [],
    route := {}, trg := [], grp := [], recd := { seq := s.recd.seq }, nodes := [], acqBytes := 0, maskStop := false,
    commits := [], memOps := {}, nvm := { s.nvm with units := 0, time := 0 } }

/-- Mezzanine and gallery memories are initialised (R521). -/
def clearSram (s : State) : State :=
  (s.clearRange mezzBase (mezzBase + mezzSize)).clearRange (galBase 0) (galBase 18)

/-- LPDDR5 contents are lost or retrained over (R341, R503, R521). -/
def loseDram (s : State) : State :=
  { s.clearRange dramBase hostBase with dramGen := s.dramGen + 1 }

/-! ### The balustrade's restart -/

/-- The balustrade restarts (R359, R361, R364): every axis in STO, guard tests pending; what it wrote at the entry to
DORMANT comes back. -/
def balRestart (valid : BitVec 2) (s : State) : State :=
  let old := s.bal
  let s := s.clearRegs fun a => decide (a / 0x1000 ≠ pgBAL0)
  let s := { s with bal := {} }
  let s := if valid = 0 then s.mapRegs (fun a w => if isRws a then resetWord s.variant a else w) else s
  let ok := decide (valid ≠ 0)
  let s := (s.setFld BAL0.BSTA 3 0 (if ok then 1 else 3)).setBit BAL0.BSTA 4 ok
  let s := s.setBit BAL0.BSTA 5 (ok && !valid.getLsbD 0)
  let s := s.setFld BAL0.INSTA 23 16 ((List.range 8).foldl (fun m k => m + b01 (s.bit (BAL1.INCFG k) 1) * 2 ^ k) 0)
  let s := old.dormViol.foldl (fun s e =>
    ((s.setBit (BAL0.AFSTA e.1) 5 true).setFld (BAL0.AFSTA e.1) 9 6 e.2).setBit BAL0.VIOLAX e.1 true) s
  match old.dormFail with
  | some c => (((s.setFld BAL0.BSTA 3 0 2).setFld BAL0.BSTA 15 8 c).raiseFlt pgBAL0 16).raiseEvt pgBAL0 5
  | none => s

/-! ### The commit that a reset meets (R346) -/

/-- The reset waits for the unit in progress; the commit goes no further. -/
def cutCommits (cause : Nat) (s : State) : State :=
  match s.commits with
  | [] => s
  | _ => (s.commitsStop cause).unitComplete 0 false 0

/-- Both supply sets are lost inside a unit (R346): it is torn. -/
def tearCommits (s : State) : State :=
  match s.commits with
  | [] => s
  | x :: _ => { s.noteCut x 3 with commits := [], nvm := { s.nvm with torn := true, cut := some (x.kind, x.done, 3) } }

end State

end Sys2Proof.Machine
end

