-- ==== Sys2Proof/Machine/Newel.lean ====
section
/-!
DEFINITION. The newel: boot chain and recovery (R304-R308, R340, R341, R347), mailbox calls other than the balustrade's
(R309-R312), the code check (R323), and the warm reset (R80, R81).
-/
namespace Sys2Proof.Machine

namespace State

/-! ### Boot (R305-R308) -/

/-- BOOTSTA's last completed step (R322). -/
def bootStep (n : Nat) (s : State) : State := s.setFld NEWEL.BOOTSTA 3 0 n

/-- eMRAM is restored during boot step 2 (R347). -/
def restoreNvm (s : State) : State :=
  let s1 := s.setBit NVM.NSTA 7 s.nvm.torn
  let s2 := match s.nvm.cut with
    | none => s1.wr NVM.LASTINT 0
    | some (k, d, c) =>
      let t := (s1.wr NVM.LASTINT (BitVec.ofNat 32 (c + k * 16 + d * 65536))).raiseFlt pgNVM 19
      if k = 2 ∧ d > 0 then t.logMark 3 c else t
  { s2 with nvm := { s2.nvm with cut := none, torn := false } }

/-- Why a set is not booted, as BOOTSTA.CAUSE codes it; 0 where it passes (R304). -/
def setCause (s : State) (x : ImageSet) : Nat :=
  if x.cause ≠ 0 then x.cause.toNat else if x.svn.toNat < s.num NEWEL.SVNMIN then 2 else 0

/-- The set in boot flash 0 or 1. -/
def pick (env : BootEnv) (b : Bool) : ImageSet := if b then env.setB else env.setA

/-- The boot record: TRIES of a trial set, or its roll-back (R307). -/
def trialStep (s : State) : State :=
  let n := s.newel
  if n.trial = false then s
  else if n.tries = 0 then
    { s with newel := { n with preferred := !n.preferred, trial := false } }.raiseFlt pgNEWEL 17
  else { s with newel := { n with tries := n.tries - 1 } }

/-- Region `j` of the firewall written (R302, R322). -/
def putRegion (j : Nat) (a : FwArgs) (s : State) : State :=
  let s := s.wr64 (NEWEL.FWR_BASE j) (a.base &&& 0xFFFFFFFFFFFFF000)
  let s := s.wr (NEWEL.FWR_SIZE j) (BitVec.ofNat 32 a.size)
  let s := s.wr (NEWEL.FWR_ATTR j)
    (BitVec.ofNat 32 (b01 a.r + b01 a.w * 2 + b01 a.x * 4 + a.space % 4 * 16 + 0x80000000))
  s.wr64 (NEWEL.FWR_MASK j) (a.mask &&& 0x7FFFFFFFFFF)

/-- An entry of the image table (R308, R322). -/
def putImage (i : Nat) (setB : Bool) (x : BootImage) (s : State) : State :=
  let s := s.wr (NEWEL.IMG i 0) x.version
  let s := s.wr (NEWEL.IMG i 1) (BitVec.ofNat 32 (x.code.length * 4))
  let s := s.wr (NEWEL.IMG i 2) (BitVec.ofNat 32 (1 + b01 setB * 256))
  let s := (s.wr (NEWEL.IMG i 3) x.digest).setBit NEWEL.IMGVALID i true
  { s with newel := { s.newel with images := Tab.put s.newel.images i x.code } }

/-- Boot step 7: gallery images, firewall defaults, policy (R303, R308). -/
def loadSet (setB : Bool) (x : ImageSet) (s : State) : State :=
  let s := s.mapRegs fun a w => if a / 0x1000 = pgNEWEL ∧ (a % 0x1000 ≥ 0x800 ∨ 0x80 ≤ a % 0x1000 ∧ a % 0x1000 < 0x180)
    then 0 else w
  let s := { s.wr NEWEL.IMGVALID 0 with newel := { s.newel with
    images := [], policy := x.policy.foldl (fun t e => Tab.put t (e.1 * 4 + e.2.1) e.2.2) [] } }
  let s := (x.images.take 16).zipIdx.foldl (fun s e => s.putImage e.2 setB e.1) s
  (x.regions.take 64).zipIdx.foldl (fun s e => s.putRegion e.2 e.1) s

/-- Boot step 5 (R339-R341): answers whether the LPDDR5 trains. -/
def trainDram (env : BootEnv) (keep : Bool) (s : State) : Bool × State :=
  if env.ch0Up ∧ env.ch1Up ∧ 1 ≤ env.trainTries ∧ env.trainTries ≤ 3 then
    let r := env.trainTries - 1
    let s := s.wr DRAM.DSTA (BitVec.ofNat 32 (7 + r * 16 + b01 (decide (r ≠ 0)) * 64 + env.ranks % 4 * 256))
    let s := s.wr64 DRAM.INSTALLED (BitVec.ofNat 64 env.installed)
    let s := s.wr64 DRAM.USABLE (BitVec.ofNat 64 (env.installed / 8 * 7))
    let s := s.wr DRAM.TRAIN (BitVec.ofNat 32 (Nat.min 0xFFFF env.trainUs + env.trainTries * 65536))
    let s := if r ≠ 0 then s.raiseFlt pgDRAM 17 else s
    (true, if keep then s else s.loseDram)
  else (false, s.raiseFlt pgDRAM 16)

/-- Boot step 8: what the copies in eMRAM give (R343, R356, R361). -/
def checkCopies (env : BootEnv) (newNewel : Bool) (s : State) : State :=
  let c := env.cfgCopies.toNat
  let f := env.safeCopies.toNat
  let s := (s.setFld NVM.NSTA 1 0 c).setFld NVM.NSTA 3 2 f
  let s := s.setFld NVM.NSTA 5 4 (if newNewel then 3 else env.newelCopies.toNat)
  let s := s.setBit NVM.NSTA 6 (decide (c = 1 ∨ c = 2 ∨ f = 1 ∨ f = 2))
  let s := if c < 3 ∨ f < 3 then s.raiseFlt pgNVM 20 else s
  if s.fld BAL0.BSTA 3 0 = 0 then s.balRestart env.safeCopies else s

/-- The clock ceiling of a hall core in MHz (R493). -/
def hallCeiling (s : State) (k : Nat) : Nat :=
  match s.fld THM.TSTEP 2 0 with
  | 4 => 400
  | 3 =>
    let req : Int := s.fld (HALL.CLKREQ k) 10 0
    let w : Int := s.fld THM.TCFG 11 8
    let t3 : Int := 16 * (s.fld THM.TCFG 7 0 + 2 * w)
    let tj : Int := sint16 (s.fld THM.TJMAX 15 0)
    ((req * 16 * w - (req - 400) * (tj - t3)) / (16 * w * 100) * 100).toNat
  | _ => 1600

/-- The clock of a hall core: CLKREQ under the throttling ceiling (R324, R493). -/
def hallClock (k : Nat) (s : State) : State :=
  let req := s.fld (HALL.CLKREQ k) 10 0
  let cap := s.hallCeiling k
  let s := s.setFld (HALL.CLKSTA k) 10 0 (Nat.min req cap)
  let p := s.fld (HDR.STA (pgHALL k)) 10 8
  if cap < req then s.setPower (pgHALL k) 4 else if p = 4 then s.setPower (pgHALL k) 3 else s

def hallOf (s : State) (k : Nat) : HallCore := Tab.get {} s.hall k
def putHall (s : State) (k : Nat) (x : HallCore) : State := { s with hall := Tab.put s.hall k x }

/-- A hall core starts at the entry point of the image in slot `slot` (R305, R311, R325). -/
def hallStart (k slot : Nat) (s : State) : State :=
  let x := s.hallOf k
  let fresh := x.program.map fun l => l.map fun o => { obj := o.obj : TchState }
  let s := s.putHall k { pc := Config.hallEntry, program := fresh, next := x.next }
  let s := ((s.wr (HALL.IMGSLOT k) (BitVec.ofNat 32 slot)).wr (HALL.WINSTA k) 0).wr (HALL.WINCNT k) 0
  let s := ((s.wr (HALL.TRAPSTA k) 0).wr64 (HALL.TRAPPC k) 0).wr64 (HALL.TRAPADDR k) 0
  let s := (s.wr (HALL.SCANCNT k) 0).setFld (HDR.STA (pgHALL k)) 3 0 3
  (s.setPower (pgHALL k) 3).hallClock k

/-- Blocks leave reset (R55, R480, R517): READY, a spare gallery SPARE. -/
def releasePage (s : State) (p : Nat) : State :=
  match pageOf p with
  | none => s
  | some (k, i) =>
    if i ≥ s.variant.count k then s
    else
      let st := if k = .gal ∧ s.bit MIG.SPARES i = true then 8 else 2
      let pw := match k with
        | .sys | .host | .pwr | .clk | .thm | .time | .newel | .bal0 | .bal1 => 2
        | _ => 1
      s.setFld (HDR.STA p) 10 0 (st + pw * 256)

/-- Boot steps 3 to 9 for a set that passes its checks. -/
def bootRun (env : BootEnv) (b : Bool) (cause : Nat) (keep : Bool) (s : State) : State :=
  let x := pick env b
  let n := s.newel
  let s := s.setBit NEWEL.BOOTSTA 4 b
  let s := s.setBit NEWEL.BOOTSTA 5 (n.trial && b == n.preferred)
  let s := s.setFld NEWEL.BOOTSTA 7 6 (if n.trial then n.tries else 0)
  match s.trainDram env keep with
  | (false, s) =>
    ((s.setFld NEWEL.BOOTSTA 11 8 8).bootStep 4).autoMode 7 1
  | (true, s) =>
    let s := { s with newel := { s.newel with loaded := s.newel.loaded ||| 1 } }
    let s := s.loadSet b x
    let s := s.checkCopies env x.newNewel
    let s := env.assign.foldl (fun s e => s.wr (BRG.ASSIGN e.1) e.2) s
    let s := (List.range 171).foldl releasePage s
    let s := (List.range s.variant.galleries).foldl (fun s g =>
      if s.bit MIG.SPARES g then s.warmSpare g else if s.hasImage 0 then s.loadImage g 0 else s) s
    let s := (List.range s.variant.halls).foldl (fun s k => s.hallStart k 0) s
    { s.bootStep 9 with booted := true }.autoMode 1 cause

/-- The boot chain (R305-R307): `keep` where the LPDDR5 has kept its contents. -/
def boot (env : BootEnv) (cause : Nat) (keep : Bool) (s : State) : State :=
  let s := { s with newel := { s.newel with waiting := none } }
  let s := ((s.wr NEWEL.BOOTSTA 0).restoreNvm).trialStep
  let s := s.wr NEWEL.KEYSTA (BitVec.ofNat 32 env.keys.toNat)
  let ca := s.setCause env.setA
  let cb := s.setCause env.setB
  let s := (s.wr NEWEL.SETAVER (if ca = 0 then env.setA.version else 0)).wr NEWEL.SETBVER (if cb = 0 then env.setB.version else 0)
  let s := { s with newel := { s.newel with svnA := env.setA.svn, svnB := env.setB.svn } }
  let first := s.newel.preferred
  let c1 := if first then cb else ca
  let c2 := if first then ca else cb
  if c1 = 0 then s.bootRun env first cause keep
  else
    let s := ((s.setFld NEWEL.BOOTSTA 11 8 c1).setBit NEWEL.BOOTSTA 16 true).raiseFlt pgNEWEL 16
    if c2 = 0 then s.bootRun env (!first) cause keep
    else ((s.setBit NEWEL.BOOTSTA 17 true).bootStep 2).autoMode 7 1

/-- The device has power and no reset holds it. -/
def powered (s : State) : Bool := !s.pwr.held && !s.pwr.dead && !s.pwr.cycling

/-- The part of a warm reset before its boot (R80, R81, R346, R376). -/
def warmClear (s : State) : State :=
  let s := (s.cutCommits 1).gateClose
  let s := s.clearRegs keptWarm
  let s := s.mapRegs fun a w => if a % 0x1000 = 0x20 then 0 else w
  s.clearUnits

/-- A warm device reset (R80, R81). -/
def warmReset (env : BootEnv) (s : State) : State := if s.powered then s.warmClear.boot env 2 false else s

/-- The newel is released from reset (R305, R517). -/
def newelRelease (env : BootEnv) (s : State) : State :=
  match s.newel.waiting with
  | some c => if s.powered && !s.pwr.waitRef then s.boot env c (c == 7 && s.bit PWR.PWRCFG 1) else s
  | none => s

/-- A write of NEWEL.RECOV (R306): a set that passes goes into flash 0, and a warm reset follows. -/
def newelRecov (off : Word) (valid : Bool) (s : State) : State :=
  if s.bit NEWEL.BOOTSTA 17 = false then s.newelOnly pgNEWEL
  else
    let s := (s.wr NEWEL.RECOV off).opPhase NEWEL.RECOVSTA 2
    if valid then
      let s := (opEnd pgNEWEL NEWEL.RECOVSTA .done s).warmClear
      { s with newel := { s.newel with waiting := some 2 } }
    else (opEnd pgNEWEL NEWEL.RECOVSTA .rejState s).raiseFlt pgNEWEL 21

/-! ### Calls (R310-R312) -/

/-- The set that runs, 0 A or 1 B. -/
def runningSet (s : State) : Nat := s.fld NEWEL.BOOTSTA 4 4

/-- The largest region in 4 KiB that the policy grants a requester in a space (R303). -/
def policyOf (s : State) (who space : Nat) : Nat := Tab.get 0 s.newel.policy (who * 4 + space)

/-- The policy grants every requester of the mask a region of this size. -/
def policyOk (s : State) (mask : Word64) (space size : Nat) : Bool :=
  (List.range 43).all fun w => !mask.getLsbD w || decide (size ≤ s.policyOf w space)

/-- A space's size in 4 KiB: LPDDR5, mezzanine, BAR0, BAR2. -/
def spacePages (s : State) (space : Nat) : Nat :=
  match space with
  | 0 => (s.rd64 DRAM.USABLE).toNat / 4096
  | 1 => 0x3000
  | 2 => 0x1000
  | _ => 0x4000

/-- FW_OPEN (R311). -/
def fwOpen (k : Nat) (a : FwArgs) (s : State) : State :=
  if a.region ≥ 64 ∨ a.space ≥ 4 then s.callEnd k .rejState []
  else if a.size = 0 then s.callEnd k .done []
  else if a.size > s.spacePages a.space then s.callEnd k .rejLength []
  else if s.policyOk a.mask a.space a.size = false then s.callEnd k .rejLock []
  else (s.putRegion a.region a).callEnd k .done []

/-- FW_CLOSE (R311). -/
def fwClose (k region : Nat) (s : State) : State :=
  if region ≥ 64 then s.callEnd k .rejState [] else (s.setBit (NEWEL.FWR_ATTR region) 31 false).callEnd k .done []

def dmaOf (s : State) (ch : Nat) : DmaCh := Tab.get {} s.host.dma ch
def putDma (s : State) (ch : Nat) (x : DmaCh) : State := { s with host := { s.host with dma := Tab.put s.host.dma ch x } }

/-- DMA_ASSIGN (R72, R311). -/
def dmaAssign (k ch owner : Nat) (s : State) : State :=
  if ch ≥ 16 ∨ owner > s.variant.halls then s.callEnd k .rejState []
  else (s.putDma ch { s.dmaOf ch with owner := owner }).callEnd k .done []

/-- Where the model keeps what IMG_WRITE has programmed: component `comp` of a set. -/
def flashAddr (set comp off : Nat) : Nat := 0x300000000 + set * 0x40000000 + comp % 16 * 0x4000000 + off

/-- IMG_WRITE (R311). -/
def imgWrite (k set comp off : Nat) (data : List Byte) (s : State) : State :=
  if set ≥ 2 ∨ set = s.runningSet then s.callEnd k .rejState []
  else if data.length > 4000 then s.callEnd k .rejLength []
  else if data = [] then s.callEnd k .done []
  else
    let s := { s with newel := { s.newel with verified := wsetBit s.newel.verified set false } }
    let s := s.wr (if set = 0 then NEWEL.SETAVER else NEWEL.SETBVER) 0
    (s.putBytes (flashAddr set comp off) data).callEnd k .done []

/-- IMG_VERIFY (R311). -/
def imgVerify (k set : Nat) (passes : Bool) (version : Word) (s : State) : State :=
  if set ≥ 2 ∨ set = s.runningSet then s.callEnd k .rejState []
  else if passes then
    let s := { s with newel := { s.newel with verified := wsetBit s.newel.verified set true } }
    let s := s.wr (if set = 0 then NEWEL.SETAVER else NEWEL.SETBVER) version
    (s.raiseEvt pgNEWEL 1).callEnd k .done []
  else s.callEnd k .rejState []

/-- IMG_ACTIVATE (R311): one boot-record commit. -/
def imgActivate (k set tries : Nat) (s : State) : State :=
  if set ≥ 2 ∨ tries = 0 ∨ tries > 3 ∨ s.newel.verified.getLsbD set = false then s.callEnd k .rejState []
  else s.commitStart { kind := 4, units := 1, core := some k, act := .activate (decide (set = 1)) tries }

/-- HALL_LOAD (R311). -/
def hallLoad (k slot : Nat) (passes : Bool) (s : State) : State :=
  let inUse := (List.range s.variant.halls).any fun j =>
    decide (s.fld (HDR.STA (pgHALL j)) 3 0 = 3 ∧ s.fld (HALL.IMGSLOT j) 0 0 = slot)
  if slot ≥ 2 ∨ inUse = true then s.callEnd k .rejState []
  else
    let s := { s with newel := { s.newel with loaded := wsetBit s.newel.loaded slot passes } }
    s.callEnd k (if passes then .done else .rejState) []

/-- HALL_RESTART (R311). -/
def hallRestart (k target slot : Nat) (s : State) : State :=
  if target = k ∨ target ≥ s.variant.halls ∨ slot ≥ 2 ∨ s.newel.loaded.getLsbD slot = false then s.callEnd k .rejState []
  else ((s.hallStart target slot).raiseEvt (pgHALL target) 3).callEnd k .done []

/-- The lowest region that is not valid. -/
def freeRegion (s : State) : Option Nat := (List.range 64).find? fun j => !s.bit (NEWEL.FWR_ATTR j) 31

/-- A write region on AXIS page `a` for hall core `k` (R319), if the core has none. -/
def openAxis (k : Nat) (s : State) (a : Nat) : State :=
  let pg := 0x30 + a
  if (List.range 64).any (fun j => s.fwRegion (k + 1) 2 pg .write j) then s
  else match s.freeRegion with
    | none => s
    | some j => s.putRegion j { region := j, space := 2, base := BitVec.ofNat 64 (pg * 0x1000), size := 1, r := false, w := true, x := false, mask := BitVec.ofNat 64 (2 ^ (k + 1)) }

/-- The checks of TCH_LOAD on a program's length, signature and axis references, and the opening of its regions (R311,
R319, R320). -/
def tchCheck (k len : Nat) (sigOk : Bool) (axes : BitVec 24) (s : State) : Code × State :=
  if len > 0x1000000 then (.rejLength, s)
  else if sigOk = false then (.rejLock, s)
  else if axes ≠ 0 ∧ (s.policyOf (k + 1) 2 = 0 ∨ axes.toNat ≥ 2 ^ s.variant.axes) then (.rejLock, s)
  else (.done, (bitsOf 24 axes.toNat).foldl (openAxis k) s)

/-- TCH_LOAD (R311). -/
def tchLoad (k len : Nat) (sigOk : Bool) (axes : BitVec 24) (s : State) : State :=
  if len = 0 then s.callEnd k .done []
  else
    let r := s.tchCheck k len sigOk axes
    r.2.callEnd k r.1 []

/-- The call codes of R311 and R378. -/
def knownCall (c : Nat) : Bool :=
  [1, 2, 3, 0x10, 0x11, 0x12, 0x13, 0x20, 0x21, 0x30, 0x40, 0x41, 0x42, 0x43, 0x44, 0x45].contains c

/-- A call on a mailbox page that exists. -/
def callOn (core code : Nat) (seq : BitVec 16) (arglen cap : Nat) (body : State → State) (s : State) :
    Host.Outcome State Fault Refusal :=
  onUnit (decide (core < s.variant.halls)) (s.call core code seq.toNat arglen cap body)

end State

/-- NEWEL_RELEASE (R305). -/
def execNewelRelease (env : BootEnv) (s : State) : Host.Outcome State Fault Refusal := .next (s.newelRelease env)

/-- WARM_RESET (R80). -/
def execWarmReset (env : BootEnv) (s : State) : Host.Outcome State Fault Refusal := .next (s.warmReset env)

/-- NEWEL_RECOV (R306). -/
def execNewelRecov (off : BitVec 32) (valid : Bool) (s : State) : Host.Outcome State Fault Refusal :=
  .next (s.newelRecov off valid)

/-- UNKNOWN_CALL (R310). -/
def execUnknownCall (core : Nat) (code seq : BitVec 16) (s : State) : Host.Outcome State Fault Refusal :=
  if State.knownCall code.toNat then onUnit (decide (core < s.variant.halls)) s
  else s.callOn core code.toNat seq 0 0 (fun s => s.callEnd core .rejState [])

/-- FW_OPEN (R311). -/
def execFwOpen (core : Nat) (seq : BitVec 16) (arglen : Nat) (a : FwArgs) (s : State) : Host.Outcome State Fault Refusal :=
  s.callOn core 1 seq arglen 32 (State.fwOpen core a)

/-- FW_CLOSE (R311). -/
def execFwClose (core : Nat) (seq : BitVec 16) (arglen region : Nat) (s : State) : Host.Outcome State Fault Refusal :=
  s.callOn core 2 seq arglen 4 (State.fwClose core region)

/-- DMA_ASSIGN (R311). -/
def execDmaAssign (core : Nat) (seq : BitVec 16) (arglen ch owner : Nat) (s : State) : Host.Outcome State Fault Refusal :=
  s.callOn core 3 seq arglen 8 (State.dmaAssign core ch owner)

/-- IMG_WRITE (R311). -/
def execImgWrite (core : Nat) (seq : BitVec 16) (arglen set comp off : Nat) (data : List (BitVec 8)) (s : State) :
    Host.Outcome State Fault Refusal :=
  s.callOn core 0x10 seq arglen 4012 (State.imgWrite core set comp off data)

/-- IMG_VERIFY (R311). -/
def execImgVerify (core : Nat) (seq : BitVec 16) (arglen set : Nat) (passes : Bool) (version : BitVec 32) (s : State) :
    Host.Outcome State Fault Refusal :=
  s.callOn core 0x11 seq arglen 4 (State.imgVerify core set passes version)

/-- IMG_ACTIVATE (R311). -/
def execImgActivate (core : Nat) (seq : BitVec 16) (arglen set tries : Nat) (s : State) :
    Host.Outcome State Fault Refusal :=
  s.callOn core 0x12 seq arglen 8 (State.imgActivate core set tries)

/-- IMG_CONFIRM (R307, R311): one boot-record commit. -/
def execImgConfirm (core : Nat) (seq : BitVec 16) (arglen : Nat) (s : State) : Host.Outcome State Fault Refusal :=
  s.callOn core 0x13 seq arglen 0 (fun s => s.commitStart { kind := 4, units := 1, core := some core, act := .confirm })

/-- HALL_LOAD (R311). -/
def execHallLoad (core : Nat) (seq : BitVec 16) (arglen slot : Nat) (passes : Bool) (s : State) :
    Host.Outcome State Fault Refusal :=
  s.callOn core 0x20 seq arglen 4 (State.hallLoad core slot passes)

/-- HALL_RESTART (R311). -/
def execHallRestart (core : Nat) (seq : BitVec 16) (arglen target slot : Nat) (s : State) :
    Host.Outcome State Fault Refusal :=
  s.callOn core 0x21 seq arglen 8 (State.hallRestart core target slot)

/-- TCH_LOAD (R311). -/
def execTchLoad (core : Nat) (seq : BitVec 16) (arglen : Nat) (_addr : BitVec 64) (len : Nat) (sigOk : Bool)
    (axes : BitVec 24) (s : State) : Host.Outcome State Fault Refusal :=
  s.callOn core 0x30 seq arglen 108 (State.tchLoad core len sigOk axes)

/-- CODE_SIG_FAIL (R323): the newel asks for a warm reset and waits for its own release. -/
def execCodeSigFail (s : State) : Host.Outcome State Fault Refusal :=
  .next (if s.powered then
    let s := s.warmClear
    { s with newel := { s.newel with waiting := some 2 } }.raiseFlt pgNEWEL 19
  else s)

end Sys2Proof.Machine
end

