-- ==== Sys2Proof/Machine/Hall.lean ====
section
/-!
DEFINITION. The hall cores: windows, spills and traps (R313-R318), and Tchiora programs with their exchange (R319-R321).
-/
namespace Sys2Proof.Machine

/-- The code of a synchronous trap (R316). -/
def hallCode : HallCause → Nat
  | .illegal => 1
  | .access _ => 2
  | .align => 3
  | .dbusUe => 4
  | .fetchUe => 5
  | .wovf => 6
  | .wunf => 7
  | .wstk => 8
  | .sysc => 9
  | .brk => 10

/-- The vector of a trap or interrupt within the trap table (R316). -/
def hallVector (code : Nat) : Nat := if code < 0x10 then (code - 1) * 0x40 else 0x400 + (code - 0x10) * 0x40

namespace State

/-! ### Windows and traps (R313-R316) -/

/-- A core issues instructions. -/
def hallRuns (s : State) (k : Nat) : Bool := decide (s.fld (HDR.STA (pgHALL k)) 3 0 = 3)

def cwp (s : State) (k : Nat) : Nat := s.fld (HALL.WINSTA k) 2 0
def inLanding (s : State) (k : Nat) : Bool := s.bit (HALL.WINSTA k) 3
/-- Window `n` holds a live frame. -/
def occ (s : State) (k n : Nat) : Bool := s.bit (HALL.WINSTA k) (4 + n)
def spillDepth (s : State) (k : Nat) : Nat := s.fld (HALL.WINSTA k) 31 16

/-- `n` registers copied from one place of the window file to another. -/
def copyWin (src dst : Nat) : (n : Nat) → List (Nat × Word64) → List (Nat × Word64)
  | 0, t => t
  | n + 1, t => Tab.set (some 0) (copyWin src dst n t) (dst + n) (Tab.get 0 t (src + n))

/-- The next window is entered (R313): the out registers are copied, and both frames are live. -/
def enterWindow (k : Nat) (ret : Word64) (s : State) : State :=
  let c := s.cwp k
  let n := (c + 1) % 7
  let x := s.hallOf k
  let s := s.putHall k { x with win := copyWin (c * 24 + 16) (n * 24) 8 x.win, links := (ret, x.user) :: x.links }
  ((s.setBit (HALL.WINSTA k) (4 + c) true).setBit (HALL.WINSTA k) (4 + n) true).setFld (HALL.WINSTA k) 2 0 n

/-- What TRAPSTA, TRAPPC and TRAPADDR record (R316, R324). -/
def recordTrap (k code : Nat) (addr : Word64) (double : Bool) (s : State) : State :=
  let s := s.wr (HALL.TRAPSTA k)
    (BitVec.ofNat 32 (code + b01 double * 256 + s.cwp k * 512 + b01 (s.inLanding k) * 4096))
  (s.wr64 (HALL.TRAPPC k) (s.hallOf k).pc).wr64 (HALL.TRAPADDR k) addr

/-- The FLT bits that name a trap's cause (R325); TRAP itself for causes that report an error (log entry 33). -/
def trapFlt (k code : Nat) (s : State) : State :=
  let p := pgHALL k
  let s := if code ≤ 5 ∨ code = 8 then s.raiseFlt p 16 else s
  if code = 4 then s.raiseFlt p 18 else if code = 5 then s.raiseFlt p 19 else if code = 8 then s.raiseFlt p 20 else s

/-- A double fault (R315): the core is held. -/
def doubleFault (k code : Nat) (addr : Word64) (s : State) : State :=
  let s := (s.recordTrap k code addr true).trapFlt k code
  let s := (s.setFld (HDR.STA (pgHALL k)) 3 0 6).raiseFlt (pgHALL k) 17
  ((s.raiseEvt (pgHALL k) 2).raiseFlt pgNEWEL 20).raiseEvt pgNEWEL 3

/-- The landing window is entered (R314) on behalf of the instruction at pc. -/
def enterLanding (k code : Nat) (addr : Word64) (s : State) : State :=
  let x := s.hallOf k
  let s := s.recordTrap k code addr false
  let s := s.putHall k { x with landPc := x.pc, landUser := x.user, user := false,
                                pc := Config.hallVectors + BitVec.ofNat 64 (hallVector code) }
  (s.setBit (HALL.WINSTA k) 3 true).count (HALL.WINCNT k) (if code = 6 then 15 else 31) (if code = 6 then 0 else 16)

/-- A trap or interrupt outside the landing window (R316): a fresh window in SUPER, or WOVF first where none is free. -/
def takeHallTrap (k code : Nat) (addr ret : Word64) (s : State) : State :=
  if code = 6 ∨ code = 7 then s.enterLanding k code addr
  else if s.occ k ((s.cwp k + 1) % 7) then
    let x := s.hallOf k
    (s.putHall k { x with pend := some { code := code, addr := addr } }).enterLanding k 6 0
  else
    let s := (s.recordTrap k code addr false).trapFlt k code
    let s := s.enterWindow k ret
    let x := s.hallOf k
    s.putHall k { x with user := false, pc := Config.hallVectors + BitVec.ofNat 64 (hallVector code) }

/-- A synchronous trap (R315, R316); SYSC and BREAK return behind themselves (log entry 33). -/
def hallTrap (k code : Nat) (addr : Word64) (s : State) : State :=
  if s.inLanding k then s.doubleFault k code addr
  else
    let pc := (s.hallOf k).pc
    s.takeHallTrap k code addr (if code = 9 ∨ code = 10 then pc + 4 else pc)

/-- pc moves on to the next instruction. -/
def hallNext (k : Nat) (s : State) : State :=
  let x := s.hallOf k
  s.putHall k { x with pc := x.pc + 4 }

/-- Interrupt `n` (R315, R316): held while the core runs in the landing window. -/
def hallIrq (k n : Nat) (s : State) : State :=
  let x := s.hallOf k
  if s.inLanding k then s.putHall k { x with irqs := x.irqs ++ [n] } else s.takeHallTrap k (0x10 + n) 0 x.pc

/-- WCALL (R313). -/
def wcall (k : Nat) (target : Word64) (s : State) : State :=
  if s.occ k ((s.cwp k + 1) % 7) then s.hallTrap k 6 0
  else
    let s := s.enterWindow k ((s.hallOf k).pc + 4)
    s.putHall k { s.hallOf k with pc := target }

/-- WRET (R313). -/
def wret (k : Nat) (s : State) : State :=
  let c := s.cwp k
  let t := (c + 6) % 7
  if s.occ k t = false then s.hallTrap k (if s.spillDepth k > 0 then 7 else 1) 0
  else
    let x := s.hallOf k
    let l := x.links.headD (x.pc + 4, x.user)
    let s := s.putHall k { x with win := copyWin (c * 24) (t * 24 + 16) 8 x.win, links := x.links.drop 1,
                                  pc := l.1, user := l.2 }
    (s.setBit (HALL.WINSTA k) (4 + c) false).setFld (HALL.WINSTA k) 2 0 t

/-- The checks of a spill or fill of 192 bytes at `a` of LPDDR5 (R303, R316): the trap it raises. -/
def spillTrap (k a : Nat) (r : Right) (s : State) : Option Nat × State :=
  if a % 8 ≠ 0 then (some 3, s)
  else if a + 192 > (s.rd64 DRAM.USABLE).toNat then (some 2, s)
  else if s.fwAdmits (k + 1) 0 a 192 r = false then (some 2, s.fwRefuse (k + 1) 0 a)
  else (none, s)

/-- The registers of a window as bytes. -/
def winBytes (s : State) (k n : Nat) : List Byte :=
  (List.range 24).flatMap fun i => leBytes 8 (Tab.get 0 (s.hallOf k).win (n * 24 + i)).toNat

/-- SPILLW (R314). -/
def spillw (k n : Nat) (s : State) : State :=
  let x := s.hallOf k
  let k6 := Tab.get 0 x.glob 6
  if n ≥ 7 then s.hallTrap k 1 0
  else if k6.toNat < x.splim.toNat then s.hallTrap k 8 k6
  else match s.spillTrap k k6.toNat .write with
    | (some c, s) => s.hallTrap k c k6
    | (none, s) =>
      match s.writeBytes (dramBase + k6.toNat) (k + 1) (s.winBytes k n) with
      | (false, s) => s.hallTrap k 4 k6
      | (true, s) =>
        let s := s.putHall k { x with glob := Tab.set (some 0) x.glob 6 (k6 - 192) }
        let s := (s.setBit (HALL.WINSTA k) (4 + n) false).count (HALL.WINSTA k) 31 16
        s.hallNext k

/-- FILLW (R314), the reverse. -/
def fillw (k n : Nat) (s : State) : State :=
  let x := s.hallOf k
  let a := Tab.get 0 x.glob 6 + 192
  if n ≥ 7 ∨ s.spillDepth k = 0 then s.hallTrap k 1 0
  else match s.spillTrap k a.toNat .read with
    | (some c, s) => s.hallTrap k c a
    | (none, s) =>
      match s.readBytes (dramBase + a.toNat) 192 (k + 1) true with
      | (none, s) => s.hallTrap k 4 a
      | (some bs, s) =>
        let win := (List.range 24).foldl (fun t i =>
          Tab.set (some 0) t (n * 24 + i) (BitVec.ofNat 64 (ofLeBytes ((bs.drop (8 * i)).take 8)))) x.win
        let s := s.putHall k { x with win := win, glob := Tab.set (some 0) x.glob 6 a }
        let s := (s.setBit (HALL.WINSTA k) (4 + n) true).setFld (HALL.WINSTA k) 31 16 (s.spillDepth k - 1)
        s.hallNext k

/-- TRET (R314-R316): the trapped instruction runs again, after a trap or interrupt that has waited. -/
def tret (k : Nat) (s : State) : State :=
  let x := s.hallOf k
  if s.inLanding k = false then s.hallTrap k 1 0
  else
    let s := (s.putHall k { x with pc := x.landPc, user := x.landUser, pend := none }).setBit (HALL.WINSTA k) 3 false
    match x.pend, x.irqs with
    | some p, _ => s.takeHallTrap k p.code p.addr (if p.code = 9 ∨ p.code = 10 then x.landPc + 4 else x.landPc)
    | none, n :: rest => (s.putHall k { s.hallOf k with irqs := rest }).takeHallTrap k (0x10 + n) 0 x.landPc
    | none, [] => s

/-- What a running core does; a held or stopped core issues nothing. -/
def onHall (k : Nat) (f : State → State) (s : State) : Host.Outcome State Fault Refusal :=
  onUnit (decide (k < s.variant.halls)) (if s.hallRuns k then f s else s)

/-! ### Tchiora programs (R319-R321) -/

/-- One identity: name hash, type and version (R319). -/
def sameObject (a b : TchObject) : Bool := a == b

/-- Two objects of a program have one identity (R320). -/
def repeats : List TchObject → Bool
  | [] => false
  | o :: t => t.contains o || repeats t

/-- An exchange ends other than DONE (R325). -/
def pxRefuse (k : Nat) (c : Code) (s : State) : State := (opEnd (pgHALL k) (HALL.PXSTA k) c s).raiseFlt (pgHALL k) 21

/-- PXCTL.START (R60, R320). -/
def pxStart (k : Nat) (p : TchProgram) (s : State) : State :=
  let len := s.rd (HALL.PXLEN k)
  if s.busyOp (HALL.PXSTA k) then s.refuseWrite (pgHALL k)
  else if len = 0 then opEnd (pgHALL k) (HALL.PXSTA k) .done s
  else if len.toNat > 0x1000000 ∨ p.objects.length > 4096 then s.pxRefuse k .rejLength
  else match s.tchCheck k len.toNat p.sigOk p.axes with
    | (.done, s1) =>
      if repeats p.objects then s.pxRefuse k .rejState
      else
        let s := opPhase (HALL.PXSTA k) 2 s1
        s.putHall k { s.hallOf k with next := some p }
    | (c, s) => s.pxRefuse k c

/-- PXCTL.ABORT (R321). -/
def pxAbort (k : Nat) (s : State) : State :=
  let was := s.busyOp (HALL.PXSTA k)
  let s := s.opAbort (pgHALL k) (HALL.PXSTA k) fun s => s.putHall k { s.hallOf k with next := none }
  if was then s.raiseFlt (pgHALL k) 21 else s

/-- A scan boundary after the checks (R320): the new program with the state that its matched objects carry. -/
def pxExchange (k : Nat) (s : State) : State :=
  let x := s.hallOf k
  match x.next with
  | none => s
  | some p =>
    if x.overrun then s
    else
      let old := x.program.getD []
      let now := p.objects.map fun o => match old.find? fun e => e.obj == o with
        | some e => { e with fresh := false }
        | none => { obj := o : TchState }
      let carried := (now.filter fun e => !e.fresh).length
      let counts := carried + (old.length - carried) * 2 ^ 16 + (now.length - carried) * 2 ^ 32 + now.length * 2 ^ 48
      let s := s.putHall k { x with program := some now, next := none }
      let s := s.wr64 (HALL.PXCNT k) (BitVec.ofNat 64 counts)
      let s := (s.wr (HALL.PXVER k) p.version).setFld (HALL.PXSCAN k) 15 0 p.scanMs.toNat
      (opEnd (pgHALL k) (HALL.PXSTA k) .done s).raiseEvt (pgHALL k) 0

/-- One scan of an object (R319): a running timer advances by `dt` ms; an edge detector takes its input, and reports no
edge at its first scan.  Answers the inputs left for the edge detectors behind it. -/
def scanObject (dt : Word64) (ins : List Bool) (e : TchState) : TchState × List Bool :=
  let t := e.obj.type.toNat
  if 1 ≤ t ∧ t ≤ 3 then ({ e with value := if e.running then e.value + dt else e.value, fresh := false }, ins)
  else if 4 ≤ t ∧ t ≤ 6 then
    let i := ins.headD false
    let was := decide (e.value ≠ 0)
    let hit := match t with
      | 4 => i && !was
      | 5 => !i && was
      | _ => i != was
    ({ e with value := if i then 1 else 0, fresh := false, edge := hit && !e.fresh }, ins.drop 1)
  else ({ e with fresh := false }, ins)

/-- The objects of a program after a scan. -/
def scanObjects (dt : Word64) : List Bool → List TchState → List TchState
  | _, [] => []
  | ins, e :: t => let r := scanObject dt ins e; r.1 :: scanObjects dt r.2 t

/-- What the program stores into its objects. -/
def scanWrites (ws : List (Nat × Word64 × Bool)) (l : List TchState) : List TchState :=
  ws.foldl (fun l w => match l[w.1]? with
    | some e => l.set w.1 { e with value := w.2.1, running := w.2.2 }
    | none => l) l

/-- A scan of the program in force (R319). -/
def tchScan (k : Nat) (ins : List Bool) (ws : List (Nat × Word64 × Bool)) (ms : Nat) (s : State) : State :=
  let x := s.hallOf k
  match x.program with
  | none => s
  | some l =>
    let now := s.rd64 SYS.OPTIME
    let l := scanWrites ws (scanObjects (now - x.scanAt) ins l)
    let s := s.putHall k { x with program := some l, scanAt := now, overrun := false }
    (s.count (HALL.SCANCNT k) 31 0).keepMax (HALL.PXSCAN k) 31 16 ms

/-- The running scan outlasts its period (R321, R325). -/
def scanOver (k : Nat) (s : State) : State :=
  let x := s.hallOf k
  if x.program.isNone then s
  else ((s.putHall k { x with overrun := true }).raiseFlt (pgHALL k) 22).raiseEvt (pgHALL k) 1

end State

/-- HALL_TRAP_ENTRY (R303, R315, R316). -/
def execHallTrapEntry (k : Nat) (c : HallCause) (addr : BitVec 64) (s : State) : Host.Outcome State Fault Refusal :=
  s.onHall k fun s =>
    let s := match c with
      | .access (some sp) => s.fwRefuse (k + 1) sp addr.toNat
      | _ => s
    s.hallTrap k (hallCode c) addr

/-- HALL_INTERRUPT (R315, R316). -/
def execHallInterrupt (k n : Nat) (s : State) : Host.Outcome State Fault Refusal :=
  s.onHall k fun s => if n < 32 then s.hallIrq k n else s

/-- WCALL (R313). -/
def execWcall (k : Nat) (off : BitVec 64) (s : State) : Host.Outcome State Fault Refusal := s.onHall k (State.wcall k off)

/-- WRET (R313). -/
def execWret (k : Nat) (s : State) : Host.Outcome State Fault Refusal := s.onHall k (State.wret k)

/-- SPILLW (R314). -/
def execSpillw (k n : Nat) (s : State) : Host.Outcome State Fault Refusal := s.onHall k (State.spillw k n)

/-- FILLW (R314). -/
def execFillw (k n : Nat) (s : State) : Host.Outcome State Fault Refusal := s.onHall k (State.fillw k n)

/-- TRET (R314). -/
def execTret (k : Nat) (s : State) : Host.Outcome State Fault Refusal := s.onHall k (State.tret k)

/-- ISYNC (R317): stores complete at once (log entry 9), so that only pc moves. -/
def execIsync (k : Nat) (s : State) : Host.Outcome State Fault Refusal := s.onHall k (State.hallNext k)

/-- FENCE (R318): as ISYNC. -/
def execHallFence (k : Nat) (s : State) : Host.Outcome State Fault Refusal := s.onHall k fun s => s.hallNext k

/-- SYSC (R316). -/
def execSysc (k : Nat) (s : State) : Host.Outcome State Fault Refusal := s.onHall k fun s => s.hallTrap k 9 0

/-- BREAK (R316). -/
def execBrk (k : Nat) (s : State) : Host.Outcome State Fault Refusal := s.onHall k fun s => s.hallTrap k 10 0

/-- PXCTL_START (R320). -/
def execPxctlStart (k : Nat) (p : TchProgram) (s : State) : Host.Outcome State Fault Refusal :=
  onUnit (decide (k < s.variant.halls)) (s.pxStart k p)

/-- PXCTL_ABORT (R321). -/
def execPxctlAbort (k : Nat) (s : State) : Host.Outcome State Fault Refusal :=
  onUnit (decide (k < s.variant.halls)) (s.pxAbort k)

/-- PX_EXCHANGE (R320). -/
def execPxExchange (k : Nat) (s : State) : Host.Outcome State Fault Refusal :=
  onUnit (decide (k < s.variant.halls)) (s.pxExchange k)

/-- TCHIORA_SCAN (R319). -/
def execTchioraScan (k : Nat) (inputs : List Bool) (writes : List (Nat × BitVec 64 × Bool)) (ms : Nat) (s : State) :
    Host.Outcome State Fault Refusal :=
  onUnit (decide (k < s.variant.halls)) (s.tchScan k inputs writes ms)

/-- SCAN_OVERRUN (R325). -/
def execScanOverrun (k : Nat) (s : State) : Host.Outcome State Fault Refusal :=
  onUnit (decide (k < s.variant.halls)) (s.scanOver k)

end Sys2Proof.Machine
end

