-- ==== Sys2Proof/Machine/CanBus.lean ====
section
/-!
DEFINITION. What a CAN controller sends: its message RAM (R393, R394), frame durations and the schedule's windows (R404,
R405), the choice of the next frame (R399) and the end of transmit requests (R400).
-/
namespace Sys2Proof.Machine

/-- Data bytes of a frame by its DLC (R395). -/
def dlcBytes (fdf : Bool) (d : Nat) : Nat :=
  if d ≤ 8 then d
  else if fdf = false then 8
  else match d with
    | 9 => 12
    | 10 => 16
    | 11 => 20
    | 12 => 24
    | 13 => 32
    | 14 => 48
    | _ => 64

namespace State

/-! ### Message RAM (R393, R394) -/

def canOf (s : State) (c : Nat) : CanSt := Tab.get {} s.can c
def putCan (c : Nat) (x : CanSt) (s : State) : State := { s with can := Tab.put s.can c x }

/-- A word of controller `c`'s message RAM. -/
def canWord (s : State) (c off : Nat) : Word := BitVec.ofNat 32 (ofLeBytes (s.bytes (canBase c + off) 4))
def putCanWord (c off : Nat) (v : Word) (s : State) : State := s.putBytes (canBase c + off) (leBytes 4 v.toNat)

/-- Word `o` of buffer `b`: 0 IDW, 4 MASK, 8 BCTL, 12 BSTA. -/
def bufWord (s : State) (c b o : Nat) : Word := s.canWord c (0x80 * b + o)
def putBufWord (c b o : Nat) (v : Word) (s : State) : State := s.putCanWord c (0x80 * b + o) v

def bctl (s : State) (c b hi lo : Nat) : Nat := wfld (s.bufWord c b 8) hi lo
def bsta (s : State) (c b hi lo : Nat) : Nat := wfld (s.bufWord c b 12) hi lo
def setBsta (c b hi lo v : Nat) (s : State) : State := s.putBufWord c b 12 (wset (s.bufWord c b 12) hi lo v)

/-- A transmit request of buffer `b` is pending or running. -/
def bufPends (s : State) (c b : Nat) : Bool := s.bsta c b 9 8 == 1 || s.bsta c b 9 8 == 2

/-- STAMP of a buffer (R394). -/
def putStamp (c b t : Nat) (s : State) : State := s.putBytes (canBase c + 0x80 * b + 0x10) (bytesOf (timeWords t))

/-! ### Durations and windows (R391, R405) -/

/-- Nominal and data bit times in 1/16 ns (R391). -/
def nomBit (s : State) (c : Nat) : Nat :=
  let a := CAN.NBT c
  (1 + (s.fld a 12 5 + 1) + (s.fld a 19 13 + 1)) * (s.fld a 4 0 + 1) * 200
def dataBit (s : State) (c : Nat) : Nat :=
  let a := CAN.DBT c
  (1 + (s.fld a 9 5 + 1) + (s.fld a 13 10 + 1)) * (s.fld a 4 0 + 1) * 200

/-- The worst-case duration of a frame of `n` data bytes (R405). -/
def frameTime (s : State) (c : Nat) (xtd brs : Bool) (n : Nat) : Nat :=
  let k := if n ≤ 16 then 28 else 33
  (if xtd then 60 else 36) * s.nomBit c + (5 * (8 * n + k) + 3) / 4 * (if brs then s.dataBit c else s.nomBit c)

/-- The controller takes part: EN is set and it is not bus-off. -/
def canOn (s : State) (c : Nat) : Bool := s.bit (HDR.CTL (pgCAN c)) 0 && s.fld (CAN.ECSTA c) 17 16 != 2

def ttMode (s : State) (c : Nat) : Nat := s.fld (CAN.TTCFG c) 1 0

/-- The schedule governs (R404). -/
def ttOn (s : State) (c : Nat) : Bool := s.ttMode c != 0 && s.bit (CAN.TTSTA c) 10

def ttWindow (s : State) (c : Nat) : Nat := s.fld (CAN.TTSTA c) 19 16

/-- The entry of the running window. -/
def winEntry (s : State) (c : Nat) : BitVec 16 := (s.canOf c).row.getD (s.ttWindow c) 0

/-- The end of the running window in 1/16 ns of TIME. -/
def winEnd (s : State) (c : Nat) : Nat :=
  let w := s.ttWindow c
  let us := if w < s.fld (CAN.TTCFG c) 11 8 then s.fld (CAN.WSTART c (w + 1)) 15 0 else s.fld (CAN.CYCLEN c) 15 0
  (s.canOf c).cycleAt + us * 16000

/-! ### What may start (R399, R401, R405) -/

/-- The identifier register of a safe-data channel on this controller, if the channel is enabled and names it (R395). -/
def safeId (s : State) (c ch : Nat) : Option Word :=
  let g := BAL1.SDCFG ch
  if s.bit g 0 = false then none
  else if s.bit g 2 = false ∧ s.fld g 5 3 = c then some (s.rd (BAL1.SDIDA ch))
  else if s.bit g 6 = false ∧ s.fld g 9 7 = c then some (s.rd (BAL1.SDIDB ch))
  else none

/-- Identifier, extended, BRS and data length of what a controller sends. -/
def txShape (s : State) (c : Nat) : CanTx → Nat × Bool × Bool × Nat
  | .buffer b =>
    let w := s.bufWord c b 0
    (wfld w 28 0, w.getLsbD 29, s.bctl c b 3 3 == 1, dlcBytes (s.bctl c b 2 2 == 1) (s.bctl c b 7 4))
  | .safe ch =>
    let w := (s.safeId c ch).getD 0
    (wfld w 28 0, w.getLsbD 29, true, 32)
  | .status =>
    let w := s.rd (CAN.STATCFG c)
    (wfld w 28 0, w.getLsbD 29, false, 8)
  | .reference =>
    let w := s.rd (CAN.REFID c)
    (wfld w 28 0 / 8 * 8 + s.fld (CAN.TTCFG c) 4 2, w.getLsbD 29, true, 8)

/-- A candidate may start in the running window (R405). -/
def mayStart (s : State) (c : Nat) (x : CanTx) : Bool :=
  if s.ttOn c = false then
    match x with
    | .buffer b => s.bctl c b 12 12 == 0
    | _ => true
  else
    let e := s.winEntry c
    let k := wfld e 1 0
    let sh := s.txShape c x
    let fits := decide (s.t16 + s.frameTime c sh.2.1 sh.2.2.1 sh.2.2.2 ≤ s.winEnd c)
    match x with
    | .reference => true
    | .buffer b =>
      if s.bctl c b 12 12 = 1 then
        k == 1 && wfld e 8 2 == b && s.bctl c b 1 0 == 2 && !(s.canOf c).tried && fits && s.ttWindow c != 0
      else k == 0 && fits && s.ttWindow c != 0
    | _ => (k == 0 || k == 3) && fits && s.ttWindow c != 0

/-- The candidates: device frames, then buffers, each with its order (R399). -/
def candidates (s : State) (c : Nat) : List CanTx :=
  let x := s.canOf c
  (if x.refDue then [.reference] else []) ++ x.safe.map (fun e => CanTx.safe e.1) ++
    (if x.status.isSome then [.status] else []) ++
    ((List.range 128).filter fun b => s.bufPends c b).map CanTx.buffer

/-- The first of the candidates with the lowest identifier (R399). -/
def pickTx (s : State) (c : Nat) : Option CanTx :=
  ((s.candidates c).filter (s.mayStart c)).foldl (fun (m : Option CanTx) x =>
    match m with
    | none => some x
    | some y => if (s.txShape c x).1 < (s.txShape c y).1 then some x else m) none

/-- The controller starts the next frame where it can (R399): its SOF is this step's TIME. -/
def canStart (c : Nat) (s : State) : State :=
  let x := s.canOf c
  if x.attempt.isSome ∨ x.closing = true ∨ s.canOn c = false ∨ s.bit (CAN.CFG c) 2 = true then s
  else match s.pickTx c with
    | none => s
    | some t =>
      let s := s.putCan c { x with attempt := some (t, s.t16), aborted := false,
                                   tried := x.tried || (match t with | .buffer b => s.bctl c b 12 12 == 1 | _ => false) }
      match t with
      | .buffer b => s.setBsta c b 9 8 2
      | _ => s

/-! ### The end of a request (R400) -/

/-- A transmit request ends. -/
def bufEnd (c b : Nat) (code : Code) (s : State) : State :=
  let s := s.setBsta c b 9 0 (0x300 + code.num)
  let s := s.setBit (CAN.TXPEND c (b / 32)) (b % 32) false
  match code with
  | .abortLate => s.raiseFlt (pgCAN c) 8
  | .timeout =>
    let s := (s.setBsta c b 15 15 1).setBit (CAN.ABANDONED c (b / 32)) (b % 32) true
    (s.raiseFlt (pgCAN c) 18).raiseEvt (pgCAN c) 2
  | .done => if s.bctl c b 15 15 = 1 then s.raiseEvt (pgCAN c) 1 else s
  | _ => s

/-- One try is used (R400). -/
def useTry (c b : Nat) (s : State) : State :=
  let n := Nat.min 15 (s.bsta c b 19 16 + 1)
  let r := s.bctl c b 11 8
  let s := s.setBsta c b 19 16 n
  if r ≠ 15 ∧ n ≥ r + 1 then s.bufEnd c b .timeout else s

/-- The running window ends: an exclusive buffer that was pending and has not tried has missed it (R405). -/
def closeWindow (c : Nat) (s : State) : State :=
  let e := s.winEntry c
  let b := wfld e 8 2
  if s.ttOn c = true ∧ wfld e 1 0 = 1 ∧ s.ttWindow c ≠ 0 ∧ (s.canOf c).tried = false ∧ s.bufPends c b = true ∧ s.bctl c b 12 12 = 1
      ∧ s.bctl c b 1 0 = 2 then
    let s := s.count (CAN.TTSTA c) 31 24
    if s.fld (CAN.ECSTA c) 17 16 = 2 then s else s.useTry c b
  else s

/-- A basic cycle starts (R404, R405): its row of the matrix is read. -/
def startCycle (c k sof : Nat) (s : State) : State :=
  let s := s.closeWindow c
  let row := (List.range 16).map fun w => BitVec.ofNat 16 (ofLeBytes (s.bytes (canBase c + 0x5000 + 0x20 * k + 2 * w) 2))
  let s := s.putCan c { s.canOf c with row := row, cycleAt := sof, tried := false, refDue := false, claims := false }
  let s := ((s.setFld (CAN.TTSTA c) 5 0 k).setFld (CAN.TTSTA c) 19 16 0).setBit (CAN.TTSTA c) 10 true
  s.raiseEvt (pgCAN c) 5

end State

end Sys2Proof.Machine
end

