-- ==== Sys2Proof/Machine/Balustrade.lean ====
section
/-!
DEFINITION. The balustrade: safety inputs and sources (R362-R364), functions (R365-R368), outputs (R369-R372), FAILSAFE
(R360), the configuration gate and its calls (R375-R379), safe data (R380-R382).
-/
namespace Sys2Proof.Machine

namespace State

/-! ### FAILSAFE and forces (R360, R370) -/

def balState (s : State) : Nat := s.fld BAL0.BSTA 3 0

/-- FAILSAFE with a cause (R360); it ends only at power-up. -/
def failsafe (c : Nat) (s : State) : State :=
  if s.balState = 2 then s
  else
    let s := ((s.setFld BAL0.BSTA 3 0 2).setFld BAL0.BSTA 15 8 c).wr BAL0.OUTSTA (s.rd BAL0.OUTSTA &&& 4)
    ((s.raiseFlt pgBAL0 16).raiseEvt pgBAL0 5).gateClose

def balAxis (s : State) (a : Nat) : BalAxis := Tab.get {} s.bal.axes a
def putBalAxis (a : Nat) (x : BalAxis) (s : State) : State :=
  { s with bal := { s.bal with axes := Tab.put s.bal.axes a x } }

/-- A SAFETY force on a bridge (R370): it replaces one that is queued. -/
def forceBridge (b : Nat) (low : Bool) (s : State) : State :=
  let r := s.brgRing b
  let x := s.ringOf r
  let f := if low then 0x2A else 0x15
  let s := s.putRing r { x with force := x.force.filter (fun o => o.bridge != b) ++ [{ bridge := b, low := low }] }
  let s := s.putBrg b { s.brgOf b with balRelease := false }
  let s := { s with bal := { s.bal with forced := wsetBit s.bal.forced b true, forcedLow := wsetBit s.bal.forcedLow b low } }
  brgState b (s.forceGates b f (s.wr (BRG.FORCESTA b) (BitVec.ofNat 32 (f + 0x100))))

/-- The SAFETY force on a bridge is released: its apply instant is the bridge's next half-period boundary (R190, R370). -/
def releaseBridge (b : Nat) (s : State) : State :=
  let r := s.brgRing b
  let x := s.ringOf r
  let s := s.putRing r { x with force := x.force.filter fun o => o.bridge != b }
  let s := s.putBrg b { s.brgOf b with balRelease := true }
  { s with bal := { s.bal with forced := wsetBit s.bal.forced b false, forcedLow := wsetBit s.bal.forcedLow b false } }

/-- The force that the balustrade demands of a bridge: none, OFF (some false) or LOW (some true) (R360, R370, R372). -/
def forceWanted (s : State) (b : Nat) : Option Bool :=
  let a := s.fld (BRG.ASSIGN b) 4 0
  if s.balState = 2 ∨ s.bit BAL0.OUTSTA 2 = true then some false
  else if a < s.variant.axes ∧ (s.axisBridges a).contains b = true ∧ s.bit BAL0.STOAX a = true then
    some (s.bit (BAL1.SRCB a) 21)
  else none

/-- One bridge's output at the end of the cycle; the motion service sees cause 6 (R238, R358, R370, R384). -/
def forceStep (partner : BitVec 48) (s : State) (b : Nat) : State :=
  match s.forceWanted b with
  | some low =>
    if s.bal.forced.getLsbD b = true ∧ s.bal.forcedLow.getLsbD b = low then s
    else
      let a := s.fld (BRG.ASSIGN b) 4 0
      let s := s.forceBridge b low
      if a < s.variant.axes ∧ s.axisOn a = true ∧ (s.axisBridges a).contains b = true then s.stopFor a 6 else s
  | none => if s.bal.forced.getLsbD b = true ∧ partner.getLsbD b = false then s.releaseBridge b else s

/-! ### Safety inputs (R362, R364) -/

def chanLevel (s : State) (i : Nat) : Bool := s.bal.level.getLsbD i

/-- One channel of an input filtered (R362): `i` is 0 to 7 for A, 8 to 15 for B. -/
def filterChan (new : BitVec 16) (len : Nat) (b : BalSt) (sfilt i : Nat) : BalSt :=
  let v := new.getLsbD i
  let t := if v = b.raw.getLsbD i then Nat.min 100000 (Tab.get 0 b.stable i + len) else 0
  { b with stable := Tab.put b.stable i t, level := if t ≥ sfilt * 100 then wsetBit b.level i v else b.level }

/-- Both channels of an input are in the open state. -/
def bothOpen (s : State) (k : Nat) : Bool :=
  let m := s.rd (BAL1.INCFG k)
  let a := s.chanLevel k
  let b := s.chanLevel (8 + k)
  if m.getLsbD 2 then !a && b else if m.getLsbD 3 then !a else !a && !b

/-- The two channels of an input disagree. -/
def disagree (s : State) (k : Nat) : Bool :=
  let m := s.rd (BAL1.INCFG k)
  let a := s.chanLevel k
  let b := s.chanLevel (8 + k)
  m.getLsbD 0 && (if m.getLsbD 2 then a == b else if m.getLsbD 3 then false else a != b)

/-- The input reads closed (R362). -/
def inClosed (s : State) (k : Nat) : Bool :=
  let m := s.rd (BAL1.INCFG k)
  let a := s.chanLevel k
  let b := s.chanLevel (8 + k)
  m.getLsbD 0 && !s.bit BAL0.INSTA (8 + k) && (if m.getLsbD 2 then a && !b else if m.getLsbD 3 then a else a && b)

/-- One input evaluated: fault release, level, guard test (R362, R364). -/
def inputStep (s : State) (k : Nat) : State :=
  let s := if s.bothOpen k then s.setBit BAL0.INSTA (8 + k) false else s
  let c := s.inClosed k
  let s := s.setBit BAL0.INSTA k c
  if s.bit BAL0.INSTA (16 + k) = false then s
  else if c = false then { s with bal := { s.bal with guardOpen := wsetBit s.bal.guardOpen k true } }
  else if s.bal.guardOpen.getLsbD k then s.setBit BAL0.INSTA (16 + k) false else s

/-- The safety inputs at a cycle. -/
def inputs (i : BalInputs) (s : State) : State :=
  let new : BitVec 16 := i.chanB ++ i.chanA
  let len := i.cycle10ns.toNat
  let sf := s.fld BAL1.GENERAL 7 0
  let b := (List.range 16).foldl (fun b c => filterChan new len b sf c) s.bal
  let s := { s with bal := { b with raw := new } }
  let was := s.fld BAL0.INSTA 23 16
  let s := (List.range 8).foldl inputStep s
  if was ≠ 0 ∧ s.fld BAL0.INSTA 23 16 = 0 then s.raiseEvt pgBAL0 4 else s

/-- A source reads 1: no demand (R362, R363). -/
def source (s : State) (c : Nat) : Bool :=
  if c = 0 then true
  else if c ≤ 8 then s.bit BAL0.INSTA (c - 1)
  else if c ≤ 40 then s.bit BAL0.VINSTA (c - 9)
  else false

/-- A function with source `c` is demanded (R363, R364). -/
def demanded (s : State) (c : Nat) : Bool :=
  c != 0 && (!s.source c || (decide (c ≤ 8) && s.bit BAL0.INSTA (15 + c)))

/-- The source codes of an axis: STO, SS1, SS2, SOS, SLS, SDI. -/
def sources (s : State) (a : Nat) : List Nat :=
  [s.fld (BAL1.SRCA a) 5 0, s.fld (BAL1.SRCA a) 13 8, s.fld (BAL1.SRCA a) 21 16, s.fld (BAL1.SRCA a) 29 24,
   s.fld (BAL1.SRCB a) 5 0, s.fld (BAL1.SRCB a) 13 8]

/-- Function `i` of the axis is demanded, in the order of `sources`. -/
def wants (s : State) (a i : Nat) : Bool := s.demanded ((s.sources a).getD i 0)

/-! ### Functions (R365-R368) -/

/-- The function of an axis: 0 none, 1 STO, 2 SS1, 3 SS2, 4 SOS. -/
def balFn (s : State) (a : Nat) : Nat := s.fld (BAL0.AFSTA a) 2 0
def setFn (a f : Nat) (s : State) : State := s.setFld (BAL0.AFSTA a) 2 0 f

/-- A feedback port's speed, Q16.16 rev/s. -/
def portSpeed (s : State) (n : Nat) : Int := s.sint (FB.SPD n)

/-- The speed and the position that the balustrade takes of an axis (R366). -/
def safeSpeed (s : State) (a : Nat) : Int := match s.primaryPort a with | some n => s.portSpeed n | none => 0
def safePos (s : State) (a : Nat) : Int := match s.primaryPort a with | some n => s.sint64 (FB.POS n) | none => 0

/-- The second source of the speed (R366). -/
def secondSpeed (s : State) (a : Nat) : Int :=
  if s.bit (BAL1.PLCFG a) 5 then s.portSpeed (s.fld (BAL1.PLCFG a) 4 0) else s.sint (AXIS.ESTSPD a)

/-- SSPD in Q16.16 rev/s. -/
def sspd (s : State) (a : Nat) : Nat := s.fld (BAL1.SOSCFG a) 31 16 * 256

/-- STO of an axis (R365, R369, R370): the forces and the pairs follow at the end of the cycle. -/
def enterSto (a : Nat) (s : State) : State :=
  if s.balFn a = 1 then s else ((s.setFn a 1).setBit BAL0.STOAX a true).raiseEvt pgBAL0 0

/-- The stop demand of SS1 (2) or SS2 (3) (R365). -/
def enterStop12 (a f : Nat) (s : State) : State :=
  let x := s.balAxis a
  let s := s.putBalAxis a { x with v0 := (s.safeSpeed a).natAbs, t := 0, ramp := s.fld (BAL1.SS1CFG a) 31 16 != 0 }
  (s.setFn a f).raiseEvt pgBAL0 2

/-- SOS (R365). -/
def enterSos (a : Nat) (s : State) : State := (s.putBalAxis a { s.balAxis a with p0 := s.safePos a }).setFn a 4

/-- A violation is latched, with its reaction (R367, R383). -/
def violate (a code : Nat) (s : State) : State :=
  let s := ((s.setBit (BAL0.AFSTA a) 5 true).setFld (BAL0.AFSTA a) 9 6 code).setBit BAL0.VIOLAX a true
  let s := ((s.setBit (BAL0.AFSTA a) 10 true).raiseFlt pgBAL0 18).raiseEvt pgBAL0 3
  if s.balFn a = 1 then s
  else if code ≥ 5 ∨ s.balFn a = 2 ∨ s.bit (BAL1.SRCB a) 20 = false then s.enterSto a
  else s.enterStop12 a 2

/-- The speed-based functions demanded of an axis (R366): SS1-r, SS2, SOS, SLS or SDI. -/
def speedBased (s : State) (a : Nat) : Bool :=
  (s.wants a 1 && s.fld (BAL1.SS1CFG a) 31 16 != 0) || s.wants a 2 || s.wants a 3 || s.wants a 4 || s.wants a 5

/-- The feedback loss or the supervision trip that is reported of an axis (R366). -/
def reported (s : State) (a code : Nat) : Bool :=
  if code = 6 then s.fbFault.getLsbD a else (s.axisBridges a).any fun b => s.galFault.getLsbD b

/-- The functions change with their demands (R365, R383). -/
def stepDemands (a : Nat) (s : State) : State :=
  let f := s.balFn a
  let s := if s.wants a 0 = true ∨ s.balState ≠ 1 then s.enterSto a
    else if s.wants a 1 = true ∧ f ≠ 1 ∧ f ≠ 2 then s.enterStop12 a 2
    else if s.wants a 2 = true ∧ f = 0 then s.enterStop12 a 3
    else if s.wants a 3 = true ∧ f = 0 then s.enterSos a
    else s
  let was := s.bit (BAL0.AFSTA a) 4
  let s := (s.setBit (BAL0.AFSTA a) 3 (s.wants a 4)).setBit (BAL0.AFSTA a) 4 (s.wants a 5)
  if s.wants a 5 = true ∧ was = false then s.putBalAxis a { s.balAxis a with best := s.safePos a } else s

/-- Whether the checks with codes 1 to 4 fail at this cycle, after time and best position have been brought up to date
(R365). -/
def checkFails (s : State) (a code : Nat) : Bool :=
  let x := s.balAxis a
  let v := (s.safeSpeed a).natAbs
  let p := s.safePos a
  match code with
  | 1 =>
    let l := s.fld (BAL1.SRCB a) 17 16
    let w := if l < 2 then BAL1.SLSAB a else BAL1.SLSCD a
    s.bit (BAL0.AFSTA a) 3 && decide (v > s.fld w (16 * (l % 2) + 15) (16 * (l % 2)) * 256)
  | 2 =>
    let d := if s.bit (BAL1.SRCB a) 18 then x.best - p else p - x.best
    s.bit (BAL0.AFSTA a) 4 && decide (d > (s.fld (BAL1.MISC a) 15 0 * 65536 : Nat))
  | 3 => s.balFn a == 4 && decide ((p - x.p0).natAbs > s.fld (BAL1.SOSCFG a) 15 0 * 65536 ∨ v > s.sspd a)
  | 4 => (s.balFn a == 2 || s.balFn a == 3) && x.ramp &&
      decide (v * 100000000 + s.fld (BAL1.SS1CFG a) 31 16 * 4096 * x.t > (x.v0 + s.sspd a) * 100000000)
  | _ => false

/-- Time in the stop, the most favourable position, and the counts of failing cycles (R365-R367). -/
def stepChecks (a len : Nat) (s : State) : State :=
  let x := s.balAxis a
  let p := s.safePos a
  let best := if s.bit (BAL1.SRCB a) 18 then max x.best p else min x.best p
  let s := s.putBalAxis a { x with t := x.t + len, best := best }
  let d := (s.safeSpeed a - s.secondSpeed a).natAbs
  let ok := decide (d ≤ s.fld (BAL1.PLCFG a) 31 16 * 256)
  let s := (s.wr (BAL0.SPDSAFE a) (BitVec.ofNat 32 (s.safeSpeed a).natAbs)).setBit (BAL0.AFSTA a) 12 ok
  let x := s.balAxis a
  let fails := [1, 2, 3, 4].foldl (fun t c => Tab.put t c (if s.checkFails a c then Tab.get 0 t c + 1 else 0)) x.fails
  s.putBalAxis a { x with fails := fails, plFails := if ok then 0 else x.plFails + 1 }

/-- A stop whose ramp is checked ends when the speed reaches SSPD (R365). -/
def stepRamp (a : Nat) (s : State) : State :=
  if (s.balAxis a).ramp = true ∧ (s.safeSpeed a).natAbs ≤ s.sspd a then
    if s.balFn a = 2 then s.enterSto a else if s.balFn a = 3 then s.enterSos a else s
  else s

/-- The check behind a latched violation passes at this cycle (R368). -/
def checkPasses (s : State) (a : Nat) : Bool :=
  let c := s.fld (BAL0.AFSTA a) 9 6
  if c = 5 then decide ((s.balAxis a).plFails = 0)
  else if c = 6 ∨ c = 7 then !(s.speedBased a && s.reported a c)
  else decide (Tab.get 0 (s.balAxis a).fails c = 0)

/-- Release (R368): `edge` is the ACK source's rising edge. -/
def stepRelease (a : Nat) (edge : Bool) (s : State) : State :=
  let s := if s.bit (BAL0.AFSTA a) 5 = true ∧ edge = true ∧ s.checkPasses a = true then
      ((s.setBit (BAL0.AFSTA a) 5 false).setFld (BAL0.AFSTA a) 9 6 0).setBit BAL0.VIOLAX a false
    else s
  let quiet := (s.sources a).all fun c => !s.demanded c
  let free := quiet && !s.bit (BAL0.AFSTA a) 5 && s.balState == 1 && !s.bit BAL0.OUTSTA 2
  let f := s.balFn a
  let held := (f == 1 && s.bit BAL1.GENERAL 16) && !(edge && free)
  let s := s.setBit (BAL0.AFSTA a) 10 (s.bit (BAL0.AFSTA a) 5 || held)
  if free = false ∨ held = true then s
  else if f = 1 then ((s.setFn a 0).setBit BAL0.STOAX a false).raiseEvt pgBAL0 1
  else if f = 4 then s.setFn a 0
  else s

/-- One axis at a cycle. -/
def axisCycle (edge : Bool) (len : Nat) (s : State) (a : Nat) : State :=
  ((stepRamp a (stepChecks a len (stepDemands a s)))).stepRelease a edge

/-! ### Outputs (R369, R371) -/

/-- The STO pairs (R371, R372). -/
def pairStep (s : State) : State :=
  let ok := fun j => s.balState == 1 && !s.bit BAL0.OUTSTA 2 &&
    (List.range s.variant.axes).all fun a => !(s.bit (BAL1.SRCB a) (24 + j) && s.bit BAL0.STOAX a)
  (s.setBit BAL0.OUTSTA 0 (ok 0)).setBit BAL0.OUTSTA 1 (ok 1)

/-- The brake of an axis (R369): in STO it is applied by the end of SBCDLY. -/
def brakeStep (s : State) (a : Nat) : State :=
  if s.bit (BAL1.MISC a) 27 = false then s
  else
    let k := s.fld (BAL1.MISC a) 26 24
    let on := s.balState == 1 && s.bit BAL0.BRKREQ k && (!s.bit BAL0.STOAX a || s.bit BAL0.OUTSTA (8 + k))
    (s.setBit BAL0.OUTSTA (8 + k) on).setBit (BAL0.AFSTA a) 11 (!on)

/-- Brake outputs that no axis names, and every one in FAILSAFE, are applied (R360, R369). -/
def brakesIdle (s : State) : State :=
  let used := (List.range s.variant.axes).foldl (fun m a =>
    if s.bit (BAL1.MISC a) 27 then m ||| 2 ^ s.fld (BAL1.MISC a) 26 24 else m) 0
  s.setFld BAL0.OUTSTA 15 8 (if s.balState = 1 then s.fld BAL0.OUTSTA 15 8 &&& used else 0)

/-- The outputs at the end of a cycle. -/
def outputs (partner : BitVec 48) (s : State) : State :=
  let s := (List.range s.variant.axes).foldl brakeStep s.pairStep.brakesIdle
  (List.range s.variant.bridges).foldl (forceStep partner) s

/-- A cycle of TB (R358): in INIT and in DORMANT the balustrade evaluates nothing. -/
def balCycle (i : BalInputs) (s : State) : State :=
  let s := s.keepMax BAL0.CYCSTA 15 0 i.cycle10ns.toNat
  let s := match i.failsafe with
    | some c => s.failsafe c.toNat
    | none => if i.readbackOk = false then s.failsafe 5 else if i.cycle10ns.toNat > 2500 then s.failsafe 6 else s
  let s := s.inputs i
  let ack := s.source (s.fld BAL1.GENERAL 29 24)
  let edge := ack && !s.bal.ack
  let s := { s with bal := { s.bal with ack := ack } }
  let s := (List.range s.variant.axes).foldl (axisCycle edge i.cycle10ns.toNat) s
  let keep := (List.range s.variant.axes).foldl (fun m a =>
    if s.speedBased a then (s.axisBridges a).foldl (fun m b => m ||| 2 ^ b) m else m) 0
  let s := { s with galFault := s.galFault &&& BitVec.ofNat 48 keep }
  s.outputs i.partnerForce

/-- The balustrade's cores run (R358, R359). -/
def balRuns (s : State) : Bool := s.balState != 0 && s.sysMode != 0 && !s.pwr.dead && !s.pwr.held

/-- Time ends an SS1 or SS2 (R365). -/
def ss1Timeout (a : Nat) (s : State) : State :=
  let beyond := decide ((s.balAxis a).t ≥ s.fld (BAL1.SS1CFG a) 15 0 * 100000)
  if beyond = true ∧ s.balFn a = 2 then s.enterSto a
  else if beyond = true ∧ s.balFn a = 3 then
    if (s.safeSpeed a).natAbs > s.sspd a then s.violate a 4 else s.enterSos a
  else s

/-- A check has failed for VCNT cycles, or a loss or trip is reported (R366, R367). -/
def violationDue (s : State) (a code : Nat) : Bool :=
  if code = 6 ∨ code = 7 then s.speedBased a && s.reported a code
  else 1 ≤ code && code ≤ 4 && decide (Nat.max 1 (s.fld (BAL1.MISC a) 23 16) ≤ Tab.get 0 (s.balAxis a).fails code)

/-- SAFETY_VIOLATION's effect: the report of a supervision trip is taken. -/
def safetyViolation (a code : Nat) (s : State) : State :=
  if s.violationDue a code ∧ s.balRuns then
    let s := s.violate a code
    if code = 7 then { s with galFault := (s.axisBridges a).foldl (fun m b => wsetBit m b false) s.galFault } else s
  else s

/-- The axis has a source: the balustrade's functions act on it (R365). -/
def sourced (s : State) (a : Nat) : Bool := (s.sources a).any fun c => c != 0

/-- The two speed sources have differed for PLCNT cycles (R366). -/
def plausibility (a : Nat) (s : State) : State :=
  if s.sourced a ∧ s.balRuns ∧ Nat.max 1 (s.fld (BAL1.PLCFG a) 15 8) ≤ (s.balAxis a).plFails then s.violate a 5 else s

/-- A brake is applied SBCDLY after STO (R369). -/
def brakeApply (a : Nat) (s : State) : State :=
  if s.balFn a = 1 ∧ s.bit (BAL1.MISC a) 27 then
    (s.setBit BAL0.OUTSTA (8 + s.fld (BAL1.MISC a) 26 24) false).setBit (BAL0.AFSTA a) 11 true
  else s

/-- A dark pulse on a ball of a permitting pair, read back (R371). -/
def darkPulse (ball : Nat) (readback : Bool) (s : State) : State :=
  if s.bit BAL0.OUTSTA (ball / 2) = false then s
  else
    let s := { s with bal := { s.bal with dark := ball } }
    if readback then s else s.failsafe 5

/-- Thermal shutdown (R346, R372, R383, R495). -/
def thermalShutdown (sensor : Nat) (s : State) : State :=
  let s := (s.setBit BAL0.OUTSTA 2 true).setFld BAL0.OUTSTA 1 0 0
  let s := (((s.wr THM.SDSTA (BitVec.ofNat 32 (3 + sensor * 256))).raiseFlt pgTHM 17).raiseEvt pgTHM 1)
  ((s.commitsStop 2).gateClose).autoMode 7 3

/-! ### The gate's calls (R376-R379) -/

/-- A password is judged (R377): without one set, only length 0 passes. -/
def passwordOk (s : State) (pw : List Byte) : Bool :=
  if s.bit BAL1.GATE 2 then sha256 (s.nvm.salt ++ pw) == s.nvm.hash else pw.isEmpty

/-- A wrong password (R377, R378): the fifth in a row locks SAFE_OPEN. -/
def wrongPassword (k : Nat) (s : State) : State :=
  let n := Nat.min 15 (s.fld BAL1.GATE 7 4 + 1)
  let s := s.setFld BAL1.GATE 7 4 n
  let s := if n ≥ 5 then
      let s := s.setBit BAL1.GATE 1 true
      if s.gateOpen then s else s.setFld BAL1.GATE 31 16 900
    else s
  (s.raiseFlt pgBAL1 18).callEnd k .rejLock []

/-- SAFE_OPEN (R376, R377). -/
def safeOpen (k : Nat) (pw : List Byte) (s : State) : State :=
  let all := (List.range s.variant.axes).all fun a => s.bit BAL0.STOAX a
  if pw.length > 64 then s.callEnd k .rejLength []
  else if s.bit BAL1.GATE 1 then s.callEnd k .rejLock []
  else if s.sysMode ≠ 6 ∨ all = false ∨ (s.balState ≠ 1 ∧ s.balState ≠ 3) ∨ s.gateOpen = true then s.callEnd k .rejState []
  else if s.passwordOk pw = false then s.wrongPassword k
  else
    let s := ((s.setFld BAL1.GATE 7 4 0).setBit BAL1.GATE 0 true).setFld BAL1.GATE 31 16 900
    ((s.setBit BAL0.BSTA 6 true).raiseEvt pgBAL1 0).callEnd k .done []

/-- SAFE_CLOSE (R376, R378): refused while a commit runs. -/
def safeClose (k : Nat) (s : State) : State :=
  if s.gateOpen = false ∨ s.bal.committing.isSome then s.callEnd k .rejState [] else s.gateClose.callEnd k .done []

/-- A source code is valid (R363). -/
def srcOk (c : Nat) : Bool := c ≤ 40 || c == 63

/-- The brake output of an axis is named by a lower axis too. -/
def brakeTwice (s : State) (a : Nat) : Bool :=
  s.bit (BAL1.MISC a) 27 && (List.range a).any fun j =>
    s.bit (BAL1.MISC j) 27 && s.fld (BAL1.MISC j) 26 24 == s.fld (BAL1.MISC a) 26 24

/-- The checks of a SAFE_COMMIT on the configuration that `s` holds, in the order of their offsets on BAL[1] (R378). -/
def commitChecks (s : State) : List (Nat × Bool) :=
  (0x54, srcOk (s.fld BAL1.GENERAL 29 24)) ::
  ((List.range s.variant.axes).flatMap fun a =>
    let c := s.sources a
    [(0x200 + 0x20 * a, (c.take 4).all srcOk), (0x204 + 0x20 * a, (c.drop 4).all srcOk),
     (0x210 + 0x20 * a, (c.getD 1 0 == 0 && c.getD 2 0 == 0) || s.fld (BAL1.SS1CFG a) 15 0 != 0),
     (0x21C + 0x20 * a, !s.brakeTwice a)]) ++
  ((List.range 8).flatMap fun c =>
    let on := s.bit (BAL1.SDCFG c) 0
    [(0x600 + 0x20 * c, !on || s.fld (BAL1.SDCFG c) 5 2 != s.fld (BAL1.SDCFG c) 9 6 ),
     (0x604 + 0x20 * c, !on || s.bit (BAL1.SDCFG c) 1 || decide (s.fld (BAL1.SDTIM c) 15 8 < s.fld (BAL1.SDTIM c) 7 0))])

/-- SAFE_COMMIT (R378). -/
def safeCommit (k : Nat) (user : BitVec 16) (comment : List Byte) (s : State) : State :=
  if comment.length > 128 then s.callEnd k .rejLength []
  else if s.gateOpen = false ∨ s.bit BAL1.GATE 2 = false ∨ s.bal.committing.isSome then s.callEnd k .rejState []
  else
    let t := s.bal.edits.foldl (fun s (e : Nat × Word) => s.wr e.1 e.2) s
    match t.commitChecks.find? fun e => !e.2 with
    | some e => (s.raiseFlt pgBAL1 19).callEnd k .rejState (leBytes 4 pgBAL1 ++ leBytes 4 e.1)
    | none =>
      { s with bal := { s.bal with committing := some s.bal.edits, committed := false } }.commitStart
        { kind := 2, units := 98, core := some k, act := .safety user comment }

/-- SAFE_PWSET (R377, R378). -/
def safePwset (k : Nat) (old new salt : List Byte) (s : State) : State :=
  if old.length > 64 ∨ new.length < 8 ∨ new.length > 64 then s.callEnd k .rejLength []
  else if s.gateOpen = false then s.callEnd k .rejState []
  else if s.passwordOk old = false then s.wrongPassword k
  else (s.setFld BAL1.GATE 7 4 0).commitStart
    { kind := 4, units := 1, core := some k, act := .password (salt.take 16) (sha256 (salt.take 16 ++ new)) }

/-- SAFE_LOGREAD (R378, R379): those entries of the range that the log still holds. -/
def safeLogread (k first count : Nat) (s : State) : State :=
  if count > 15 then s.callEnd k .rejLength []
  else
    let n := s.nvm.logEntries
    let seqs := (List.range count).map (· + first) |>.filter fun q => decide (1 ≤ q ∧ q ≤ n ∧ n < q + 1024)
    s.callEnd k .done (seqs.flatMap fun q => s.bytes (s.logAddr q) 256)

/-- SAFE_SIG (R378). -/
def safeSig (k : Nat) (s : State) : State :=
  s.callEnd k .done (bytesOf (digestWords s.safetyDigests.1 ++ [s.rd BAL1.GEN]))

/-- 15 minutes after opening; deferred while a commit runs (R376). -/
def gateTimeout (s : State) : State := if s.bal.committing.isSome then s else s.gateClose

/-- The lockout ends (R377). -/
def lockoutEnd (s : State) : State :=
  if s.bit BAL1.GATE 1 = false then s
  else
    let s := (s.setBit BAL1.GATE 1 false).setFld BAL1.GATE 7 4 0
    if s.gateOpen then s else s.setFld BAL1.GATE 31 16 0

/-! ### Safe data (R380-R382) -/

def chanOf (s : State) (c : Nat) : SafeChan := Tab.get {} s.bal.chans c
def putChan (c : Nat) (x : SafeChan) (s : State) : State :=
  { s with bal := { s.bal with chans := Tab.put s.bal.chans c x } }

/-- A receiving, or a transmitting, channel that is enabled. -/
def sdOn (s : State) (c : Nat) (tx : Bool) : Bool := s.bit (BAL1.SDCFG c) 0 && s.bit (BAL1.SDCFG c) 1 == tx

/-- Virtual inputs of a channel (R381). -/
def virtuals (c : Nat) (s : State) : State :=
  let v := if s.bit (BAL1.SDSTA c) 0 ∧ s.sdOn c false then ((s.chanOf c).data.headD 0).toNat % 16 else 0
  s.setFld BAL0.VINSTA (4 * c + 3) (4 * c) v

/-- A channel becomes invalid (R381). -/
def sdInvalid (c flt : Nat) (s : State) : State :=
  let was := s.bit (BAL1.SDSTA c) 0
  let s := (s.putChan c { s.chanOf c with good := 0 }).setBit (BAL1.SDSTA c) 0 false
  let s := (s.virtuals c).raiseFlt pgBAL1 flt
  if was then s.raiseEvt pgBAL1 3 else s

/-- CRC of a container (R380). -/
def sdCrc (salt : Word) (bs : List Byte) : Word := crc32 (leBytes 4 salt.toNat ++ bs.take 28)

/-- Sequence number of a container. -/
def sdSeq (bs : List Byte) : Nat := ofLeBytes ((bs.drop 2).take 2)

/-- The copy passes its CRC, its ID and its reserved bytes (R381). -/
def sdGood (s : State) (c : Nat) (bs : List Byte) : Bool :=
  bs.length == 32 && ofLeBytes (bs.take 2) == s.fld (BAL1.SDCFG c) 31 16 && ofLeBytes ((bs.drop 26).take 2) == 0
    && ofLeBytes (bs.drop 28) == (sdCrc (s.rd (BAL1.SDSALT c)) bs).toNat

/-- A pair whose copies agree (R381). -/
def sdPair (c : Nat) (bs : List Byte) (s : State) : State :=
  let x := s.chanOf c
  let d := (sdSeq bs + 0x10000 - s.fld (BAL1.SDSTA c) 31 16) % 0x10000
  if x.started = true ∧ d = 0 then s.putChan c { x with good := 0 }
  else if x.started = true ∧ d > 16 then (s.putChan c { x with good := 0 }).count (BAL1.SDCNT c) 15 8
  else
    let data := (bs.drop 10).take 16
    let s := if x.started then s.count (BAL1.SDCNT c) 15 8 (d - 1) else s
    let good := Nat.min 2 (x.good + 1)
    let s := s.putChan c { x with started := true, data := data, good := good }
    let s := s.setFld (BAL1.SDSTA c) 31 16 (sdSeq bs)
    let s := s.wr (BAL1.SDDATA c) (BitVec.ofNat 32 (ofLeBytes (data.take 4)))
    let s := if s.bit (BAL1.SDSTA c) 0 = false ∧ good = 2 then (s.setBit (BAL1.SDSTA c) 0 true).raiseEvt pgBAL1 4 else s
    s.virtuals c

/-- A copy on one network (R381). -/
def sdCopy (c : Nat) (netB : Bool) (bs : List Byte) (s : State) : State :=
  let ms := 16000000
  if s.sdGood c bs = false then s.count (BAL1.SDCNT c) 31 24
  else
    let sent := s.expandLt (BitVec.ofNat 48 (ofLeBytes ((bs.drop 4).take 6)))
    if s.t16 > sent + s.fld (BAL1.SDTIM c) 23 16 * ms then s.count (BAL1.SDCNT c) 23 16
    else
      let s := s.setBit (BAL1.SDSTA c) (if netB then 2 else 1) true
      let x := s.chanOf c
      match x.copy with
      | none => s.putChan c { x with copy := some (netB, bs, s.t16) }
      | some (nb, old, at_) =>
        if nb ≠ netB ∧ s.t16 ≤ at_ + s.fld (BAL1.SDTIM c) 15 8 * ms ∧ sdSeq old = sdSeq bs then
          let s := s.putChan c { x with copy := none }
          if old.take 28 = bs.take 28 then s.sdPair c bs else (s.count (BAL1.SDCNT c) 7 0).sdInvalid c 16
        else (s.putChan c { x with copy := some (netB, bs, s.t16) }).count (BAL1.SDCNT c) 23 16

/-- The network that carries a channel's A or B copy, 0 to 7 CAN, 8 and up Ethernet: the producer of the landing. -/
def sdNet (s : State) (c : Nat) (netB : Bool) : Nat :=
  if netB then s.fld (BAL1.SDCFG c) 9 7 + 8 * s.fld (BAL1.SDCFG c) 6 6
  else s.fld (BAL1.SDCFG c) 5 3 + 8 * s.fld (BAL1.SDCFG c) 2 2

/-- A container reaches the safe-data landing and the balustrade takes it (R28, R381). -/
def safeDataRx (c : Nat) (netB : Bool) (bs : List Byte) (s : State) : State :=
  if s.sdOn c false = false ∨ s.balRuns = false then s
  else
    let p := s.sdNet c netB
    if s.hasCredit .safeData p then ((s.spend .safeData p).giveBack .safeData p).sdCopy c netB bs
    else s.count (BAL1.SDCNT c) 15 8

/-- The second copy misses SDWIN (R381). -/
def sdwinExpiry (c : Nat) (s : State) : State :=
  let x := s.chanOf c
  if x.copy.isSome then (s.putChan c { x with copy := none }).count (BAL1.SDCNT c) 23 16 else s

/-- No pair for SDTO (R381). -/
def sdtoExpiry (c : Nat) (s : State) : State := if s.sdOn c false then s.sdInvalid c 17 else s

/-- What a transmitting channel says (R382). -/
def sdReport (s : State) : List Byte :=
  leBytes 3 (s.fld BAL0.STOAX 23 0) ++ leBytes 3 (s.fld BAL0.VIOLAX 23 0) ++
    [BitVec.ofNat 8 (b01 (s.balState == 2) + b01 s.gateOpen * 2 + b01 (s.balState == 3) * 4)] ++ List.replicate 9 0

/-- A container is handed to one network (R380, R382, R401). -/
def sdSend (c net : Nat) (bs : List Byte) (s : State) : State :=
  if net < 8 then
    let x := s.canOf net
    let s := if (Tab.find x.safe c).isSome then s.count (CAN.CNT3 net) 31 24 else s
    (s.putCan net { x with safe := Tab.put x.safe c bs }).canStart net
  else
    let x := Tab.get {} s.eth (net - 8)
    { s with eth := Tab.put s.eth (net - 8) { x with safe := Tab.put x.safe c bs } }

/-- A transmitting channel sends one container on both networks (R382). -/
def safeDataTx (c : Nat) (s : State) : State :=
  if s.sdOn c true = false ∨ s.balRuns = false then s
  else
    let seq := (s.fld (BAL1.SDSTA c) 31 16 + 1) % 0x10000
    let data := s.sdReport
    let body := leBytes 2 (s.fld (BAL1.SDCFG c) 31 16) ++ leBytes 2 seq ++ leBytes 6 (lt48 s.t16).toNat ++ data ++ [0, 0]
    let bs := body ++ leBytes 4 (sdCrc (s.rd (BAL1.SDSALT c)) body).toNat
    let s := s.putChan c { s.chanOf c with sent := bs }
    let s := (s.setFld (BAL1.SDSTA c) 31 16 seq).wr (BAL1.SDDATA c) (BitVec.ofNat 32 (ofLeBytes (data.take 4)))
    (s.sdSend c (s.sdNet c false) bs).sdSend c (s.sdNet c true) bs

end State

/-- SAFE_OPEN (R376-R378). -/
def execSafeOpen (core : Nat) (seq : BitVec 16) (arglen : Nat) (_user : BitVec 16) (pw : List (BitVec 8)) (s : State) :
    Host.Outcome State Fault Refusal :=
  s.callOn core 0x40 seq arglen 68 (State.safeOpen core pw)

/-- SAFE_CLOSE (R376, R378). -/
def execSafeClose (core : Nat) (seq : BitVec 16) (arglen : Nat) (s : State) : Host.Outcome State Fault Refusal :=
  s.callOn core 0x41 seq arglen 0 (State.safeClose core)

/-- SAFE_COMMIT (R378). -/
def execSafeCommit (core : Nat) (seq : BitVec 16) (arglen : Nat) (user : BitVec 16) (comment : List (BitVec 8)) (s : State) :
    Host.Outcome State Fault Refusal :=
  s.callOn core 0x42 seq arglen 132 (State.safeCommit core user comment)

/-- SAFE_PWSET (R377, R378). -/
def execSafePwset (core : Nat) (seq : BitVec 16) (arglen : Nat) (old new salt : List (BitVec 8)) (s : State) :
    Host.Outcome State Fault Refusal :=
  s.callOn core 0x43 seq arglen 132 (State.safePwset core old new salt)

/-- SAFE_LOGREAD (R378, R379). -/
def execSafeLogread (core : Nat) (seq : BitVec 16) (arglen : Nat) (first : BitVec 32) (count : Nat) (s : State) :
    Host.Outcome State Fault Refusal :=
  s.callOn core 0x44 seq arglen 8 (State.safeLogread core first.toNat count)

/-- SAFE_SIG (R378). -/
def execSafeSig (core : Nat) (seq : BitVec 16) (arglen : Nat) (s : State) : Host.Outcome State Fault Refusal :=
  s.callOn core 0x45 seq arglen 0 (State.safeSig core)

/-- BAL_CYCLE (R358-R371). -/
def execBalCycle (i : BalInputs) (s : State) : Host.Outcome State Fault Refusal :=
  .next (if s.balRuns then s.balCycle i else s)

/-- DISCREPANCY_TIMEOUT (R362). -/
def execDiscrepancyTimeout (k : Nat) (s : State) : Host.Outcome State Fault Refusal :=
  onUnit (decide (k < 8)) (if s.disagree k ∧ s.balRuns then
    ((s.setBit BAL0.INSTA (8 + k) true).setBit BAL0.INSTA k false).raiseFlt pgBAL0 17 else s)

/-- SS1_TIMEOUT (R365). -/
def execSs1Timeout (a : Nat) (s : State) : Host.Outcome State Fault Refusal :=
  onUnit (decide (a < s.variant.axes)) (s.ss1Timeout a)

/-- SAFETY_VIOLATION (R367). -/
def execSafetyViolation (a : Nat) (code : BitVec 4) (s : State) : Host.Outcome State Fault Refusal :=
  onUnit (decide (a < s.variant.axes)) (s.safetyViolation a code.toNat)

/-- PLAUSIBILITY_VIOLATION (R366). -/
def execPlausibilityViolation (a : Nat) (s : State) : Host.Outcome State Fault Refusal :=
  onUnit (decide (a < s.variant.axes)) (s.plausibility a)

/-- BRAKE_APPLY (R369). -/
def execBrakeApply (a : Nat) (s : State) : Host.Outcome State Fault Refusal :=
  onUnit (decide (a < s.variant.axes)) (s.brakeApply a)

/-- DARK_PULSE (R371). -/
def execDarkPulse (ball : BitVec 2) (readback : Bool) (s : State) : Host.Outcome State Fault Refusal :=
  .next (s.darkPulse ball.toNat readback)

/-- THERMAL_SHUTDOWN (R372, R495). -/
def execThermalShutdown (sensor : Nat) (s : State) : Host.Outcome State Fault Refusal :=
  onUnit (decide (sensor < 14)) (s.thermalShutdown sensor)

/-- GATE_TIMEOUT (R376). -/
def execGateTimeout (s : State) : Host.Outcome State Fault Refusal := .next s.gateTimeout

/-- LOCKOUT_END (R377). -/
def execLockoutEnd (s : State) : Host.Outcome State Fault Refusal := .next s.lockoutEnd

/-- SAFE_DATA_RX (R381). -/
def execSafeDataRx (c : Nat) (netB : Bool) (bytes : List (BitVec 8)) (s : State) : Host.Outcome State Fault Refusal :=
  onUnit (decide (c < 8)) (s.safeDataRx c netB bytes)

/-- SDWIN_EXPIRY (R381). -/
def execSdwinExpiry (c : Nat) (s : State) : Host.Outcome State Fault Refusal :=
  onUnit (decide (c < 8)) (s.sdwinExpiry c)

/-- SDTO_EXPIRY (R381). -/
def execSdtoExpiry (c : Nat) (s : State) : Host.Outcome State Fault Refusal :=
  onUnit (decide (c < 8)) (s.sdtoExpiry c)

/-- SAFE_DATA_TX (R382). -/
def execSafeDataTx (c : Nat) (s : State) : Host.Outcome State Fault Refusal :=
  onUnit (decide (c < 8)) (s.safeDataTx c)

end Sys2Proof.Machine
end

