-- ==== Sys2Proof/Machine/Can.lean ====
section
/-!
DEFINITION. CAN controllers (R389-R411): enabling, reception, locked reads, transmission, fault confinement, the
time-triggered schedule, self-test.
-/
namespace Sys2Proof.Machine

namespace State

/-- The answer a requester gets. -/
def answer (req : Nat) (v : Word64) (s : State) : State :=
  { s with host := { s.host with resp := Tab.put s.host.resp req { value := v } } }

/-! ### Enabling (R391, R406, R409) -/

/-- A register whose check fails at EN = 1, by ascending offset (R391, R406). -/
def canCfgErr (s : State) (c : Nat) : Option Nat :=
  let n := CAN.NBT c
  let d := CAN.DBT c
  let nb := s.nomBit c
  let db := s.dataBit c
  let len := s.fld (CAN.CYCLEN c) 15 0
  let nw := s.fld (CAN.TTCFG c) 11 8 + 1
  let ws := fun w => if w = 0 then 0 else s.fld (CAN.WSTART c w) 15 0
  if nb < 16000 ∨ 1 + (s.fld n 12 5 + 1) + (s.fld n 19 13 + 1) < 8 ∨ s.fld n 26 20 > s.fld n 19 13 then some 0x44
  else if s.fld d 17 14 > s.fld d 13 10 ∨ db < 2000 ∨ db > nb then some 0x48
  else if s.bit (CAN.TDCCFG c) 16 = true ∧ s.fld d 4 0 + 1 > 2 then some 0x4C
  else if s.ttMode c = 0 then none
  else if len < 100 then some 0xC4
  else match (List.range nw).find? fun w => decide (w ≠ 0 ∧ (ws w ≤ ws (w - 1) ∨ ws w ≥ len)) with
    | some w => some (0x100 + 4 * w)
    | none =>
      let first := if nw = 1 then len else ws 1
      if first * 16000 < s.frameTime c (s.bit (CAN.REFID c) 29) true 8 then some (if nw = 1 then 0xC4 else 0x104) else none

/-- Every pending request ends ABORTED (R409). -/
def canAbortAll (c : Nat) (s : State) : State :=
  (List.range 128).foldl (fun s b => if s.bufPends c b then s.bufEnd c b .aborted else s) s

/-- CTL.EN (R391, R409). -/
def canEnable (c : Nat) (en : Bool) (s : State) : State :=
  let p := pgCAN c
  let was := s.bit (HDR.CTL p) 0
  if en = was then s
  else if en then
    match s.canCfgErr c with
    | some o => ((s.refuseWrite p).raiseFlt p 23).wr (CAN.CFGERR c) (BitVec.ofNat 32 o)
    | none =>
      let s := (cfgWr p (HDR.CTL p) (wsetBit (s.rd (HDR.CTL p)) 0 true) s).wr (CAN.CFGERR c) 0
      let s := s.putCan c { s.canOf c with closing := false }
      let s := s.setFld (CAN.TTSTA c) 9 8 (if s.ttMode c = 1 then 1 else if s.ttMode c = 2 then 3 else 0)
      (s.setFld (HDR.STA p) 3 0 3).canStart c
  else
    let s := cfgWr p (HDR.CTL p) (wsetBit (s.rd (HDR.CTL p)) 0 false) s
    let x := s.canOf c
    if x.attempt.isSome then s.putCan c { x with closing := true }
    else ((s.canAbortAll c).wr (CAN.TTSTA c) 0).setFld (HDR.STA p) 3 0 2

/-! ### Error counters (R403) -/

/-- ECSTA from the counters, as ISO 11898-1 confines faults: passive from 128, bus-off above 255. -/
def canState (c : Nat) (s : State) : State :=
  let x := s.canOf c
  let a := CAN.ECSTA c
  let old := s.fld a 17 16
  let new := if x.tec > 255 then 2 else if old = 2 then 2 else if x.tec ≥ 128 ∨ x.rec_ ≥ 128 then 1 else 0
  let s := s.setFld a 17 0 (Nat.min 255 x.tec + Nat.min 255 x.rec_ * 256 + new * 65536)
  if old ≠ 2 ∧ new = 2 then
    let s := ((s.raiseFlt (pgCAN c) 16).raiseEvt (pgCAN c) 3).count (CAN.CNT3 c) 23 16
    if s.bit (CAN.CFG c) 1 then s.setBit a 18 true else s
  else if old = 0 ∧ new = 1 then s.raiseFlt (pgCAN c) 17
  else s

/-- LEC (R410). -/
def setLec (c lec : Nat) (dataPhase : Bool) (s : State) : State :=
  s.setFld (CAN.ECSTA c) 23 20 (lec % 8 + b01 dataPhase * 8)

/-- A frame received without error: the receive counter falls (ISO 11898-1); above 127 it goes to a value of 119 to 127
that the standard leaves open. -/
def rxGood (c : Nat) (s : State) : State :=
  let x := s.canOf c
  if x.rec_ > 127 then
    let d := s.draw
    (d.2.putCan c { x with rec_ := 119 + d.1.toNat % 9 }).canState c
  else (s.putCan c { x with rec_ := x.rec_ - 1 }).canState c

/-- A receive error (R389, R403). -/
def rxError (c : Nat) (e : CanRxErr) (s : State) : State :=
  if s.canOn c = false then s
  else
    let x := s.canOf c
    let bump := fun (n lec : Nat) =>
      let s := s.putCan c { x with rec_ := if x.rec_ ≥ 128 ∧ n = 1 then x.rec_ else x.rec_ + n }
      ((s.setLec c lec false).count (CAN.CNT2 c) 15 0).canState c
    match e with
    | .normal l => bump 1 l.toNat
    | .dominantAfterFlag l => bump 8 l.toNat
    | .protocolException => s.count (CAN.CNT2 c) 31 24

/-! ### Reception (R395-R397) -/

/-- Data bytes of a frame, zero beyond its length. -/
def frameData (f : CanFrame) : List Byte :=
  let n := if f.rtr then 0 else dlcBytes f.fdf f.dlc.toNat
  (f.data.take n ++ List.replicate 64 0).take 64

/-- Identifier word of a frame. -/
def frameId (f : CanFrame) : Word := BitVec.ofNat 32 (f.ident.toNat + b01 f.xtd * 2 ^ 29 + b01 f.rtr * 2 ^ 30)

/-- A frame is stored in a buffer (R396). -/
def storeFrame (c b : Nat) (f : CanFrame) (sof : Nat) (s : State) : State :=
  let s := if s.bsta c b 10 10 = 1 then (s.setBsta c b 11 11 1).raiseFlt (pgCAN c) 19 else s
  let s := (s.putBufWord c b 0 (frameId f)).putStamp c b sof
  let s := s.putBytes (canBase c + 0x80 * b + 0x20) (frameData f)
  let s := s.putBufWord c b 8 (wset (s.bufWord c b 8) 7 4 f.dlc.toNat)
  let s := (s.setBsta c b 31 24 (s.bsta c b 31 24 + 2)).setBsta c b 10 10 1
  let s := (s.setBsta c b 14 14 (b01 f.esi)).setBit (CAN.RXNEW c (b / 32)) (b % 32) true
  let s := s.count (CAN.CNT1 c) 15 0
  if s.bctl c b 15 15 = 1 then s.raiseEvt (pgCAN c) 0 else s

/-- A frame for a buffer (R396, R397): into its shadow while it is locked. -/
def toBuffer (c b : Nat) (f : CanFrame) (sof : Nat) (s : State) : State :=
  let x := s.canOf c
  if (Tab.find x.locks b).isSome then
    let s := if (Tab.find x.shadows b).isSome then (s.setBsta c b 11 11 1).raiseFlt (pgCAN c) 19 else s
    (s.putCan c { x with shadows := Tab.put x.shadows b (f, sof) }).setBsta c b 13 13 1
  else s.storeFrame c b f sof

/-- The identifier and format of a frame match a word laid out as IDW. -/
def idMatches (w : Word) (f : CanFrame) : Bool := wfld w 28 0 == f.ident.toNat && w.getLsbD 29 == f.xtd

/-- Filter of a receive buffer (R395). -/
def accepts (s : State) (c b : Nat) (f : CanFrame) : Bool :=
  s.bctl c b 1 0 == 1 && ((s.bufWord c b 0 ^^^ frameId f) &&& s.bufWord c b 4 &&& 0x3FFFFFFF) == 0

/-- The frame is a reference message of the schedule (R395, R404). -/
def isReference (s : State) (c : Nat) (f : CanFrame) : Bool :=
  s.ttMode c != 0 && idMatches (s.rd (CAN.REFID c) &&& 0xFFFFFFF8) { f with ident := f.ident &&& 0x1FFFFFF8 }

/-- A received reference message (R404). -/
def referenceRx (c : Nat) (f : CanFrame) (s : State) : State :=
  let sof := s.t16 - f.age
  let k := (f.data.headD 0).toNat % 64
  let lt := BitVec.ofNat 48 (ofLeBytes ((f.data.drop 1).take 6))
  let prio := ((f.data.getD 7 0).toNat) % 8
  let s := s.wr (CAN.TTOFS c) (BitVec.ofInt 32 (((sof : Int) - s.expandLt lt) / 16))
  let s := s.count (CAN.REFCNT c) 15 0
  let role := s.fld (CAN.TTSTA c) 9 8
  let new := if s.ttMode c = 1 then 1 else if role = 2 ∧ s.fld (CAN.TTCFG c) 4 2 ≤ prio then 2 else 3
  let s := s.setFld (CAN.TTSTA c) 9 8 new
  let s := if s.ttMode c = 2 ∧ new ≠ role then s.raiseEvt (pgCAN c) 6 else s
  (s.startCycle c k sof).canStart c

/-- The channel whose container a frame carries, and on which of its networks (R395). -/
def safeChannel (s : State) (c : Nat) (f : CanFrame) : Option (Nat × Bool) :=
  (List.range 8).findSome? fun ch =>
    let g := BAL1.SDCFG ch
    if s.bit g 0 = false ∨ f.fdf = false ∨ f.dlc ≠ 13 then none
    else if s.bit g 2 = false ∧ s.fld g 5 3 = c ∧ idMatches (s.rd (BAL1.SDIDA ch)) f = true then some (ch, false)
    else if s.bit g 6 = false ∧ s.fld g 9 7 = c ∧ idMatches (s.rd (BAL1.SDIDB ch)) f = true then some (ch, true)
    else none

/-- A valid frame is received (R395). -/
def frameRx (c : Nat) (f : CanFrame) (s : State) : State :=
  if s.canOn c = false ∨ (f.fdf = true ∧ s.bit (CAN.CFG c) 0 = false) then s
  else
    let s := s.rxGood c
    match s.safeChannel c f with
    | some (ch, b) => s.safeDataRx ch b f.data
    | none =>
      if s.isReference c f then s.referenceRx c f
      else match (List.range 128).find? fun b => s.accepts c b f with
        | some b => s.toBuffer c b f (s.t16 - f.age)
        | none => s.count (CAN.CNT3 c) 15 0

/-! ### Locked reads (R397) -/

/-- A full shadow moves into its buffer. -/
def shadowMove (c b : Nat) (s : State) : State :=
  let x := s.canOf c
  match Tab.find x.shadows b with
  | some (f, sof) =>
    ((s.putCan c { x with shadows := Tab.erase x.shadows b }).setBsta c b 13 13 0).storeFrame c b f sof
  | none => s

/-- The lock of a buffer ends. -/
def unlock (c b : Nat) (s : State) : State :=
  let x := s.canOf c
  ((s.putCan c { x with locks := Tab.erase x.locks b }).setBsta c b 12 12 0).shadowMove c b

/-- A read of a buffer's IDW. -/
def bufferLock (req c b : Nat) (s : State) : State :=
  let s := s.answer req ((s.bufWord c b 0).setWidth 64)
  let x := s.canOf c
  if b < 4 ∧ (Tab.find x.locks b).isNone then (s.putCan c { x with locks := Tab.put x.locks b req }).setBsta c b 12 12 1 else s

/-- The offset in the buffer of the word that holds the last data byte of the stored frame. -/
def lastWord (s : State) (c b : Nat) : Nat :=
  let n := if (s.bufWord c b 0).getLsbD 30 then 0 else dlcBytes (s.bctl c b 2 2 == 1) (s.bctl c b 7 4)
  if n = 0 then 0x1C else 0x20 + (n - 1) / 4 * 4

/-- A read of that word. -/
def bufferRelease (req c b : Nat) (s : State) : State :=
  let s := s.answer req ((s.bufWord c b (s.lastWord c b)).setWidth 64)
  if Tab.find (s.canOf c).locks b = some req then s.unlock c b else s

/-- A lock is held too long. -/
def lockTimeout (c b : Nat) (s : State) : State :=
  if (Tab.find (s.canOf c).locks b).isSome then (s.unlock c b).raiseFlt (pgCAN c) 20 else s

/-! ### Transmission (R398-R402) -/

/-- BCTL.REQ (R398). -/
def bufferReq (c b : Nat) (s : State) : State :=
  let fdf := s.bctl c b 2 2 == 1
  if s.bufPends c b then s.refuseWrite (pgCAN c)
  else if s.bctl c b 1 0 ≠ 2 ∨ (s.bctl c b 3 3 = 1 ∧ fdf = false) ∨ ((s.bufWord c b 0).getLsbD 30 = true ∧ fdf = true)
      ∨ (s.bctl c b 12 12 = 1 ∧ s.ttMode c = 0) then s.setBsta c b 9 0 0x304
  else
    let s := (s.setBsta c b 9 0 0x100).setBsta c b 19 16 0
    (s.setBit (CAN.TXPEND c (b / 32)) (b % 32) true).canStart c

/-- BCTL.ABORT (R400, R409). -/
def bufferAbort (c b : Nat) (s : State) : State :=
  let x := s.canOf c
  if s.bufPends c b = false then (if s.bsta c b 9 8 = 3 then s.raiseFlt (pgCAN c) 8 else s)
  else if x.attempt.map (·.1) = some (CanTx.buffer b) then s.putCan c { x with aborted := true }
  else s.bufEnd c b .aborted

/-- The loop delay measured in a frame sent (R392). -/
def noteDelay (c delay : Nat) (t : CanTx) (s : State) : State :=
  if s.bit (CAN.TDCCFG c) 16 = true ∧ (s.txShape c t).2.2.1 = true then
    let d := Nat.min 127 delay
    let ssp := d + s.fld (CAN.TDCCFG c) 6 0
    let s := s.wr (CAN.TDCSTA c) (BitVec.ofNat 32 (d + Nat.min 127 ssp * 256))
    if ssp > 127 then s.raiseFlt (pgCAN c) 21 else s
  else s

/-- The next cycle number of a master (R404): 0 where no cycle has run. -/
def nextCycle (s : State) (c : Nat) : Nat :=
  if s.bit (CAN.TTSTA c) 10 then (s.fld (CAN.TTSTA c) 5 0 + 1) % (s.fld (CAN.TTCFG c) 21 16 + 1) else 0

/-- An attempt has succeeded (R400, R401, R404). -/
def attemptSent (c delay : Nat) (t : CanTx) (sof : Nat) (s : State) : State :=
  let x := s.canOf c
  let s := (s.putCan c { x with tec := x.tec - 1 }).canState c
  let s := (s.count (CAN.CNT1 c) 31 16).noteDelay c delay t
  let x := s.canOf c
  match t with
  | .buffer b => (s.putStamp c b sof).bufEnd c b (if x.aborted then .abortLate else .done)
  | .safe ch => s.putCan c { x with safe := Tab.erase x.safe ch }
  | .status => s.putCan c { x with status := none }
  | .reference =>
    let k := s.nextCycle c
    let s := s.count (CAN.REFCNT c) 31 16
    let s := if x.claims then (s.setFld (CAN.TTSTA c) 9 8 2).raiseEvt (pgCAN c) 6 else s
    s.startCycle c k sof

/-- An attempt has failed: a buffer's try is used; an abort that came during it ends it (R400, R405). -/
def attemptFailed (c : Nat) (t : CanTx) (s : State) : State :=
  match t with
  | .buffer b =>
    let s := if s.ttOn c ∧ s.bctl c b 12 12 = 1 then s.count (CAN.TTSTA c) 31 24 else s
    let s := s.useTry c b
    if (s.canOf c).aborted = true ∧ s.bufPends c b = true then s.bufEnd c b .aborted else s
  | _ => s

/-- The attempt in progress ends (R400, R403, R409). -/
def attemptEnd (c : Nat) (o : CanOutcome) (s : State) : State :=
  let x := s.canOf c
  match x.attempt with
  | none => s
  | some (t, sof) =>
    let s := s.putCan c { x with attempt := none }
    let s := match o with
      | .sent d => s.attemptSent c d t sof
      | .lostArbitration => (s.count (CAN.CNT2 c) 23 16).attemptFailed c t
      | .error lec d =>
        let passive := decide (s.fld (CAN.ECSTA c) 17 16 = 1)
        let s := if passive = true ∧ lec = 3 then s else s.putCan c { s.canOf c with tec := (s.canOf c).tec + 8 }
        (((s.setLec c lec.toNat d).count (CAN.CNT2 c) 15 0).canState c).attemptFailed c t
    let x := s.canOf c
    let s := s.putCan c { x with aborted := false, closing := false }
    if x.closing then ((s.canAbortAll c).wr (CAN.TTSTA c) 0).setFld (HDR.STA (pgCAN c)) 3 0 2 else s.canStart c

/-- BUSCTL.RECOVER (R403). -/
def canRecover (c : Nat) (s : State) : State :=
  if s.fld (CAN.ECSTA c) 17 16 = 2 then s.setBit (CAN.ECSTA c) 18 true else s

/-- Recovery is complete (R403). -/
def recoveryDone (c : Nat) (s : State) : State :=
  if s.bit (CAN.ECSTA c) 18 = false then s
  else
    let s := (s.putCan c { s.canOf c with tec := 0, rec_ := 0 }).setFld (CAN.ECSTA c) 18 0 0
    (s.raiseEvt (pgCAN c) 4).canStart c

/-- The status message (R402). -/
def statusBytes (s : State) (n : Byte) : List Byte :=
  [BitVec.ofNat 8 (s.sysMode + s.fld STW.STATE 3 0 * 16),
   BitVec.ofNat 8 (b01 (s.balState == 2) + b01 s.gateOpen * 2 +
     b01 ((List.range s.variant.axes).any fun a => s.bit BAL0.STOAX a) * 4 + b01 (s.balState == 3) * 8),
   BitVec.ofNat 8 (s.fld THM.TSTEP 2 0), n] ++ leBytes 4 (s.num SYS.OPTIME)

/-- The status message is due (R401, R402). -/
def statusDue (c : Nat) (s : State) : State :=
  if s.bit (CAN.STATCFG c) 31 = false ∨ s.bit (HDR.CTL (pgCAN c)) 0 = false then s
  else
    let x := s.canOf c
    let s := if x.status.isSome then s.count (CAN.CNT3 c) 31 24 else s
    (s.putCan c { x with status := some (s.statusBytes x.messages), messages := x.messages + 1 }).canStart c

/-! ### The schedule (R404, R405) -/

/-- A reference is due from this controller. -/
def refDueNow (c : Nat) (claims : Bool) (s : State) : State :=
  (s.putCan c { s.canOf c with refDue := true, claims := claims }).canStart c

/-- REFERENCE_SEND's effect: the current master's next reference. -/
def referenceSend (c : Nat) (s : State) : State :=
  if s.canOn c = true ∧ s.ttMode c = 2 ∧ s.fld (CAN.TTSTA c) 9 8 = 2 then (s.closeWindow c).refDueNow c false else s

/-- No reference has started in time for a backup master. -/
def backupTimeout (c : Nat) (s : State) : State :=
  if s.canOn c = true ∧ s.ttMode c = 2 ∧ s.fld (CAN.TTSTA c) 9 8 = 3 then s.refDueNow c true else s

/-- A slave or backup has lost the schedule. -/
def ttLost (c : Nat) (s : State) : State :=
  if s.ttOn c = true ∧ s.fld (CAN.TTSTA c) 9 8 ≠ 2 then
    ((s.setBit (CAN.TTSTA c) 10 false).raiseFlt (pgCAN c) 22).canStart c
  else s

/-- A window begins (R405). -/
def windowStart (c w : Nat) (s : State) : State :=
  if s.ttOn c = true ∧ 0 < w ∧ w ≤ s.fld (CAN.TTCFG c) 11 8 then
    let s := (s.closeWindow c).setFld (CAN.TTSTA c) 19 16 w
    (s.putCan c { s.canOf c with tried := false }).canStart c
  else s

/-! ### Self-test (R407) -/

/-- TCTL.START of the self-test. -/
def canTestStart (c : Nat) (s : State) : State :=
  let a := CAN.TSTA c
  if s.busyOp a then s.refuseWrite (pgCAN c)
  else if s.bit (HDR.CTL (pgCAN c)) 0 = true ∨ s.offView (pgCAN c) = true then opEnd (pgCAN c) a .rejState s
  else (s.setBit a 16 false).opPhase a 2

/-- The last loopback frame is checked. -/
def canTestDone (c : Nat) (pass : Bool) (s : State) : State :=
  let a := CAN.TSTA c
  if s.busyOp a = false then s
  else
    let s := if pass then s.setBit a 16 true else s.raiseFlt (pgCAN c) 24
    (opEnd (pgCAN c) a .done s).raiseEvt (pgCAN c) 7

/-! ### The message RAM as the host reaches it (R394, R397) -/

/-- A word write into the message RAM: the fields' access and the rule on pending buffers (R394). -/
def canRamWrite (c off : Nat) (v : Word) (s : State) : State :=
  let b := off / 0x80
  let o := off % 0x80 / 4 * 4
  if off ≥ 0x4000 then (if 0x5000 ≤ off ∧ off < 0x5800 then s.putCanWord c (off / 4 * 4) v else s)
  else
    let busy := s.bctl c b 1 0 == 2 && s.bufPends c b
    if o = 8 then
      let cmd := v.getLsbD 13 || v.getLsbD 14
      let s := if busy then (if cmd then s else s.refuseWrite (pgCAN c)) else s.putBufWord c b 8 (v &&& 0x9FFF)
      let s := if v.getLsbD 13 then s.bufferReq c b else s
      if v.getLsbD 14 then s.bufferAbort c b else s
    else if o = 12 then
      let w := s.bufWord c b 12
      let s := s.putBufWord c b 12 (w &&& ~~~ (v &&& 0x8C00))
      if v.getLsbD 10 then s.setBit (CAN.RXNEW c (b / 32)) (b % 32) false else s
    else if o = 0 ∨ o = 4 ∨ (0x20 ≤ o ∧ o < 0x60) then
      if busy then s.refuseWrite (pgCAN c) else s.putBufWord c b o v
    else s

/-- A word read of the message RAM: locked reads lock and release (R397). -/
def canRamRead (req c off : Nat) (s : State) : Word × State :=
  let b := off / 0x80
  let o := off % 0x80 / 4 * 4
  let v := s.canWord c (off / 4 * 4)
  if off < 0x200 then
    if o = 0 then (v, s.bufferLock req c b)
    else if o = s.lastWord c b then (v, s.bufferRelease req c b) else (v, s)
  else (v, s)

end State

/-- A row about a controller that is built. -/
def State.onCan (s : State) (c : Nat) (f : State → State) : Host.Outcome State Fault Refusal :=
  onUnit (decide (c < s.variant.cans)) (f s)

/-- A row about a buffer of a controller. -/
def State.onBuf (s : State) (c b : Nat) (f : State → State) : Host.Outcome State Fault Refusal :=
  onUnit (decide (c < s.variant.cans ∧ b < 128)) (f s)

/-- CAN_CTL_EN (R391, R409). -/
def execCanCtlEn (c : Nat) (en : Bool) (s : State) : Host.Outcome State Fault Refusal := s.onCan c (State.canEnable c en)

/-- CAN_FRAME_RX (R395). -/
def execCanFrameRx (c : Nat) (f : CanFrame) (s : State) : Host.Outcome State Fault Refusal := s.onCan c (State.frameRx c f)

/-- CAN_RX_ERROR (R403). -/
def execCanRxError (c : Nat) (e : CanRxErr) (s : State) : Host.Outcome State Fault Refusal := s.onCan c (State.rxError c e)

/-- BUFFER_LOCK_READ (R397). -/
def execBufferLockRead (req c b : Nat) (s : State) : Host.Outcome State Fault Refusal := s.onBuf c b (State.bufferLock req c b)

/-- BUFFER_RELEASE_READ (R397). -/
def execBufferReleaseRead (req c b : Nat) (s : State) : Host.Outcome State Fault Refusal :=
  s.onBuf c b (State.bufferRelease req c b)

/-- LOCK_TIMEOUT (R397). -/
def execLockTimeout (c b : Nat) (s : State) : Host.Outcome State Fault Refusal := s.onBuf c b (State.lockTimeout c b)

/-- BCTL_REQ (R398). -/
def execBctlReq (c b : Nat) (s : State) : Host.Outcome State Fault Refusal := s.onBuf c b (State.bufferReq c b)

/-- BCTL_ABORT (R400). -/
def execBctlAbort (c b : Nat) (s : State) : Host.Outcome State Fault Refusal := s.onBuf c b (State.bufferAbort c b)

/-- CAN_ATTEMPT_END (R400). -/
def execCanAttemptEnd (c : Nat) (o : CanOutcome) (s : State) : Host.Outcome State Fault Refusal :=
  s.onCan c (State.attemptEnd c o)

/-- BUSCTL_RECOVER (R403). -/
def execBusctlRecover (c : Nat) (s : State) : Host.Outcome State Fault Refusal := s.onCan c (State.canRecover c)

/-- BUS_RECOVERY_DONE (R403). -/
def execBusRecoveryDone (c : Nat) (s : State) : Host.Outcome State Fault Refusal := s.onCan c (State.recoveryDone c)

/-- STATUS_MESSAGE (R402). -/
def execStatusMessage (c : Nat) (s : State) : Host.Outcome State Fault Refusal := s.onCan c (State.statusDue c)

/-- REFERENCE_MESSAGE_RX (R404). -/
def execReferenceMessageRx (c : Nat) (f : CanFrame) (s : State) : Host.Outcome State Fault Refusal :=
  s.onCan c fun s => if s.canOn c = true ∧ s.isReference c f = true then (s.rxGood c).referenceRx c f else s

/-- REFERENCE_SEND (R404). -/
def execReferenceSend (c : Nat) (s : State) : Host.Outcome State Fault Refusal := s.onCan c (State.referenceSend c)

/-- BACKUP_MASTER_TIMEOUT (R404). -/
def execBackupMasterTimeout (c : Nat) (s : State) : Host.Outcome State Fault Refusal := s.onCan c (State.backupTimeout c)

/-- TT_SYNC_LOSS (R404). -/
def execTtSyncLoss (c : Nat) (s : State) : Host.Outcome State Fault Refusal := s.onCan c (State.ttLost c)

/-- WINDOW_START (R405). -/
def execWindowStart (c w : Nat) (s : State) : Host.Outcome State Fault Refusal := s.onCan c (State.windowStart c w)

/-- CAN_TCTL_START (R407). -/
def execCanTctlStart (c : Nat) (s : State) : Host.Outcome State Fault Refusal := s.onCan c (State.canTestStart c)

/-- CAN_TCTL_ABORT (R407). -/
def execCanTctlAbort (c : Nat) (s : State) : Host.Outcome State Fault Refusal :=
  s.onCan c (State.opAbort (pgCAN c) (CAN.TSTA c) id)

/-- CAN_SELFTEST_DONE (R407). -/
def execCanSelftestDone (c : Nat) (pass : Bool) (s : State) : Host.Outcome State Fault Refusal :=
  s.onCan c (State.canTestDone c pass)

end Sys2Proof.Machine
end

