-- ==== Sys2Proof/Machine/TimeEth.lean ====
section
/-!
DEFINITION. The time base (R412-R419, R424): ticks, steps, PTP domains, selection, the ring source; the Ethernet MACs
(R420-R423).
-/
namespace Sys2Proof.Machine

namespace State

/-! ### Counting (R412, R413) -/

/-- TIME set to a count of 1/16 ns. -/
def putTime (t : Nat) (s : State) : State :=
  let w := timeWords t
  (((s.wr (TIME.NOW 0) (w.getD 0 0)).wr (TIME.NOW 1) (w.getD 1 0)).wr (TIME.NOW 2) (w.getD 2 0)).wr (TIME.NOW 3) (w.getD 3 0)

/-- TCFG.SLEWMAX in ppm. -/
def slewMax (s : State) : Nat := s.fld TIME.TCFG 15 8

/-- RATE, OFSNOW and SLEWING follow the base rate and the remaining correction (R412, R413). -/
def timeRate (s : State) : State :=
  let lim : Int := 200 * 65536
  let sl : Int := s.slewMax * 65536
  let r := s.time.base + (if s.time.ofs > 0 then sl else if s.time.ofs < 0 then -sl else 0)
  let s := s.wr TIME.RATE (BitVec.ofInt 32 (max (-lim) (min lim r)))
  ((s.wr TIME.OFSNOW (satInt 32 (s.time.ofs / 16))).setBit TIME.TSTA 4 (s.time.ofs != 0)).noteNow 0x3E5 TIME.RATE

/-- A correction replaces the one that runs (R413, R424). -/
def slew (ofs : Int) (s : State) : State := { s with time := { s.time with ofs := ofs, frac := 0 } }.timeRate

/-- The slew of one tick of 4 ns. -/
def slewTick (s : State) : State :=
  if s.time.ofs = 0 then s
  else
    let f := s.time.frac + 64 * s.slewMax
    let n := Nat.min (f / 1000000) s.time.ofs.natAbs
    let ofs := if s.time.ofs > 0 then s.time.ofs - n else s.time.ofs + n
    let s := { s with time := { s.time with ofs := ofs, frac := f % 1000000 } }
    if n = 0 then s else s.timeRate

/-- The operating time counts, outside DORMANT (R16). -/
def opTime (ns : Nat) (s : State) : State :=
  let m := s.time.ms + ns
  if m < 1000000 then { s with time := { s.time with ms := m } }
  else
    let s := { s with time := { s.time with ms := m - 1000000 } }
    let o := (s.rd64 SYS.OPTIME).toNat
    s.wr64 SYS.OPTIME (BitVec.ofNat 64 (Nat.min (o + 1) 0xFFFFFFFFFFFF))

/-! ### Selection (R417, R418) -/

def domState (s : State) (d : Nat) : Nat := s.fld (TIME.DOMSTA d) 2 0
def setDomState (d v : Nat) (s : State) : State := s.setFld (TIME.DOMSTA d) 2 0 v
def domOf (s : State) (d : Nat) : DomSt := Tab.get {} s.time.doms d
def putDom (d : Nat) (x : DomSt) (s : State) : State := { s with time := { s.time with doms := Tab.put s.time.doms d x } }

/-- The source in force: 0 FREE, 1 DOM0, 2 DOM1, 3 RING, 4 HOLDOVER. -/
def timeSource (s : State) : Nat := s.fld TIME.TSTA 2 0

/-- A domain counts as LOCKED (R416). -/
def domLocked (s : State) (d : Nat) : Bool := s.domState d == 3 || (s.domState d == 5 && s.timeValid)

/-- The ring source may be used (R417, R419). -/
def ringUsable (s : State) : Bool :=
  s.bit TIME.TCFG 4 && s.time.ringCal && s.deviceBit (s.fld TIME.TSTA 10 8)

/-- The source that the selection gives. -/
def pickSource (s : State) : Nat :=
  match s.fld TIME.TCFG 1 0 with
  | 3 => 0
  | 1 => if s.domLocked 0 then 1 else 4
  | 2 => if s.domLocked 1 then 2 else 4
  | _ =>
    let p := s.fld TIME.TCFG 2 2
    if s.ringUsable then 3 else if s.domLocked p then p + 1 else if s.domLocked (1 - p) then 2 - p else 4

/-- VALID changes (R418). -/
def setValid (v : Bool) (s : State) : State :=
  if s.timeValid = v then s else (s.setBit TIME.TSTA 3 v).raiseEvt pgTIME 0

/-- A step of TIME is allowed (R414). -/
def stepOk (s : State) : Bool :=
  ((List.range s.variant.rings).all fun r => s.ringState r == 0) && s.fld STW.STATE 3 0 == 0

/-- The correction that a source asks for, in 1/16 ns. -/
def sourceOfs (s : State) (src : Nat) : Int :=
  if src = 1 ∨ src = 2 then
    if s.domState (src - 1) = 3 then -(s.sint (TIME.DOMOFS (src - 1))) * 16 else 0
  else if src = 3 then s.time.ofs else 0

/-- The first LOCKED state since power-up (R414): a step, or a slew where a step is forbidden. -/
def firstLock (ofs : Int) (s : State) : State :=
  let first := !s.time.stepped
  let s := { s with time := { s.time with stepped := true } }
  if first = true ∧ s.bit TIME.TCFG 3 = true then
    if s.stepOk then
      (({ s with time := { s.time with ofs := 0 } }.timeRate).putTime ((s.t16 : Int) + ofs).toNat).raiseEvt pgTIME 2
    else (s.slew ofs).raiseFlt pgTIME 18
  else s.slew ofs

/-- The selection runs (R417): a new source's offset is slewed in. -/
def select (s : State) : State :=
  let old := s.timeSource
  let new := s.pickSource
  if new = old then s
  else
    let ofs := s.sourceOfs new
    let s := (s.setFld TIME.TSTA 2 0 new).raiseEvt pgTIME 1
    let s := if new = 4 then (s.setFld TIME.TSTA 31 16 0).raiseEvt pgTIME 3 else s
    let s := s.setValid (if new = 4 then s.timeValid else new != 0)
    if new = 1 ∨ new = 2 then s.firstLock ofs else s.slew ofs

/-- The source in force has a new offset (R413). -/
def followSource (s : State) : State := s.slew (s.sourceOfs s.timeSource)

/-! ### PTP domains (R416, R421, R424) -/

/-- A domain's port. -/
def domPort (s : State) (d : Nat) : Nat := s.fld (TIME.DOMCFG d) 8 8

/-- The other clock is the better one (R416, R421). -/
def masterBeaten (s : State) (d : Nat) (x : PtpSync) : Bool :=
  s.bit (TIME.DOMCFG d) 12 == false || decide (x.priority1.toNat ≤ s.fld (TIME.DOMCFG d) 23 16)

/-- A Sync is accepted (R416). -/
def syncAccept (d : Nat) (x : PtpSync) (s : State) : State :=
  let st := if s.domState d = 5 then 1 else s.domState d
  let y := s.domOf d
  let changed := decide (s.rd64 (TIME.DOMGM d) ≠ x.gm ∧ (st = 2 ∨ st = 3))
  let good := decide ((x.offset - y.last).natAbs ≤ s.fld (TIME.DOMLOCK d) 15 0)
  let n := if st = 2 ∨ st = 3 then (if good ∧ changed = false then Nat.min 255 (s.fld (TIME.DOMSTA d) 15 8 + 1) else 0) else 0
  let new := if changed ∧ st = 3 then 4
    else if st = 3 then 3
    else if st = 2 ∧ n ≥ s.fld (TIME.DOMLOCK d) 23 16 then 3 else 2
  let s := (s.count (TIME.DOMCNT d) 15 0).wr64 (TIME.DOMGM d) x.gm
  let s := (s.wr (TIME.DOMOFS d) (satInt 32 (-x.offset))).noteNow (0x3E6 + d) (TIME.DOMOFS d)
  let s := s.wr (TIME.DOMDLY d) (BitVec.ofNat 32 x.delay)
  let s := s.wr (TIME.DOMSTA d) (BitVec.ofNat 32 (new + n * 256 + x.clockClass.toNat * 65536))
  let s := s.wr TIME.UTCOFS (BitVec.ofNat 32 (x.utcOffset.toNat + b01 x.utcValid * 65536))
  let s := if changed then (s.count (TIME.DOMCNT d) 31 16).raiseFlt pgTIME 17 else s
  let s := if changed ∧ st = 3 then s.raiseFlt pgTIME 16 else s
  let far := decide (x.rate.natAbs > 200 * 65536)
  let since := if far then some (y.farSince.getD s.t16) else none
  let s := s.putDom d { y with last := x.offset, farSince := since }
  let s := match since with
    | some t => if s.t16 > t + 16000000000 then s.raiseFlt pgTIME 20 else s
    | none => s
  let s := if new = 3 ∧ s.timeSource = d + 1 then { s with time := { s.time with base := x.rate } }.followSource else s
  let s := s.select
  if new = 3 ∧ s.timeSource = d + 1 then { s with time := { s.time with base := x.rate } }.timeRate else s

/-- PTP_SYNC's effect: a domain that stays grandmaster accepts no Sync. -/
def ptpSync (d : Nat) (x : PtpSync) (s : State) : State :=
  if s.bit (TIME.DOMCFG d) 11 = false then s
  else if s.masterBeaten d x then s.syncAccept d x
  else if s.domState d = 5 then s
  else (s.setDomState d 5).select

/-- A domain in MASTER sends its Sync (R421, R422). -/
def ptpSend (d : Nat) (s : State) : State :=
  if s.domState d ≠ 5 then s
  else
    let e := s.domPort d
    let stamp := s.t16 + s.fld (ETH.TXLAT e) 15 0
    let one := s.bit (ETH.ECFG e) 0
    let y := s.domOf d
    let s := s.putDom d { y with sent := y.sent + 1, origin := if one then stamp else 0,
                                 follow := if one then none else some stamp }
    (s.count (ETH.CNT1 e) 31 16 (if one then 1 else 2)).count (ETH.PTPCNT e) 15 0

/-- No Sync for SYNCTO (R416); a master-capable domain that hears none is selected as grandmaster. -/
def syncTimeout (d : Nat) (s : State) : State :=
  if s.domState d = 3 then ((s.setDomState d 4).raiseFlt pgTIME 16).select
  else if (s.domState d = 1 ∨ s.domState d = 4) ∧ s.bit (TIME.DOMCFG d) 12 = true then (s.setDomState d 5).select
  else s

/-- The selected domain of a MAC is lost with its link or at its FRESET (R424). -/
def portLost (e : Nat) (s : State) : State :=
  [0, 1].foldl (fun s d =>
    if s.domPort d = e ∧ s.timeSource = d + 1 then ((s.setDomState d 4).raiseFlt pgTIME 16).select else s) s

/-- HOLDMAX ends (R418). -/
def holdEnd (s : State) : State :=
  if s.timeSource = 4 ∧ s.timeValid = true then (s.raiseFlt pgTIME 19).setValid false |>.select else s

/-- The ring source leaves calibration (R419). -/
def ringLost (s : State) : State :=
  if s.time.ringCal = false then s
  else
    let cur := s.fld TIME.TSTA 10 8
    let s := { s with time := { s.time with ringCal := false } }.raiseFlt pgTIME 21
    let next := (List.range 8).map (fun i => (cur + 1 + i) % 8) |>.find? fun r =>
      decide (r < s.variant.rings) && s.ringState r == 2 && s.deviceBit r
    (match next with | some r => s.setFld TIME.TSTA 10 8 r | none => s).select

/-- CAL_ROUND's effect (R176, R177, R419). -/
def calRound (r cw ccw : Nat) (ofs : Int) (s : State) : State :=
  if s.ringState r = 0 then s
  else if cw > ccw + 32 ∨ ccw > cw + 32 then s.raiseFlt (pgRZL r) 17
  else if s.deviceBit r then
    if s.bit TIME.TCFG 4 = true ∧ s.fld TIME.TSTA 10 8 = r then
      let s := { s with time := { s.time with ringCal := true } }.select
      if s.timeSource = 3 then s.slew ofs else s
    else s
  else
    let x := s.ringOf r
    (s.putRing r { x with loop := (cw + ccw) / 2, round := x.round + 1, calReq := false }).raiseEvt (pgRZL r) 3

/-! ### Steps (R414) -/

/-- TCTL.SET. -/
def timeSet (s : State) : State :=
  let a := TIME.SETSTA
  let ws := (List.range 4).map fun i => s.rd (TIME.SETVAL i)
  let ok := decide ((ws.getD 2 0).toNat < 1000000000 ∧ (ws.getD 3 0).toNat < 16)
  if s.busyOp a then s.refuseWrite pgTIME
  else if ok = false then opEnd pgTIME a .rejState s
  else if s.stepOk = false then (opEnd pgTIME a .rejState s).raiseFlt pgTIME 18
  else (opEnd pgTIME a .done (s.putTime (ofTimeWords ws))).raiseEvt pgTIME 2

/-! ### Reading TIME (R415) -/

/-- A register is a 16-byte TIME register. -/
def isTimeReg (a : Nat) : Bool :=
  a == TIME.NOW 0 || (List.range 4).any (fun t => a == TRG.TLAST t 0) ||
    (List.range 2).any fun f => (List.range 8).any fun k => a == FIO.LATTIME f k 0

/-- The first word of a TIME register is read: all 16 bytes are latched for the requester, in place of any other snapshot. -/
def timeLatch (req a : Nat) (s : State) : State :=
  let ws := (List.range 4).map fun i => s.rd (a + 4 * i)
  let h := s.host
  { s with host := { h with timeSnaps := Tab.put h.timeSnaps req { reg := a, words := ws }, snaps := Tab.erase h.snaps req } }

/-- TIME_FIRST_WORD_READ's effect. -/
def timeFirstRead (req page off : Nat) (s : State) : State :=
  let a := regAt page off
  if isTimeReg a ∧ s.variant.present page then (s.timeLatch req a).answer req ((s.rd a).setWidth 64) else s

/-! ### Ethernet MACs (R420-R423) -/

def ethOf (s : State) (e : Nat) : EthSt := Tab.get {} s.eth e
def putEth (e : Nat) (x : EthSt) (s : State) : State := { s with eth := Tab.put s.eth e x }

/-- Which network of a channel an Ethernet port is (R395, R423). -/
def ethNet (s : State) (e c : Nat) : Option Bool :=
  let g := BAL1.SDCFG c
  if c ≥ 8 ∨ s.bit g 0 = false then none
  else if s.bit g 2 = true ∧ s.fld g 5 3 = e then some false
  else if s.bit g 6 = true ∧ s.fld g 9 7 = e then some true
  else none

/-- The frame carries a VLAN tag. -/
def hasVlan (f : List Byte) : Bool := (f.drop 12).take 2 == [0x81, 0x00]

/-- A slot's bytes (R423). -/
def ethSlot (stamp : Nat) (f : List Byte) : List Byte :=
  let body := bytesOf (timeWords stamp) ++ leBytes 16 (f.length + b01 (hasVlan f) * 65536) ++ f
  body ++ List.replicate ((8 - body.length % 8) % 8) 0

/-- A general frame goes into the receive ring. -/
def ethRing (e : Nat) (f : List Byte) (s : State) : State :=
  let size := s.num (ETH.RXSIZE e)
  let at_ := s.num (ETH.RXWR e)
  if size = 0 then s.count (ETH.CNT2 e) 31 16
  else if (at_ + 2048) % size = s.num (ETH.RXRD e) then (s.count (ETH.CNT2 e) 31 16).raiseFlt (pgETH e) 18
  else
    let bs := ethSlot (s.t16 - s.fld (ETH.RXLAT e) 15 0) f
    let s := (s.writeBytes (mezzBase + s.num (ETH.RXBASE e) + at_) 0 bs).2
    (s.wr (ETH.RXWR e) (BitVec.ofNat 32 ((at_ + 2048) % size))).raiseEvt (pgETH e) 1

/-- A frame arrives (R420, R421, R423). -/
def ethRx (e : Nat) (f : EthFrame) (s : State) : State :=
  let p := pgETH e
  if s.bit (HDR.CTL p) 0 = false ∨ s.bit (ETH.LINK e) 1 = false then s
  else if f.fcsOk = false ∨ f.data.length + 4 < 64 ∨ f.data.length + 4 > 1522 then
    (s.count (ETH.CNT2 e) 15 0).raiseFlt p 17
  else
    let s := s.count (ETH.CNT1 e) 15 0
    match f.safeChan.bind fun c => (s.ethNet e c).map fun b => (c, b) with
    | some (c, b) => s.safeDataRx c b ((f.data.drop (if hasVlan f.data then 18 else 14)).take 32)
    | none => if f.ptpEvent then s.count (ETH.PTPCNT e) 15 0 else s.ethRing e f.data

/-- TXWR advances (R423). -/
def ethTxwr (e : Nat) (v : Word) (s : State) : State :=
  let size := s.num (ETH.TXSIZE e)
  if v.toNat % 2048 ≠ 0 ∨ v.toNat ≥ size then s.refuseWrite (pgETH e) else cfgWr (pgETH e) (ETH.TXWR e) v s

/-- A frame has been sent: a safe-data container first, else the next slot of the transmit ring (R382, R423). -/
def ethTxDone (e : Nat) (s : State) : State :=
  let p := pgETH e
  let x := s.ethOf e
  if s.bit (HDR.CTL p) 0 = false ∨ s.bit (ETH.LINK e) 1 = false then s
  else match x.safe with
    | (_, bs) :: rest => ((s.putEth e { sent := bs, safe := rest }).count (ETH.CNT1 e) 31 16).raiseEvt p 2
    | [] =>
      let at_ := s.num (ETH.TXRD e)
      let size := s.num (ETH.TXSIZE e)
      if size = 0 ∨ at_ = s.num (ETH.TXWR e) then s
      else
        let a := mezzBase + s.num (ETH.TXBASE e) + at_
        let r := s.readBytes (a + 16) 4 0 true
        let n := ofLeBytes (r.1.getD []) % 2048
        let f := r.2.readBytes (a + 32) n 0 true
        let s := f.2.putEth e { x with sent := f.1.getD [] }
        let s := (s.writeBytes a 0 (bytesOf (timeWords (s.t16 + s.fld (ETH.TXLAT e) 15 0)))).2
        let s := s.wr (ETH.TXRD e) (BitVec.ofNat 32 ((at_ + 2048) % size))
        (s.count (ETH.CNT1 e) 31 16).raiseEvt p 2

/-- The SGMII link comes or goes (R420, R424). -/
def ethLink (e : Nat) (up : Bool) (s : State) : State :=
  let p := pgETH e
  if s.bit (ETH.LINK e) 1 = up then s
  else
    let s := (s.wr (ETH.LINK e) (if up then 0x27 else 0)).raiseEvt p 0
    if up then s else (s.raiseFlt p 16).portLost e

/-- An MDIO access (R420, R427). -/
def mdio (e : Nat) (v : Word) (phy : BitVec 16) (s : State) : State :=
  let w := v &&& 0x07FFFFFF
  if v.getLsbD 30 = false then cfgWr (pgETH e) (ETH.MDIO e) w s
  else cfgWr (pgETH e) (ETH.MDIO e) (if w.getLsbD 26 then w else wset w 15 0 phy.toNat) s

end State

/-- TIME_TCTL_SET (R414). -/
def execTimeTctlSet (s : State) : Host.Outcome State Fault Refusal := .next s.timeSet

/-- TIME_TCTL_ABORT (R414). -/
def execTimeTctlAbort (s : State) : Host.Outcome State Fault Refusal := .next (s.opAbort pgTIME TIME.SETSTA id)

/-- TIME_FIRST_WORD_READ (R415). -/
def execTimeFirstWordRead (req page off : Nat) (s : State) : Host.Outcome State Fault Refusal :=
  .next (s.timeFirstRead req page off)

/-- PTP_SYNC (R416). -/
def execPtpSync (d : Nat) (x : PtpSync) (s : State) : Host.Outcome State Fault Refusal :=
  onUnit (decide (d < 2)) (s.ptpSync d x)

/-- PTP_SYNC_SEND (R421). -/
def execPtpSyncSend (d : Nat) (s : State) : Host.Outcome State Fault Refusal := onUnit (decide (d < 2)) (s.ptpSend d)

/-- SYNC_TIMEOUT (R416). -/
def execSyncTimeout (d : Nat) (s : State) : Host.Outcome State Fault Refusal := onUnit (decide (d < 2)) (s.syncTimeout d)

/-- HOLDMAX_EXPIRY (R418). -/
def execHoldmaxExpiry (s : State) : Host.Outcome State Fault Refusal := .next s.holdEnd

/-- RING_SOURCE_TIMEOUT (R419). -/
def execRingSourceTimeout (s : State) : Host.Outcome State Fault Refusal := .next s.ringLost

/-- CAL_ROUND (R176, R177, R419). -/
def execCalRound (r loopCw loopCcw : Nat) (ofs : Int) (s : State) : Host.Outcome State Fault Refusal :=
  onUnit (s.hasRing r) (s.calRound r loopCw loopCcw ofs)

/-- ETH_FRAME_RX (R420, R423). -/
def execEthFrameRx (e : Nat) (f : EthFrame) (s : State) : Host.Outcome State Fault Refusal :=
  onUnit (decide (e < 2)) (s.ethRx e f)

/-- ETH_TXWR_WRITE (R423). -/
def execEthTxwrWrite (e : Nat) (v : BitVec 32) (s : State) : Host.Outcome State Fault Refusal :=
  onUnit (decide (e < 2)) (s.ethTxwr e v)

/-- ETH_TX_DONE (R423). -/
def execEthTxDone (e : Nat) (s : State) : Host.Outcome State Fault Refusal := onUnit (decide (e < 2)) (s.ethTxDone e)

/-- ETH_LINK_CHANGE (R420, R424). -/
def execEthLinkChange (e : Nat) (up : Bool) (s : State) : Host.Outcome State Fault Refusal :=
  onUnit (decide (e < 2)) (s.ethLink e up)

/-- MDIO_START (R427). -/
def execMdioStart (e : Nat) (v : BitVec 32) (phyData : BitVec 16) (s : State) : Host.Outcome State Fault Refusal :=
  onUnit (decide (e < 2)) (s.mdio e v phyData)

end Sys2Proof.Machine
end

