-- ==== Sys2Proof/Machine/Acq.lean ====
section
/-!
DEFINITION. The acquisition engine (R430, R431, R433-R437) and the trigger units' commands (R432).
-/
namespace Sys2Proof.Machine

/-! ### The coded stream (R436, R437) -/

/-- A MARKER word. -/
def marker (code arg : Nat) : Word := BitVec.ofNat 32 (3 * 2 ^ 30 + code * 2 ^ 24 + arg % 2 ^ 24)

/-- The words that code a signal's new value (R437): DELTA where the difference fits, else FULL. -/
def codeSignal (i : Nat) (old new : Word) : List Word :=
  let d := (new - old).toInt
  if -8388608 ≤ d ∧ d < 8388608 then [BitVec.ofNat 32 (2 ^ 30 + i * 2 ^ 24) ||| ((new - old) &&& 0xFFFFFF)]
  else [BitVec.ofNat 32 (2 ^ 31 + i * 2 ^ 24), new]

/-- A SYNC with its words: TIME of an instant, the spacing, one FULL pair for each enabled signal (R436). -/
def syncWords (t spacing : Nat) (sigs : List Nat) (vs : List Word) : List Word :=
  [marker 7 0] ++ timeWords t ++ [BitVec.ofNat 32 spacing] ++
    (sigs.zip vs).flatMap fun e => [BitVec.ofNat 32 (2 ^ 31 + e.1 * 2 ^ 24), e.2]

/-- Words appended to a group's output. -/
def pushWords (ws : List Word) (x : Grp) : Grp := { x with out := x.out ++ ws, words := x.words + ws.length }

/-- The end of a data block filled with padding where an entry of `n` words does not fit (R437). -/
def padBlock (n : Nat) (x : Grp) : Grp :=
  let at_ := x.words % 1015
  if at_ + n > 1015 then pushWords (List.replicate (1015 - at_) 0) x else x

/-- An entry appended; a store segment begins with SYNC (R437). `t` and `k` are those of the running instant. -/
def pushEntry (t k spacing : Nat) (sigs : List Nat) (ws : List Word) (x : Grp) : Grp :=
  let x := padBlock ws.length x
  if x.opened = true ∧ x.words % (255 * 1015) = 0 then
    pushWords ws (pushWords (syncWords (t - (k - x.coded) * spacing) spacing sigs x.last) x)
  else pushWords ws x

namespace State

/-! ### Groups (R430) -/

/-- The enabled signals of a group, in index order. -/
def sigsOf (s : State) (g : Nat) : List Nat := (List.range 64).filter fun i => s.bit (ACQ.SIG g i) 15

def grpOn (s : State) (g : Nat) : Bool := s.bit (ACQ.GRP_GCFG g) 0
def grpCont (s : State) (g : Nat) : Bool := s.bit (ACQ.GRP_GCFG g) 1
/-- BASE of a group: 1 for the treads of a bridge. -/
def grpTread (s : State) (g : Nat) : Bool := s.bit (ACQ.GRP_GCFG g) 5
def grpBridge (s : State) (g : Nat) : Nat := s.fld (ACQ.GRP_GCFG g) 11 6
def grpDecim (s : State) (g : Nat) : Nat := Nat.max 1 (s.fld (ACQ.GRP_GCFG g) 31 16)

/-- DECIM as throttling has it (R431). -/
def decimNow (s : State) (g : Nat) : Nat :=
  if s.fld THM.TSTEP 2 0 ≥ 1 then Nat.min 65535 (2 * s.grpDecim g) else s.grpDecim g

/-- The distance of a group's instants in 1/16 ns, and what a SYNC calls the spacing (R430, R436). -/
def grpGap (s : State) (g decim : Nat) : Nat :=
  if s.grpTread g then
    let b := s.grpBridge g
    decim * (if (s.brgOf b).double then s.num (BRG.PERACT b) / 2 else s.num (BRG.PERACT b))
  else 16 * decim * s.num (ACQ.GRP_GPER g)
def spacing (s : State) (g decim : Nat) : Nat :=
  if s.grpTread g then s.num (BRG.PERACT (s.grpBridge g)) else s.grpGap g decim

/-- Mezzanine bytes that the pre-trigger instants take (R434). -/
def preBytes (s : State) : Nat :=
  (List.range 4).foldl (fun n g =>
    if s.grpOn g then n + s.fld (ACQ.GRP_PRE g) 15 0 * (s.sigsOf g).length * 4 else n) 0

/-! ### ARM (R434) -/

/-- REJ_LENGTH's cases, with FIELD. -/
def armLength (s : State) : Option Nat :=
  match (List.range 4).find? fun g => s.grpOn g && decide (s.fld (ACQ.GRP_NSEG g) 12 0 > 4096) with
  | some g => some (0x110 + 0x40 * g)
  | none =>
    if (List.range 4).any (fun g => s.grpOn g && decide (s.fld (ACQ.GRP_PRE g) 15 0 = 0xFFFF ∨ s.fld (ACQ.GRP_POST g) 23 0 = 0xFFFFFF))
    then some 0
    else if (s.preBytes : Int) > s.num ACQ.MSIZE - 0x40000 then some 0 else none

/-- Instants per second times signals of one group, as numerator and denominator: at most 64 × 10^6 over all groups. -/
def grpLoad (s : State) (g : Nat) : Nat × Nat :=
  if s.grpOn g then (16000000000 * (s.sigsOf g).length, Nat.max 1 (s.grpGap g (s.grpDecim g))) else (0, 1)

/-- The load of groups 0 to `n` is above its bound. -/
def overLoad (s : State) (n : Nat) : Bool :=
  let q := (List.range (n + 1)).foldl (fun (q : Nat × Nat) g =>
    let l := s.grpLoad g
    (q.1 * l.2 + l.1 * q.2, q.2 * l.2)) (0, 1)
  decide (q.1 > 64000000 * q.2)

/-- A group's own fault at ARM (R434): the offset of the register. -/
def grpFault (s : State) (g : Nat) : Option Nat :=
  if s.grpOn g = false then none
  else if s.sigsOf g = [] then some (0x100 + 0x40 * g)
  else if s.grpTread g = true ∧ s.grpBridge g ≥ s.variant.bridges then some (0x100 + 0x40 * g)
  else if s.grpGap g (s.grpDecim g) < 80000 then some (if s.grpTread g then 0x100 + 0x40 * g else 0x104 + 0x40 * g)
  else ((s.sigsOf g).find? fun i => !s.variant.node (s.fld (ACQ.SIG g i) 9 0)).map fun i => 0x400 + 0x100 * g + 4 * i

/-- REJ_STATE's cases, with FIELD. -/
def armState (s : State) : Option Nat :=
  match (List.range 4).findSome? s.grpFault with
  | some o => some o
  | none =>
    match (List.range 4).find? s.overLoad with
    | some g => some (0x104 + 0x40 * g)
    | none => if (List.range s.variant.stores).any (fun p => s.fld (STORE.SSTA p) 12 10 == 2) then none else some 0

/-- ACTL.ARM. -/
def acqArm (s : State) : State :=
  let a := ACQ.ASTA
  let s0 := s.setFld a 27 10 0
  if s.busyOp a then s.refuseWrite pgACQ
  else if s.offView pgACQ then opEnd pgACQ a .rejState s0
  else match s.armLength with
    | some o => (opEnd pgACQ a .rejLength s0).setFld a 27 16 o
    | none =>
      match s.armState with
      | some o => (opEnd pgACQ a .rejState s0).setFld a 27 16 o
      | none =>
        let idle := fun (g : Nat) => !s.grpCont g && s.fld (ACQ.GRP_NSEG g) 12 0 == 0
        if (List.range 4).all (fun g => !s.grpOn g || idle g) then opEnd pgACQ a .done s0
        else
          let s := { s0.opPhase a 2 with maskStop := false }
          let s := (List.range 4).foldl (fun s t =>
            s.putTrg t { s.trgOf t with armed := !s.bit (TRG.TCFG t) 3, last := none, ready := false }) s
          (List.range 4).foldl (fun s g =>
            let on := s.grpOn g && !idle g
            let s := s.putGrp g { running := on, decim := s.decimNow g, out := (s.grpOf g).out, words := 0 }
            let s := s.wr (ACQ.GRP_GSTA g) 0
            (s.setBit (ACQ.GRP_GSTA g) 16 (on && !s.grpCont g)).setBit (ACQ.GRP_GSTA g) 17 (on && s.fld THM.TSTEP 2 0 ≥ 1)) s

/-! ### One instant (R430, R433, R435-R437) -/

/-- A node's value at an instant (R430); a node without a value yet holds an open one (log entry 7). -/
def nodeAt (n t : Nat) (align : Bool) (s : State) : Word × State :=
  let h := Tab.get [] s.nodes n
  let after := (h.filter fun e => decide (e.1 > t)).getLast?
  match h.find? fun e => decide (e.1 ≤ t) with
  | none => let d := s.draw; (loWord d.1, d.2)
  | some (t0, v0) =>
    match after with
    | some (t1, v1) =>
      if align = true ∧ n < 0x140 ∧ t0 < t then
        (BitVec.ofInt 32 (v0.toInt + (v1.toInt - v0.toInt) * ((t : Int) - t0) / ((t1 : Int) - t0)), s)
      else (v0, s)
    | none => (v0, s)

/-- The values of a group's enabled signals. -/
def sampleGroup (g t : Nat) (s : State) : List Word × State :=
  (s.sigsOf g).foldl (fun (z : List Word × State) i =>
    let r := z.2.nodeAt (z.2.fld (ACQ.SIG g i) 9 0) t (z.2.bit (ACQ.GRP_GCFG g) 2)
    (z.1 ++ [r.1], r.2)) ([], s)

/-- The signals that an instant codes (R437): index, last and new value. -/
def codedNow (s : State) (g : Nat) (x : Grp) (vs : List Word) : List (Nat × Word × Word) :=
  ((s.sigsOf g).zip (x.last.zip vs)).filter fun e =>
    decide ((e.2.2 - e.2.1).toInt.natAbs > s.fld (ACQ.SIG g e.1) 31 16)

/-- An instant's entries appended after their ADVANCE; an instant with nothing to code writes nothing. -/
def codeInstant (g t k sp : Nat) (front back : List (List Word)) (vs : List Word) (s : State) (x : Grp) : Grp :=
  let sigs := s.sigsOf g
  let ch := s.codedNow g x vs
  let es := front ++ ch.map (fun e => codeSignal e.1 e.2.1 e.2.2) ++ back
  if es = [] then x
  else
    let adv := if k = x.coded then [] else [[BitVec.ofNat 32 ((k - x.coded) % 2 ^ 30)]]
    let last := (sigs.zip (x.last.zip vs)).map fun e => if ch.any (fun c => c.1 == e.1) then e.2.2 else e.2.1
    let x := adv.foldl (fun x ws => pushEntry t k sp sigs ws x) x
    let x := { x with coded := k }
    { (es.foldl (fun x ws => pushEntry t k sp sigs ws x) x) with last := last }

/-- A capture segment opens at instant `t` with values `vs`: SEG_START and SYNC (R433, R436). -/
def openSeg (s : State) (g t sp : Nat) (vs : List Word) (x : Grp) : Grp :=
  let sigs := s.sigsOf g
  let x := { x with coded := 0, last := vs, k := 1 }
  let x := pushEntry t 0 sp sigs ([marker 1 x.seg] ++ timeWords t) x
  let sync := syncWords t sp sigs vs
  { pushWords sync (padBlock sync.length x) with opened := true }

/-- The violations of an instant (R435): masks of the group whose step in force does not hold the value. -/
def maskHits (s : State) (g rel : Nat) (vs : List Word) : List Nat :=
  (List.range 8).filter fun m =>
    let c := ACQ.MASK_CFG m
    if s.bit c 8 = false ∨ s.fld c 1 0 ≠ g then false
    else match (s.sigsOf g).findIdx? (· = s.fld c 7 2) with
      | none => false
      | some i =>
        let v := (vs.getD i 0).toInt
        match ((List.range (s.fld c 12 10 + 1)).filter fun j => decide (s.num (ACQ.MASK_STEP_START m j) ≤ rel)).getLast? with
        | none => false
        | some j => decide (v > s.sint (ACQ.MASK_STEP_UPPER m j) ∨ v < s.sint (ACQ.MASK_STEP_LOWER m j))

/-- What a violation reports (R435). -/
def maskNote (k : Nat) (s : State) (m : Nat) : State :=
  let s := if s.num (ACQ.MASK_VCNT m) = 0 then s.wr (ACQ.MASK_FIRST m) (BitVec.ofNat 32 k) else s
  let s := ((s.count (ACQ.MASK_VCNT m) 31 0).raiseEvt pgACQ 2).raiseFlt pgACQ 16
  if s.bit (ACQ.MASK_CFG m) 9 then { s with maskStop := true } else s

/-- Room in the coded-output ring (R437): the part of MSIZE that the pre-trigger instants leave. -/
def ringRoom (s : State) : Bool :=
  let used := (List.range 4).foldl (fun n g => n + (s.grpOf g).out.length * 4) 0
  decide (used + 0x1000 ≤ s.num ACQ.MSIZE - s.preBytes) && s.hasCredit .acquisition 0

/-- A group's record written with the bytes it coded. -/
def putCoded (g : Nat) (old new : Grp) (s : State) : State :=
  let n := new.words - old.words
  let s := if n > 0 then (s.spend .acquisition 0).giveBack .acquisition 0 else s
  { s.putGrp g new with acqBytes := s.acqBytes + n * 4 }

/-- The capture segment ends (R433, R434, R436). -/
def closeSeg (g t sp : Nat) (s : State) : State :=
  let x := s.grpOf g
  let sigs := s.sigsOf g
  let y := pushEntry t x.k sp sigs [marker 5 (Nat.min x.k 0xFFFFFF)] x
  let y := { y with opened := false, seg := x.seg + 1, trigAt := none, fire := none, pre := [], k := 0 }
  let s := s.putCoded g x y
  ((s.setFld (ACQ.GRP_GSTA g) 12 0 y.seg).raiseEvt pgACQ 0)

/-- The acquisition ends (R434, R455): every instant coded is closed with a SEG_END. -/
def acqEnd (c : Code) (s : State) : State :=
  let s := (List.range 4).foldl (fun s g =>
    let x := s.grpOf g
    let s := if x.running = true ∧ x.opened = true then s.closeSeg g (x.at_.getD 0) (s.spacing g x.decim) else s
    (s.putGrp g { s.grpOf g with running := false }).setBit (ACQ.GRP_GSTA g) 16 false) s
  (opEnd pgACQ ACQ.ASTA c s).raiseEvt pgACQ 1

/-- What follows a stored instant of a group in MODE 0: the segment's end, the group's end, the acquisition's end. -/
def afterInstant (g t sp : Nat) (s : State) : State :=
  let x := s.grpOf g
  let cont := s.grpCont g
  if cont then (if s.maskStop then (s.closeSeg g t sp |>.setBit ACQ.ASTA 10 true).acqEnd .done else s)
  else if x.trigAt.isSome ∧ x.postLeft = 0 then
    let s := s.closeSeg g t sp
    if s.maskStop then (s.setBit ACQ.ASTA 10 true).acqEnd .done
    else if (s.grpOf g).seg ≥ s.fld (ACQ.GRP_NSEG g) 12 0 then
      let s := (s.putGrp g { s.grpOf g with running := false }).setBit (ACQ.GRP_GSTA g) 16 false
      if (List.range 4).any (fun h => (s.grpOf h).running) then s else s.acqEnd .done
    else s.setBit (ACQ.GRP_GSTA g) 16 true
  else s

/-- An instant of an open segment is stored, or dropped where there is no room (R435-R437). -/
def storeInstant (g t sp : Nat) (front : List (List Word)) (vs : List Word) (s : State) : State :=
  let x := s.grpOf g
  let k := x.k
  let rel := (k - x.trigAt.getD 0) * sp / 16000
  let hits := if s.grpCont g ∨ x.trigAt.isSome then s.maskHits g rel vs else []
  let s := hits.foldl (maskNote k) s
  if s.ringRoom = false then s.putGrp g { x with k := k + 1, lost := x.lost + 1 }
  else
    let gap := if x.lost > 0 then [[marker 3 (Nat.min x.lost 0xFFFFFF)]] else []
    let back := hits.map fun m => [marker 4 m, BitVec.ofNat 32 k]
    let y := s.codeInstant g t k sp (gap ++ front) back vs x
    let s := if x.lost > 0 then (s.count (ACQ.GRP_GAPCNT g) 31 0).raiseFlt pgACQ 17 else s
    s.putCoded g x { y with k := k + 1, lost := 0 }

/-- DECIM follows the throttling step (R431). -/
def decimStep (g t sp : Nat) (s : State) : State :=
  let x := s.grpOf g
  let d := s.decimNow g
  let s := s.setBit (ACQ.GRP_GSTA g) 17 (s.fld THM.TSTEP 2 0 ≥ 1)
  if d = x.decim then s
  else
    let y := if x.opened then pushEntry t x.k sp (s.sigsOf g) [marker 6 d] x else x
    s.putCoded g x { y with decim := d }

/-- An instant is evaluated (R430, R433). -/
def instant (g t : Nat) (s : State) : State :=
  let z := s.sampleGroup g t
  let vs := z.1
  let s := z.2
  let x := s.grpOf g
  let sp := s.spacing g x.decim
  let s := s.putGrp g { x with at_ := some t }
  let x := s.grpOf g
  let s :=
    if x.opened then
      let s := s.storeInstant g t sp [] vs
      let y := s.grpOf g
      (s.putGrp g { y with postLeft := y.postLeft - 1 }).afterInstant g t sp
    else if s.grpCont g then
      let s := s.putCoded g x (s.openSeg g t sp vs x)
      ((s.maskHits g 0 vs).foldl (maskNote 0) s).afterInstant g t sp
    else match x.fire with
      | some (u, tf) =>
        if tf > t then s.putGrp g { x with pre := (x.pre ++ [vs]).drop (x.pre.length + 1 - s.fld (ACQ.GRP_PRE g) 15 0) }
        else
          let n := x.pre.length
          let all := x.pre ++ [vs]
          let t0 := t - n * sp
          let y := s.openSeg g t0 sp (all.headD []) x
          let y := ((x.pre.drop 1).zipIdx).foldl (fun y e => s.codeInstant g (t0 + (e.2 + 1) * sp) (e.2 + 1) sp [] [] e.1 y) y
          let y := { y with k := n, trigAt := some n, postLeft := s.fld (ACQ.GRP_POST g) 23 0, pre := [] }
          let s := (s.putCoded g x y).setBit (ACQ.GRP_GSTA g) 16 false
          let s := s.storeInstant g t sp [[marker 2 (u + Nat.min n 255 * 65536)] ++ timeWords tf] vs
          s.afterInstant g t sp
      | none => s.putGrp g { x with pre := (x.pre ++ [vs]).drop (x.pre.length + 1 - s.fld (ACQ.GRP_PRE g) 15 0) }
  s.decimStep g t sp

/-- The instant that a group evaluates now (R430): the newest that LAG allows. -/
def instantNow (s : State) (g : Nat) : Option Nat :=
  let x := s.grpOf g
  let lag := s.fld (ACQ.GRP_LAG g) 7 0 * 16000
  if s.grpTread g then
    let b := s.grpBridge g
    let t := (s.brgOf b).tread
    if t + lag ≤ s.t16 ∧ (s.rd64 (BRG.TREADCNT b)).toNat % Nat.max 1 x.decim = 0 ∧ x.at_ ≠ some t then some t else none
  else
    let p := Nat.max 1 (s.grpGap g x.decim)
    let t := (s.t16 - lag) / p * p
    if lag ≤ s.t16 ∧ (match x.at_ with | some u => decide (u < t) | none => true) = true then some t else none

/-- ACQ_INSTANT's effect. -/
def acqInstant (g : Nat) (s : State) : State :=
  if (s.grpOf g).running = false ∨ s.busyOp ACQ.ASTA = false then s
  else match s.instantNow g with
    | some t => s.instant g t
    | none => s

/-- ACTL.STOP (R434): open segments are closed; a stop after the end is resolved under R63. -/
def acqStop (s : State) : State :=
  if s.busyOp ACQ.ASTA = false then s.opAbort pgACQ ACQ.ASTA id
  else s.acqEnd .aborted

/-- TCTL.FORCE (R432). -/
def trgForce (t : Nat) (s : State) : State := s.fire t s.t16

end State

/-- A row about the acquisition engine and its trigger units. -/
def State.onAcq (s : State) (ok : Bool) (f : State → State) : Host.Outcome State Fault Refusal :=
  onUnit (s.variant.acq && ok) (f s)

/-- ACTL_ARM (R434). -/
def execActlArm (s : State) : Host.Outcome State Fault Refusal := s.onAcq true State.acqArm

/-- ACTL_STOP (R434). -/
def execActlStop (s : State) : Host.Outcome State Fault Refusal := s.onAcq true State.acqStop

/-- TRG_TCTL_FORCE (R432). -/
def execTrgTctlForce (t : Nat) (s : State) : Host.Outcome State Fault Refusal := s.onAcq (decide (t < 4)) (State.trgForce t)

end Sys2Proof.Machine
end

