-- ==== Sys2Proof/Machine/Alu.lean ====
section
/-!
DEFINITION. The gallery's ALU instructions and LUI (R86, R87, R89).
-/
namespace Sys2Proof.Machine

/-- An ALU instruction: `f` of Ga and the second operand into Gd, `lat` cycles later (R86, R89). -/
def State.alu (g lat : Nat) (d a : BitVec 5) (y : AluSrc) (f : Word → Word → Word) (s : State) : State :=
  s.issue g false (a :: aluReads y) false
    (fun s => (s.produceG g lat d (f ((s.coreOf g).g a) ((s.coreOf g).src y)) none, .seq))

/-- The saturated sum, difference and absolute value of R87. -/
def aluAdds (x y : Word) : Word := satInt 32 (x.toInt + y.toInt)
def aluSubs (x y : Word) : Word := satInt 32 (x.toInt - y.toInt)
def aluAbss (x : Word) : Word := satInt 32 (if x.toInt < 0 then -x.toInt else x.toInt)

/-- The shift amount, Gb[5:0] (R87). -/
def shiftBy (y : Word) : Nat := wfld y 5 0

/-- The shifts of R87: 32 or more gives 0, or the sign fill for SAR. -/
def aluShl (x y : Word) : Word := x <<< shiftBy y
def aluShr (x y : Word) : Word := x >>> shiftBy y
def aluSar (x y : Word) : Word := x.sshiftRight (shiftBy y)

/-- The smaller and the larger signed operand (R86; signed as R87's saturation and SLT are, log entry 20). -/
def aluMin (x y : Word) : Word := if x.toInt < y.toInt then x else y
def aluMax (x y : Word) : Word := if x.toInt < y.toInt then y else x

def aluSlt (x y : Word) : Word := if x.toInt < y.toInt then 1 else 0
def aluSltu (x y : Word) : Word := if x.toNat < y.toNat then 1 else 0

/-- ADD (R86). -/
def execAdd (g : Nat) (d a : BitVec 5) (y : AluSrc) (s : State) : Host.Outcome State Fault Refusal :=
  onGal g (State.alu g 1 d a y (· + ·)) s

/-- SUB (R86). -/
def execSub (g : Nat) (d a : BitVec 5) (y : AluSrc) (s : State) : Host.Outcome State Fault Refusal :=
  onGal g (State.alu g 1 d a y (· - ·)) s

/-- ADDS (R87). -/
def execAdds (g : Nat) (d a : BitVec 5) (y : AluSrc) (s : State) : Host.Outcome State Fault Refusal :=
  onGal g (State.alu g 1 d a y aluAdds) s

/-- SUBS (R87). -/
def execSubs (g : Nat) (d a : BitVec 5) (y : AluSrc) (s : State) : Host.Outcome State Fault Refusal :=
  onGal g (State.alu g 1 d a y aluSubs) s

/-- AND (R86). -/
def execAnd (g : Nat) (d a : BitVec 5) (y : AluSrc) (s : State) : Host.Outcome State Fault Refusal :=
  onGal g (State.alu g 1 d a y (· &&& ·)) s

/-- OR (R86). -/
def execOr (g : Nat) (d a : BitVec 5) (y : AluSrc) (s : State) : Host.Outcome State Fault Refusal :=
  onGal g (State.alu g 1 d a y (· ||| ·)) s

/-- XOR (R86). -/
def execXor (g : Nat) (d a : BitVec 5) (y : AluSrc) (s : State) : Host.Outcome State Fault Refusal :=
  onGal g (State.alu g 1 d a y (· ^^^ ·)) s

/-- SHL (R87). -/
def execShl (g : Nat) (d a : BitVec 5) (y : AluSrc) (s : State) : Host.Outcome State Fault Refusal :=
  onGal g (State.alu g 1 d a y aluShl) s

/-- SHR (R87). -/
def execShr (g : Nat) (d a : BitVec 5) (y : AluSrc) (s : State) : Host.Outcome State Fault Refusal :=
  onGal g (State.alu g 1 d a y aluShr) s

/-- SAR (R87). -/
def execSar (g : Nat) (d a : BitVec 5) (y : AluSrc) (s : State) : Host.Outcome State Fault Refusal :=
  onGal g (State.alu g 1 d a y aluSar) s

/-- MUL: the low 32 bits of the product, 3 cycles later (R87, R89). -/
def execMul (g : Nat) (d a : BitVec 5) (y : AluSrc) (s : State) : Host.Outcome State Fault Refusal :=
  onGal g (State.alu g 3 d a y (· * ·)) s

/-- MIN (R86). -/
def execMin (g : Nat) (d a : BitVec 5) (y : AluSrc) (s : State) : Host.Outcome State Fault Refusal :=
  onGal g (State.alu g 1 d a y aluMin) s

/-- MAX (R86). -/
def execMax (g : Nat) (d a : BitVec 5) (y : AluSrc) (s : State) : Host.Outcome State Fault Refusal :=
  onGal g (State.alu g 1 d a y aluMax) s

/-- ABSS: its second field is reserved in both forms (R86, R87). -/
def execAbss (g : Nat) (d a : BitVec 5) (_imm : Bool) (s : State) : Host.Outcome State Fault Refusal :=
  onGal g (State.alu g 1 d a (.imm 0) (fun x _ => aluAbss x)) s

/-- SLT (R86). -/
def execSlt (g : Nat) (d a : BitVec 5) (y : AluSrc) (s : State) : Host.Outcome State Fault Refusal :=
  onGal g (State.alu g 1 d a y aluSlt) s

/-- SLTU (R86). -/
def execSltu (g : Nat) (d a : BitVec 5) (y : AluSrc) (s : State) : Host.Outcome State Fault Refusal :=
  onGal g (State.alu g 1 d a y aluSltu) s

/-- LUI (R86). -/
def execLui (g : Nat) (d : BitVec 5) (imm : BitVec 20) (s : State) : Host.Outcome State Fault Refusal :=
  onGal g (State.issue g false [] false
    (fun s => (s.produceG g 1 d (imm.setWidth 32 <<< 12) none, .seq))) s

end Sys2Proof.Machine
end

