-- ==== Sys2Proof/Machine/Companions.lean ====
section
/-!
DEFINITION. The MBG-60 companions on the rings: leases, plans, holds and the safe state, forces, protection and clocks
(R165, R173, R175-R183, R188-R191).
-/
namespace Sys2Proof.Machine

/-- The rank of R190 that governs a companion's gates. -/
def compRank (c : Companion) : Nat :=
  if c.tripActive ∨ c.latched ≠ 0 then 1
  else if c.safety.isSome then 2
  else if c.safeMiss ∨ c.safeLease then 3
  else if c.force ≠ 0 then 4
  else 5

namespace State

/-- A companion written, with the rank that now governs (R190). -/
def setComp (r k : Nat) (c : Companion) (s : State) : State := s.putComp r k { c with rank := compRank c }

/-- A parameter in force at a companion (R175): as its last CFG set it, else as the RZL page holds it. -/
def param (s : State) (r k i : Nat) : Word :=
  match Tab.find (s.compOf r k).params i with
  | some v => v
  | none => match i with
    | 1 => s.rd (RZL.LEASETO r)
    | 2 => s.rd (RZL.MISSCFG r)
    | 3 => BitVec.ofNat 32 (s.fld (RZL.SCCFG r) 7 0)
    | 4 => BitVec.ofNat 32 (s.fld (RZL.SCCFG r) 17 8)
    | 5 => BitVec.ofNat 32 (s.fld (RZL.SCCFG r) 22 20 + s.fld (RZL.SCCFG r) 31 24 * 256)
    | 6 => 0x3E1E
    | _ => 0

/-- A HANDOVER whose switch instant has come (R182). -/
def ripen (r k : Nat) (now : BitVec 48) (s : State) : State :=
  let c := s.compOf r k
  match c.handover with
  | some (e, o, sw) =>
    if ((now >>> 24).setWidth 24 - sw).toInt ≥ 0 then s.setComp r k { c with epoch := e, owner := o, handover := none }
    else s
  | none => s

/-- Whether a frame from `src` with an epoch is accepted (R182), or the reason of the REJECT (R166). -/
def leaseCheck (s : State) (r k : Nat) (src : Byte) (epoch : Word) : Option Nat :=
  let c := s.compOf r k
  if c.lease = false ∨ src.getLsbD 5 ≠ c.owner.getLsbD 5 then some 1
  else if epoch.toNat < c.epoch.toNat then some 0
  else none

/-- An accepted frame raises the epoch and sets the expiry (R182). -/
def renew (r k : Nat) (epoch : Word) (s : State) : State :=
  let c := s.compOf r k
  s.setComp r k { c with epoch := epoch, expiry := s.t16 + (s.param r k 1).toNat * 16000 }

/-- A refused frame is answered with a REJECT, at most one per sender in 10 µs (R183). -/
def sendReject (r k : Nat) (src : Byte) (epoch : Word) (reason : Nat) (s : State) : State :=
  let c := s.compOf r k
  let recent := match Tab.find c.rejected src.toNat with
    | some t => decide (s.t16 < t + 160000)
    | none => false
  if recent then s
  else
    let f : RejectFrame := {
      dst := src, epoch := epoch, src := src, reason := BitVec.ofNat 4 reason, leaseEpoch := c.epoch,
      leaseOwner := c.owner }
    s.setComp r k { c with rejected := Tab.put c.rejected src.toNat s.t16, reject := some f }

/-- A frame under the lease rule (R182, R183): `f` where it is accepted. -/
def leased (r k : Nat) (src : Byte) (epoch : Word) (f : State → State) (s : State) : State :=
  let s := s.ripen r k (lt48 s.t16)
  match s.leaseCheck r k src epoch with
  | none => f (s.renew r k epoch)
  | some reason => s.sendReject r k src epoch reason

/-- An EDGE frame at a companion (R178, R180, R182). -/
def edgeFrame (r k : Nat) (f : EdgeFrame) (copies : Copies) (s : State) : State :=
  let s := match copies with
    | .both => s
    | .one => s.setComp r k { s.compOf r k with crcFails := (s.compOf r k).crcFails + 1 }
    | .none => s.setComp r k { s.compOf r k with crcFails := (s.compOf r k).crcFails + 2 }
  if copies = .none then s
  else
    let s := s.ripen r k f.tref
    s.leased r k f.src f.epoch (fun s =>
      let c := s.compOf r k
      if f.lead < 300 then
        (s.setComp r k { c with latePlans := c.latePlans + 1 }).count (RZL.SLOT_SCRC r k) 31 16
      else
        let leave := f.resume && (!c.safeLease || c.claimed)
        s.setComp r k { c with last := some f, misses := 0, hold := false, coast := false,
                               safeMiss := c.safeMiss && !leave, safeLease := c.safeLease && !leave,
                               claimed := c.claimed && !leave })

/-- What the device sees of a partner's EDGE frame that passes its ports: its epoch, and the plan for the shadow
comparison (R275, R286). -/
def partnerFrame (r k : Nat) (f : EdgeFrame) (copies : Copies) (s : State) : State :=
  if copies = .none ∨ s.ownAddr r f.src ∨ s.fld (RZL.TOPO r) 1 0 = 0 then s
  else
    let s := s.seeEpoch f.epoch
    match s.bridgeAt r k with
    | some b => s.shadowCheck b
    | none => s

/-- A tread without an accepted plan (R179). -/
def miss (r k : Nat) (s : State) : State :=
  let c := s.compOf r k
  let n := Nat.min 7 (c.misses + 1)
  let max := wfld (s.param r k 2) 2 0
  if c.safeMiss ∨ c.safeLease then s.setComp r k { c with misses := n }
  else if c.tripActive then s.setComp r k { c with misses := n, hold := false, safeMiss := decide (n ≥ max) }
  else if n ≥ max then s.setComp r k { c with misses := n, hold := false, coast := false, safeMiss := true }
  else if n = 1 then s.setComp r k { c with misses := n, hold := true, holds := c.holds + 1 }
  else s.setComp r k { c with misses := n, hold := false, coast := true }

/-- A CLAIM at a companion (R182), with what the claiming device learns (R173, R193). -/
def claim (r k : Nat) (f : LeaseFrame) (s : State) : State :=
  let c := s.compOf r k
  if c.lease then s.sendReject r k f.src f.newEpoch 2
  else if f.newEpoch.toNat ≤ c.epoch.toNat then s.sendReject r k f.src f.newEpoch 0
  else
    let s := s.setComp r k { c with lease := true, owner := f.newOwner, epoch := f.newEpoch, claimed := true,
                                    handover := none, expiry := s.t16 + (s.param r k 1).toNat * 16000 }
    let s := (s.wr (RZL.SLOT_SEPOCH r k) f.newEpoch).wr (RZL.SLOT_SOWNER r k) (f.newOwner.setWidth 32)
    if s.ownAddr r f.src then
      let s := s.setBit (RZL.SLOT_SSTA r k) 3 true
      let s := match s.bridgeAt r k with
        | some b => (s.seeEpoch f.newEpoch).grantEpoch b f.newEpoch
        | none => s
      let s := s.putRing r { s.ringOf r with claimed := wsetBit (s.ringOf r).claimed k true }
      let s := if s.ringState r ≥ 2 then s.setSlotState r k 3 else s
      s.ringClaimed r
    else
      let s := s.seeEpoch f.newEpoch
      if s.leaseOurs r k then (s.setBit (RZL.SLOT_SSTA r k) 3 false).raiseFlt (pgRZL r) 19 else s

/-- A HANDOVER at a companion (R182). -/
def handoverFrame (r k : Nat) (f : LeaseFrame) (s : State) : State :=
  let c := s.compOf r k
  if c.lease = false ∨ f.oldOwner ≠ c.owner then s.sendReject r k f.src f.newEpoch 1
  else if f.oldEpoch ≠ c.epoch ∨ f.newEpoch.toNat ≤ c.epoch.toNat then s.sendReject r k f.src f.newEpoch 0
  else
    let s := s.setComp r k { c with handover := some (f.newEpoch, f.newOwner, f.switchTref) }
    s.seeEpoch f.newEpoch

/-- The lease ends (R182): by expiry or by RELEASE; the companion goes to the safe state. -/
def leaseEnds (r k : Nat) (s : State) : State :=
  let c := s.compOf r k
  let s := s.setComp r k { c with lease := false, safeLease := true, claimed := false, hold := false, coast := false }
  if s.leaseOurs r k then ((s.setBit (RZL.SLOT_SSTA r k) 3 false).setSlotState r k 6).raiseFlt (pgRZL r) 19 else s

/-- A FORCE frame at a companion (R182, R190, R191). -/
def forceFrame (r k : Nat) (f : ForceFrame) (s : State) : State :=
  let v : BitVec 6 := f.w ++ f.v ++ f.u
  if f.safety then
    let a := (s.param r k 6).toNat
    if f.src.toNat = a % 256 ∨ f.src.toNat = a / 256 % 256 then
      let s := match s.bridgeAt r k with
        | some b => s.putRing r { s.ringOf r with force := (s.ringOf r).force.filter fun o => o.bridge != b }
        | none => s
      s.setComp r k { s.compOf r k with safety := if f.release then none else some v }
    else s.sendReject r k f.src f.epoch 1
  else s.leased r k f.src f.epoch (fun s => s.setComp r k { s.compOf r k with force := if f.release then 0 else v })

/-- A short-circuit trip (R188). -/
def scTrip (r k : Nat) (mask : BitVec 4) (s : State) : State :=
  let c := s.compOf r k
  let tries := wfld (s.param r k 5) 2 0
  let c := { c with tripActive := true, tripped := mask, trips := c.trips + 1, prots := c.prots + 1, hold := false }
  if c.tries ≥ tries then s.setComp r k { c with latched := mask, latches := c.latches + 1 }
  else s.setComp r k { c with tries := c.tries + 1 }

/-- A calibration RESULT (R176, R177). -/
def calResult (r k loop : Nat) (s : State) : State :=
  let c := s.compOf r k
  let d : Int := ((loop : Int) + c.acw - c.accw) / 2
  let corr : Int := (c.td : Int) + d - c.acw
  let s := s.setComp r k { c with delay := d, slew := corr }
  let s := s.setFld (RZL.SLOT_SDELAY r k) 23 0 (BitVec.ofInt 24 d).toNat
  if corr > 32 ∨ corr < -32 then s.raiseFlt (pgRZL r) 17 else s

end State

/-- EDGE_FRAME (R178). -/
def execEdgeFrame (r k : Nat) (f : EdgeFrame) (copies : Copies) (s : State) : Host.Outcome State Fault Refusal :=
  onUnit (s.hasSlot r k) ((s.edgeFrame r k f copies).partnerFrame r k f copies)

/-- SAMPLE_FRAME (R182). -/
def execSampleFrame (r k : Nat) (f : SampleFrame) (s : State) : Host.Outcome State Fault Refusal :=
  onUnit (s.hasSlot r k) (s.leased r k f.src f.epoch id)

/-- LEASE_RENEW (R182). -/
def execLeaseRenew (r k : Nat) (src : BitVec 8) (epoch : BitVec 32) (s : State) : Host.Outcome State Fault Refusal :=
  onUnit (s.hasSlot r k) (s.leased r k src epoch id)

/-- LEASE_HANDOVER (R182). -/
def execLeaseHandover (r k : Nat) (f : LeaseFrame) (s : State) : Host.Outcome State Fault Refusal :=
  onUnit (s.hasSlot r k) (s.handoverFrame r k f)

/-- LEASE_CLAIM (R173, R182). -/
def execLeaseClaim (r k : Nat) (f : LeaseFrame) (s : State) : Host.Outcome State Fault Refusal :=
  onUnit (s.hasSlot r k) (s.claim r k f)

/-- LEASE_RELEASE: from the owner with the lease epoch (R182). -/
def execLeaseRelease (r k : Nat) (src : BitVec 8) (epoch : BitVec 32) (s : State) : Host.Outcome State Fault Refusal :=
  onUnit (s.hasSlot r k)
    (let c := s.compOf r k
     if c.lease = true ∧ src.getLsbD 5 = c.owner.getLsbD 5 ∧ epoch = c.epoch then s.leaseEnds r k
     else s.sendReject r k src epoch (if c.lease = true ∧ src.getLsbD 5 = c.owner.getLsbD 5 then 0 else 1))

/-- PROT_PERIODIC: in version 3 (R174). -/
def execProtPeriodic (r k : Nat) (s : State) : Host.Outcome State Fault Refusal :=
  onUnit (s.hasSlot r k)
    (let c := s.compOf r k
     if c.version = 3 then s.setComp r k { c with prots := c.prots + 1 } else s)

/-- PCMD_CLEAR: latched protection ends on the owner's order (R182, R188). -/
def execPcmdClear (r k : Nat) (src : BitVec 8) (epoch : BitVec 32) (s : State) : Host.Outcome State Fault Refusal :=
  onUnit (s.hasSlot r k)
    (s.leased r k src epoch (fun s =>
      s.setComp r k { s.compOf r k with latched := 0, tripped := 0, tripActive := false, tries := 0 }))

/-- PCMD_SELFTEST: `good` are the comparators that trip and release in time (R189). -/
def execPcmdSelftest (r k : Nat) (src : BitVec 8) (epoch : BitVec 32) (mask good : BitVec 4) (s : State) :
    Host.Outcome State Fault Refusal :=
  onUnit (s.hasSlot r k)
    (s.leased r k src epoch (fun s =>
      let c := s.compOf r k
      s.setComp r k { c with selfTest := some (mask &&& good, mask &&& ~~~ good), prots := c.prots + 1 }))

/-- FORCE_FRAME (R182, R190). -/
def execForceFrame (r k : Nat) (f : ForceFrame) (s : State) : Host.Outcome State Fault Refusal :=
  onUnit (s.hasSlot r k) (s.forceFrame r k f)

/-- CAL_MARK (R176). -/
def execCalMark (r k : Nat) (td acw accw : Nat) (s : State) : Host.Outcome State Fault Refusal :=
  onUnit (s.hasSlot r k) (s.setComp r k { s.compOf r k with td := td, acw := acw, accw := accw })

/-- CAL_RESULT (R176, R177). -/
def execCalResult (r k : Nat) (loop : Nat) (s : State) : Host.Outcome State Fault Refusal :=
  onUnit (s.hasSlot r k) (s.calResult r k loop)

/-- VNEG_OFFER (R173). -/
def execVnegOffer (r k : Nat) (lo hi : Nat) (s : State) : Host.Outcome State Fault Refusal :=
  onUnit (s.hasSlot r k) (s.setComp r k { s.compOf r k with offer := some (lo, hi) })

/-- VNEG_SELECT: the version in force; a start without a common version ends REJ_STATE (R173, R174). -/
def execVnegSelect (r k : Nat) (ver : Nat) (s : State) : Host.Outcome State Fault Refusal :=
  onUnit (s.hasSlot r k)
    (let q := s.commonVersion r
     if s.busyOp (RZL.RSTA r) ∧ q.1 > q.2 then State.opEnd (pgRZL r) (RZL.RSTA r) .rejState (s.ringDown r)
     else
       let s := s.setComp r k { s.compOf r k with version := ver }
       if s.busyOp (RZL.RSTA r) then s.setFld (RZL.PVER r) 7 0 ver else s)

/-- CFG_FRAME: from the ring controller that started the ring, or from the owner (R175, R182). -/
def execCfgFrame (r k : Nat) (src : BitVec 8) (idx : Nat) (v : BitVec 32) (s : State) :
    Host.Outcome State Fault Refusal :=
  onUnit (s.hasSlot r k)
    (let c := s.compOf r k
     if src.toNat % 32 = 31 ∨ (c.lease = true ∧ src.getLsbD 5 = c.owner.getLsbD 5) then
       s.setComp r k { c with params := Tab.put c.params idx v }
     else s.sendReject r k src 0 1)

/-- COMPANION_MISS (R179). -/
def execCompanionMiss (r k : Nat) (s : State) : Host.Outcome State Fault Refusal :=
  onUnit (s.hasSlot r k) (s.miss r k)

/-- LEASE_EXPIRY (R182). -/
def execLeaseExpiry (r k : Nat) (s : State) : Host.Outcome State Fault Refusal :=
  onUnit (s.hasSlot r k) (if (s.compOf r k).lease then s.leaseEnds r k else s)

/-- SC_TRIP (R188). -/
def execScTrip (r k : Nat) (mask : BitVec 4) (s : State) : Host.Outcome State Fault Refusal :=
  onUnit (s.hasSlot r k) (s.scTrip r k mask)

/-- SCWAIT_END: the companion re-enables itself unless latched (R188, R191). -/
def execScwaitEnd (r k : Nat) (s : State) : Host.Outcome State Fault Refusal :=
  onUnit (s.hasSlot r k)
    (let c := s.compOf r k
     if c.latched = 0 then s.setComp r k { c with tripActive := false, tripped := 0 } else s)

/-- SCQUIET_END (R188). -/
def execScquietEnd (r k : Nat) (s : State) : Host.Outcome State Fault Refusal :=
  onUnit (s.hasSlot r k) (s.setComp r k { s.compOf r k with tries := 0 })

end Sys2Proof.Machine
end

