-- ==== Sys2Proof/Machine/Store.lean ====
section
/-!
DEFINITION. The record store (R444-R450, R454) and the event recorder's commands (R439-R443).
-/
namespace Sys2Proof.Machine

namespace State

/-! ### The volume (R444-R446) -/

/-- STATE of the store pages: 0 DOWN, 1 STARTING, 2 RUN, 3 DEGRADED, 4 FULL. -/
def volState (s : State) : Nat := s.fld (STORE.SSTA 0) 12 10
def setVol (v : Nat) (s : State) : State :=
  (List.range s.variant.stores).foldl (fun s p => s.setFld (STORE.SSTA p) 12 10 v) s

def nvmeQueue (s : State) (p m : Nat) : List NvmeCmd := Tab.get [] s.vol.queue (p * 16 + m)
def putQueue (p m : Nat) (q : List NvmeCmd) (s : State) : State :=
  { s with vol := { s.vol with queue := Tab.set (some []) s.vol.queue (p * 16 + m) q } }
def nvmePush (p m : Nat) (c : NvmeCmd) (s : State) : State := s.putQueue p m (s.nvmeQueue p m ++ [c])

def member (s : State) (i : Nat) : Member := s.vol.members.getD i { port := 0, slot := 0, slots := 0, failed := true }

/-- A command for member `i` of the volume. -/
def toMember (i : Nat) (c : NvmeCmd) (s : State) : State := s.nvmePush (s.member i).port (s.member i).slot c

/-- Members in service, by index. -/
def goodMembers (s : State) : List Nat := (List.range s.vol.members.length).filter fun i => !(s.member i).failed

/-- NMEM of VOLCFG; STORE[1] follows STORE[0] (R454). -/
def volNmem (s : State) : Nat := s.fld (STORE.VOLCFG 0) 4 0

/-- S of a volume (R445). -/
def volSize (ms : List Member) : Nat :=
  let good := ms.filter fun m => !m.failed
  Nat.min (2 ^ 32) (ms.length * (good.foldl (fun n m => Nat.min n (m.slots - 1)) (2 ^ 32)))

/-! ### Segments and blocks (R445, R447) -/

/-- The next segment to allocate from `n` up, and how many were skipped on failed members (R445). -/
def nextSeg (s : State) : (fuel n skipped : Nat) → Option (Nat × Nat)
  | 0, _, _ => none
  | f + 1, n, k =>
    if n ≥ s.vol.size then (if s.bit (STORE.VOLCFG 0) 8 ∧ s.vol.size > 0 then s.nextSeg f 0 k else none)
    else if (s.member (n % Nat.max 1 s.vol.members.length)).failed then s.nextSeg f (n + 1) (k + 1)
    else if s.vol.recSegs.contains n then s.nextSeg f (n + 1) k
    else some (n, k)

def streamOf (s : State) (q : Nat) : StreamSt := Tab.get {} s.vol.streams q
def putStream (q : Nat) (x : StreamSt) (s : State) : State := { s with vol := { s.vol with streams := Tab.put s.vol.streams q x } }

/-- A block of stream `q` is sent (R447): its segment's header first where a segment opens. Answers the member it went to;
none where the volume is full. -/
def sendBlock (q records last : Nat) (s : State) : Option Nat × State :=
  let x := s.streamOf q
  let n := Nat.max 1 s.vol.members.length
  match x.seg with
  | some g =>
    if x.block < 255 then
      let i := g % n
      (some (s.member i).port, (s.putStream q { x with block := x.block + 1, last := last }).toMember i (.block records))
    else (none, s.putStream q { x with seg := none, prev := some g })
  | none =>
    match s.nextSeg (s.vol.recSegs.length + 2 * s.vol.members.length + 2) s.vol.next 0 with
    | none => (none, (s.setVol 4).raiseFlt (pgSTORE 0) 16)
    | some (g, k) =>
      let i := g % n
      let s := s.count (STORE.BADSEG (s.member i).port) 31 0 k
      let v := s.vol
      let s := { s with vol := { v with next := g + 1, allocs := v.allocs + 1,
                                        recSegs := if q = 0 then v.recSegs ++ [g] else v.recSegs } }
      let s := s.wr64 (STORE.NEXTSEG 0) (BitVec.ofNat 64 (g + 1))
      let s := s.putStream q { seg := some g, block := 1, last := last, prev := x.prev }
      (some (s.member i).port, (s.toMember i (.block 0)).toMember i (.block records))

/-- The port that the recorder's next block goes to. -/
def nextPort (s : State) (q : Nat) : Nat :=
  let g := match (s.streamOf q).seg with
    | some g => if (s.streamOf q).block < 255 then g else s.vol.next
    | none => s.vol.next
  (s.member (g % Nat.max 1 s.vol.members.length)).port

/-- A full segment of a stream is left. -/
def turnSeg (q : Nat) (s : State) : State :=
  let x := s.streamOf q
  if x.block ≥ 255 then s.putStream q { x with seg := none, block := 0, prev := x.seg } else s

/-- Records of the ring go to the recorder stream, 63 to a block (R28, R440, R447); records lost meanwhile are reported. -/
def pumpRec (s : State) : State :=
  let s := s.turnSeg 0
  let p := s.nextPort 0
  if s.bit REC.RCFG 1 = false ∨ s.recd.unsent < 63 ∨ s.hasCredit (.store p) 0 63 = false then s
  else match s.sendBlock 0 63 (s.num REC.RSEQ) with
    | (none, s) => s
    | (some p, s) =>
      let s := s.spend (.store p) 0 63
      let n := s.recd.beyond
      let s := { s with recd := { s.recd with unsent := s.recd.unsent - 63, beyond := 0 } }
      if n > 0 then (s.submit 0 0xFF (recordHead 0xFF 3 1 4) [BitVec.ofNat 32 n]).1 else s

/-- A group's coded words go to its stream, 1,015 to a block; what is left when the acquisition has ended goes padded
(R437, R447). -/
def pumpGrp (s : State) (g : Nat) : State :=
  let x := s.grpOf g
  if x.out.length < 1015 ∧ (x.out = [] ∨ s.busyOp ACQ.ASTA = true) then s
  else
    let s := s.turnSeg (g + 1)
    match s.sendBlock (g + 1) 0 (x.words - x.out.length) with
    | (none, s) => s
    | (some _, s) => s.putGrp g { x with out := x.out.drop 1015 }

/-- What waits for the store is sent while it runs. -/
def storePump (s : State) : State :=
  if (s.volState = 2 ∨ s.volState = 3) ∧ s.vol.stopping = false then (List.range 4).foldl pumpGrp s.pumpRec else s

/-! ### Checkpoints (R448) -/

/-- A checkpoint is written, or waits for the Flush commands of the last. -/
def checkpoint (s : State) : State :=
  if s.volState ≠ 2 ∧ s.volState ≠ 3 ∧ s.volState ≠ 4 then s
  else if s.vol.flushing then { s with vol := { s.vol with ckWant := true } }
  else
    let n := s.vol.members.length
    match ((List.range n).map fun i => (s.vol.ckGen + 1 + i) % n).find? fun i => !(s.member i).failed with
    | none => s
    | some i => { s with vol := { s.vol with flushing := true, ckWant := false } }.toMember i .ckpt

/-- The checkpoint is written: Flush goes to every member. -/
def ckptDone (s : State) : State :=
  let s := { s with vol := { s.vol with ckGen := s.vol.ckGen + 1 } }
  let s := (List.range s.variant.stores).foldl (fun s p => s.raiseEvt (pgSTORE p) 1) s
  s.goodMembers.foldl (fun s i => s.toMember i .flush) s

/-- A Flush has completed. -/
def flushDone (s : State) : State :=
  if s.vol.queue.any fun e => e.2.contains .flush || e.2.contains .ckpt then s
  else
    let s := { s with vol := { s.vol with flushing := false } }
    if s.vol.ckWant then s.checkpoint else s

/-! ### Failures (R450) -/

/-- A member's controller has failed: its open segments are abandoned. -/
def memberFail (p m : Nat) (s : State) : State :=
  let s := (s.putQueue p m []).setBit (STORE.CTRL_CSTA p m) 2 true
  match s.vol.members.findIdx? fun x => x.port == p && x.slot == m && !x.failed with
  | none =>
    match s.vol.op with
    | some (f, sc) =>
      let ms := sc.members.map fun (x : MemberLabel) => if x.port = p ∧ x.slot = m then { x with present := false } else x
      { s with vol := { s.vol with op := some (f, { sc with members := ms }) } }
    | none => s
  | some i =>
    let ms := s.vol.members.set i { s.member i with failed := true }
    let s := { s with vol := { s.vol with members := ms } }
    let s := (List.range 5).foldl (fun (s : State) q =>
      match (s.streamOf q).seg with
      | some g =>
        if g % Nat.max 1 ms.length = i then
          (s.putStream q { s.streamOf q with seg := none, block := 0 }).count (STORE.BADSEG p) 31 0
        else s
      | none => s) s
    let s := s.raiseFlt (pgSTORE p) 17
    let s : State := if s.volState = 2 then s.setVol 3 else s
    if s.vol.flushing then s.flushDone else s

/-! ### START, FORMAT, STOP (R450, R454) -/

/-- The scan's controllers that may belong to the volume (R444, R446). -/
def usable (sc : LabelScan) : List MemberLabel := sc.members.filter fun m => m.present && m.formatOk

/-- No command is outstanding. -/
def nvmeIdle (s : State) : Bool := s.vol.queue.all fun e => e.2.isEmpty

/-- SCTL.START or FORMAT begins; CSTA and CAP report the controllers. -/
def volBegin (p : Nat) (format : Bool) (sc : LabelScan) (s : State) : State :=
  let s := sc.members.foldl (fun s (m : MemberLabel) =>
    let s := s.wr (STORE.CTRL_CSTA m.port m.slot) (BitVec.ofNat 32 (b01 m.present + m.bus.toNat * 256))
    s.wr64 (STORE.CTRL_CAP m.port m.slot) (BitVec.ofNat 64 (m.capacity / 2 ^ 20))) s
  let s := { s with vol := { s.vol with op := some (format, sc) } }
  let s := (s.setVol 1).opPhase (STORE.SSTA p) 2
  (usable sc).foldl (fun s m =>
    if format then (s.nvmePush m.port m.slot .writeLabel).nvmePush m.port m.slot .writeLabel
    else s.nvmePush m.port m.slot .readLabel) s

/-- SCTL.START. -/
def storeStart (p : Nat) (sc : LabelScan) (s : State) : State :=
  let a := STORE.SSTA p
  if s.busyOp a then s.refuseWrite (pgSTORE p)
  else if s.offView (pgSTORE p) = true ∨ s.volState ≠ 0 ∨ usable sc = [] then opEnd (pgSTORE p) a .rejState s
  else s.volBegin p false sc

/-- SCTL.FORMAT (R446, R450). -/
def storeFormat (p : Nat) (force : Bool) (sc : LabelScan) (s : State) : State :=
  let a := STORE.SSTA p
  let n := s.volNmem
  let us := usable sc
  if s.busyOp a then s.refuseWrite (pgSTORE p)
  else if s.offView (pgSTORE p) = true ∨ s.volState ≠ 0 ∨ n = 0 ∨ n > 16 ∨ us.length < n ∨ (force = false ∧ us.any (fun m => m.labelValid) = true) then
    opEnd (pgSTORE p) a .rejState s
  else s.volBegin p true { sc with members := us.take n }

/-- SCTL.STOP: the commands outstanding complete first. -/
def storeStop (p : Nat) (s : State) : State :=
  let a := STORE.SSTA p
  if s.busyOp a then s.refuseWrite (pgSTORE p)
  else if s.offView (pgSTORE p) = true ∨ s.volState < 2 then opEnd (pgSTORE p) a .rejState s
  else if s.nvmeIdle then opEnd (pgSTORE p) a .done ({ s with vol := {} }.setVol 0)
  else { s.opPhase a 2 with vol := { s.vol with stopping := true } }

/-- SCTL.ABORT. -/
def storeAbort (p : Nat) (s : State) : State :=
  s.opAbort (pgSTORE p) (STORE.SSTA p) fun s =>
    if s.vol.stopping then { s with vol := { s.vol with stopping := false } } else { s with vol := {} }.setVol 0

/-- The page whose SSTA reports the running operation. -/
def storePage (s : State) : Nat := if s.busyOp (STORE.SSTA 1) then 1 else 0

/-- All labels are read (R450): the members are known, and the newest checkpoint is read; or the START is refused. -/
def labelsRead (sc : LabelScan) (s : State) : State :=
  let p := s.storePage
  let n := s.volNmem
  let ls := (usable sc).filter fun m => m.labelValid
  let id := (ls.head?.map (·.volumeId)).getD 0
  if ls = [] ∨ ls.any (fun m => m.volumeId != id || m.nmem != n || decide (m.index ≥ n)) = true then
    opEnd (pgSTORE p) (STORE.SSTA p) .rejState ({ s with vol := {} }.setVol 0)
  else
    let ms := (List.range n).map fun i =>
      match ls.find? fun m => m.index == i with
      | some m => { port := m.port, slot := m.slot, slots := m.capacity / 2 ^ 20 : Member }
      | none => { port := 0, slot := 15, slots := 0, failed := true }
    let s := ls.foldl (fun s m =>
      (s.setBit (STORE.CTRL_CSTA m.port m.slot) 1 true).setFld (STORE.CTRL_CSTA m.port m.slot) 7 4 m.index) s
    let s := { s with vol := { s.vol with members := ms, id := id, size := volSize ms } }
    let top := ls.foldl (fun (b : Option MemberLabel) m =>
      match b with
      | some x => if m.ckGen > x.ckGen then some m else b
      | none => some m) none
    match top with
    | some m => s.nvmePush m.port m.slot .readCkpt
    | none => s

/-- The newest checkpoint is read: the volume runs (R454). -/
def ckptRead (sc : LabelScan) (s : State) : State :=
  let p := s.storePage
  let ls := (usable sc).filter fun m => m.labelValid
  let gen := ls.foldl (fun g m => Nat.max g m.ckGen) 0
  let next := ls.foldl (fun (b : Nat × Nat) m => if m.ckGen ≥ b.1 then (m.ckGen, m.ckNext) else b) (0, 0)
  let s := { s with vol := { s.vol with ckGen := gen, next := next.2, op := none } }
  let s := s.wr64 (STORE.NEXTSEG 0) (BitVec.ofNat 64 next.2)
  let s := s.setVol (if s.vol.members.any (·.failed) then 3 else 2)
  (opEnd (pgSTORE p) (STORE.SSTA p) .done s).raiseEvt (pgSTORE p) 0

/-- Both labels of every member are written: the FORMAT is done. -/
def labelsWritten (s : State) : State :=
  let p := s.storePage
  opEnd (pgSTORE p) (STORE.SSTA p) .done ({ s with vol := {} }.setVol 0)

/-- A block of a store segment has been written (R454). -/
def blockDone (p m records : Nat) (s : State) : State :=
  let s := s.wr64 (STORE.WRBYTES p) (s.rd64 (STORE.WRBYTES p) + 4096)
  let s := s.wr64 (STORE.CTRL_WRITTEN p m) (s.rd64 (STORE.CTRL_WRITTEN p m) + 4096)
  let s := { s with vol := { s.vol with secBytes := Tab.put s.vol.secBytes p (Tab.get 0 s.vol.secBytes p + 4096) } }
  s.giveBack (.store p) 0 records

/-- NVME_COMPLETION's effect. -/
def nvmeDone (p m : Nat) (ok : Bool) (s : State) : State :=
  match s.nvmeQueue p m with
  | [] => s
  | c :: rest =>
    let s := s.putQueue p m rest
    let s := if ok = false then s.memberFail p m
      else match c with
        | .block n => s.blockDone p m n
        | .ckpt => s.ckptDone
        | .flush => s.flushDone
        | _ => s
    let s := match c, s.vol.op with
      | .readLabel, some (_, sc) => if s.nvmeIdle then s.labelsRead sc else s
      | .readCkpt, some (_, sc) => if s.nvmeIdle then s.ckptRead sc else s
      | .writeLabel, some _ => if s.nvmeIdle then s.labelsWritten else s
      | _, _ => s
    if s.vol.stopping ∧ s.nvmeIdle then
      let q := s.storePage
      opEnd (pgSTORE q) (STORE.SSTA q) .done ({ s with vol := {} }.setVol 0)
    else s.storePump

/-! ### Health (R450, R454) -/

/-- New critical-warning bits are relayed (R450). -/
def relayWarning (p : Nat) (old new : Nat) (s : State) : State :=
  if new &&& (255 - old) ≠ 0 then (s.raiseFlt (pgSTORE p) 18).raiseEvt (pgSTORE p) 2 else s

/-- SMART_WARNING's effect. -/
def smartWarning (p m : Nat) (w : Byte) (s : State) : State :=
  let a := STORE.CTRL_HLTH p m
  let old := s.fld a 7 0
  (s.setFld a 7 0 (old ||| w.toNat)).relayWarning p old (old ||| w.toNat)

/-- HEALTH_POLL's effect. -/
def healthPoll (p m : Nat) (h : SmartLog) (s : State) : State :=
  let a := STORE.CTRL_HLTH p m
  let old := s.fld a 7 0
  let s := s.wr a (BitVec.ofNat 32 (h.warning.toNat + h.spare.toNat * 256 + h.used.toNat * 65536
    + Nat.min 255 h.mediaErrors.toNat * 2 ^ 24))
  let s := (s.wr (STORE.CTRL_CTEMP p m) (h.tempK.setWidth 32)).wr64 (STORE.CTRL_DUW p m) h.unitsWritten
  s.relayWarning p old h.warning.toNat

/-! ### The recorder's commands (R439-R443) -/

/-- FWREC's last word submits a firmware record (R439, R453). -/
def fwrecSubmit (s : State) : State :=
  let w := fun n => Tab.get 0 s.recd.fw n
  let head := (w 0 &&& 0x000FFF00) ||| 0x003000FF
  let r := s.submit 2 0xFF head ((List.range 5).map fun i => w (10 + i))
  if r.2 then noteLost r.1 else r.1

/-- FCTL.FREEZE (R441). -/
def freeze (s : State) : State :=
  if s.bit REC.RSTA 0 then s.refuseWrite pgREC
  else { (s.setBit REC.RSTA 0 true).setFld REC.RSTA 16 8 0 with recd := { s.recd with heldLost := 0, heldFlushed := 0 } }

/-- The held records join the ring, and a record of the merge follows (R439, R441). -/
def unfreeze (s : State) : State :=
  if s.bit REC.RSTA 0 = false then s
  else
    let held := s.recd.held
    let lost := s.recd.heldLost
    let done := s.recd.heldFlushed
    let s := (s.setBit REC.RSTA 0 false).setFld REC.RSTA 16 8 0
    let s := { s with recd := { s.recd with held := [], heldLost := 0, heldFlushed := 0 } }
    let s := held.foldl (fun s ws => (ringAppend ws s).1) s
    let s := { s with recd := { s.recd with unflushed := s.recd.unflushed - done } }
    let s := s.raiseEvt pgREC 1
    let r := recAccept (recordHead 0xFF 2 1 4) [BitVec.ofNat 32 held.length, BitVec.ofNat 32 lost] s
    if r.2 then noteLost r.1 else r.1

/-- FREEZETO ends (R441). -/
def freezeTimeout (s : State) : State := if s.bit REC.RSTA 0 then s.unfreeze.raiseFlt pgREC 16 else s

/-- FLRDCTL.START (R443). -/
def flrdStart (s : State) : State :=
  let a := REC.FLRDSTA
  let n := s.fld REC.FLRDCNT 11 0
  if s.busyOp a then s.refuseWrite pgREC
  else if s.offView pgREC then opEnd pgREC a .rejState s
  else if n > 3020 ∨ s.num REC.FLRDDST + n * 4096 > mezzSize then opEnd pgREC a .rejLength s
  else if n = 0 then opEnd pgREC a .done s
  else s.opPhase a 2

/-- A flush-area read finishes (R348, R443): the sectors from FLRDSEL back, each older than the last. -/
def flrdDone (s : State) : State :=
  let a := REC.FLRDSTA
  if s.busyOp a = false then s
  else
    let ring := s.flushRing
    let len := Nat.max 1 ring.length
    let sel := s.fld REC.FLRDSEL 11 0
    let z := (List.range (s.fld REC.FLRDCNT 11 0)).foldl (fun (z : Bool × State) i =>
      let pos := (s.nvm.flushNext + len * 3 - 1 - sel % len - i % len) % len
      let sec := z.2.sectAddr (0x3B4 + ring.getD pos 0) 0
      match z.2.readBytes sec 4096 45 false with
      | (some bs, s) => (z.1, s.storeWords (mezzBase + s.num REC.FLRDDST + i * 4096) (leWords 1024 bs))
      | (none, s) => (false, s.emramBad sec)) (true, s)
    opEnd pgREC a (if z.1 then .done else .failEcc) z.2

end State

/-- A row about a store page. -/
def State.onStore (s : State) (p m : Nat) (f : State → State) : Host.Outcome State Fault Refusal :=
  onUnit (decide (p < s.variant.stores ∧ m < 16)) (f s)

/-- ACQ_INSTANT (R430). -/
def execAcqInstant (grp : Nat) (s : State) : Host.Outcome State Fault Refusal :=
  s.onAcq (decide (grp < 4)) fun s => (s.acqInstant grp).storePump

/-- FWREC_SUBMIT (R439, R453): the word written at 0x13C itself is the device's to fill. -/
def execFwrecSubmit (core : Nat) (_v : BitVec 32) (s : State) : Host.Outcome State Fault Refusal :=
  onUnit (decide (core < s.variant.halls)) s.fwrecSubmit

/-- FCTL_FREEZE (R441). -/
def execFctlFreeze (s : State) : Host.Outcome State Fault Refusal := .next s.freeze

/-- FCTL_UNFREEZE (R441). -/
def execFctlUnfreeze (s : State) : Host.Outcome State Fault Refusal := .next s.unfreeze

/-- FREEZE_TIMEOUT (R441). -/
def execFreezeTimeout (s : State) : Host.Outcome State Fault Refusal := .next s.freezeTimeout

/-- FCTL_FLUSH (R442). -/
def execFctlFlush (s : State) : Host.Outcome State Fault Refusal := .next (s.flushStart 3 0x10000)

/-- FLRDCTL_START (R443). -/
def execFlrdctlStart (s : State) : Host.Outcome State Fault Refusal := .next s.flrdStart

/-- FLRDCTL_ABORT (R443). -/
def execFlrdctlAbort (s : State) : Host.Outcome State Fault Refusal := .next (s.opAbort pgREC REC.FLRDSTA id)

/-- FLUSH_READ_DONE (R443). -/
def execFlushReadDone (s : State) : Host.Outcome State Fault Refusal := .next s.flrdDone

/-- STORE_SCTL_START (R450, R454). -/
def execStoreSctlStart (p : Nat) (labels : LabelScan) (s : State) : Host.Outcome State Fault Refusal :=
  s.onStore p 0 (State.storeStart p labels)

/-- STORE_SCTL_STOP (R454). -/
def execStoreSctlStop (p : Nat) (s : State) : Host.Outcome State Fault Refusal := s.onStore p 0 (State.storeStop p)

/-- STORE_SCTL_ABORT (R454). -/
def execStoreSctlAbort (p : Nat) (s : State) : Host.Outcome State Fault Refusal := s.onStore p 0 (State.storeAbort p)

/-- STORE_SCTL_FORMAT (R446, R450). -/
def execStoreSctlFormat (p : Nat) (force : Bool) (labels : LabelScan) (s : State) : Host.Outcome State Fault Refusal :=
  s.onStore p 0 (State.storeFormat p force labels)

/-- STORE_SCTL_CKPT (R448). -/
def execStoreSctlCkpt (p : Nat) (s : State) : Host.Outcome State Fault Refusal := s.onStore p 0 State.checkpoint

/-- CHECKPOINT_TIMER (R448). -/
def execCheckpointTimer (s : State) : Host.Outcome State Fault Refusal := s.onStore 0 0 State.checkpoint

/-- MEMBER_FAIL (R450). -/
def execMemberFail (p m : Nat) (s : State) : Host.Outcome State Fault Refusal := s.onStore p m (State.memberFail p m)

/-- SMART_WARNING (R450). -/
def execSmartWarning (p m : Nat) (warn : BitVec 8) (s : State) : Host.Outcome State Fault Refusal :=
  s.onStore p m (State.smartWarning p m warn)

/-- HEALTH_POLL (R454). -/
def execHealthPoll (p m : Nat) (h : SmartLog) (s : State) : Host.Outcome State Fault Refusal :=
  s.onStore p m (State.healthPoll p m h)

/-- NVME_COMPLETION (R448, R450, R454). -/
def execNvmeCompletion (p m : Nat) (ok : Bool) (s : State) : Host.Outcome State Fault Refusal :=
  s.onStore p m (State.nvmeDone p m ok)

end Sys2Proof.Machine
end

