-- ==== Sys2Proof/Machine/Fio.lean ====
section
/-!
DEFINITION. Field I/O (R456-R470): the field rings as the device runs them, and the MBF-32 companions behind them.
-/
namespace Sys2Proof.Machine

namespace State

def fioOf (s : State) (r : Nat) : FioRing := Tab.get {} s.fio r
def putFio (r : Nat) (x : FioRing) (s : State) : State := { s with fio := Tab.put s.fio r x }
def fioComp (s : State) (r k : Nat) : FioComp := Tab.get {} (s.fioOf r).comps k
def putFioComp (r k : Nat) (c : FioComp) (s : State) : State :=
  s.putFio r { s.fioOf r with comps := Tab.put (s.fioOf r).comps k c }

/-- Ring state: 0 DOWN, 1 STARTING, 2 RUN, 3 BROKEN. -/
def fioState (s : State) (r : Nat) : Nat := s.fld (FIO.RSTA r) 11 10
def setFioState (r v : Nat) (s : State) : State := s.setFld (FIO.RSTA r) 11 10 v

/-- Slot `k` holds a companion that the device serves. -/
def fioPresent (s : State) (r k : Nat) : Bool := s.bit (FIO.TOPO r) (8 + k)
def fioSlot (s : State) (r k : Nat) : Nat := s.fld (FIO.SSTA r k) 2 0
def setFioSlot (r k v : Nat) (s : State) : State := s.setFld (FIO.SSTA r k) 2 0 v

/-- The slots that the device serves. -/
def fioSlots (s : State) (r : Nat) : List Nat := (List.range 8).filter fun k => s.fioPresent r k

/-! ### Companions (R460-R466) -/

/-- Parameter `i` that a companion holds (R461). -/
def fioParam (c : FioComp) (i : Nat) : Word := Tab.get 0 c.params i

/-- Mode of a channel. -/
def chMode (c : FioComp) (ch : Nat) : Nat := wfld (fioParam c ch) 1 0

/-- Outputs from OUT, off where an overcurrent has switched them off (R462, R463). -/
def driveOut (c : FioComp) : FioComp :=
  let w := (List.range 32).foldl (fun (m : Word) ch => wsetBit m ch (decide (chMode c ch ≥ 2) && c.out.getLsbD ch)) 0
  { c with driven := w &&& ~~~ c.ovc, hiz := 0 }

/-- Outputs at SAFEVAL (R464): 0 low, 1 high, 2 the last value, 3 high impedance. -/
def driveSafe (c : FioComp) : FioComp :=
  let put := fun (d : FioComp) (ch : Nat) =>
    if chMode c ch < 2 then d
    else match wfld (fioParam c ch) 3 2 with
      | 0 => { d with driven := wsetBit d.driven ch false }
      | 1 => { d with driven := wsetBit d.driven ch (!c.ovc.getLsbD ch) }
      | 2 => d
      | _ => { d with driven := wsetBit d.driven ch false, hiz := wsetBit d.hiz ch true }
  { (List.range 32).foldl put c with safe := true }

/-- A down part that passes its CRC (R459-R464). -/
def applyDown (d : DownPart) (c : FioComp) : FioComp :=
  let old := fioParam c d.index.toNat
  let params := Tab.put c.params d.index.toNat d.value
  let clear := (c.out ^^^ d.out) ||| (if d.index < 32 ∧ old ≠ d.value then BitVec.ofNat 32 (2 ^ d.index.toNat) else 0)
  let c := { c with params := params, cfgOk := params.length == 65, out := d.out, ovc := c.ovc &&& ~~~ clear, echo := d.cycle }
  if c.safe = true ∧ d.rel = false then c else driveOut { c with safe := false }

/-- The frame reaches companion `k` (R460, R467): its down part is applied, its inputs are sampled, its latch restarts. -/
def fioCompanion (r k : Nat) (crcOk : Bool) (pins : Word) (s : State) : State :=
  let c := s.fioComp r k
  match Tab.find (s.fioOf r).down k with
  | none => s
  | some d =>
    let c := if crcOk then applyDown d c else { c with crcFails := c.crcFails + 1 }
    s.putFioComp r k { c with inp := pins, latch := none, more := false }

/-- No valid down part for SAFETO (R464). -/
def fioSafeto (r k : Nat) (s : State) : State := s.putFioComp r k (driveSafe (s.fioComp r k))

/-- An output's current exceeds its limit (R463). -/
def fioOvercurrent (r k ch : Nat) (s : State) : State :=
  let c := s.fioComp r k
  if c.driven.getLsbD ch then
    s.putFioComp r k { c with ovc := wsetBit c.ovc ch true, driven := wsetBit c.driven ch false }
  else s

/-- A group's supply moves (R466): low below 19.2 V, missing below 12.0 V, each with 0.5 V of hysteresis. -/
def fioSupply (r k : Nat) (grpB : Bool) (mv : Nat) (s : State) : State :=
  let c := s.fioComp r k
  let i := if grpB then 2 else 0
  let miss := if mv < 12000 then true else if mv ≥ 12500 then false else c.supply.getLsbD i
  let low := if mv < 19200 then true else if mv ≥ 19700 then false else c.supply.getLsbD (i + 1)
  s.putFioComp r k { c with supply := wsetBit (wsetBit c.supply i miss) (i + 1) low }

/-- An edge on an input (R465). -/
def fioEdge (r k ch : Nat) (falling : Bool) (off : Nat) (s : State) : State :=
  let c := s.fioComp r k
  let p := fioParam c ch
  if wfld p 1 0 ≠ 1 ∨ p.getLsbD (if falling then 5 else 4) = false then s
  else if c.latch.isSome then s.putFioComp r k { c with more := true }
  else s.putFioComp r k { c with latch := some (BitVec.ofNat 5 ch, falling, BitVec.ofNat 24 off) }

/-! ### The device's side -/

/-- The ring's start ends without success (R468): the ring is DOWN. -/
def fioDown (r : Nat) (s : State) : State :=
  let s := s.setFioState r 0
  let s := (List.range 8).foldl (fun s k => if s.fioSlot r k ≥ 2 then s.setFioSlot r k 1 else s) s
  s.putFio r { s.fioOf r with down := [], counted := false, misses := [], lost := 0 }

/-- RCTL.START (R468): companions are claimed anew. -/
def fioStart (r : Nat) (s : State) : State :=
  let a := FIO.RSTA r
  if s.busyOp a then s.refuseWrite (pgFIO r)
  else if s.offView (pgFIO r) = true ∨ s.fioState r ≠ 0 then opEnd (pgFIO r) a .rejState s
  else
    let x := s.fioOf r
    let comps := x.comps.map fun e => (e.1, { e.2 with params := [], cfgOk := false : FioComp })
    let s := s.putFio r { comps := comps }
    (s.opPhase a 2).setFioState r 1

/-- RCTL.STOP (R468): the last frame sets every slot's outputs to SAFEVAL. -/
def fioStop (r : Nat) (s : State) : State :=
  if s.fioState r < 2 then s
  else ((s.fioSlots r).foldl (fun s k => s.fioSafeto r k) s).fioDown r

/-- A bound of the start is exceeded (R468). -/
def fioStartTimeout (r : Nat) (s : State) : State :=
  if s.fioState r = 1 then opEnd (pgFIO r) (FIO.RSTA r) .timeout (s.fioDown r) else s

/-- Value of parameter `i` of a slot as the page holds it (R461). -/
def pageParam (s : State) (r k i : Nat) : Word :=
  if i < 32 then s.rd (FIO.CHCFG r k i) else if i < 64 then s.rd (FIO.PWM r k (i - 32))
  else BitVec.ofNat 32 (s.fld (FIO.RCFG r) 7 0)

/-- The down part of a slot for this cycle (R459, R461, R464): the queue first, else the refresh. -/
def fioSlotDown (r : Nat) (s : State) (k : Nat) : State :=
  let x := s.fioOf r
  let q := Tab.get [] x.queue k
  let i := match q with | j :: _ => j | [] => Tab.get 0 x.refresh k
  let x := match q with
    | _ :: t => { x with queue := Tab.put x.queue k t }
    | [] => { x with refresh := Tab.put x.refresh k ((i + 1) % 65) }
  let rel := s.fioSlot r k == 3 && (s.bit (FIO.RCFG r) 12 || x.resume.getLsbD k)
  let d : DownPart := { out := s.rd (FIO.OUT r k), index := BitVec.ofNat 8 i, cycle := BitVec.ofNat 8 (s.num (FIO.CYCLE r)),
                        rel := rel, value := s.pageParam r k i }
  let x := { x with down := Tab.put x.down k d, resume := if rel then wsetBit x.resume k false else x.resume }
  (s.putFio r x).wr (FIO.PPEND r k) (BitVec.ofNat 32 (Nat.min 255 (Tab.get [] x.queue k).length))

/-- The cycle frame leaves (R458). -/
def fioCycle (r : Nat) (s : State) : State :=
  if s.fioState r = 0 then s
  else
    let s := s.wr (FIO.CYCLE r) (s.rd (FIO.CYCLE r) + 1)
    let s := s.putFio r { s.fioOf r with depart := s.t16, down := [] }
    (s.fioSlots r).foldl (fioSlotDown r) s

/-- Companions on the other ring count first (R457). -/
def fioOther (s : State) (r : Nat) : Nat := (s.fioSlots (1 - r)).length

/-- A companion answers with its SID (R457, R458, R468). -/
def fioEnumerate (r : Nat) (s : State) (e : UpPart × Nat) : State :=
  let k := e.2
  let w := e.1.inputs
  let p := pgFIO r
  let s := s.wr (FIO.SID r k) (w &&& 0x00FFFFFF)
  let s := s.setFioSlot r k 1
  if s.fioOther r + (s.fioSlots r).length ≥ 8 then (s.setBit (FIO.TOPO r) (16 + k) true).raiseFlt p 21
  else if wfld w 23 16 ≠ 1 then (s.setBit (FIO.TOPO r) (16 + k) true).raiseFlt p 22
  else (s.setBit (FIO.TOPO r) (8 + k) true).raiseEvt p 1

/-- The supply bits of a slot as reported (R466). -/
def fioSupplyBits (r k new : Nat) (s : State) : State :=
  let old := s.fld (FIO.SSTA r k) 6 3
  if new = old then s
  else
    let rise := new &&& (15 - old)
    let s := s.setFld (FIO.SSTA r k) 6 3 new
    let s := s.count (FIO.SUPCNT r k) 15 0 (rise % 2 + rise / 4 % 2)
    let s := s.count (FIO.SUPCNT r k) 31 16 (rise / 2 % 2 + rise / 8)
    (s.raiseFlt (pgFIO r) 19).raiseEvt (pgFIO r) 3

/-- TIME of the inputs of slot `k` in 1/16 ns (R460). -/
def fioStamp (s : State) (r k : Nat) : Nat :=
  let hop := (s.fld (FIO.LOOPDLY r) 15 0 - 2376) * 16
  (s.fioOf r).depart + hop * (k + 1) / (s.fld (FIO.TOPO r) 3 0 + 1)

/-- A reported latch (R465). -/
def fioLatch (r k : Nat) (ch : BitVec 5) (falling more : Bool) (off : BitVec 24) (s : State) : State :=
  let a := FIO.LATINFO r k
  let w := timeWords (s.fioStamp r k + off.toNat * 128)
  let s := (List.range 4).foldl (fun s i => s.wr (FIO.LATTIME r k i) (w.getD i 0)) s
  let s := (s.setFld a 5 0 (ch.toNat + b01 falling * 32)).setFld a 15 8 (s.fld a 15 8 + 1)
  let s := s.raiseEvt (pgFIO r) 4
  if more then (s.count a 31 16).raiseFlt (pgFIO r) 23 else s

/-- A valid up part (R459, R463-R467). -/
def fioUp (r k : Nat) (u : UpPart) (s : State) : State :=
  let p := pgFIO r
  let x := s.fioOf r
  let s := s.putFio r { x with misses := Tab.put x.misses k 0 }
  let safe := u.status.getLsbD 0
  let s := if safe = true ∧ s.fioSlot r k ≠ 3 then s.raiseFlt p 18 else s
  let s := s.setFioSlot r k (if safe then 3 else if s.fioState r = 1 ∧ u.status.getLsbD 5 = false then 1 else 2)
  let s := s.fioSupplyBits r k (wfld u.status 4 1)
  let s := (s.setBit (FIO.SSTA r k) 7 (u.status.getLsbD 5)).setFld (FIO.SSTA r k) 15 8 (wfld u.status 15 8)
  let new := u.ovc &&& ~~~ s.rd (FIO.OVC r k)
  let s := (s.wr (FIO.IN r k) u.inputs).wr (FIO.OVC r k) u.ovc
  let s := if new ≠ 0 then s.raiseFlt p 20 else s
  match u.latch with
  | some (ch, f, m, o) => s.fioLatch r k ch f m o
  | none => s

/-- A cycle without a valid up part of a slot (R467). -/
def fioMiss (r : Nat) (s : State) (k : Nat) : State :=
  let x := s.fioOf r
  s.putFio r { x with misses := Tab.put x.misses k (Nat.min 15 (Tab.get 0 x.misses k + 1)) }

/-- One slot's up part of a returned frame. -/
def fioSlotUp (r : Nat) (ups : List UpPart) (s : State) (k : Nat) : State :=
  match ups[k]? with
  | some u => if u.crcOk then s.fioUp r k u else (s.count (FIO.CRCCNT r) 15 0).fioMiss r k
  | none => (s.count (FIO.CRCCNT r) 15 0).fioMiss r k

/-- A frame returns (R460, R467, R468). -/
def fioReturn (r loopNs : Nat) (ups : List UpPart) (s : State) : State :=
  if s.fioState r = 0 then s
  else
    let s := s.wr (FIO.LOOPDLY r) (BitVec.ofNat 32 (Nat.min 0xFFFF loopNs))
    let x := s.fioOf r
    if s.fioState r = 1 ∧ x.counted = false then
      let s := (s.wr (FIO.TOPO r) (BitVec.ofNat 32 (Nat.min 8 ups.length))).putFio r { x with counted := true }
      ((ups.take 8).zipIdx).foldl (fioEnumerate r) s
    else
      let s := s.putFio r { x with lost := 0 }
      let s := if s.fioState r = 3 then s.setFioState r 2 else s
      let s := (s.fioSlots r).foldl (fioSlotUp r ups) s
      if s.fioState r = 1 ∧ (s.fioSlots r).all (fun k => s.bit (FIO.SSTA r k) 7) = true then
        (opEnd (pgFIO r) (FIO.RSTA r) .done (s.setFioState r 2)).raiseEvt (pgFIO r) 0
      else s

/-- A frame does not return (R467). -/
def fioLost (r : Nat) (s : State) : State :=
  if s.fioState r = 0 then s
  else
    let s := (s.fioSlots r).foldl (fioMiss r) (s.count (FIO.CRCCNT r) 31 16)
    s.putFio r { s.fioOf r with lost := (s.fioOf r).lost + 1 }

def staleCnt (s : State) (r : Nat) : Nat := s.fld (FIO.RCFG r) 11 8

/-- A slot goes STALE (R467). -/
def fioStale (r k : Nat) (s : State) : State :=
  if s.fioPresent r k = true ∧ s.fioState r ≥ 2 ∧ s.fioSlot r k ≠ 4 ∧ Tab.get 0 (s.fioOf r).misses k ≥ s.staleCnt r then
    (s.setFioSlot r k 4).raiseFlt (pgFIO r) 17
  else s

/-- The ring is BROKEN (R467). -/
def fioBroken (r : Nat) (s : State) : State :=
  if s.fioState r = 2 ∧ (s.fioOf r).lost ≥ s.staleCnt r then
    ((s.setFioState r 3).raiseFlt (pgFIO r) 16).raiseEvt (pgFIO r) 2
  else s

/-- A parameter is queued for a slot (R461). -/
def fioQueue (r k i : Nat) (s : State) : State :=
  let x := s.fioOf r
  let q := Tab.get [] x.queue k ++ [i]
  (s.putFio r { x with queue := Tab.put x.queue k q }).wr (FIO.PPEND r k) (BitVec.ofNat 32 (Nat.min 255 q.length))

/-- A write of CHCFG, PWM or SAFETO (R461, R462, R469). -/
def fioParamWrite (r k i : Nat) (v : Word) (s : State) : State :=
  let p := pgFIO r
  if i > 64 then s
  else if i = 64 then
    if wfld v 7 0 = 0 then s.refuseWrite p
    else
      let s := cfgWr p (FIO.RCFG r) (wset (s.rd (FIO.RCFG r)) 7 0 (wfld v 7 0)) s
      (s.fioSlots r).foldl (fun s k => s.fioQueue r k 64) s
  else if s.fioPresent r k = false then s.raiseFlt p 2
  else if i < 32 then (cfgWr p (FIO.CHCFG r k i) (v &&& 0xFF3F) s).fioQueue r k i
  else if wfld v 15 0 < 200 then s.refuseWrite p
  else (cfgWr p (FIO.PWM r k (i - 32)) v s).fioQueue r k i

end State

/-- A row about a field ring and a slot of it. -/
def State.onFio (s : State) (r k : Nat) (f : State → State) : Host.Outcome State Fault Refusal :=
  onUnit (decide (r < 2 ∧ k < 8)) (f s)

/-- FIO_RCTL_START (R468). -/
def execFioRctlStart (r : Nat) (s : State) : Host.Outcome State Fault Refusal := s.onFio r 0 (State.fioStart r)

/-- FIO_RCTL_STOP (R468). -/
def execFioRctlStop (r : Nat) (s : State) : Host.Outcome State Fault Refusal := s.onFio r 0 (State.fioStop r)

/-- FIO_RCTL_ABORT (R468). -/
def execFioRctlAbort (r : Nat) (s : State) : Host.Outcome State Fault Refusal :=
  s.onFio r 0 (State.opAbort (pgFIO r) (FIO.RSTA r) (State.fioDown r))

/-- FIO_RCTL_RESUME (R464). -/
def execFioRctlResume (r k : Nat) (s : State) : Host.Outcome State Fault Refusal :=
  s.onFio r k fun s => s.putFio r { s.fioOf r with resume := wsetBit (s.fioOf r).resume k true }

/-- FIO_START_TIMEOUT (R468). -/
def execFioStartTimeout (r : Nat) (s : State) : Host.Outcome State Fault Refusal := s.onFio r 0 (State.fioStartTimeout r)

/-- FIO_PARAM_WRITE (R461). -/
def execFioParamWrite (r k idx : Nat) (v : BitVec 32) (s : State) : Host.Outcome State Fault Refusal :=
  s.onFio r k (State.fioParamWrite r k idx v)

/-- FIO_CYCLE_FRAME (R458). -/
def execFioCycleFrame (r : Nat) (s : State) : Host.Outcome State Fault Refusal := s.onFio r 0 (State.fioCycle r)

/-- FIO_FRAME_RETURN (R460, R467). -/
def execFioFrameReturn (r loopNs : Nat) (ups : List UpPart) (s : State) : Host.Outcome State Fault Refusal :=
  s.onFio r 0 (State.fioReturn r loopNs ups)

/-- FIO_FRAME_LOST (R467). -/
def execFioFrameLost (r : Nat) (s : State) : Host.Outcome State Fault Refusal := s.onFio r 0 (State.fioLost r)

/-- FIO_STALE (R467). -/
def execFioStale (r k : Nat) (s : State) : Host.Outcome State Fault Refusal := s.onFio r k (State.fioStale r k)

/-- FIO_BROKEN (R467). -/
def execFioBroken (r : Nat) (s : State) : Host.Outcome State Fault Refusal := s.onFio r 0 (State.fioBroken r)

/-- FIO_COMPANION_FRAME (R460). -/
def execFioCompanionFrame (r k : Nat) (crcOk : Bool) (pins : BitVec 32) (s : State) : Host.Outcome State Fault Refusal :=
  s.onFio r k (State.fioCompanion r k crcOk pins)

/-- FIO_SAFETO_EXPIRY (R464). -/
def execFioSafetoExpiry (r k : Nat) (s : State) : Host.Outcome State Fault Refusal := s.onFio r k (State.fioSafeto r k)

/-- FIO_OVERCURRENT (R463). -/
def execFioOvercurrent (r k c : Nat) (s : State) : Host.Outcome State Fault Refusal :=
  onUnit (decide (r < 2 ∧ k < 8 ∧ c < 32)) (s.fioOvercurrent r k c)

/-- FIO_SUPPLY_CHANGE (R466). -/
def execFioSupplyChange (r k : Nat) (grpB : Bool) (mv : Nat) (s : State) : Host.Outcome State Fault Refusal :=
  s.onFio r k (State.fioSupply r k grpB mv)

/-- FIO_LATCH_EDGE (R465). -/
def execFioLatchEdge (r k c : Nat) (falling : Bool) (off : Nat) (s : State) : Host.Outcome State Fault Refusal :=
  onUnit (decide (r < 2 ∧ k < 8 ∧ c < 32)) (s.fioEdge r k c falling off)

end Sys2Proof.Machine
end

