-- ==== Sys2Proof/Machine/Power.lean ====
section
/-!
DEFINITION. Mode requests (R477), wake (R77, R78, R478), block power (R480), supplies (R482-R486, R505-R508), references
(R487-R490), housekeeping, throttling and derating (R491-R497), power-up and PORST_N (R516-R518), the link's states and
lane locks (R173, R288).
-/
namespace Sys2Proof.Machine

namespace State

/-! ### Mode requests (R477) -/

/-- QUIET, HAUL, SURGE and LIMP (R471). -/
def isRunningMode (m : Nat) : Bool := decide (2 ≤ m ∧ m ≤ 5)

/-- Every enabled axis is at rest (R231, R477). -/
def axesAtRest (s : State) : Bool :=
  (List.range s.variant.axes).all fun a =>
    !s.axisOn a || (decide (s.mstate a = 4) && s.rd (AXIS.TRQSET a) == 0)
      || (decide (s.mstate a ≤ 1 ∨ s.mstate a ≥ 6) && s.rd (AXIS.CMDSPD a) == 0)

/-- Every RZL ring DOWN and STW.STATE OFF (R477). -/
def linksDown (s : State) : Bool :=
  ((List.range s.variant.rings).all fun r => s.ringState r == 0) && s.fld STW.STATE 3 0 == 0

/-- THM.TJMAX is valid and below TSTART (R479). -/
def belowStart (s : State) : Bool :=
  s.bit THM.TJMAX 20 && decide (sint16 (s.fld THM.TJMAX 15 0) < 16 * (s.fld THM.TCFG 7 0 : Int))

/-- The causes that lead to SAFE-HOLD have cleared (R479). -/
def holdCleared (s : State) : Bool :=
  let c := s.fld SYS.MODE 15 8
  s.booted && c != 1 && (!s.bit THM.SDSTA 1 || s.belowStart) && (c != 4 || s.rd PWR.SELSTA == 0)
    && (c != 5 || s.fld CLK.REFSTA 1 0 != 0)

/-- The condition of a mode request; none: no such pair (R477). -/
def modeCond (s : State) (t : Nat) : Option Bool :=
  let m := s.sysMode
  if m = 0 then none
  else if t = 7 then some true
  else if (m = 1 || isRunningMode m) ∧ isRunningMode t ∧ t ≠ m then some true
  else if (m = 1 || isRunningMode m) ∧ t = 6 then some s.axesAtRest
  else if (isRunningMode m || m = 6) ∧ t = 1 then some s.axesAtRest
  else if m = 1 ∧ t = 0 then some s.linksDown
  else if m = 7 ∧ t = 1 then some s.holdCleared
  else none

/-- MODEREQ.GO with a TARGET (R477). -/
def modereqGo (t : Nat) (s : State) : State :=
  let s := s.cfgWr pgSYS SYS.MODEREQ (BitVec.ofNat 32 t)
  if s.busyOp SYS.MODESTA then s.refuseWrite pgSYS
  else match s.modeCond t with
  | none => opEnd pgSYS SYS.MODESTA .rejState s
  | some false => (opEnd pgSYS SYS.MODESTA .rejState s).raiseFlt pgSYS 16
  | some true =>
    let s := s.opPhase SYS.MODESTA 2
    let s := { s with pwr := { s.pwr with target := t } }
    if t = 0 ∨ t = 7 then s.flushStart 3 0x10000 else s

/-- The balustrade writes into the always-on domain before DORMANT (R359). -/
def balDormant (s : State) : State :=
  { s with bal := { s.bal with
      dormFail := if s.balState = 2 then some (s.fld BAL0.BSTA 15 8) else none,
      dormViol := ((List.range s.variant.axes).filter fun a => s.bit (BAL0.AFSTA a) 5).map
        fun a => (a, s.fld (BAL0.AFSTA a) 9 6) } }

/-- Every other block goes OFF in DORMANT (R471, R408). -/
def blocksOff (s : State) : State :=
  (List.range 171).foldl (fun s p => if alwaysOn p = true ∨ s.variant.present p = false then s else s.setPower p 0) s

/-- The new code is written into SYS.MODE (R477), once a flush that the change includes, and for DORMANT every commit, has
ended. -/
def modeChangeDone (s : State) : State :=
  let t := s.pwr.target
  if s.busyOp SYS.MODESTA = false then s
  else if (t = 0 ∨ t = 7) ∧ s.busyOp REC.FSTA = true then s
  else if t = 0 ∧ s.commits ≠ [] then s
  else
    let s := if t = 0 then s.balDormant else s
    let s := opEnd pgSYS SYS.MODESTA .done (s.enterMode t 0)
    if t = 0 then s.blocksOff else s

/-! ### Wake (R77, R78, R478) -/

/-- A cause that HOST.WAKEEN enables enters HOST.WAKECAUSE (R77-R79). -/
def wakeNote (i : Nat) (s : State) : State :=
  let s := s.setBit HOST.WAKECAUSE i true
  if s.host.linkL0 then s.raiseEvt pgHOST 0 else { s with host := { s.host with wakeLow := true } }

/-- The causes that wake from DORMANT (R478). -/
def wakes (i : Nat) : Bool := [0, 1, 2, 3, 4, 6].contains i

/-- What a wake from DORMANT does before its boot (R359, R478, R521). -/
def wakeClear (s : State) : State :=
  let s := (s.clearRegs keptWake).clearUnits.clearSram
  { s with newel := { s.newel with waiting := some 7 } }

/-- A wake cause (R77, R478, R497). -/
def wake (i : Nat) (s : State) : State :=
  if s.bit HOST.WAKEEN i = false then s
  else
    let s := s.wakeNote i
    if s.sysMode = 0 then (if wakes i = true ∧ s.newel.waiting = none then s.wakeClear else s)
    else if s.busyOp SYS.MODESTA = true ∧ s.pwr.target = 0 then opEnd pgSYS SYS.MODESTA .rejState s
    else s

/-- A wake cause, and the boot that it starts in DORMANT. -/
def wakeBoot (i : Nat) (env : BootEnv) (s : State) : State :=
  let t := s.wake i
  if s.sysMode = 0 ∧ t.newel.waiting = some 7 then t.newelRelease env else t

/-- The host reads HOST.WAKECAUSE (R77). -/
def wakeRead (s : State) : State :=
  let v := s.rd HOST.WAKECAUSE
  let s := { s with host := { s.host with resp := Tab.put s.host.resp 0 { value := v.setWidth 64 } } }
  let s := s.wr HOST.WAKECAUSE 0
  if s.host.linkL0 then { s with host := { s.host with wakeLow := false } } else s

/-! ### The link (R65, R78, R518) -/

/-- HOST registers that a reset of the endpoint keeps: what R77 and R79 keep until it is read or cleared. -/
def keptLink (a : Nat) : Bool := a = HOST.WAKECAUSE || a = HOST.WAKEEN || a = HOST.ERRADDR || a = HOST.ERRADDR + 4 || a = HDR.SEQ pgHOST

/-- The endpoint and the HOST page are reset (R65); STATE reads INIT until the endpoint is enumerated again. -/
def endpointReset (s : State) : State :=
  let s := s.mapRegs fun a w => if a / 0x1000 = pgHOST ∧ keptLink a = false then resetWord s.variant a else w
  let s := s.setFld (HDR.STA pgHOST) 10 0 (1 + 2 * 256)
  { s with host := { s.host with linkL0 := false, busMaster := false } }

/-- The link's state (R78, R79): in L0 the endpoint is enumerated, and a host that has read every cause releases
PCIE_WAKE_N. -/
def linkState (aspm : BitVec 3) (speed width : BitVec 4) (s : State) : State :=
  if s.host.perst then s
  else
    let l0 := decide (aspm = 0 ∧ width ≠ 0)
    let s := s.wr HOST.LINK (BitVec.ofNat 32 (speed.toNat + width.toNat * 16 + aspm.toNat * 256))
    let s := { s with host := { s.host with linkL0 := l0, busMaster := s.host.busMaster || l0 } }
    if l0 then
      let s := s.setFld (HDR.STA pgHOST) 3 0 (if s.bit (HDR.CTL pgHOST) 0 then 3 else 2)
      if s.rd HOST.WAKECAUSE = 0 then { s with host := { s.host with wakeLow := false } } else s
    else s

/-! ### Block power (R480) -/

/-- The power state that PWRHINT gives a block that is not in service (R480). -/
def restPower (s : State) (p : Nat) : Nat := if s.fld (HDR.CTL p) 5 4 = 3 then 0 else 1

/-- A block without work for its hint's time (R480). -/
def idleEntry (p : Nat) (s : State) : State :=
  let hint := s.fld (HDR.CTL p) 5 4
  if s.fld (HDR.STA p) 10 8 < 3 ∨ hint = 1 then s else s.setPower p 2

/-! ### Supplies (R482-R486, R505-R508) -/

/-- The groups go to BACKUP (R483, R485). -/
def toBackup (s : State) : State := ((s.wr PWR.SELSTA 0xFF).count PWR.SWCNT 15 0).raiseEvt pgPWR 0

/-- The groups return to MAIN (R484); `ms` is the time spent on BACKUP. -/
def toMain (ms : Nat) (s : State) : State :=
  let s := ((s.wr PWR.SELSTA 0).count PWR.SWCNT 31 16).setFld PWR.SWLAST 15 0 (Nat.min ms 0xFFFF)
  { s.setBit PWR.SUPSTA 9 false with pwr := { s.pwr with testing := false } }.raiseEvt pgPWR 1

/-- Registers and units cleared, the balustrade's included (R516, R521). -/
def coldClear (keep : Nat → Bool) (s : State) : State :=
  let s := ((s.gateClose.clearRegs keep).clearUnits).clearSram
  let s := (s.setBit BAL1.GATE 0 false).setFld BAL1.GATE 31 16 0
  { s with bal := {}, host := { perst := s.host.perst, wakeLow := s.host.wakeLow } }

/-- The device stops without a supply (R346, R505, R508). -/
def supplyLost (s : State) : State :=
  let s := (s.tearCommits).coldClear keptCold
  { s with pwr := { dead := true }, time := {}, newel := { s.newel with waiting := none } }

/-- Commits stop under hold-up, but for the recorder's flush (R346, R483). -/
def holdupStop (s : State) : State :=
  match s.commits with
  | [] => s
  | x :: rest =>
    let head := if x.kind = 5 then x else { x with stopping := some 3 }
    let s := { s with commits := head :: rest.filter (fun y => y.kind = 5) }
    rest.foldl (fun s y => match y.core with
      | some k => if y.kind = 5 then s else s.callEnd k .aborted []
      | none => s) s

/-- The power-fail flush (R442, R443): it joins one that runs. -/
def powerFailFlush (s : State) : State :=
  let s := s.flushStart 2 (s.fld REC.RCFG 15 8)
  if s.busyOp REC.FSTA then { s with recd := { s.recd with flushCause := 2 } }
  else
    let s := (s.setBit PWR.SWLAST 24 true).raiseEvt pgPWR 3
    if s.bit PWR.PWRCFG 0 then s.autoMode 7 4 else s

/-- MAIN is lost and the groups go to BACKUP (R483, R497). -/
def mainLost (rail : Nat) (s : State) : State :=
  let dormant := decide (s.sysMode = 0)
  let s := if s.pwr.testing then opEnd pgPWR PWR.SWSTA .rejState { s with pwr := { s.pwr with testing := false } } else s.toBackup
  let s := (s.setFld PWR.SWLAST 19 16 rail).setBit PWR.SWLAST 24 false
  let s := (s.setBit PWR.SUPSTA 9 true).raiseFlt pgPWR 16
  if dormant then s
  else if s.bit PWR.PWRCFG 0 then s.holdupStop.powerFailFlush
  else s.powerFailFlush.limpTrigger 3

/-- A MAIN rail outside its window for 200 ns (R483). -/
def mainExcursion (rail : Nat) (s : State) : State :=
  if s.powered = false then s
  else
    let fresh := decide (s.rd PWR.SELSTA = 0) || s.pwr.testing
    let s := s.setBit PWR.SUPSTA rail false
    if fresh = false then s
    else if s.fld PWR.SUPSTA 7 4 = 15 then s.mainLost rail
    else s.supplyLost

/-- MAIN back in its window for RETMS (R484, R505). -/
def mainReturn (ms : Nat) (s : State) : State :=
  if s.powered = false ∨ s.rd PWR.SELSTA = 0 ∨ s.pwr.testing = true then s
  else (s.setFld PWR.SUPSTA 3 0 15).toMain ms

/-- A BACKUP rail leaves its window (R483, R485, R505). -/
def backupExcursion (rail : Nat) (s : State) : State :=
  if s.powered = false then s
  else
    let s := s.setBit PWR.SUPSTA (4 + rail) false
    if s.pwr.testing then
      let s := (s.wr PWR.SELSTA 0).count PWR.SWCNT 31 16
      let s := { s with pwr := { s.pwr with testing := false } }.raiseEvt pgPWR 1
      (opEnd pgPWR PWR.SWSTA .rejState s).raiseFlt pgPWR 18
    else if s.rd PWR.SELSTA = 0 then s.raiseFlt pgPWR 17
    else s.supplyLost

/-- SWCTL.TEST (R485). -/
def swTest (s : State) : State :=
  if s.busyOp PWR.SWSTA then s.refuseWrite pgPWR
  else if s.fld PWR.SUPSTA 7 4 ≠ 15 ∨ s.rd PWR.SELSTA ≠ 0 then opEnd pgPWR PWR.SWSTA .rejState s
  else { s.opPhase PWR.SWSTA 2 with pwr := { s.pwr with testing := true } }.toBackup

/-- The groups return before a test's end. -/
def swUndo (s : State) : State :=
  { (s.wr PWR.SELSTA 0).count PWR.SWCNT 31 16 with pwr := { s.pwr with testing := false } }.raiseEvt pgPWR 1

/-- TESTMS has passed, and the last group returns (R485). -/
def swTestEnd (ms : Nat) (s : State) : State :=
  if s.pwr.testing then (opEnd pgPWR PWR.SWSTA .done (s.toMain ms)).raiseEvt pgPWR 2 else s

/-- The power cycle of recovery step 4 (R80, R486). -/
def powerCycle (s : State) : State :=
  if s.powered = false then s
  else
    let s := (s.cutCommits 1).coldClear keptCycle
    { s with pwr := { cycling := true }, newel := { s.newel with waiting := none } }

/-- MAIN is restored (R486, R516): one power cycle more, and the boot where a reference is present. -/
def powerCycleRestore (env : BootEnv) (s : State) : State :=
  if s.pwr.cycling = false then s
  else
    let s := (s.count SYS.PCYCLE 31 0).wr PWR.SELSTA 0
    let s := (s.setFld PWR.SUPSTA 3 0 15).setBit PWR.SUPSTA 9 false
    let s := { s with pwr := { waitRef := decide (s.fld CLK.REFSTA 1 0 = 0) }, newel := { s.newel with waiting := some 1 } }
    (s.wakeNote 7).newelRelease env

/-- The reference instant t0 (R505, R516, R517). -/
def powerUp (mainOk bkupOk refA refB : Bool) (s : State) : State :=
  if mainOk = false ∧ bkupOk = false then s
  else if s.pwr.cycling = true ∨ (s.pwr.held = false ∧ s.pwr.dead = false ∧ s.newel.waiting ≠ some 1) then s
  else
    let s := (s.coldClear keptCold).count SYS.PCYCLE 31 0
    let s := s.wr PWR.SUPSTA (BitVec.ofNat 32 (15 * b01 mainOk + 240 * b01 bkupOk + 256 + 512 * b01 (!mainOk)))
    let s := s.wr PWR.SELSTA (if mainOk then 0 else 0xFF)
    let s := s.wr CLK.REFSTA (BitVec.ofNat 32 (b01 refA + 2 * b01 refB + 4 * b01 (!refA && refB) + 32 * b01 (refA || refB) + 64))
    { s with pwr := { waitRef := !(refA || refB) }, time := {}, newel := { s.newel with waiting := some 1 } }

/-- PORST_N falls (R516): the unit in progress completes, no flush, and the device holds in reset. -/
def porstFall (s : State) : State :=
  let s := (s.cutCommits 1).coldClear keptCold
  { s with pwr := { held := true }, time := {}, newel := { s.newel with waiting := none } }

/-! ### References (R487-R490) -/

/-- The reference in force: B? -/
def refB (s : State) : Bool := s.bit CLK.REFSTA 2

/-- A reference is present. -/
def refHere (s : State) (b : Bool) : Bool := s.bit CLK.REFSTA (b01 b)

/-- A reference is marked BAD. -/
def refBad (s : State) (b : Bool) : Bool := s.bit CLK.REFSTA (3 + b01 b)

/-- The time PLL goes to a reference (R487). -/
def refSwitch (b : Bool) (s : State) : State := ((s.setBit CLK.REFSTA 2 b).count CLK.REFCNT 15 0).raiseEvt pgCLK 0

/-- A reference is lost (R487). -/
def refLost (b : Bool) (s : State) : State :=
  if s.refHere b = false then s
  else
    let s := ((s.setBit CLK.REFSTA (b01 b) false).raiseFlt pgCLK (16 + b01 b)).count CLK.REFCNT 31 16
    if s.refB = b ∧ s.refHere (!b) = true then s.refSwitch (!b) else s

/-- Both references are lost (R489). -/
def refsLost (s : State) : State :=
  let s := (s.refLost false).refLost true
  let s := (s.setBit CLK.REFSTA 5 false).raiseFlt pgCLK 19
  if s.booted then s.autoMode 7 5 else s

/-- A reference is present again (R487, R489, R517). -/
def refBack (b : Bool) (s : State) : State :=
  let s := (s.setBit CLK.REFSTA (b01 b) true).raiseEvt pgCLK 1
  if s.refHere s.refB = true ∧ s.refB ≠ b ∧ s.bit CLK.REFSTA 5 = true then s
  else { (s.setBit CLK.REFSTA 2 b).setBit CLK.REFSTA 5 true with pwr := { s.pwr with waitRef := false } }

/-- A reference against the disciplined rate (R488): BAD beyond 100 ppm, good after 1 s within. -/
def refJudge (b : Bool) (dev : Int) (s : State) : State :=
  if s.refHere b = false then s
  else
    let k := b01 b
    if dev.natAbs > 25600 then
      { s.setBit CLK.REFSTA (3 + k) true with pwr := { s.pwr with good := Tab.put s.pwr.good k 0 } }
    else
      let n := Nat.min 1000 (Tab.get 0 s.pwr.good k + 1)
      let s := { s with pwr := { s.pwr with good := Tab.put s.pwr.good k n } }
      if n ≥ 1000 then s.setBit CLK.REFSTA (3 + k) false else s

/-- The comparison of each 1 ms (R488). -/
def refCompare (diff devA devB : Int) (s : State) : State :=
  let s := if s.refHere false && s.refHere true then
      let s := s.wr CLK.REFDIFF (satInt 32 diff)
      if diff.natAbs > 25600 then s.raiseFlt pgCLK 18 else s
    else s
  if s.timeSource = 1 ∨ s.timeSource = 2 then
    let s := (s.refJudge false devA).refJudge true devB
    let b := s.refB
    if s.refBad b = true ∧ s.refHere (!b) = true ∧ s.refBad (!b) = false then
      ((s.raiseFlt pgCLK (16 + b01 b)).count CLK.REFCNT 31 16).refSwitch (!b)
    else s
  else s

/-- The preferred reference has been present and good for 1 s (R487). -/
def refRevert (s : State) : State :=
  let p := s.bit CLK.REFCFG 0
  if s.bit CLK.REFCFG 1 = true ∧ s.refB ≠ p ∧ s.refHere p = true ∧ s.refBad p = false then s.refSwitch p else s

/-! ### Heat (R491-R497) -/

/-- The die sensor that a channel of the round reads (R491). -/
def sensorOf (ch : Nat) : Option Nat :=
  if ch < 14 then some ch else if 32 ≤ ch ∧ ch < 46 then some (ch - 32) else none

/-- TJMAX (R491): the hottest valid reading and its sensor; the lower sensor of two. -/
def setTjmax (s : State) : State :=
  let best := (List.range 14).foldl (fun (m : Option (Int × Nat)) i =>
    if s.bit (THM.TJ i) 16 then
      let v := sint16 (s.fld (THM.TJ i) 15 0)
      match m with
      | some (u, _) => if v > u then some (v, i) else m
      | none => some (v, i)
    else m) none
  (s.wr THM.TJMAX (match best with
    | some (v, i) => BitVec.ofNat 32 ((BitVec.ofInt 16 v).toNat + i * 65536 + 0x100000)
    | none => 0)).noteNow 0x3E0 THM.TJMAX

/-- The threshold of step `k` in 1/16 °C (R492). -/
def stepThr (s : State) (k : Nat) : Int := 16 * ((s.fld THM.TCFG 7 0 + (k - 1) * s.fld THM.TCFG 11 8 : Nat) : Int)

/-- The step that the hottest reading leaves in force (R492). -/
def stepNow (s : State) (old : Nat) (t : Int) : Nat :=
  let up := ((List.range 5).filter fun k => k = 0 || decide (t ≥ s.stepThr k)).foldl Nat.max 0
  let keep := ((List.range (old + 1)).filter fun k => k = 0 || decide (t ≥ s.stepThr k - 16 * (s.fld THM.TCFG 15 12 : Int))).foldl Nat.max 0
  Nat.max up keep

/-- HALLCAP and every hall clock (R493). -/
def hallCaps (s : State) : State :=
  let cap := (List.range s.variant.halls).foldl (fun m k => Nat.max m (s.hallCeiling k)) 0
  let s := s.setFld THM.TSTEP 15 8 (if s.fld THM.TSTEP 2 0 ≥ 3 then cap / 100 else 0)
  (List.range s.variant.halls).foldl (fun s k => if s.fld (HDR.STA (pgHALL k)) 3 0 = 3 then s.hallClock k else s) s

/-- The throttling step follows TJMAX (R492). -/
def throttle (s : State) : State :=
  if s.bit THM.TJMAX 20 = false then s
  else
    let old := s.fld THM.TSTEP 2 0
    let new := s.stepNow old (sint16 (s.fld THM.TJMAX 15 0))
    if new = old then (if old ≥ 3 then s.hallCaps else s)
    else
      let s := s.setFld THM.TSTEP 2 0 new
      let s := (List.range 4).foldl (fun s i =>
        if old ≤ i ∧ i < new then s.count THM.STEPCNT (8 * i + 7) (8 * i) else s) s
      let s := if old = 0 then s.raiseFlt pgTHM 16 else s
      (s.raiseEvt pgTHM 0).hallCaps

/-- One channel of the housekeeping round (R491). -/
def housekeeping (ch : Nat) (raw : Int) (s : State) : State :=
  let w := fun (ok : Bool) => BitVec.ofNat 32 ((BitVec.ofInt 16 raw).toNat + 65536 * b01 ok)
  match sensorOf ch with
  | some i =>
    let ok := decide (-880 ≤ raw ∧ raw ≤ 2800)
    let s := (s.wr (THM.HK ch) (w ok)).wr (THM.TJ i) (w ok)
    let s := if ok then s else s.raiseFlt pgTHM 18
    s.setTjmax.throttle
  | none => s.wr (THM.HK ch) (if ch ≥ 46 then 0 else if 24 ≤ ch ∧ ch < 32 ∧ raw = -32768 then w false else w true)

/-- The hottest valid TMOD among the axis's bridges, with its bridge (R496). -/
def hottest (s : State) (a : Nat) : Option (Int × Nat) :=
  (s.axisBridges a).foldl (fun (m : Option (Int × Nat)) b =>
    match Tab.find s.pwr.tmod b with
    | some (v, ms) =>
      if ms ≥ 1000 then m
      else match m with
        | some (u, _) => if v > u then some (v, b) else m
        | none => some (v, b)
    | none => m) none

/-- The derating factor in 2^-16 (R496). -/
def derateFactor (t lo hi : Int) : Nat :=
  if t ≤ lo then 0x10000 else if t ≥ hi then 0 else ((hi - t) * 65536 / (hi - lo)).toNat

/-- An axis's derating (R496). -/
def derateAxis (s : State) (a : Nat) : State :=
  let lo := sint16 (s.fld (THM.DRT a) 15 0)
  let hi := sint16 (s.fld (THM.DRT a) 31 16)
  let old := s.fld (THM.DRTACT a) 16 0
  let x : Nat × Nat :=
    if hi ≤ lo then (0x10000, 0)
    else match s.hottest a with
      | some (t, b) => (derateFactor t lo hi, b)
      | none => (s.fld THM.DINV 16 0, 0)
  let s := s.wr (THM.DRTACT a) (BitVec.ofNat 32 (x.1 + x.2 * 2 ^ 24))
  let s := if x.1 < 0x10000 ∧ old ≥ 0x10000 then (s.raiseFlt pgTHM 19).raiseEvt pgTHM 2 else s
  s.setLimits a

/-- The derating of each 1 ms (R496). -/
def derating (s : State) : State :=
  let s := { s with pwr := { s.pwr with tmod := s.pwr.tmod.map fun e => (e.1, (e.2.1, Nat.min 1000 (e.2.2 + 1))) } }
  (List.range s.variant.axes).foldl derateAxis s

/-! ### Lane locks (R173, R181, R288) -/

/-- A port's lane gains block lock: single-lane operation ends (R181). -/
def lockGained (r port : Nat) (s : State) : State :=
  let s := s.setBit (RZL.LANESTA r) port true
  if s.ringState r = 3 ∧ s.fld (RZL.LANESTA r) 1 0 = 3 ∧ s.fld (RZL.LANESTA r) 5 4 = 3 then s.setRingState r 2 else s

/-- A stairwell lane gains or loses block lock (R288). -/
def stwLane (lane : Nat) (lock : Bool) (s : State) : State :=
  let was := s.bit STW.LANESTA lane
  let s := s.setBit STW.LANESTA lane lock
  let s := s.setBit STW.LANESTA 8 (s.fld STW.LANESTA 1 0 != 0)
  let s := s.setBit STW.LANESTA 9 (s.fld STW.LANESTA 3 2 != 0)
  if was = true ∧ lock = false then s.raiseFlt pgSTW 18 else s

/-- The remaining correction has been slewed in (R413). -/
def slewEnd (s : State) : State :=
  if s.time.ofs = 0 then s.setBit TIME.TSTA 4 false
  else ({ s with time := { s.time with ofs := 0, frac := 0 } }.timeRate).putTime ((s.t16 : Int) + s.time.ofs).toNat

end State

/-- WAKE_CAUSE (R77, R478). -/
def execWakeCause (cause : Nat) (env : BootEnv) (s : State) : Host.Outcome State Fault Refusal :=
  onUnit (decide (cause < 8)) (s.wakeBoot cause env)

/-- WAKECAUSE_READ (R77). -/
def execWakecauseRead (s : State) : Host.Outcome State Fault Refusal := .next s.wakeRead

/-- POWER_CYCLE (R80, R486). -/
def execPowerCycle (s : State) : Host.Outcome State Fault Refusal := .next s.powerCycle

/-- CAN_WAKE (R408). -/
def execCanWake (c : Nat) (s : State) : Host.Outcome State Fault Refusal :=
  s.onCan c (fun s => if s.sysMode = 0 ∧ s.bit (CAN.CFG c) 3 = true then s.wake 0 else s)

/-- MODEREQ_GO (R477). -/
def execModereqGo (target : BitVec 4) (s : State) : Host.Outcome State Fault Refusal := .next (s.modereqGo target.toNat)

/-- MODEREQ_ABORT (R477): every block is in the old mode's state still. -/
def execModereqAbort (s : State) : Host.Outcome State Fault Refusal :=
  .next (State.opAbort pgSYS SYS.MODESTA id s)

/-- MODE_CHANGE_DONE (R477). -/
def execModeChangeDone (s : State) : Host.Outcome State Fault Refusal := .next s.modeChangeDone

/-- LIMP_STEP4_TIMER (R479). -/
def execLimpStep4Timer (s : State) : Host.Outcome State Fault Refusal :=
  .next (if s.fld THM.TSTEP 2 0 = 4 then s.limpTrigger 4 else s)

/-- WAKETMR_EXPIRY (R478). -/
def execWaketmrExpiry (s : State) : Host.Outcome State Fault Refusal :=
  .next (if s.sysMode = 0 ∧ s.rd PWR.WAKETMR ≠ 0 then s.wake 4 else s)

/-- IGN_WAKE (R478). -/
def execIgnWake (s : State) : Host.Outcome State Fault Refusal := .next (s.wake 2)

/-- IDLE_ENTRY (R480). -/
def execIdleEntry (page : Nat) (s : State) : Host.Outcome State Fault Refusal :=
  onUnit (s.variant.present page) (s.idleEntry page)

/-- MAIN_EXCURSION (R483). -/
def execMainExcursion (rail : Nat) (s : State) : Host.Outcome State Fault Refusal :=
  onUnit (decide (rail < 4)) (s.mainExcursion rail)

/-- MAIN_RETURN (R484). -/
def execMainReturn (ms : Nat) (s : State) : Host.Outcome State Fault Refusal := .next (s.mainReturn ms)

/-- BACKUP_EXCURSION (R483). -/
def execBackupExcursion (rail : Nat) (s : State) : Host.Outcome State Fault Refusal :=
  onUnit (decide (rail < 4)) (s.backupExcursion rail)

/-- SWCTL_TEST (R485). -/
def execSwctlTest (s : State) : Host.Outcome State Fault Refusal := .next s.swTest

/-- SWCTL_ABORT (R485). -/
def execSwctlAbort (s : State) : Host.Outcome State Fault Refusal :=
  .next (State.opAbort pgPWR PWR.SWSTA State.swUndo s)

/-- SWITCH_TEST_HOLD_END (R485). -/
def execSwitchTestHoldEnd (ms : Nat) (s : State) : Host.Outcome State Fault Refusal := .next (s.swTestEnd ms)

/-- POWER_CYCLE_RESTORE (R486). -/
def execPowerCycleRestore (env : BootEnv) (s : State) : Host.Outcome State Fault Refusal := .next (s.powerCycleRestore env)

/-- REFERENCE_LOSS (R487). -/
def execReferenceLoss (isB : Bool) (s : State) : Host.Outcome State Fault Refusal := .next (s.refLost isB)

/-- BOTH_REFERENCES_LOST (R489). -/
def execBothReferencesLost (s : State) : Host.Outcome State Fault Refusal := .next s.refsLost

/-- REFERENCE_COMPARE (R488). -/
def execReferenceCompare (diff devA devB : Int) (s : State) : Host.Outcome State Fault Refusal :=
  .next (s.refCompare diff devA devB)

/-- REFERENCE_REVERT (R487). -/
def execReferenceRevert (s : State) : Host.Outcome State Fault Refusal := .next s.refRevert

/-- HOUSEKEEPING_READ (R491). -/
def execHousekeepingRead (ch : Nat) (raw : Int) (s : State) : Host.Outcome State Fault Refusal :=
  onUnit (decide (ch < 64)) (s.housekeeping ch raw)

/-- DERATING_UPDATE (R496). -/
def execDeratingUpdate (s : State) : Host.Outcome State Fault Refusal := .next s.derating

/-- DDR_VDDQ_LOSS (R503). -/
def execDdrVddqLoss (s : State) : Host.Outcome State Fault Refusal := .next (s.loseDram.raiseFlt pgDRAM 16)

/-- PORST_N_FALL (R516). -/
def execPorstNFall (s : State) : Host.Outcome State Fault Refusal := .next s.porstFall

/-- POWER_UP (R505, R516, R517). -/
def execPowerUp (mainOk bkupOk refA refB : Bool) (s : State) : Host.Outcome State Fault Refusal :=
  .next (s.powerUp mainOk bkupOk refA refB)

/-- PCIE_PERST_RISE (R518). -/
def execPciePerstRise (s : State) : Host.Outcome State Fault Refusal :=
  .next ({ s with host := { s.host with perst := false } }.setFld (HDR.STA pgHOST) 3 0 1)

/-- PCIE_PERST_FALL (R518). -/
def execPciePerstFall (s : State) : Host.Outcome State Fault Refusal :=
  let s := s.endpointReset
  .next { s with host := { s.host with perst := true } }

/-- PCIE_LINK_STATE_CHANGE (R78). -/
def execPcieLinkStateChange (aspm : BitVec 3) (speed width : BitVec 4) (s : State) : Host.Outcome State Fault Refusal :=
  .next (s.linkState aspm speed width)

/-- RZL_BLOCK_LOCK_GAINED (R173, R181). -/
def execRzlBlockLockGained (r port : Nat) (s : State) : Host.Outcome State Fault Refusal :=
  onUnit (decide (r < s.variant.rings ∧ port < 2)) (s.lockGained r port)

/-- STW_LANE_LOCK_CHANGE (R288). -/
def execStwLaneLockChange (lane : Nat) (lock : Bool) (s : State) : Host.Outcome State Fault Refusal :=
  onUnit (decide (lane < 4)) (s.stwLane lane lock)

/-- BOTH_SUPPLY_SETS_LOST (R346, R505). -/
def execBothSupplySetsLost (s : State) : Host.Outcome State Fault Refusal := .next s.supplyLost

/-- REFERENCE_RETURN (R487, R517). -/
def execReferenceReturn (isB : Bool) (s : State) : Host.Outcome State Fault Refusal := .next (s.refBack isB)

/-- SLEW_END (R413). -/
def execSlewEnd (s : State) : Host.Outcome State Fault Refusal := .next s.slewEnd

end Sys2Proof.Machine
end

