-- ==== Sys2Proof/Machine/Access.lean ====
section
/-!
DEFINITION. Register accesses up to the page and their reads: BAR0's layout (R42), holes (R43), absent pages (R44), the
firewall (R302, R303), snapshots (R49, R415), and what each register reads as where its word is not held as such.
-/
namespace Sys2Proof.Machine

/-! ### BAR0 (R42) -/

/-- BAR0's pages in runs: first offset in pages, how many, first page index (R42). -/
def bar0Runs : List (Nat × Nat × Nat) :=
  [(0x00, 6, 0), (0x08, 8, 6), (0x10, 18, 14), (0x30, 24, 32), (0x50, 48, 56), (0x90, 8, 104), (0xA0, 24, 112),
   (0xB8, 4, 136), (0xBC, 1, 140), (0xC0, 6, 141), (0xC8, 2, 147), (0xD0, 8, 149), (0xD8, 2, 157), (0xDA, 1, 159),
   (0xE0, 1, 160), (0xE1, 4, 161), (0xE8, 1, 165), (0xE9, 2, 166), (0xF0, 2, 168), (0xF8, 1, 170)]

/-- The page index that a BAR0 offset falls in; none in a hole (R42, R43). -/
def bar0Page (addr : Nat) : Option Nat :=
  let n := addr / 0x1000
  (bar0Runs.find? fun r => decide (r.1 ≤ n ∧ n < r.1 + r.2.1)).map fun r => r.2.2 + (n - r.1)

/-- Requesters of register accesses: the host, hall cores and DMA channels (R302). -/
def Variant.requester (v : Variant) (req : Nat) : Bool :=
  decide (req = 0 ∨ (1 ≤ req ∧ req ≤ v.halls) ∨ (9 ≤ req ∧ req ≤ 24))

/-- Status registers of a page's operations, by offset (R62). -/
def PageKind.ops : PageKind → List Nat
  | .sys => [0x54]
  | .pwr => [0x50]
  | .newel => [0x74]
  | .hall => [0x84]
  | .gal => [0x64, 0x214]
  | .axis => [0x4C]
  | .brg => [0x48]
  | .rzl => [0x44, 0xC4]
  | .route => [0x64]
  | .mig => [0x44, 0xC4]
  | .stw => [0x48]
  | .mem => [0x44, 0x88]
  | .nvm => [0x44]
  | .can => [0x144]
  | .time => [0x74]
  | .acq => [0x44]
  | .recorder => [0x64, 0x74]
  | .store => [0x44]
  | .fio => [0x44]
  | .dma => (List.range 16).map fun n => 0x10C + 0x40 * n
  | _ => []

namespace State

/-- STA.BUSY of a page (R62): an operation of the block has PHASE 1 or 2; a mailbox call is one of the newel's. -/
def pageBusy (s : State) (p : Nat) : Bool :=
  match pageOf p with
  | some (k, _) => k.ops.any (fun o => s.busyOp (regAt p o)) || (p == pgNEWEL && s.rd NEWEL.MBXSTA != 0)
  | none => false

/-- A bit of SYS.HOSTFLT becomes set (R498). -/
def hostFlt (b : Nat) (s : State) : State := s.setBit SYS.HOSTFLT b true

/-- HOST.ERRADDR captures an access if it holds none yet (R43, R79): `window` 0 BAR0, 1 BAR2. -/
def captureErr (req window off : Nat) (s : State) : State :=
  if s.bit (HOST.ERRADDR + 4) 31 then s
  else s.wr64 HOST.ERRADDR (BitVec.ofNat 64 (off % 2 ^ 26 + window * 2 ^ 26 + req * 2 ^ 32 + 2 ^ 63))

/-- The outcome of an access that the firewall has not opened, or that falls in no page (R43, R66). -/
def notOpened (req window off : Nat) (s : State) : State := (s.hostFlt 0).captureErr req window off

/-- The requester's snapshots are discarded (R49, R415). -/
def dropSnaps (req : Nat) (s : State) : State :=
  let h := s.host
  { s with host := { h with snaps := Tab.erase h.snaps req, timeSnaps := Tab.erase h.timeSnaps req } }

/-- The page answers: before the boot reaches STANDBY only SYS and HOST do (R80), and in recovery the newel's (R306). -/
def answers (s : State) (p : Nat) : Bool :=
  s.booted || p == pgSYS || p == pgHOST || (p == pgNEWEL && s.bit NEWEL.BOOTSTA 17)
    || ((p == pgNEWEL || p == pgDRAM) && s.fld NEWEL.BOOTSTA 11 8 == 8)

/-- The page that an access reaches, or what it leaves where it reaches none (R43, R44, R302, R303).  Every requester may
read the NEWEL page. -/
def reach (req addr : Nat) (r : Right) (s : State) : Option Nat × State :=
  match bar0Page addr with
  | none => (none, (s.notOpened req 0 addr).dropSnaps req)
  | some p =>
    if s.variant.present p = false then (none, ((s.hostFlt 2).captureErr req 0 addr).dropSnaps req)
    else if s.answers p = false then (none, s.dropSnaps req)
    else if s.booted = true ∧ (p ≠ pgNEWEL ∨ r ≠ .read) ∧ s.fwAdmits req 2 (addr / 4 * 4) 4 r = false then
      let s := fwRefuse req 2 addr s
      (none, (if req = 0 then s.notOpened req 0 addr else s).dropSnaps req)
    else (some p, s)

/-! ### What registers read as (R45) -/

/-- The bits of a register word with an access type. -/
def rowMask (t : Acc) (r : RegRow) (j : Nat) : Word :=
  BitVec.ofNat 32 ((r.bits.foldl (fun m b => if b.1 = t then m ||| b.2 else m) 0) >>> (32 * j))

/-- SECTINFO of the selected sector (R342, R350, R356). -/
def sectInfo (s : State) : Word :=
  let l := s.fld NVM.SECTSEL 11 0
  let f := s.physOf l
  let st :=
    if l ≥ 0xF80 then (if s.nvm.retired.contains l then 2 else if l - 0xF80 < s.nvm.spares then 0 else 1)
    else if l ≥ 0x3B4 ∧ s.nvm.dropped.contains (l - 0x3B4) = true then 2 else 0
  let mean := Tab.get 0 s.nvm.lastRetry f
  BitVec.ofNat 32 (Nat.min (Tab.get 0 s.nvm.writes f) 0xFFFFFF + st * 2 ^ 24 + Nat.min mean 15 * 2 ^ 28)

/-- The word a register address reads as, by what the state holds: STA.BUSY, edits of RWS fields, PBA, mirrored and
selected registers are derived; WO bits read zero (R45, R62, R376). -/
def view (s : State) (a : Nat) : Word :=
  let p := a / 0x1000
  let off := a % 0x1000
  if a = HDR.STA p then wsetBit (s.rd a) 4 (s.pageBusy p)
  else if off < 0x40 then s.rd a
  else match pageOf p with
  | none => 0
  | some (k, i) =>
    if k = .store ∧ i = 1 ∧ (off = 0x50 ∨ off = 0x6C) then s.rd (a - 0x1000)
    else if a = NVM.SECTINFO then s.sectInfo
    else match findRow k.rows off with
    | none => 0
    | some (r, j) =>
      let w := if isRws a then (Tab.find s.bal.edits a).getD (s.rd a) else s.rd a
      let w := if s.offView p then s.restartWord a w else w
      w &&& ~~~ rowMask .wo r j

/-- Registers that report what no command of the table brings: a moment's load, power, clocks and start times, bursts held,
block errors, the memory's refresh state, a root port's link (log entry 40): the value an open word gives, within the bits
and the bound that the spec states. -/
def openReg (a : Nat) (x : Word) : Option Word :=
  let off := a % 0x1000
  if a = PWR.PEST then some (x &&& 0xFFFF)
  else if a = CLK.FSTART then some x
  else if a = CLK.DOMSTA then some (x &&& 0x1FF)
  else if a = STW.CRCCNT then some x
  else if a = DRAM.REFSTA then some (x &&& 0x177)
  else match pageOf (a / 0x1000) with
    | some (.gal, _) => if off = 0x68 then some (BitVec.ofNat 32 (wfld x 9 0 % 1001)) else none
    | some (.hall, _) => if off = 0x68 then some (BitVec.ofNat 32 (wfld x 9 0 % 1001)) else none
    | some (.sys, _) => if 0x80 ≤ off ∧ off < 0x9C then some x else none
    | some (.rzl, _) => if off = 0x6C then some x else none
    | some (.store, _) => if off = 0x48 then some (x &&& 0xFF) else none
    | _ => none

/-- A register word read: its value, and the state with an open value drawn. -/
def readWordAt (a : Nat) (s : State) : Word × State :=
  match openReg a (loWord s.draw.1) with
  | none => (s.view a, s)
  | some w => (w ||| s.view a, s.draw.2)

/-- The RC bits of a read word clear (R45, R47); HOST.WAKECAUSE as R77 says, when the host reads it. -/
def afterRead (req a : Nat) (s : State) : State :=
  let p := a / 0x1000
  if a = HDR.LDISC p then s.wr a 0
  else match pageOf p with
  | none => s
  | some (k, _) => match findRow k.rows (a % 0x1000) with
    | none => s
    | some (r, j) =>
      let m := rowMask .rc r j
      if m = 0 then s
      else
        let s := s.wr a (s.rd a &&& ~~~ m)
        if a = HOST.WAKECAUSE ∧ req = 0 ∧ s.host.linkL0 = true then
          { s with host := { s.host with wakeLow := false } }
        else s

/-- The 64-bit register that a word belongs to: its low word's address (R49). -/
def wideAt (a : Nat) : Option Nat :=
  match pageOf (a / 0x1000) with
  | none => none
  | some (k, _) => match findRow k.rows (a % 0x1000) with
    | some (r, j) => if r.wide then some (a - 4 * j) else none
    | none => none

/-- The TIME register whose word this is (R415). -/
def timeAt (a : Nat) : Option Nat := [0, 4, 8, 12].findSome? fun d => if d ≤ a ∧ isTimeReg (a - d) = true then some (a - d) else none

/-- A 32-bit read of a page's word (R45, R49, R415): the value, and the state after it. -/
def pageRead32 (req a : Nat) (s : State) : Word × State :=
  match timeAt a with
  | some t =>
    if a = t then
      let s := s.timeLatch req t
      (s.rd a, s)
    else
      let snap := Tab.get {} s.host.timeSnaps req
      if snap.reg = t ∧ snap.words ≠ [] then (snap.words.getD ((a - t) / 4) 0, s)
      else (s.rd a, s.dropSnaps req)
  | none =>
    let (v, s) := s.readWordAt a
    match wideAt a with
    | some lo =>
      let h := s.host
      if a = lo then
        let s := { s with host := { h with timeSnaps := Tab.erase h.timeSnaps req,
                                           snaps := Tab.put h.snaps req { reg := lo, high := some (s.view (lo + 4)) } } }
        (v, s.afterRead req a)
      else
        let x := Tab.get {} h.snaps req
        match (if x.reg = lo then x.high else none) with
        | some w => (w, s.dropSnaps req)
        | none => (v, (s.dropSnaps req).afterRead req a)
    | none => (v, (s.dropSnaps req).afterRead req a)

/-- A 64-bit read at an 8-byte-aligned offset (R46, R49). -/
def pageRead64 (req a : Nat) (s : State) : Word64 × State :=
  if wideAt a = some a then
    (wide (s.view a) (s.view (a + 4)), (s.dropSnaps req).afterRead req a)
  else
    let (lo, s) := s.pageRead32 req a
    let (hi, s) := s.pageRead32 req (a + 4)
    (wide lo hi, s)

/-- A 32-bit read at a BAR0 offset. -/
def bar0Read (req addr : Nat) (s : State) : Word × State :=
  match s.reach req addr .read with
  | (none, s) => (0, s)
  | (some p, s) => s.pageRead32 req (regAt p (addr % 0x1000))

/-- A read whose answer the requester gets. -/
def readAnswer (req addr : Nat) (s : State) : State :=
  let (v, s) := s.bar0Read req addr
  s.answer req (v.setWidth 64)

end State

end Sys2Proof.Machine
end

