-- ==== Sys2Proof/Machine/Freset.lean ====
section
/-!
DEFINITION. Function re-initialise (R54): what it keeps and clears on each page (R29 and each chapter), the landings it
empties, and where it is refused.
-/
namespace Sys2Proof.Machine

namespace State

/-! ### Landings at a FRESET (R29) -/

/-- LDISC counts discarded units (R29, R51). -/
def discard (p n : Nat) (s : State) : State := s.count (HDR.LDISC p) 31 0 n

/-- Sample units of a producer leave a gallery's sample landing, counted on page `p`. -/
def dropSamples (p g : Nat) (mine : Nat → Bool) (s : State) : State :=
  let x := s.galOf g
  let gone := x.samples.filter fun u => mine u.1
  let s := s.putGal g { x with samples := x.samples.filter fun u => !mine u.1 }
  gone.foldl (fun s u => s.creditReset (.sample g) u.1) (s.discard p gone.length)

/-- Setpoint units of a producer leave a gallery's setpoint landing, counted on page `p`. -/
def dropSetpoints (p g : Nat) (mine : Nat → Bool) (s : State) : State :=
  let x := s.galOf g
  let gone := x.setpoints.filter fun u => mine u.1
  let s := s.putGal g { x with setpoints := x.setpoints.filter fun u => !mine u.1 }
  gone.foldl (fun s u => s.creditReset (.setpoint g) u.1) (s.discard p gone.length)

/-- A hall core's stores that stall end with the core. -/
def dropStalled (core : Nat) (s : State) : State :=
  (List.range 18).foldl (fun s g =>
    let x := s.galOf g
    s.putGal g { x with stalled := x.stalled.filter fun e => e.1 != core }) s

/-- Plans leave a ring's edge landing, counted on page `p`. -/
def dropPlans (p r : Nat) (mine : Plan → Bool) (s : State) : State :=
  let x := s.ringOf r
  let gone := x.edge.filter mine
  let s := s.putRing r { x with edge := x.edge.filter fun q => !mine q }
  gone.foldl (fun s q => s.creditReset (.edge r) (s.brgPos q.bridge)) (s.discard p (gone.foldl (fun n q => n + q.units) 0))

/-- Credits of a producer that the consumer has not freed: units in the landing (R26). -/
def heldUnits (s : State) (l : Landing) (p : Nat) : Nat := (s.credit l p).spent - (s.credit l p).back

/-- A landing whose contents are only its held units is discarded, counted on page `p`. -/
def dropHeld (p : Nat) (l : Landing) (who : Nat) (s : State) : State :=
  (s.discard p (s.heldUnits l who)).creditReset l who

/-- Galleries that a feedback port or a sigma-delta page delivers to. -/
def fedGalleries (s : State) (k : PageKind) (i : Nat) : List Nat :=
  match k with
  | .fb => match s.axisLead (s.fld (FB.FBCFG i) 20 16) with
    | some b => [s.brgGal b]
    | none => []
  | .sdm => ((List.range 8).map fun j => s.brgGal (s.fld (SDM.CH_CFG i j) 17 12)).eraseDups
  | _ => []

/-- The landings at which the block of a page is a producer or the consumer (R28, R29). -/
def dropLandings (p : Nat) (k : PageKind) (i : Nat) (s : State) : State :=
  match k with
  | .gal =>
    let s := (s.dropSamples p i fun _ => true).dropSetpoints p i fun _ => true
    let s := (List.range 8).foldl (fun s r => s.dropPlans p r fun q => decide (q.gal = i)) s
    s.dropHeld p (.trace i) 0
  | .rzl =>
    let n := (s.ringOf i).force.length
    let s := s.dropPlans p i fun _ => true
    let s := (s.putRing i { s.ringOf i with force := [] }).discard p n
    (List.range 18).foldl (fun s g => s.dropSamples p g fun u => decide (u < 48) && s.brgRing u == i) s
  | .fb | .sdm => (s.fedGalleries k i).foldl (fun s g => s.dropSamples p g fun u => decide (u = 48)) s
  | .hall => (List.range 18).foldl (fun s g => s.dropSetpoints p g fun u => decide (u = i)) (s.dropStalled i)
  | .stw =>
    let n := s.stw.wait.length
    let s := { s with stw := { s.stw with wait := [] } }
    (s.discard p n).dropHeld p .stairwell 0
  | .acq => s.dropHeld p .acquisition 0
  | .recorder =>
    let n := s.recd.slots.length
    let s := { s with recd := { s.recd with slots := [] } }
    (List.range 3).foldl (fun s w => s.dropHeld p .recorder w) (s.discard p n)
  | .store => s.dropHeld p (.store i) 0
  | _ => s

/-! ### What each page's FRESET keeps and clears (R54) -/

/-- Registers apart from its configuration that a page keeps through FRESET: what its chapter names, and what is not the
block's runtime state but a line's, a companion's or a memory's (log entry 41). -/
def fresetKeeps (k : PageKind) (a : Nat) : Bool :=
  let off := a % 0x1000
  match k with
  | .gal => off == 0x54 || (0x80 ≤ off && off < 0x140 && off % 0x20 == 0x18)
  | .brg => off == 0x40 || off == 0x50 || off == 0x54 || off == 0x58 || off == 0x5C || (0x280 ≤ off && off < 0x310)
  | .rzl => off == 0x48 || off == 0x4C || off == 0x60 || (0x100 ≤ off && off % 0x20 < 0x14)
  | .axis => off == 0x60 || off == 0x64 || off == 0x8C
  | .route => off == 0x68 || off == 0x70 || off == 0xA8 || off == 0xAC
  | .mig => off == 0x60 || off == 0x7C || 0x100 ≤ off
  | .stw => off == 0x50 || off == 0x54 || off == 0x60
  | .hall => off == 0x44 || off == 0x48 || (0x98 ≤ off && off < 0xA8)
  | .mem => off == 0x80 || (0x100 ≤ off && off < 0x160)
  | .nvm => off != 0x64 && off != 0x14 && off != 0x1C
  | .eth => off == 0x44
  | .recorder => off == 0x50 || off == 0x58 || off == 0x68
  | .host => off == 0x40 || off == 0x44
  | _ => false

/-- The block's state apart from its registers after FRESET. -/
def fresetUnits (k : PageKind) (i : Nat) (s : State) : State :=
  match k with
  | .gal =>
    let x := s.galOf i
    s.putGal i { sched := x.sched, stalled := x.stalled, slots := x.slots.map fun e =>
      (e.1, { tread := e.2.tread, epoch := e.2.epoch, shadow := e.2.shadow }) }
  | .brg =>
    let x := s.brgOf i
    s.putBrg i { x with xferReady := false, xferTake := false, nextState := none, nextN := none, crossed := false,
                        leaveSync := false, demand := 0, ramp := 0, kind := 0, unit := [] }
  | .rzl => s.putRing i { (s.ringOf i) with resume := 0, claimed := 0, round := 0, calReq := false, frames := 0 }
  | .fb => s.putPort i {}
  | .sdm => { s with sdm := (List.range 8).foldl (fun t j => Tab.erase t (8 * i + j)) s.sdm }
  | .latch => { s with emu := [] }
  | .axis => (s.clearPath i).putAxis i { model := (s.axisOf i).model }
  | .route => s.putRoute { map := s.route.map }
  | .mig => { s with mig := { held := s.mig.held, dead := s.mig.dead } }
  | .stw => { s with stw := {} }
  | .mem => { s with memOps := {} }
  | .nvm => { s with nvm := { s.nvm with units := 0, time := 0 } }
  | .acq => { s with grp := [], nodes := [], acqBytes := 0, maskStop := false }
  | .trg => s.putTrg i {}
  | .recorder => { s with recd := { seq := s.recd.seq, unsent := s.recd.unsent, unflushed := s.recd.unflushed,
                                    flushCause := s.recd.flushCause } }
  | .store => { s with vol := {} }
  | .fio => s.putFio i { comps := (s.fioOf i).comps }
  | .eth => s.putEth i {}
  | .dma => { s with host := { s.host with dma := s.host.dma.map fun e => (e.1, { owner := e.2.owner }) } }
  | _ => s

/-- What a page's FRESET does besides: the states its chapter names. -/
def fresetAfter (k : PageKind) (i : Nat) (old s : State) : State :=
  match k with
  | .brg => s.wr (BRG.FORCE i) 0
  | .gal => (List.range 16).foldl (fun s n => s.setpointResume i (n / 2)) s
  | .axis => (s.setMstate i (if s.axisOn i then 1 else 0)).cmdToAct i
  | .fb =>
    if s.fbOn i then
      let s := s.putPort i { zFirst := s.bit (FB.FBCFG i) 6 }
      ((s.setBit (FB.FBSTA i) 0 (decide (s.fbMode i = 1))).speedValid i).axisFollow i
    else s
  | .route => (s.setRouteState (if old.routeState = 0 then 0 else 1)).fallbackOut
  | .hall => s.hallStart i (old.fld (HALL.IMGSLOT i) 0 0)
  | .eth =>
    let lost := [0, 1].any fun d => decide (s.domPort d = i ∧ s.timeSource = d + 1)
    let s := ((s.wr (ETH.RXRD i) 0).wr (ETH.TXWR i) 0).portLost i
    if lost then s.raiseFlt (pgETH i) 16 else s
  | .recorder => if old.busyOp REC.FSTA then (s.wr REC.FSTA (old.rd REC.FSTA)).setBit REC.RSTA 1 true else s
  | .can =>
    if s.bit (HDR.CTL (pgCAN i)) 0 then
      (s.setFld (CAN.TTSTA i) 9 8 (if s.ttMode i = 1 then 1 else if s.ttMode i = 2 then 3 else 0)).canStart i
    else s
  | _ => s

/-- A CAN controller's FRESET (R409, R411): pending requests end ABORTED; buffers' configuration and data stay. -/
def fresetCan (c : Nat) (s : State) : State :=
  let s := s.canAbortAll c
  s.putCan c {}

/-- The page serves a bridge that is not in its safe state, or runs an operation that its chapter protects (R54, R136,
R156, R215, R254, R297, R353, R357, R451, R455, R470). -/
def fresetRefused (s : State) (k : PageKind) (i : Nat) : Bool :=
  let notSafe := fun b => !s.brgSafe b
  let bs := List.range s.variant.bridges
  match k with
  | .sys | .pwr | .clk | .thm | .time | .newel | .dram | .bal0 | .bal1 => true
  | .gal => bs.any fun b => (match s.bridgeSlot b with | some (g, _) => decide (g = i) | none => false) && notSafe b
  | .rzl => bs.any fun b => (s.bridgeSlot b).isSome && s.brgRing b == i && notSafe b
  | .brg => notSafe i
  | .axis => (s.axisBridges i).any notSafe
  | .fb => (s.axisBridges (s.fld (FB.FBCFG i) 20 16)).any notSafe
  | .mig => s.busyOp MIG.MSTA || s.busyOp MIG.TSTA
  | .mem => s.busyOp MEM.SCRSTA || s.busyOp MEM.RETSTA
  | .nvm => s.busyOp NVM.CSTA
  | .acq => s.busyOp ACQ.ASTA
  | .store => s.busyOp (STORE.SSTA i)
  | .fio => s.fioState i == 2 || s.fioState i == 3
  | _ => false

/-- FRESET takes effect on a present page (R54): landings, runtime state, status and counters start anew; the page locks
(R58). -/
def fresetBody (p : Nat) (s : State) : State :=
  match pageOf p with
  | none => s
  | some (k, i) =>
    let old := s
    let s := if k = .can then s.fresetCan i else s
    let s := s.dropLandings p k i
    let s := (s.fresetUnits k i).restartPage p (fresetKeeps k)
    let s := s.setFld (HDR.STA p) 10 8 (old.fld (HDR.STA p) 10 8)
    s.fresetAfter k i old

/-- STA.STATE at the end of a FRESET (R54): SPARE for a gallery that MIG.SPARES names, else RUN or READY. -/
def fresetState (s : State) (p : Nat) : Nat :=
  match pageOf p with
  | some (.gal, i) => if s.bit MIG.SPARES i then 8 else if s.bit (HDR.CTL p) 0 then 3 else 2
  | _ => if s.bit (HDR.CTL p) 0 then 3 else 2

/-- FRESET ends (R54). -/
def fresetEnd (p : Nat) (s : State) : State :=
  if s.bit (HDR.CTL p) 1 = false then s
  else
    let s := (s.fresetBody p).setBit (HDR.CTL p) 1 false
    match pageOf p with
    | some (.hall, _) => s
    | some (.brg, b) =>
      let s := s.setFld (HDR.STA p) 3 0 (if (s.brgOf b).running then 3 else s.fresetState p)
      s.brgState b
    | _ => s.setFld (HDR.STA p) 3 0 (s.fresetState p)

/-- CTL.FRESET written with 1 (R54): refused where the page's block does not allow it; a second write changes nothing. -/
def freset (p : Nat) (s : State) : State :=
  match pageOf p with
  | none => s
  | some (k, i) =>
    if s.fresetRefused k i then s.refuseWrite p
    else (s.setBit (HDR.CTL p) 1 true).setFld (HDR.STA p) 3 0 5

end State

end Sys2Proof.Machine
end

