-- ==== Sys2Proof/Machine/Dma.lean ====
section
/-!
DEFINITION. DMA channels up to the descriptor in hand (R72-R76): RUN, the fetch of a descriptor and its checks.
-/
namespace Sys2Proof.Machine

namespace State

/-- Address in the model's memory map of an address of a DMA space: 0 host, 1 LPDDR5, 2 mezzanine (R74). -/
def dmaAddr (space addr : Nat) : Nat :=
  match space with
  | 0 => hostBase + addr
  | 1 => dramBase + addr
  | _ => mezzBase + addr

/-- Size of a DMA space in bytes (R74): host addresses have 64 bits; BAR0 has 16 MiB (R64). -/
def dmaSize (s : State) (space : Nat) : Nat :=
  match space with
  | 0 => 2 ^ 64
  | 1 => s.spaceSize 1
  | 2 => mezzSize
  | _ => 0x1000000

/-- The firewall admits a channel's access to a space; the host's own memory lies outside it (R302, R303). -/
def dmaAdmits (s : State) (ch space addr len : Nat) (r : Right) : Bool :=
  space == 0 || s.fwAdmits (9 + ch) (space - 1) addr len r

/-- STATE of a channel (R76). -/
def dmaState (s : State) (ch : Nat) : Nat := s.fld (DMA.CSTA ch) 11 10

/-- The chain ends in STATE `st`, 2 STOPPED or 3 HALTED, with its code (R75, R76). -/
def dmaEnd (ch st : Nat) (c : Code) (s : State) : State :=
  let s := (opEnd pgDMA (DMA.CSTA ch) c s).setFld (DMA.CSTA ch) 11 10 st
  s.putDma ch { s.dmaOf ch with fetched := false }

/-- Host bytes that the host's memory holds at this moment, by address (R74). -/
def hostBytes (l : List (Nat × Byte)) (s : State) : State :=
  l.foldl (fun s (e : Nat × Byte) => s.putByte (hostBase + e.1 % 2 ^ 64) e.2) s

/-- `n` words of register space read by a requester. -/
def regWords (req addr : Nat) : (n : Nat) → State → List Byte × State
  | 0, s => ([], s)
  | n + 1, s =>
    let (v, s) := s.bar0Read req addr
    let (t, s) := regWords req (addr + 4) n s
    (leBytes 4 v.toNat ++ t, s)

/-- The refusal of a channel's access by the firewall (R75, R303). -/
def dmaLocked (ch st space addr : Nat) (s : State) : State :=
  (fwRefuse (9 + ch) (space - 1) addr s).dmaEnd ch st .rejLock

/-- The write-back of DCTL with DONE and a code (R74, R75): in memory; a register-space descriptor takes none. -/
def dmaWriteBack (ch : Nat) (c : Code) (s : State) : State :=
  let x := s.dmaOf ch
  let space := s.fld (DMA.CCTL ch) 5 4
  let w := wset (wsetBit x.ctl 23 true) 31 24 c.num
  if space = 3 then s
  else (s.writeBytes (dmaAddr space ((s.rd64 (DMA.CUR ch)).toNat + 0x1C)) (9 + ch) (leBytes 4 w.toNat)).2

/-- The checks on the descriptor in hand, in the order of R75; none: it may run. -/
def dmaCheck (ch : Nat) (s : State) : Option State :=
  let x := s.dmaOf ch
  let len := x.len.toNat
  let ss := wfld x.ctl 5 4
  let ds := wfld x.ctl 7 6
  let low := fun (sp : Nat) (a : Nat) => if sp = 3 then a / 4 * 4 else a
  let sa := low ss x.src.toNat
  let da := low ds x.dst.toNat
  if x.ctl.getLsbD 23 then some (s.dmaEnd ch 2 .rejState)
  else if len > 0x4000000 ∨ sa + len > s.dmaSize ss ∨ da + len > s.dmaSize ds then
    some ((s.dmaWriteBack ch .rejLength).dmaEnd ch 2 .rejLength)
  else if len = 0 then none
  else if (ss = 3 ∨ ds = 3) ∧ len % 4 ≠ 0 then some ((s.dmaWriteBack ch .rejLength).dmaEnd ch 2 .rejLength)
  else if s.dmaAdmits ch ss sa len .read = false then some (s.dmaLocked ch 2 ss sa)
  else if s.dmaAdmits ch ds da len .write = false then some (s.dmaLocked ch 2 ds da)
  else if (ss = 0 ∨ ds = 0) ∧ s.host.busMaster = false then some (s.dmaEnd ch 2 .rejState)
  else none

/-- The descriptor at CUR is fetched and checked before any byte moves (R73-R75). -/
def dmaFetch (ch : Nat) (s : State) : State :=
  let space := s.fld (DMA.CCTL ch) 5 4
  let a := (s.rd64 (DMA.CUR ch)).toNat
  let s := (s.wr (DMA.BYTES ch) 0).setFld (DMA.CSTA ch) 11 8 6
  if space = 0 ∧ s.host.busMaster = false then s.dmaEnd ch 2 .rejState
  else if s.dmaAdmits ch space a 32 .read = false then s.dmaLocked ch 2 space a
  else
    let r := if space = 3 then (let z := s.regWords (9 + ch) a 8; (some z.1, z.2))
      else s.readBytes (dmaAddr space a) 32 (9 + ch) true
    match r with
    | (none, s) => s.dmaEnd ch 3 .failEcc
    | (some bs, s) =>
      let f := fun o n => ofLeBytes ((bs.drop o).take n)
      let s := s.putDma ch { owner := (s.dmaOf ch).owner, src := BitVec.ofNat 64 (f 0 8), dst := BitVec.ofNat 64 (f 8 8),
                             next := BitVec.ofNat 64 (f 16 8), len := BitVec.ofNat 32 (f 24 4),
                             ctl := BitVec.ofNat 32 (f 28 4), fetched := true }
      match s.dmaCheck ch with
      | some t => t
      | none => s

/-- The low five bits of a descriptor's address are ignored (R73). -/
def descAddr (v : Word64) : Word64 := v &&& 0xFFFFFFFFFFFFFFE0

/-- CCTL.RUN (R72, R76): from the channel's owner, while no chain runs. -/
def dmaRun (req ch : Nat) (hostIn : List (Nat × Byte)) (s : State) : State :=
  if (s.dmaOf ch).owner ≠ req ∨ s.dmaState ch = 1 then s.refuseWrite pgDMA
  else if s.offView pgDMA then s.dmaEnd ch 2 .rejState
  else
    let s := (s.hostBytes hostIn).opPhase (DMA.CSTA ch) 1
    let s := (s.setFld (DMA.CSTA ch) 31 16 0).wr64 (DMA.CUR ch) (descAddr (s.rd64 (DMA.HEAD ch)))
    s.dmaFetch ch

end State

end Sys2Proof.Machine
end

