-- ==== Sys2Proof/Machine/Limits.lean ====
section
/-!
DEFINITION. What a register's chapter checks on a write (R45, R48): ranges of fields, registers closed while their block
runs, and values refused whole.
-/
namespace Sys2Proof.Machine

/-- A stated range of a field: the field's register offset (repeated `n` times every `stride`), its bits, its least and
greatest value, of what it must be a multiple, and the FLT bit that a value outside sets. -/
structure FieldRange where
  off : Nat
  n : Nat
  stride : Nat
  hi : Nat
  lo : Nat
  min : Nat
  max : Nat
  step : Nat
  flt : Nat
  deriving DecidableEq, Repr

/-- The range constrains the register word at an offset. -/
def rangeCovers (r : FieldRange) (off : Nat) : Bool :=
  decide (r.off ≤ off ∧ (off - r.off) % r.stride = 0 ∧ (off - r.off) / r.stride < r.n)

/-- The word's field lies in its range. -/
def rangeOk (r : FieldRange) (w : Word) : Bool :=
  let v := wfld w r.hi r.lo
  decide (r.min ≤ v ∧ v ≤ r.max ∧ v % r.step = 0)

/-- The ranges that each chapter states for the fields of a page (R114, R118, R192, R222, R225, R227, R249, R252, R253,
R273, R298, R324, R408, R410, R425, R451, R453, R454, R469, R498, R499, R501). -/
def PageKind.ranges : PageKind → List FieldRange
  | .sys => [⟨0x64, 1, 4, 23, 16, 20, 200, 1, 0⟩]
  | .pwr => [⟨0x48, 1, 4, 15, 8, 1, 255, 1, 0⟩, ⟨0x48, 1, 4, 23, 16, 1, 255, 1, 0⟩]
  | .thm => [⟨0x48, 1, 4, 7, 0, 85, 140, 1, 0⟩, ⟨0x48, 1, 4, 11, 8, 1, 8, 1, 0⟩, ⟨0x48, 1, 4, 15, 12, 1, 4, 1, 0⟩,
             ⟨0x48, 1, 4, 23, 16, 10, 200, 1, 0⟩]
  | .hall => [⟨0x40, 1, 4, 10, 0, 400, 1600, 100, 0⟩]
  | .gal => [⟨0x150, 1, 4, 31, 0, 0, 0xFFFFFFFF, 64, 0⟩, ⟨0x154, 1, 4, 31, 0, 0, 0xFFFFFFFF, 64, 0⟩,
             ⟨0x180, 6, 4, 7, 0, 0, 0xFE, 1, 1⟩]
  | .axis => [⟨0x84, 1, 4, 1, 0, 0, 2, 1, 0⟩, ⟨0x84, 1, 4, 3, 2, 0, 2, 1, 0⟩, ⟨0x84, 1, 4, 5, 4, 0, 2, 1, 0⟩,
              ⟨0x84, 1, 4, 7, 6, 0, 2, 1, 0⟩, ⟨0x84, 1, 4, 9, 8, 0, 2, 1, 0⟩, ⟨0x94, 1, 4, 7, 0, 0, 0xFE, 1, 1⟩,
              ⟨0x94, 1, 4, 23, 16, 0, 0xFE, 1, 1⟩, ⟨0xC4, 1, 4, 23, 16, 0, 0xFE, 1, 1⟩]
  | .rzl => [⟨0x54, 1, 4, 2, 0, 1, 4, 1, 0⟩]
  | .sdm => [⟨0x40, 1, 4, 4, 0, 5, 25, 1, 0⟩, ⟨0x48, 2, 4, 14, 0, 2000, 20000, 1, 0⟩, ⟨0x80, 8, 0x10, 8, 0, 16, 256, 1, 0⟩]
  | .latch => [⟨0x104, 8, 0x10, 16, 0, 1, 65536, 1, 0⟩]
  | .route => [⟨0x50, 1, 4, 13, 0, 50, 10000, 1, 0⟩, ⟨0x74, 1, 4, 7, 0, 1, 255, 1, 0⟩, ⟨0x78, 1, 4, 12, 0, 0, 4096, 1, 1⟩,
               ⟨0x78, 1, 4, 28, 16, 0, 4096, 1, 1⟩, ⟨0x8C, 1, 4, 31, 0, 1, 0x7FFFFFFF, 1, 0⟩]
  | .stw => [⟨0x5C, 1, 4, 15, 0, 10, 1000, 1, 0⟩, ⟨0x6C, 1, 4, 23, 16, 1, 254, 1, 0⟩]
  | .can => [⟨0x40, 1, 4, 11, 4, 1, 255, 1, 0⟩, ⟨0x68, 1, 4, 7, 0, 1, 255, 1, 0⟩, ⟨0xA4, 1, 4, 15, 0, 10, 1000, 1, 0⟩]
  | .time => [⟨0x54, 1, 4, 15, 8, 1, 100, 1, 0⟩, ⟨0x98, 2, 0x20, 23, 16, 1, 255, 1, 0⟩, ⟨0x98, 2, 0x20, 31, 24, 1, 255, 1, 0⟩,
              ⟨0x68, 1, 4, 31, 0, 0, 999999999, 1, 0⟩, ⟨0x6C, 1, 4, 31, 0, 0, 15, 1, 0⟩]
  | .acq => [⟨0x48, 1, 4, 31, 0, 0, 0xFFFFFFFF, 0x10000, 0⟩, ⟨0x4C, 1, 4, 31, 0, 0, 0x2000000, 0x10000, 0⟩,
             ⟨0x100, 4, 0x40, 31, 16, 1, 65535, 1, 0⟩, ⟨0x104, 4, 0x40, 31, 0, 5000, 1000000000, 1, 0⟩,
             ⟨0x114, 4, 0x40, 7, 0, 1, 255, 1, 0⟩]
  | .recorder => [⟨0x40, 1, 4, 15, 8, 1, 64, 1, 0⟩, ⟨0x48, 1, 4, 31, 0, 0, 0xFFFFFFFF, 0x1000, 0⟩,
                  ⟨0x4C, 1, 4, 31, 0, 0, 0x1000000, 0x1000, 0⟩, ⟨0x80, 1, 4, 31, 0, 0, 0xFFFFFFFF, 0x1000, 0⟩]
  | .store => [⟨0x50, 1, 4, 23, 16, 1, 255, 1, 0⟩]
  | .fio => [⟨0x4C, 1, 4, 11, 8, 1, 15, 1, 0⟩]
  | _ => []

namespace State

/-- A written word with each field that lies outside its range replaced by the old one, and its FLT bits (R48). -/
def fitRanges (p : Nat) (k : PageKind) (off : Nat) (old : Word) (v : Word) (s : State) : Word × State :=
  (k.ranges.filter fun r => rangeCovers r off).foldl (fun (z : Word × State) r =>
    if rangeOk r z.1 then z else (wset z.1 r.hi r.lo (wfld old r.hi r.lo), z.2.raiseFlt p r.flt)) (v, s)

/-- The pages of a mezzanine range lie in valid regions of the firewall (R221, R423). -/
def mezzOpened (s : State) (base size : Nat) : Bool :=
  let first := base / 0x1000
  let last := (base + Nat.max size 1 - 1) / 0x1000
  (List.range (last + 1 - first)).all fun n => (List.range 64).any fun j =>
    let at_ := s.rd (NEWEL.FWR_ATTR j)
    let b := (s.rd64 (NEWEL.FWR_BASE j)).toNat / 0x1000
    at_.getLsbD 31 && wfld at_ 5 4 == 1 && decide (b ≤ first + n ∧ first + n < b + s.num (NEWEL.FWR_SIZE j))

/-- A ring's base and size follow their rules (R221, R423). -/
def ringOk (s : State) (base size block : Nat) : Bool :=
  decide (base % block = 0 ∧ size % block = 0 ∧ size ≤ 0x100000) && s.mezzOpened base size

/-- A register of a page is closed to writes for now: the FLT bit that a discarded write sets (R72, R122, R131, R175, R192,
R195, R255, R258, R272, R298, R391, R427, R430, R469). -/
def closed (s : State) (req : Nat) (k : PageKind) (i off : Nat) : Option Nat :=
  let en := s.bit (HDR.CTL (match k with | .fb => pgFB i | .can => pgCAN i | _ => pgETH i)) 0
  let shut := match k with
    | .fb => en && 0x40 ≤ off && off ≤ 0x78
    | .can => en && ([0x40, 0x44, 0x48, 0x4C, 0xC0, 0xC8].contains off || (0x100 ≤ off && off < 0x140))
    | .eth => en && [0x40, 0x50, 0x54, 0x58].contains off
    | .acq => s.busyOp ACQ.ASTA && 0x100 ≤ off
    | .gal => s.busyOp (GAL.SCHSTA i) && 0x80 ≤ off && off < 0x140
    | .brg => 0x80 ≤ off && off < 0x110 && off != 0x98 && off != 0x9C && (s.mates i).any fun b => s.phase (BRG.XFERSTA b) == 1
    | .rzl => [0x48, 0x50, 0x54, 0x58].contains off && s.ringState i != 0
    | .route => ((off == 0x48 || off == 0x4C) && s.routeState != 0) || (off == 0x50 && s.routeState == 2)
    | .stw => (off == 0x44 || off == 0x58) && s.pairState != 0
    | .dma => 0x100 ≤ off && off < 0x500 && (s.dmaOf ((off - 0x100) / 0x40)).owner != req
    | _ => false
  if shut then some 0
  else if k = .fio ∧ ((0x100 ≤ off ∧ off < 0x300 ∧ s.fioPresent i ((off - 0x100) / 0x40) = false) ∨
      (0x800 ≤ off ∧ s.fioPresent i ((off - 0x800) / 0x100) = false)) then some 2
  else none

/-- A value that is refused whole, with FLT.ACCESS: bases and sizes of rings, settings of an absent axis. -/
def refusedValue (s : State) (k : PageKind) (i off : Nat) (v : Word) : Bool :=
  let n := v.toNat
  match k with
  | .latch =>
    if off = 0x88 then !s.ringOk n (s.num LATCH.LSIZE) 256
    else if off = 0x8C then !s.ringOk (s.num LATCH.LBASE) n 256 else false
  | .eth =>
    if off = 0x60 then !s.ringOk n (s.num (ETH.RXSIZE i)) 2048
    else if off = 0x64 then !s.ringOk (s.num (ETH.RXBASE i)) n 2048
    else if off = 0x70 then !s.ringOk n (s.num (ETH.TXSIZE i)) 2048
    else if off = 0x74 then !s.ringOk (s.num (ETH.TXBASE i)) n 2048 else false
  | .route => 0x100 ≤ off && (off - 0x100) / 8 ≥ s.variant.axes
  | _ => false

/-- A sigma-delta channel with ALIGN whose update interval is no whole multiple of its output period: EN stays as it is
(R217). -/
def alignRefused (s : State) (k : PageKind) (i off : Nat) (v : Word) : Bool :=
  k == .sdm && 0x80 ≤ off && off % 0x10 == 0 && v.getLsbD 9 && v.getLsbD 11 &&
    s.interval (wfld v 17 12) * s.fld (SDM.SDMCLK i) 4 0 % (wfld v 8 0 * 16000) != 0

end State

end Sys2Proof.Machine
end

