-- ==== Sys2Proof/Machine/Header.lean ====
section
/-!
DEFINITION. Writes to the common header (R51-R59, R524): CTL with EN, PWRHINT and FRESET (R54, R480), VER (R53), LOCK (R58),
FLT, FLTEN and EVT (R56, R57).
-/
namespace Sys2Proof.Machine

/-- The state after a command of its own that a register write carries. -/
def runOn (o : Host.Outcome State Fault Refusal) (s : State) : State :=
  match o with
  | .next t => t
  | _ => s

namespace State

/-! ### CTL (R54, R480) -/

/-- A block leaves its OFF power state: INIT, as after FRESET (R480). -/
def leaveOff (p : Nat) (s : State) : State :=
  if s.fld (HDR.STA p) 10 8 = 0 ∧ s.booted = true ∧ s.sysMode ≠ 0 then s.fresetBody p else s

/-- The power state of a block that CTL directs (R480). -/
def hintPower (p : Nat) (s : State) : State :=
  match pageOf p with
  | some (.gal, g) => s.galMode g
  | some (.hall, _) => s
  | _ =>
    if alwaysOn p = true ∨ s.sysMode = 0 then s
    else if s.bit (HDR.CTL p) 0 then (if s.fld (HDR.STA p) 10 8 < 2 then (s.leaveOff p).setPower p 3 else s)
    else if s.restPower p = 0 then s.setPower p 0 else (s.leaveOff p).setPower p 1

/-- An axis enters service or leaves it (R230, R231): out of service, a running operation ends REJ_STATE. -/
def axisEnable (a : Nat) (en : Bool) (s : State) : State :=
  if en then (if s.mstate a = 0 then (s.setMstate a 1).cmdToAct a else s)
  else
    let s := if s.busyOp (AXIS.MVSTA a) then opEnd (pgAXIS a) (AXIS.MVSTA a) .rejState s else s
    (s.clearPath a).setMstate a 0

/-- STATE follows EN: READY or RUN (R54, R55). -/
def enState (p : Nat) (en : Bool) (s : State) : State :=
  let st := s.fld (HDR.STA p) 3 0
  match pageOf p with
  | some (.brg, b) =>
    if st = 2 ∧ en = true then (s.setFld (HDR.STA p) 3 0 3).brgState b
    else if (st = 3 ∨ st = 8) ∧ en = false ∧ (s.brgOf b).running = false then s.setFld (HDR.STA p) 3 0 2 else s
  | some (.hall, _) => s
  | _ => if st = 2 ∧ en = true then s.setFld (HDR.STA p) 3 0 3 else if st = 3 ∧ en = false then s.setFld (HDR.STA p) 3 0 2 else s

/-- EN written with another value than it holds. -/
def enWrite (p : Nat) (en : Bool) (s : State) : State :=
  match pageOf p with
  | some (.can, c) => runOn (execCanCtlEn c en s) s
  | some (.fb, n) => runOn (execFbcfgEnWrite n en s) s
  | some (k, i) =>
    let s := (cfgWr p (HDR.CTL p) (wsetBit (s.rd (HDR.CTL p)) 0 en) s).enState p en
    if k = .axis then s.axisEnable i en else s
  | none => s

/-- A write of CTL (R54, R59, R480): PWRHINT, EN, FRESET; one configuration change. -/
def ctlWrite (p : Nat) (v : Word) (s : State) : State :=
  let old := s
  let s := s.wr (HDR.CTL p) (wset (s.rd (HDR.CTL p)) 5 4 (wfld v 5 4))
  let s := if v.getLsbD 0 = s.bit (HDR.CTL p) 0 then s else s.enWrite p (v.getLsbD 0)
  let s := s.wr (HDR.SEQ p)
    (if (s.rd (HDR.CTL p) ^^^ old.rd (HDR.CTL p)) &&& 0x31 = 0 then old.rd (HDR.SEQ p) else old.rd (HDR.SEQ p) + 1)
  let s := s.hintPower p
  let s := if v &&& 0xFFFFFFCC = 0 then s else s.refuseWrite p
  if v.getLsbD 1 then s.freset p else s

/-! ### VER, LOCK, FLT, FLTEN, EVT -/

/-- A write of VER.ACTIVE (R53). -/
def verActive (p v : Nat) (s : State) : State :=
  let w := s.rd (HDR.VER p)
  if s.bit (HDR.CTL p) 0 = false ∧ wfld w 7 0 ≤ v ∧ v ≤ wfld w 15 8 then cfgWr p (HDR.VER p) (wset w 23 16 v) s
  else s.raiseFlt p 7

/-- A write of VER (R48, R53): a write that leaves ACTIVE as it is still is one. -/
def verWrite (p : Nat) (v : Word) (s : State) : State :=
  let s := s.verActive p (wfld v 23 16)
  if wfld v 31 24 = 0 then s else s.refuseWrite p

/-- The key that unlocks a page (R58). -/
def lockKey (p : Nat) : Word :=
  match pageOf p with
  | some (k, i) => BitVec.ofNat 32 (0xA5000000 + k.type * 0x1000 + i * 0x10)
  | none => 0

/-- A write of LOCK (R58). -/
def lockWrite (p : Nat) (v : Word) (s : State) : State :=
  if v = 0 then s.wr (HDR.LOCK p) 0
  else if v = lockKey p then s.wr (HDR.LOCK p) 1
  else (s.wr (HDR.LOCK p) 0).raiseFlt p 6

/-- The FLT bits a page defines. -/
def fltBits (p : Nat) : Word := match pageOf p with | some (k, _) => BitVec.ofNat 32 k.fltMask | none => 0

/-- The EVT event bits a page defines. -/
def evtBits (p : Nat) : Word := match pageOf p with | some (k, _) => BitVec.ofNat 32 k.evtMask | none => 0

/-- A write of FLT (R48, R56): W1C, with what the clearing of a bit brings (R114, R213, R322, R352). -/
def fltWrite (p : Nat) (v : Word) (s : State) : State :=
  let m := fltBits p
  let s := s.wr (HDR.FLT p) (s.rd (HDR.FLT p) &&& ~~~ (v &&& m))
  let s := match pageOf p with
    | some (.gal, g) => if v.getLsbD 23 then s.supClear g else s
    | some (.fb, n) => if v.getLsbD 26 then s.lostClear n else s
    | some (.newel, _) => if v.getLsbD 18 then s.wr64 NEWEL.FWLAST 0 else s
    | some (.mem, _) => if v.getLsbD 4 then s.wr64 MEM.UELAST 0 else s
    | _ => s
  if v &&& ~~~ m = 0 then s else s.refuseWrite p

/-- A write of FLTEN (R48, R51). -/
def fltenWrite (p : Nat) (v : Word) (s : State) : State :=
  let m := fltBits p
  let s := cfgWr p (HDR.FLTEN p) (v &&& m) s
  if v &&& ~~~ m = 0 then s else s.refuseWrite p

/-- A write of EVT (R48, R57): events are W1C, their enables RW. -/
def evtWrite (p : Nat) (v : Word) (s : State) : State :=
  let m := evtBits p
  let w := s.rd (HDR.EVT p)
  let s := s.wr (HDR.EVT p) (w &&& ~~~ (v &&& m))
  let s := cfgWr p (HDR.EVT p) ((s.rd (HDR.EVT p) &&& 0xFFFF) ||| (v &&& (m <<< 16))) s
  if v &&& ~~~ (m ||| m <<< 16) = 0 then s else s.refuseWrite p

/-- The reserved bits of a header word (R48, R51). -/
def headerReserved (off : Nat) : Word :=
  match off with
  | 0x10 => 0xFFFFF8E0
  | 0x2C | 0x30 | 0x34 | 0x38 | 0x3C => 0xFFFFFFFF
  | _ => 0

/-- A write of a header word (R45, R48, R51, R524). -/
def headerWrite (p off : Nat) (v : Word) (s : State) : State :=
  let own := p == pgNEWEL
  if off = 0x04 then (if own then s.newelOnly p else s.verWrite p v)
  else if off = 0x0C then (if own then s.newelOnly p else s.ctlWrite p v)
  else if off = 0x14 then s.fltWrite p v
  else if off = 0x18 then s.fltenWrite p v
  else if off = 0x1C then s.evtWrite p v
  else if off = 0x20 then (if own then s.newelOnly p else s.lockWrite p v)
  else if v &&& headerReserved off = 0 then s else s.refuseWrite p

end State

end Sys2Proof.Machine
end

