-- ==== Sys2Proof/Machine/Write.lean ====
section
/-!
DEFINITION. Register writes (R45-R49, R59): which registers act at once and by which command, and what an accepted write of
a configuration field does besides changing it.
-/
namespace Sys2Proof.Machine

/-- The commands that the written bits of a W1S register give, lowest bit first: the bit, and what it does.  START of a
field exchange, of a pair and of the store, FORMAT, RECOV and an abort of a DMA chain need what lies outside the device,
and are commands of their own (log entry 42). -/
def strobes (k : PageKind) (i off : Nat) (v : Word) : List (Nat × (State → Host.Outcome State Fault Refusal)) :=
  match k, off with
  | .sys, 0x50 => [(8, execModereqGo (v.setWidth 4)), (9, execModereqAbort)]
  | .pwr, 0x4C => [(0, execSwctlTest), (1, execSwctlAbort)]
  | .hall, 0x80 => [(1, execPxctlAbort i)]
  | .gal, 0x58 => [(0, execDoorbell i)]
  | .gal, 0x60 => [(0, execSchctlCommit i), (1, execSchctlAbort i)]
  | .gal, 0x200 => [(0, execTrctlArm i), (1, execTrctlStop i)]
  | .axis, 0x48 => [(0, execMvctlStart i), (1, execMvctlAbort i), (2, execMvctlRetarget i), (3, execMvctlResume i),
      (4, execMvctlInterp i), (5, execMvctlStop i), (6, execMvctlGear i), (7, execMvctlUngear i), (8, execMvctlClrstop i)]
  | .brg, 0x44 => [(0, execXferctlArm i), (1, execXferctlAbort i)]
  | .rzl, 0x40 => [(0, execRctlStart i), (1, execRctlStop i), (2, execRctlAbort i), (3, execRctlCalnow i)] ++
      (List.range 8).map fun n => (8 + n, execRctlResume i n)
  | .rzl, 0xC0 => [(0, execPtctlStart i), (1, execPtctlAbort i)]
  | .latch, 0x80 => (List.range 16).map fun n => (n, execLarmWrite (BitVec.ofNat 16 (2 ^ n)))
  | .route, 0x40 => [(0, execRouteRctlRun), (1, execRouteRctlStop), (2, execRouteRctlClear)]
  | .route, 0x58 => [(0, execFcctlCommit (BitVec.ofNat 2 (wfld v 3 2))), (1, execFcctlAbort)]
  | .mig, 0x40 => [(0, execMctlStart), (1, execMctlAbort)]
  | .mig, 0xC0 => [(0, execMigTctlStart), (1, execMigTctlAbort)]
  | .stw, 0x40 => [(1, execSctlStop), (2, execSctlHandover), (3, execSctlAbort), (4, execSctlResync)]
  | .mem, 0x40 => [(0, execScrctlStart), (1, execScrctlAbort)]
  | .mem, 0x84 => [(0, execRetctlStart), (1, execRetctlAbort)]
  | .can, 0x64 => [(0, execBusctlRecover i)]
  | .can, 0x140 => [(0, execCanTctlStart i), (1, execCanTctlAbort i)]
  | .time, 0x70 => [(0, execTimeTctlSet), (1, execTimeTctlAbort)]
  | .acq, 0x40 => [(0, execActlArm), (1, execActlStop)]
  | .trg, 0x58 => [(0, execTrgTctlForce i)]
  | .recorder, 0x60 => [(0, execFctlFreeze), (1, execFctlUnfreeze), (2, execFctlFlush)]
  | .recorder, 0x70 => [(0, execFlrdctlStart), (1, execFlrdctlAbort)]
  | .store, 0x40 => [(1, execStoreSctlStop i), (2, execStoreSctlAbort i), (3, execStoreSctlCkpt i)]
  | .fio, 0x40 => [(0, execFioRctlStart i), (1, execFioRctlStop i), (2, execFioRctlAbort i)] ++
      (List.range 8).map fun n => (8 + n, execFioRctlResume i n)
  | _, _ => []

namespace State

/-- The strobes of a written word act (R45). -/
def strobe (k : PageKind) (i off : Nat) (v : Word) (s : State) : State :=
  (strobes k i off v).foldl (fun s e => if v.getLsbD e.1 then runOn (e.2 s) s else s) s

/-- A write of HOST.RESET (R80, R81): a warm reset waits for the newel's release; a power cycle; any other value is
discarded. -/
def hostReset (v : Word) (s : State) : State :=
  if v = 0xA503 then (if s.powered then { s.warmClear with newel := { s.warmClear.newel with waiting := some 2 } } else s)
  else if v = 0xA504 then s.powerCycle
  else s.refuseWrite pgHOST

/-- A write of an IVEC word (R68): vectors 64 to 0xFE are discarded, byte by byte. -/
def ivecWrite (n : Nat) (v : Word) (s : State) : State :=
  let a := HOST.IVEC n
  let z := (List.range (if n = 42 then 3 else 4)).foldl (fun (z : Word × Bool) b =>
    let x := wfld v (8 * b + 7) (8 * b)
    if x < 64 ∨ x = 0xFF then (wset z.1 (8 * b + 7) (8 * b) x, z.2) else (z.1, true)) (s.rd a, false)
  let s := cfgWr pgHOST a z.1 s
  if z.2 = true ∨ (n = 42 ∧ wfld v 31 24 ≠ 0) then s.refuseWrite pgHOST else s

/-- A write of AXCFG (R230): CMODE changes as R230 allows, the other fields at once. -/
def axcfgWrite (a : Nat) (v : Word) (s : State) : State :=
  let old := s.rd (AXIS.AXCFG a)
  let m := s.mstate a
  let ok := decide (wfld v 1 0 = wfld old 1 0 ∨ m = 0 ∨ m = 1 ∨ m ≥ 6)
  let w := (if ok then v else wset v 1 0 (wfld old 1 0)) &&& 0xFF
  let s := cfgWr (pgAXIS a) (AXIS.AXCFG a) w (s.mirrorWrite a 0x40 false (w.setWidth 64))
  if ok = true ∧ v &&& 0xFFFFFF00 = 0 then s else s.refuseWrite (pgAXIS a)

/-- A firmware record's word (R453): that of 0x13C submits the record. -/
def fwrecWrite (req n : Nat) (v : Word) (s : State) : State :=
  if n = 15 then runOn (execFwrecSubmit (req - 1) v s) s
  else { s with recd := { s.recd with fw := Tab.put s.recd.fw n v } }

/-- A write of MDIO (R427): a read takes what the PHY answers, an open value here. -/
def mdioWrite (e : Nat) (v : Word) (s : State) : State :=
  let d := s.draw
  if v.getLsbD 30 = true ∧ v.getLsbD 26 = false then runOn (execMdioStart e v (d.1.setWidth 16) d.2) s
  else runOn (execMdioStart e v 0 s) s

/-- A write of RCFG of a field ring (R461, R469): SAFETO is a parameter of its companions. -/
def fioRcfgWrite (r : Nat) (v : Word) (s : State) : State :=
  let p := pgFIO r
  let a := FIO.RCFG r
  let s := if wfld v 7 0 = s.fld a 7 0 then s else runOn (execFioParamWrite r 0 64 (v &&& 0xFF) s) s
  let (w, s) := s.fitRanges p .fio 0x4C (s.rd a) v
  let s := cfgWr p a ((s.rd a &&& 0xFF) ||| (w &&& 0x1F00)) s
  if v &&& 0xFFFFE000 = 0 then s else s.refuseWrite p

/-- Registers whose whole value is a command of its own or follows a rule of its own; none: an ordinary register. -/
def ownRegister (req : Nat) (k : PageKind) (i off : Nat) (v : Word64) (s : State) : Option State :=
  let w := loWord v
  match k with
  | .host =>
    if off = 0x4C then some (s.hostReset w)
    else if 0x100 ≤ off ∧ off < 0x1AC then some (s.ivecWrite ((off - 0x100) / 4) w) else none
  | .gal => if off = 0x140 then some (runOn (execCoefwWrite i v s) s) else none
  | .axis =>
    if off = 0x40 then some (s.axcfgWrite i w)
    else if off = 0x50 then some (runOn (execTargetWrite i v s) s)
    else if off = 0xA4 then some (runOn (execGearRatioWrite i w (s.rd (AXIS.GDEN i)) s) s)
    else if off = 0xA8 then some (runOn (execGearRatioWrite i (s.rd (AXIS.GNUM i)) w s) s) else none
  | .brg =>
    if off = 0x98 then some (runOn (execShadowWrite i v s) s)
    else if off = 0x140 then some (runOn (execForceWrite i w s) s) else none
  | .fb => if off = 0x98 then some (runOn (execFbPossetWrite i v s) s) else none
  | .route => if off = 0xB0 then some (runOn (execRoutePossetWrite v s) s) else none
  | .mem => if off = 0xB0 ∧ w.getLsbD 16 = true then some (runOn (execInjcfgArm w s) s) else none
  | .can => if off = 0x100 then some s else none
  | .eth =>
    if off = 0x78 then some (runOn (execEthTxwrWrite i w s) s)
    else if off = 0x90 then some (s.mdioWrite i w) else none
  | .recorder => if 0x100 ≤ off ∧ off < 0x140 then some (s.fwrecWrite req ((off - 0x100) / 4) w) else none
  | .store => if i = 1 ∧ (off = 0x50 ∨ off = 0x58) then some s else none
  | .fio =>
    if off = 0x4C then some (s.fioRcfgWrite i w)
    else if 0x800 ≤ off then
      let d := off - 0x800
      some (runOn (execFioParamWrite i (d / 0x100) (d % 0x100 / 4) w s) s)
    else none
  | .dma =>
    if 0x100 ≤ off ∧ off < 0x500 ∧ off % 0x40 = 0x08 then
      let ch := (off - 0x100) / 0x40
      let s := cfgWr pgDMA (DMA.CCTL ch) (w &&& 0x30) s
      let s := if w &&& 0xFFFFFFCC = 0 then s else s.refuseWrite pgDMA
      some (if w.getLsbD 0 then s.dmaRun req ch [] else s)
    else none
  | _ => none

/-- The PTP domain of a DOMCFG write starts to listen or stops (R416, R425). -/
def domEnable (d : Nat) (s : State) : State :=
  if s.bit (TIME.DOMCFG d) 11 then (if s.domState d = 0 then s.setDomState d 1 else s)
  else if s.domState d = 0 then s
  else
    let was := decide (s.timeSource = d + 1)
    let s := (s.setDomState d 0).putDom d {}
    if was then s.select else s

/-- What an accepted write of a page's configuration does besides (R324, R471, R273, R296, R412, R229). -/
def afterWrite (k : PageKind) (i off : Nat) (s : State) : State :=
  match k with
  | .sys =>
    if off = 0x64 then (List.range s.variant.galleries).foldl (fun s g => s.galMode g) s
    else if 0x68 ≤ off ∧ off ≤ 0x74 then (List.range s.variant.axes).foldl (fun s a => s.setLimits a) s
    else if off = 0x48 ∧ s.rd SYS.HOSTFLT = 0 then s.wr64 HOST.ERRADDR 0 else s
  | .hall => if off = 0x40 then s.hallClock i else s
  | .axis => if off = 0xB0 ∨ off = 0xB4 then s.setLimits i else s
  | .mig => if off = 0x64 then (List.range s.variant.galleries).foldl (fun s g => s.warmSpare g) s else s
  | .route => if off = 0x6C then s.showMap else s
  | .time =>
    if off = 0x54 then s.select.timeRate
    else if off = 0x80 then s.domEnable 0
    else if off = 0xA0 then s.domEnable 1 else s
  | _ => s

/-- The bits of a register with an access type, both words of a 64-bit one (R45). -/
def maskOf (t : Acc) (r : RegRow) : Word64 :=
  BitVec.ofNat 64 (r.bits.foldl (fun m b => if b.1 = t then m ||| b.2 else m) 0)

/-- The bits of a register that any field covers (R48). -/
def fieldMask (r : RegRow) : Word64 := BitVec.ofNat 64 (r.bits.foldl (fun m b => m ||| b.2) 0)

/-- An RWS write (R45, R376): an edit held apart while the gate is open and the page unlocked, else FLT.LOCKED. -/
def rwsWrite (p : Nat) (k : PageKind) (a : Nat) (m v : Word) (s : State) : State :=
  if s.gateOpen = true ∧ s.rd (HDR.LOCK p) = 1 then
    let old := s.view a
    let (v, s) := s.fitRanges p k (a % 0x1000) old v
    let new := (old &&& ~~~ m) ||| (v &&& m)
    let s := { s with bal := { s.bal with
      edits := if new = s.rd a then Tab.erase s.bal.edits a else Tab.put s.bal.edits a new } }
    if new = old then s else s.wr (HDR.SEQ p) (s.rd (HDR.SEQ p) + 1)
  else s.raiseFlt p 6

/-- A whole register written with an accepted value: RW and W1C bits, ranges, RWS edits, strobes (R45, R48, R59).  `lo` is
the address of its low word. -/
def putRegister (p : Nat) (k : PageKind) (i : Nat) (r : RegRow) (lo : Nat) (v : Word64) (s : State) : State :=
  let off := lo % 0x1000
  let rw := maskOf .rw r
  let w1c := maskOf .w1c r
  let old := if r.wide then s.rd64 lo else (s.rd lo).setWidth 64
  let z := if r.wide then (v, s) else (let x := s.fitRanges p k off (loWord old) (loWord v); (x.1.setWidth 64, x.2))
  let v' := if s.alignRefused k i off (loWord z.1) then wset z.1 9 9 (wfld old 9 9) else z.1
  let s := if v' = z.1 then z.2 else z.2.refuseWrite p
  let new := ((old &&& ~~~ rw) ||| (v' &&& rw)) &&& ~~~ (v' &&& w1c)
  let s := if r.wide then s.wr64 lo new else s.wr lo (loWord new)
  let s := if (new ^^^ old) &&& rw = 0 then s else s.wr (HDR.SEQ p) (s.rd (HDR.SEQ p) + 1)
  let s := if maskOf .rws r = 0 then s else s.rwsWrite p k lo (loWord (maskOf .rws r)) (loWord v)
  let s := if v &&& ~~~ fieldMask r = 0 then s else s.refuseWrite p
  (s.strobe k i off (loWord v)).afterWrite k i off

/-- Registers that only the newel writes (R300): the NEWEL page's, the epoch counter, the gate. -/
def newelOwned (req lo : Nat) (s : State) : Bool :=
  (lo / 0x1000 == pgNEWEL && !(lo == NEWEL.RECOV && req == 0 && s.bit NEWEL.BOOTSTA 17)) || lo == MIG.EPOCHNEXT || lo == BAL1.GATE

/-- A register written by a requester: the commit of R49, with every check on the whole value. -/
def commitWrite (req p : Nat) (k : PageKind) (i : Nat) (r : RegRow) (lo : Nat) (v : Word64) (s : State) : State :=
  let off := lo % 0x1000
  if s.newelOwned req lo then s.newelOnly p
  else if k = .newel then s
  else match s.closed req k i off with
  | some b => s.raiseFlt p b
  | none =>
    match s.ownRegister req k i off v with
    | some t => t
    | none =>
      if s.refusedValue k i off (loWord v) = true ∨ (k = .route ∧ off = 0x48 ∧ v.toNat % 0x20000 ≠ 0)
          ∨ (k = .time ∧ off = 0x6C ∧ v.toNat ≥ 16) then s.refuseWrite p
      else
        let s := if k = .axis ∧ off ≠ 0x48 then s.mirrorWrite i off r.wide v else s
        s.putRegister p k i r lo v

/-- A 32-bit write at an aligned offset of a page (R45, R48, R49). -/
def pageWrite32 (req a : Nat) (v : Word) (s : State) : State :=
  let p := a / 0x1000
  let off := a % 0x1000
  match pageOf p with
  | none => s
  | some (k, i) =>
    if off < 0x40 then
      let s := s.dropSnaps req
      (if k = .axis then s.mirrorWrite i off false (v.setWidth 64) else s).headerWrite p off v
    else match findRow k.rows off with
    | none =>
      let s := s.dropSnaps req
      if k = .newel then s.newelOnly p else if v = 0 then s else s.refuseWrite p
    | some (r, j) =>
      if r.wide = false then (s.dropSnaps req).commitWrite req p k i r a (v.setWidth 64)
      else
        let lo := a - 4 * j
        let h := s.host
        if j = 0 then
          { s with host := { h with timeSnaps := Tab.erase h.timeSnaps req,
                                    snaps := Tab.put h.snaps req { reg := lo, low := some v } } }
        else
          let x := Tab.get {} h.snaps req
          let now := if maskOf .wo r = 0 then s.view lo else 0
          let low := if x.reg = lo then x.low.getD now else now
          (s.dropSnaps req).commitWrite req p k i r lo (wide low v)

/-- A 64-bit write at an 8-byte-aligned offset of a page (R46, R49). -/
def pageWrite64 (req a : Nat) (v : Word64) (s : State) : State :=
  let p := a / 0x1000
  match pageOf p with
  | none => s
  | some (k, i) =>
    match (if a % 0x1000 < 0x40 then none else findRow k.rows (a % 0x1000)) with
    | some (r, 0) =>
      if r.wide then (s.dropSnaps req).commitWrite req p k i r a v
      else (s.pageWrite32 req a (loWord v)).pageWrite32 req (a + 4) (hiWord v)
    | _ => (s.pageWrite32 req a (loWord v)).pageWrite32 req (a + 4) (hiWord v)

/-- A write at a BAR0 offset, of one word or of two (R42-R49). -/
def bar0Write (req addr : Nat) (two : Bool) (v : Word64) (s : State) : State :=
  match s.reach req addr .write with
  | (none, s) => s
  | (some p, s) =>
    let a := regAt p (addr % 0x1000)
    if two then s.pageWrite64 req a v else s.pageWrite32 req a (loWord v)

end State

end Sys2Proof.Machine
end

