-- ==== Sys2Proof/Machine/Bar2.lean ====
section
/-!
DEFINITION. BAR2 (R66, R67): the mezzanine, the trace windows, the mailbox pages and the CAN message RAMs, as a requester
reaches them word by word; and one word of either window, for the SPI host port and for register accesses.
-/
namespace Sys2Proof.Machine

/-- What a BAR2 offset names (R66, R393, and the chapters of galleries and of the newel). -/
inductive Bar2 where
  | mezz
  | trace (g off : Nat)
  | mailbox (k off : Nat)
  | canRam (c off : Nat)
  | nothing
  deriving DecidableEq, Repr

/-- The part of BAR2 that an offset falls in. -/
def bar2Part (v : Variant) (off : Nat) : Bar2 :=
  if off < mezzSize then .mezz
  else if off < 0x3000000 + v.galleries * 0x8000 then .trace ((off - 0x3000000) / 0x8000) (off % 0x8000)
  else if 0x3100000 ≤ off ∧ off < 0x3100000 + v.halls * 0x1000 then .mailbox ((off - 0x3100000) / 0x1000) (off % 0x1000)
  else if 0x3200000 ≤ off ∧ off < 0x3200000 + v.cans * 0x8000 then .canRam ((off - 0x3200000) / 0x8000) (off % 0x8000)
  else .nothing

namespace State

/-- Where the firewall is asked for a BAR2 access: the mezzanine is a space of its own (R302). -/
def bar2Admits (s : State) (req off len : Nat) (r : Right) : Bool :=
  s.fwAdmits req (if off < mezzSize then 1 else 3) off len r

/-- The outcome of a BAR2 access that the firewall refuses (R66, R303). -/
def bar2Refuse (req off : Nat) (s : State) : State :=
  let s := fwRefuse req (if off < mezzSize then 1 else 3) off s
  if req = 0 then s.notOpened 0 1 off else s

/-- A memory read for a requester: an uncorrectable word comes poisoned, with an open value (R67). -/
def poisonRead (req a n : Nat) (s : State) : Word × State :=
  match s.readBytes a n req true with
  | (some bs, s) => (BitVec.ofNat 32 (ofLeBytes bs), s)
  | (none, s) =>
    let d := s.draw
    let w := loWord d.1
    (w, { d.2 with host := { d.2.host with resp := Tab.put d.2.host.resp req { value := w.setWidth 64, poisoned := true } } })

/-- A 32-bit read at a BAR2 offset (R66, R67). -/
def bar2Read (req off : Nat) (s : State) : Word × State :=
  match bar2Part s.variant off with
  | .mailbox k o =>
    if req = k + 1 then (BitVec.ofNat 32 (ofLeBytes (s.bytes (mbxBase k + o) 4)), s) else (0, s.notOpened req 1 off)
  | .nothing => (0, s.notOpened req 1 off)
  | part =>
    if s.bar2Admits req off 4 .read = false then (0, s.bar2Refuse req off)
    else match part with
      | .trace g o => s.poisonRead req (galBase g + 0x40000 + o) 4
      | .canRam c o => if off % 4 = 0 then s.canRamRead req c o else (0, s.raiseFlt (pgCAN c) 0)
      | _ => s.poisonRead req (mezzBase + off) 4

/-- A mailbox word that the core writes (R309): ARGLEN and the arguments; a call and its abort are rows of their own. -/
def mailboxWrite (k o : Nat) (v : Word) (s : State) : State :=
  if o = 4 ∨ 0x40 ≤ o then s.putBytes (mbxBase k + o) (leBytes 4 v.toNat) else s

/-- A 32-bit write at a BAR2 offset (R66, R67, R394): the trace windows are read-only. -/
def bar2Write (req off : Nat) (v : Word) (s : State) : State :=
  match bar2Part s.variant off with
  | .mailbox k o => if req = k + 1 then s.mailboxWrite k o v else s.notOpened req 1 off
  | .nothing => s.notOpened req 1 off
  | part =>
    if s.bar2Admits req off 4 .write = false then s.bar2Refuse req off
    else match part with
      | .trace g _ => s.refuseWrite (pgGAL g)
      | .canRam c o => if off % 4 = 0 then s.canRamWrite c o v else s.raiseFlt (pgCAN c) 0
      | _ => (s.writeBytes (mezzBase + off) req (leBytes 4 v.toNat)).2

/-! ### Either window -/

/-- An address of a register access: an offset in BAR0, or 0x400_0000 and an offset in BAR2, as ERRADDR numbers the windows
(R79). -/
def bar2Of (addr : Nat) : Option Nat := if 0x4000000 ≤ addr ∧ addr < 0x8000000 then some (addr - 0x4000000) else none

/-- An access that is narrower, wider or misaligned (R46): its page's FLT.ACCESS. -/
def misaligned (req addr : Nat) (write : Bool) (s : State) : State :=
  match s.reach req addr (if write then .write else .read) with
  | (none, s) => s
  | (some p, s) => (s.dropSnaps req).raiseFlt p 0

/-- A read of the SPI host port or of a requester. -/
def wordRead (req addr : Nat) (s : State) : Word × State :=
  match bar2Of addr with
  | some off => s.bar2Read req off
  | none => if addr % 4 = 0 then s.bar0Read req addr else (0, s.misaligned req addr false)

/-- A write of the SPI host port or of a requester. -/
def wordWrite (req addr : Nat) (v : Word) (s : State) : State :=
  match bar2Of addr with
  | some off => s.bar2Write req off v
  | none => if addr % 4 = 0 then s.bar0Write req addr false (v.setWidth 64) else s.misaligned req addr true

/-- A write of 32 or 64 bits (R46). -/
def busWrite (req addr : Nat) (two : Bool) (v : Word64) (s : State) : State :=
  if two = false then s.wordWrite req addr (loWord v)
  else match bar2Of addr with
    | some off =>
      if off + 8 ≤ mezzSize then
        if s.bar2Admits req off 8 .write then (s.writeBytes (mezzBase + off) req (leBytes 8 v.toNat)).2
        else s.bar2Refuse req off
      else (s.bar2Write req off (loWord v)).bar2Write req (off + 4) (hiWord v)
    | none => if addr % 8 = 0 then s.bar0Write req addr true v else s.misaligned req addr true

end State

end Sys2Proof.Machine
end

