-- ==== Sys2Proof/Machine/DmaMove.lean ====
section
/-!
DEFINITION. DMA channels: the bytes a descriptor moves, its end, aborts and the host's completion timeout (R72-R76).
-/
namespace Sys2Proof.Machine

namespace State

/-- Storage words read from word `w` up, as far as the first uncorrectable one: their bytes, and whether all were read. -/
def readUpTo (who : Nat) : (n w : Nat) → State → List Byte × Bool × State
  | 0, _, s => ([], true, s)
  | n + 1, w, s =>
    match s.readWord w who true with
    | (none, s) => ([], false, s)
    | (some d, s) =>
      let r := readUpTo who n (w + 1) s
      (leBytes 8 d.toNat ++ r.1, r.2)

/-- The address of a DMA space that a channel uses: the low two bits of a register-space address are ignored (R75). -/
def dmaLow (space addr : Nat) : Nat := if space = 3 then addr / 4 * 4 else addr

/-- `n` bytes at the source, as far as they can be read; and whether all were. -/
def dmaRead (ch space addr n : Nat) (s : State) : List Byte × Bool × State :=
  match space with
  | 0 => (s.bytes (hostBase + addr) n, true, s)
  | 3 => let r := s.regWords (9 + ch) (dmaLow 3 addr) (n / 4); (r.1, true, r.2)
  | _ =>
    let a := dmaAddr space addr
    if n = 0 then ([], true, s)
    else
      let r := s.readUpTo (9 + ch) ((a + n - 1) / 8 - a / 8 + 1) (a / 8)
      ((r.1.drop (a % 8)).take n, r.2)

/-- Words written to register space (R46). -/
def dmaRegs (req : Nat) : (addr : Nat) → List Word → State → State
  | _, [], s => s
  | addr, w :: t, s => dmaRegs req (addr + 4) t (s.bar0Write req addr false (w.setWidth 64))

/-- Bytes written at the destination: whether all were, and how many. -/
def dmaWrite (ch space addr : Nat) (bs : List Byte) (s : State) : Bool × Nat × State :=
  match space with
  | 0 => (true, bs.length, s.putBytes (hostBase + addr) bs)
  | 3 => (true, bs.length, s.dmaRegs (9 + ch) (dmaLow 3 addr) (leWords (bs.length / 4) bs))
  | _ => s.writeSpan (9 + ch) (bs.length + 1) (dmaAddr space addr) bs

/-- The first `n` bytes of the descriptor in hand move: whether all did; BYTES counts them (R75, R76). -/
def dmaMove (ch n : Nat) (s : State) : Bool × State :=
  let x := s.dmaOf ch
  let r := s.dmaRead ch (wfld x.ctl 5 4) x.src.toNat n
  let w := r.2.2.dmaWrite ch (wfld x.ctl 7 6) x.dst.toNat r.1
  (r.2.1 && w.1, w.2.2.wr (DMA.BYTES ch) (BitVec.ofNat 32 w.2.1))

/-- The source or destination range that the firewall no longer admits, if any (R302, R303). -/
def dmaShut (s : State) (ch : Nat) : Option (Nat × Nat) :=
  let x := s.dmaOf ch
  let len := x.len.toNat
  let ss := wfld x.ctl 5 4
  let ds := wfld x.ctl 7 6
  let sa := dmaLow ss x.src.toNat
  let da := dmaLow ds x.dst.toNat
  if len = 0 then none
  else if s.dmaAdmits ch ss sa len .read = false then some (ss, sa)
  else if s.dmaAdmits ch ds da len .write = false then some (ds, da)
  else none

/-- All bytes of the descriptor are at the destination: the write-back, the count, the event, and the end of the chain or
the next descriptor (R74-R76). -/
def dmaNext (ch : Nat) (s : State) : State :=
  let x := s.dmaOf ch
  let s := (s.dmaWriteBack ch .done).count (DMA.CSTA ch) 31 16
  let s := if x.ctl.getLsbD 0 then s.raiseEvt pgDMA ch else s
  if x.ctl.getLsbD 2 then s.dmaEnd ch 2 .done
  else (s.wr64 (DMA.CUR ch) (descAddr x.next)).dmaFetch ch

/-- A channel has a descriptor in hand and runs. -/
def dmaRuns (s : State) (ch : Nat) : Bool := s.dmaState ch == 1 && (s.dmaOf ch).fetched

/-- The descriptor in hand is carried out (R74, R75). -/
def descriptorDone (ch : Nat) (hostIn : List (Nat × Byte)) (s : State) : State :=
  if s.dmaRuns ch = false then s
  else
    let s := s.hostBytes hostIn
    match s.dmaShut ch with
    | some q => s.dmaLocked ch 3 q.1 q.2
    | none =>
      let r := s.dmaMove ch (s.dmaOf ch).len.toNat
      if r.1 then r.2.dmaNext ch else r.2.dmaEnd ch 3 .failEcc

/-- CCTL.ABORT (R63, R75): before the last byte is at the destination, or between it and the write-back. -/
def dmaAbort (ch moved : Nat) (s : State) : State :=
  match s.phase (DMA.CSTA ch) with
  | 0 => s
  | 3 => s.raiseFlt pgDMA 8
  | _ =>
    let len := (s.dmaOf ch).len.toNat
    let r := s.dmaMove ch (Nat.min moved len)
    if r.1 = false then r.2.dmaEnd ch 3 .failEcc
    else if moved < len then r.2.dmaEnd ch 2 .aborted
    else
      let s := (r.2.dmaWriteBack ch .abortLate).count (DMA.CSTA ch) 31 16
      (if (s.dmaOf ch).ctl.getLsbD 0 then s.raiseEvt pgDMA ch else s).dmaEnd ch 2 .abortLate

/-- A write of CCTL by a requester reaches the channel: from another than its owner it is discarded (R72). -/
def onCctl (req ch : Nat) (f : State → State) (s : State) : State :=
  match s.reach req (0xF8108 + 0x40 * ch) .write with
  | (none, s) => s
  | (some _, s) =>
    let s := s.dropSnaps req
    if (s.dmaOf ch).owner = req then f s else s.refuseWrite pgDMA

/-- The transfer in hand waits for the host: its descriptors, its source or its destination lie in host memory. -/
def dmaOnHost (s : State) (ch : Nat) : Bool :=
  let x := s.dmaOf ch
  s.fld (DMA.CCTL ch) 5 4 == 0 || wfld x.ctl 5 4 == 0 || wfld x.ctl 7 6 == 0

end State

/-- CCTL_RUN (R72, R76). -/
def execCctlRun (req ch : Nat) (hostIn : List (Nat × Byte)) (s : State) : Host.Outcome State Fault Refusal :=
  onUnit (s.variant.requester req && decide (ch < 16)) (s.onCctl req ch fun s => s.dmaRun req ch hostIn)

/-- CCTL_ABORT (R63, R75). -/
def execCctlAbort (req ch moved : Nat) (s : State) : Host.Outcome State Fault Refusal :=
  onUnit (s.variant.requester req && decide (ch < 16)) (s.onCctl req ch fun s => s.dmaAbort ch moved)

/-- DESCRIPTOR_DONE (R74-R76). -/
def execDescriptorDone (ch : Nat) (hostIn : List (Nat × Byte)) (s : State) : Host.Outcome State Fault Refusal :=
  onUnit (decide (ch < 16)) (s.descriptorDone ch hostIn)

/-- HOST_COMPLETION_TIMEOUT (R75). -/
def execHostCompletionTimeout (ch : Nat) (s : State) : Host.Outcome State Fault Refusal :=
  onUnit (decide (ch < 16)) (if s.dmaState ch = 1 ∧ s.dmaOnHost ch = true then s.dmaEnd ch 3 .timeout else s)

end Sys2Proof.Machine
end

