-- ==== Sys2Proof/Machine/Float.lean ====
section
/-!
DEFINITION. FP32 arithmetic of the gallery's scalar unit (R88): binary32, round to nearest with ties to even, subnormal
inputs taken as zero, subnormal results flushed to zero, the default NaN for every NaN result.  Each operation answers
its result and whether it was an invalid operation.
-/
namespace Sys2Proof.Machine

/-- A binary32 value: NaN (signalling or not), an infinity, or the finite value ± m · 2^e. -/
inductive F32 where
  | nan (signalling : Bool)
  | inf (neg : Bool)
  | fin (neg : Bool) (m : Nat) (e : Int)
  deriving DecidableEq, Repr

/-- The default NaN (R88). -/
def f32NaN : Word := 0x7FC00000

/-- The value of a word; a subnormal counts as zero (R88). -/
def f32Of (w : Word) : F32 :=
  let neg := w.getLsbD 31
  let ex := wfld w 30 23
  let fr := wfld w 22 0
  if ex = 255 then (if fr = 0 then .inf neg else .nan (decide (fr < 0x400000)))
  else if ex = 0 then .fin neg 0 0
  else .fin neg (0x800000 + fr) (ex - 150)

/-- The word of a signed zero, an infinity. -/
def f32Zero (neg : Bool) : Word := if neg then 0x80000000 else 0
def f32Inf (neg : Bool) : Word := if neg then 0xFF800000 else 0x7F800000

/-- `m / 2^k` rounded to the nearest integer, ties to even. -/
def rneShift (m k : Nat) : Nat :=
  let q := m / 2 ^ k
  let r := m % 2 ^ k
  if 2 * r > 2 ^ k ∨ (2 * r = 2 ^ k ∧ q % 2 = 1) then q + 1 else q

/-- The binary32 word nearest to ± m · 2^e; a result that is subnormal is flushed to zero (R88). -/
def f32Round (neg : Bool) (m : Nat) (e : Int) : Word :=
  if m = 0 then f32Zero neg
  else
    let top : Int := (Nat.log2 m : Int) + e
    let q : Int := if top - 23 < -149 then -149 else top - 23
    let n := if e ≥ q then m * 2 ^ (e - q).toNat else rneShift m (q - e).toNat
    if n < 0x800000 then f32Zero neg
    else
      let (n, q) := if n ≥ 0x1000000 then (n / 2, q + 1) else (n, q)
      let ex := q + 150
      if ex ≥ 255 then f32Inf neg
      else BitVec.ofNat 32 ((if neg then 2 ^ 31 else 0) + ex.toNat * 2 ^ 23 + (n - 0x800000))

/-- A signed finite value as a scaled integer: ± m · 2^(e - lo). -/
def scaled (neg : Bool) (m : Nat) (e lo : Int) : Int :=
  let v : Int := (m * 2 ^ (e - lo).toNat : Nat)
  if neg then -v else v

/-- Rounding of an integer scaled by 2^lo; `zneg` is the sign of an exact zero. -/
def f32OfScaled (v lo : Int) (zneg : Bool) : Word :=
  if v = 0 then f32Zero zneg else f32Round (decide (v < 0)) v.natAbs lo

/-- An operand is a signalling NaN. -/
def F32.sig : F32 → Bool
  | .nan b => b
  | _ => false

def F32.isNaN : F32 → Bool
  | .nan _ => true
  | _ => false

/-- Sum of two values (R88). -/
def f32AddV (x y : F32) : Word × Bool :=
  match x, y with
  | .nan _, _ => (f32NaN, x.sig || y.sig)
  | _, .nan _ => (f32NaN, x.sig || y.sig)
  | .inf a, .inf b => if a = b then (f32Inf a, false) else (f32NaN, true)
  | .inf a, _ => (f32Inf a, false)
  | _, .inf b => (f32Inf b, false)
  | .fin a m e, .fin b n f =>
    let lo := if e < f then e else f
    (f32OfScaled (scaled a m e lo + scaled b n f lo) lo (a && b), false)

/-- A value with its sign inverted. -/
def F32.neg : F32 → F32
  | .nan b => .nan b
  | .inf a => .inf (!a)
  | .fin a m e => .fin (!a) m e

def f32Add (x y : Word) : Word × Bool := f32AddV (f32Of x) (f32Of y)
def f32Sub (x y : Word) : Word × Bool := f32AddV (f32Of x) (f32Of y).neg

/-- Product (R88). -/
def f32Mul (x y : Word) : Word × Bool :=
  match f32Of x, f32Of y with
  | .nan a, v => (f32NaN, a || v.sig)
  | v, .nan b => (f32NaN, b || v.sig)
  | .inf a, .inf b => (f32Inf (a != b), false)
  | .inf a, .fin b n _ => if n = 0 then (f32NaN, true) else (f32Inf (a != b), false)
  | .fin a m _, .inf b => if m = 0 then (f32NaN, true) else (f32Inf (a != b), false)
  | .fin a m e, .fin b n f => (f32Round (a != b) (m * n) (e + f), false)

/-- d + x · y with one rounding (R88). -/
def f32Fma (d x y : Word) : Word × Bool :=
  let fd := f32Of d
  match f32Of x, f32Of y with
  | .nan a, v => (f32NaN, a || v.sig || fd.sig)
  | v, .nan b => (f32NaN, b || v.sig || fd.sig)
  | .inf a, .inf b => f32AddV fd (.inf (a != b))
  | .inf a, .fin b n _ => if n = 0 then (f32NaN, true) else f32AddV fd (.inf (a != b))
  | .fin a m _, .inf b => if m = 0 then (f32NaN, true) else f32AddV fd (.inf (a != b))
  | .fin a m e, .fin b n f => f32AddV fd (.fin (a != b) (m * n) (e + f))

/-- Quotient (R88): division of a non-zero value by zero gives an infinity and is not invalid. -/
def f32Div (x y : Word) : Word × Bool :=
  match f32Of x, f32Of y with
  | .nan a, v => (f32NaN, a || v.sig)
  | v, .nan b => (f32NaN, b || v.sig)
  | .inf _, .inf _ => (f32NaN, true)
  | .inf a, .fin b _ _ => (f32Inf (a != b), false)
  | .fin a _ _, .inf b => (f32Zero (a != b), false)
  | .fin a m e, .fin b n f =>
    if n = 0 then (if m = 0 then (f32NaN, true) else (f32Inf (a != b), false))
    else
      let t := m * 2 ^ 32
      (f32Round (a != b) (2 * (t / n) + b01 (decide (t % n ≠ 0))) (e - f - 33), false)

/-- Square root (R88); the root of -0 is -0. -/
def f32Sqrt (x : Word) : Word × Bool :=
  match f32Of x with
  | .nan a => (f32NaN, a)
  | .inf a => if a then (f32NaN, true) else (f32Inf false, false)
  | .fin a m e =>
    if m = 0 then (f32Zero a, false)
    else if a then (f32NaN, true)
    else
      let (m, e) := if e % 2 = 0 then (m * 2 ^ 40, e - 40) else (m * 2 ^ 41, e - 41)
      let r := isqrt m
      (f32Round false (2 * r + b01 (decide (r * r ≠ m))) (e / 2 - 1), false)

/-- Comparison of two values that are no NaN: x < y. -/
def f32Lt (x y : F32) : Bool :=
  match x, y with
  | .inf a, .inf b => a && !b
  | .inf a, _ => a
  | _, .inf b => !b
  | .fin a m e, .fin b n f =>
    let lo := if e < f then e else f
    decide (scaled a m e lo < scaled b n f lo)
  | _, _ => false

/-- The word of an operand taken as a result: a subnormal reads as zero of its sign. -/
def f32Flush (w : Word) : Word := match f32Of w with | .fin a 0 _ => f32Zero a | _ => w

/-- FMIN and FMAX (R88): one NaN gives the other operand; -0 counts as smaller than +0. -/
def f32MinMax (max : Bool) (x y : Word) : Word × Bool :=
  let a := f32Of x
  let b := f32Of y
  let inv := a.sig || b.sig
  if a.isNaN && b.isNaN then (f32NaN, inv)
  else if a.isNaN then (f32Flush y, inv)
  else if b.isNaN then (f32Flush x, inv)
  else
    let x' := f32Flush x
    let y' := f32Flush y
    let less := f32Lt a b || (!(f32Lt b a) && x'.getLsbD 31 && !y'.getLsbD 31)
    (if less != max then x' else y', inv)

/-- FCMPLT (R88): a NaN operand gives 0 and is invalid. -/
def f32CmpLt (x y : Word) : Word × Bool :=
  let a := f32Of x
  let b := f32Of y
  if a.isNaN || b.isNaN then (0, true) else (if f32Lt a b then 1 else 0, false)

/-- FABS and FNEG: a sign operation on the value; a NaN gives the default NaN. -/
def f32Abs (x : Word) : Word × Bool :=
  match f32Of x with
  | .nan a => (f32NaN, a)
  | _ => (f32Flush x &&& 0x7FFFFFFF, false)
def f32Neg (x : Word) : Word × Bool :=
  match f32Of x with
  | .nan a => (f32NaN, a)
  | _ => (f32Flush x ^^^ 0x80000000, false)

/-- FTOQ (`k` = 31) and FTOI (`k` = 0): the value times 2^k, rounded and saturated to signed 32 bits; a NaN gives 0 and
is invalid (R88). -/
def f32ToInt (k : Nat) (x : Word) : Word × Bool :=
  match f32Of x with
  | .nan _ => (0, true)
  | .inf a => (if a then 0x80000000 else 0x7FFFFFFF, false)
  | .fin a m e =>
    let e := e + k
    let n : Nat := if e ≥ 0 then m * 2 ^ e.toNat else rneShift m (-e).toNat
    (satInt 32 (if a then -(n : Int) else n), false)

/-- QTOF (`k` = 31) and ITOF (`k` = 0): the signed value over 2^k, rounded (R88). -/
def f32OfInt (k : Nat) (w : Word) : Word := f32OfScaled w.toInt (-(k : Int)) false

end Sys2Proof.Machine
end

