-- ==== Sys2Proof/Machine/Fp.lean ====
section
/-!
DEFINITION. The gallery's FP32 instructions (R86, R88, R89).
-/
namespace Sys2Proof.Machine

namespace State

/-- An FP32 instruction with an F result: the value and whether the operation was invalid, which sets FPINV when it
lands (R88, R89). -/
def fpF (g : Nat) (d : BitVec 4) (reads : List (BitVec 5)) (f : Core → Word × Bool) (s : State) : State :=
  s.issue g false reads false (fun s =>
    let r := f (s.coreOf g)
    (s.produceF g 4 d r.1 (if r.2 then some 9 else none), .seq))

/-- An FP32 instruction with a scalar result (R88, R89). -/
def fpG (g : Nat) (r : BitVec 5) (f : Core → Word × Bool) (s : State) : State :=
  s.issue g false [] false (fun s =>
    let v := f (s.coreOf g)
    (s.produceG g 4 r v.1 (if v.2 then some 9 else none), .seq))

/-- FDIV and FSQRT: the unit is busy for the whole latency (R89). -/
def fpDiv (g lat : Nat) (d : BitVec 4) (f : Core → Word × Bool) (s : State) : State :=
  s.issue g false [] true (fun s =>
    let r := f (s.coreOf g)
    let s := s.produceF g lat d r.1 (if r.2 then some 9 else none)
    let c := s.coreOf g
    (s.putCore g { c with divBusy := c.cyc + lat }, .seq))

end State

/-- FADD (R88). -/
def execFadd (g : Nat) (d a b : BitVec 4) (s : State) : Host.Outcome State Fault Refusal :=
  onGal g (State.fpF g d [] (fun c => f32Add (c.f a) (c.f b))) s

/-- FSUB (R88). -/
def execFsub (g : Nat) (d a b : BitVec 4) (s : State) : Host.Outcome State Fault Refusal :=
  onGal g (State.fpF g d [] (fun c => f32Sub (c.f a) (c.f b))) s

/-- FMUL (R88). -/
def execFmul (g : Nat) (d a b : BitVec 4) (s : State) : Host.Outcome State Fault Refusal :=
  onGal g (State.fpF g d [] (fun c => f32Mul (c.f a) (c.f b))) s

/-- FMA: Fd += Fa × Fb (R86, R88; one rounding, log entry 22). -/
def execFma (g : Nat) (d a b : BitVec 4) (s : State) : Host.Outcome State Fault Refusal :=
  onGal g (State.fpF g d [] (fun c => f32Fma (c.f d) (c.f a) (c.f b))) s

/-- FDIV (R88, R89). -/
def execFdiv (g : Nat) (d a b : BitVec 4) (s : State) : Host.Outcome State Fault Refusal :=
  onGal g (State.fpDiv g 12 d (fun c => f32Div (c.f a) (c.f b))) s

/-- FSQRT (R88, R89). -/
def execFsqrt (g : Nat) (d a : BitVec 4) (s : State) : Host.Outcome State Fault Refusal :=
  onGal g (State.fpDiv g 14 d (fun c => f32Sqrt (c.f a))) s

/-- FMIN (R88). -/
def execFmin (g : Nat) (d a b : BitVec 4) (s : State) : Host.Outcome State Fault Refusal :=
  onGal g (State.fpF g d [] (fun c => f32MinMax false (c.f a) (c.f b))) s

/-- FMAX (R88). -/
def execFmax (g : Nat) (d a b : BitVec 4) (s : State) : Host.Outcome State Fault Refusal :=
  onGal g (State.fpF g d [] (fun c => f32MinMax true (c.f a) (c.f b))) s

/-- FABS (R88). -/
def execFabs (g : Nat) (d a : BitVec 4) (s : State) : Host.Outcome State Fault Refusal :=
  onGal g (State.fpF g d [] (fun c => f32Abs (c.f a))) s

/-- FNEG (R88). -/
def execFneg (g : Nat) (d a : BitVec 4) (s : State) : Host.Outcome State Fault Refusal :=
  onGal g (State.fpF g d [] (fun c => f32Neg (c.f a))) s

/-- FCMPLT (R88). -/
def execFcmplt (g : Nat) (r : BitVec 5) (a b : BitVec 4) (s : State) : Host.Outcome State Fault Refusal :=
  onGal g (State.fpG g r (fun c => f32CmpLt (c.f a) (c.f b))) s

/-- FTOQ (R88). -/
def execFtoq (g : Nat) (r : BitVec 5) (a : BitVec 4) (s : State) : Host.Outcome State Fault Refusal :=
  onGal g (State.fpG g r (fun c => f32ToInt 31 (c.f a))) s

/-- FTOI (R88). -/
def execFtoi (g : Nat) (r : BitVec 5) (a : BitVec 4) (s : State) : Host.Outcome State Fault Refusal :=
  onGal g (State.fpG g r (fun c => f32ToInt 0 (c.f a))) s

/-- FMVG (R88). -/
def execFmvg (g : Nat) (r : BitVec 5) (a : BitVec 4) (s : State) : Host.Outcome State Fault Refusal :=
  onGal g (State.fpG g r (fun c => (c.f a, false))) s

/-- QTOF (R88). -/
def execQtof (g : Nat) (d : BitVec 4) (r : BitVec 5) (s : State) : Host.Outcome State Fault Refusal :=
  onGal g (State.fpF g d [r] (fun c => (f32OfInt 31 (c.g r), false))) s

/-- ITOF (R88). -/
def execItof (g : Nat) (d : BitVec 4) (r : BitVec 5) (s : State) : Host.Outcome State Fault Refusal :=
  onGal g (State.fpF g d [r] (fun c => (f32OfInt 0 (c.g r), false))) s

/-- GMVF (R88). -/
def execGmvf (g : Nat) (d : BitVec 4) (r : BitVec 5) (s : State) : Host.Outcome State Fault Refusal :=
  onGal g (State.fpF g d [r] (fun c => (c.g r, false))) s

end Sys2Proof.Machine
end

