-- ==== Sys2Proof/Machine/HostRows.lean ====
section
/-!
DEFINITION. The commands of register access (R42-R58), the endpoint's resets (R65), the SPI host port (R69-R71), returning
credits (R26) and mirrored register writes (R287).
-/
namespace Sys2Proof.Machine

/-- BAR0 offset of a page (R42). -/
def bar0Of (p : Nat) : Nat :=
  match bar0Runs.find? fun r => decide (r.2.2 ≤ p ∧ p < r.2.2 + r.2.1) with
  | some r => (r.1 + (p - r.2.2)) * 0x1000
  | none => 0

namespace State

/-! ### Accesses that reach no register -/

/-- An access to a hole (R43) or to an absent page (R44): what it leaves is that of every access there. -/
def outside (req addr : Nat) (write : Bool) (s : State) : State :=
  match s.reach req addr (if write then .write else .read) with
  | (none, t) => if write then t else t.answer req 0
  | (some _, _) => s

/-- An access of a wrong width or alignment (R46). -/
def misalignedRow (req addr bytes : Nat) (write : Bool) (s : State) : State :=
  if (bytes = 4 ∧ addr % 4 = 0) ∨ (bytes = 8 ∧ addr % 8 = 0) ∨ bar2Of addr ≠ none then s
  else
    let s := s.misaligned req addr write
    if write then s else s.answer req 0

/-- A read that its block does not answer in time (R50). -/
def readLate (req addr : Nat) (s : State) : State :=
  match s.reach req addr .read with
  | (none, s) => s.answer req 0
  | (some p, s) => (((s.dropSnaps req).raiseFlt p 5).hostFlt 5).answer req 0

/-! ### The SPI host port (R69-R71) -/

/-- A page has its interrupt pending and a vector that is not 0xFF (R56, R57, R69). -/
def irqPending (s : State) : Bool :=
  (List.range 171).any fun p => s.variant.present p && s.fld (HOST.IVEC (p / 4)) (p % 4 * 8 + 7) (p % 4 * 8) != 0xFF
    && (s.rd (HDR.FLT p) &&& s.rd (HDR.FLTEN p) != 0 || s.rd (HDR.EVT p) &&& (s.rd (HDR.EVT p) >>> 16) &&& 0xFFFF != 0)

/-- What the port drives in a frame, and what its status says of the frame: refused, CRC error. -/
def spiFrame (out : List Byte) (refused crcErr : Bool) (s : State) : State :=
  { s with host := { s.host with spiOut := out, spiRefused := refused, spiCrcErr := crcErr } }

/-- HOST.SPICFG.CRC. -/
def spiCrc (s : State) : Bool := s.bit HOST.SPICFG 0

/-- First address of a window as register accesses number it, and its size: BAR0, or BAR2. -/
def spiBase (bar2 : Bool) : Nat := if bar2 then 0x4000000 else 0
def spiSize (bar2 : Bool) : Nat := if bar2 then 0x4000000 else 0x1000000

/-- `n` words of a read frame from window offset `off` (R70): the words, and the state after them. -/
def spiWords (bar2 : Bool) : (n off : Nat) → State → List Word × State
  | 0, _, s => ([], s)
  | n + 1, off, s =>
    let (w, s) := if off + 4 ≤ spiSize bar2 then s.wordRead 0 (spiBase bar2 + off) else (0, s.hostFlt 1)
    let (ws, s) := spiWords bar2 n (off + 4) s
    (w :: ws, s)

/-- The frame ends in the middle of a word (R70). -/
def spiTail (tail : Bool) (s : State) : State := if tail then s.hostFlt 0 else s

/-- A read frame (R69-R71): every word after its token, least significant byte first; with CRC on, the data's CRC follows,
most significant byte first. -/
def spiRead (bar2 : Bool) (addr words : Nat) (tail : Bool) (s : State) : State :=
  if s.powered = false then s
  else
    let r := s.spiWords bar2 words (addr % 0x4000000)
    let c := crc16 (bytesOf r.1)
    let out := r.1.flatMap (fun w => 0xA5 :: leBytes 4 w.toNat)
      ++ (if s.spiCrc = true ∧ tail = false then [(c >>> 8).setWidth 8, c.setWidth 8] else [])
    (r.2.spiTail tail).spiFrame out false false

/-- The words of a write frame act in order (R69, R70). -/
def spiStore (bar2 : Bool) : (off : Nat) → List Word → State → State
  | _, [], s => s
  | off, w :: t, s =>
    spiStore bar2 (off + 4) t (if off + 4 ≤ spiSize bar2 then s.wordWrite 0 (spiBase bar2 + off) w else s.hostFlt 1)

/-- The opcode of a write frame (R69). -/
def spiOpcode (bar2 : Bool) : Byte := if bar2 then 0x12 else 0x02

/-- The bytes that a write frame's CRC covers (R71). -/
def spiCovered (bar2 : Bool) (addr : Nat) (data : List Word) : List Byte :=
  spiOpcode bar2 :: (leBytes 4 addr).reverse ++ bytesOf data

/-- A write frame (R69-R71). -/
def spiWrite (bar2 : Bool) (addr : Nat) (data : List Word) (tail : Bool) (crc : BitVec 16) (s : State) : State :=
  let off := addr % 0x4000000
  if s.powered = false then s
  else if s.spiCrc = false then ((s.spiStore bar2 off data).spiTail tail).spiFrame [] false false
  else if data.length * 4 + (if tail then 1 else 0) > 256 then (s.hostFlt 1).spiFrame [0xEE] true false
  else if crc ≠ crc16 (spiCovered bar2 addr data) then s.spiFrame [0xEE] false true
  else ((s.spiStore bar2 off data).spiTail tail).spiFrame [0xA5] false false

/-- The status byte (R69). -/
def spiStatusByte (s : State) : Byte :=
  BitVec.ofNat 8 (b01 s.irqPending + 2 * b01 s.host.spiRefused + 4 * b01 s.host.spiCrcErr
    + 8 * b01 (s.rd HOST.WAKECAUSE != 0))

/-! ### Credits (R26) -/

/-- The landing is one that the variant builds. -/
def hasLanding (v : Variant) (l : Landing) : Bool :=
  match l with
  | .sample g => decide (g < v.galleries)
  | .setpoint g => decide (g < v.galleries)
  | .edge r => decide (r < v.rings)
  | .force r => decide (r < v.rings)
  | .trace g => decide (g < v.galleries)
  | .mailbox k => decide (k < v.halls)
  | .acquisition => v.acq
  | .store p => decide (p < v.stores)
  | _ => true

/-- The oldest record that waits in a page's slot crosses the recorder landing (R28). -/
def recResume (s : State) : State :=
  match s.recd.slots with
  | [] => s
  | (p, ws) :: t =>
    let s := { s with recd := { s.recd with slots := t } }
    let r := s.submit 0 p (ws.headD 0) (ws.drop 1)
    if r.2 then r.1.noteLost else r.1

/-- A credit reaches its producer, which sends what has waited for it (R26, R28). -/
def creditReturn (l : Landing) (p : Nat) (s : State) : State :=
  let s := s.creditHome l p
  match l with
  | .setpoint g => s.setpointResume g p
  | .stairwell => s.stwResume
  | .recorder => if p = 0 then s.recResume else s
  | .store _ => s.storePump
  | .acquisition => s.storePump
  | _ => s

/-- A mirrored write of an AXIS register arrives (R287): it acts on the page of an axis that this device does not own. -/
def mirrorReg (off a : Nat) (wide : Bool) (v : Word64) (s : State) : State :=
  if s.bit STW.OWN a = true ∨ s.booted = false then s
  else if wide then s.pageWrite64 63 (regAt (pgAXIS a) (off % 0x1000)) v
  else s.pageWrite32 63 (regAt (pgAXIS a) (off % 0x1000)) (loWord v)

/-- A row about a register access of a requester. -/
def onReq (s : State) (req : Nat) (t : State) : Host.Outcome State Fault Refusal := onUnit (s.variant.requester req) t

end State

/-- REGISTER_WRITE (R45, R46, R48). -/
def execRegisterWrite (req addr : Nat) (wide : Bool) (v : Word64) (s : State) : Host.Outcome State Fault Refusal :=
  s.onReq req (s.busWrite req addr wide v)

/-- RC_READ (R45, R47). -/
def execRcRead (req addr : Nat) (s : State) : Host.Outcome State Fault Refusal :=
  let r := s.wordRead req addr
  s.onReq req (r.2.answer req (r.1.setWidth 64))

/-- SNAPSHOT_LOW_READ (R49). -/
def execSnapshotLowRead (req addr : Nat) (s : State) : Host.Outcome State Fault Refusal :=
  let r := s.wordRead req addr
  s.onReq req (r.2.answer req (r.1.setWidth 64))

/-- SNAPSHOT_LOW_WRITE (R49). -/
def execSnapshotLowWrite (req addr : Nat) (v : Word) (s : State) : Host.Outcome State Fault Refusal :=
  s.onReq req (s.wordWrite req addr v)

/-- SNAPSHOT_HIGH_WRITE (R49). -/
def execSnapshotHighWrite (req addr : Nat) (v : Word) (s : State) : Host.Outcome State Fault Refusal :=
  s.onReq req (s.wordWrite req addr v)

/-- HOLE_ACCESS (R43). -/
def execHoleAccess (req addr : Nat) (write : Bool) (s : State) : Host.Outcome State Fault Refusal :=
  s.onReq req (if bar0Page addr = none ∧ State.bar2Of addr = none then s.outside req addr write else s)

/-- ABSENT_PAGE_ACCESS (R44). -/
def execAbsentPageAccess (req addr : Nat) (write : Bool) (s : State) : Host.Outcome State Fault Refusal :=
  s.onReq req (match bar0Page addr with
    | some p => if s.variant.present p then s else s.outside req addr write
    | none => s)

/-- MISALIGNED_ACCESS (R46). -/
def execMisalignedAccess (req addr bytes : Nat) (write : Bool) (s : State) : Host.Outcome State Fault Refusal :=
  s.onReq req (s.misalignedRow req addr bytes write)

/-- READ_TIMEOUT (R50). -/
def execReadTimeout (req addr : Nat) (s : State) : Host.Outcome State Fault Refusal :=
  s.onReq req (s.readLate req addr)

/-- CTL_FRESET (R54): the other fields of CTL are written as they are. -/
def execCtlFreset (req page : Nat) (s : State) : Host.Outcome State Fault Refusal :=
  onUnit (s.variant.requester req && s.variant.present page)
    (s.bar0Write req (bar0Of page + 0x0C) false (((s.rd (HDR.CTL page) &&& 0x31) ||| 2).setWidth 64))

/-- FRESET_COMPLETE (R54). -/
def execFresetComplete (page : Nat) (s : State) : Host.Outcome State Fault Refusal :=
  onUnit (s.variant.present page) (s.fresetEnd page)

/-- VER_ACTIVE_WRITE (R53). -/
def execVerActiveWrite (req page : Nat) (v : BitVec 8) (s : State) : Host.Outcome State Fault Refusal :=
  onUnit (s.variant.requester req && s.variant.present page)
    (s.bar0Write req (bar0Of page + 0x04) false (BitVec.ofNat 64 (v.toNat * 65536)))

/-- LOCK_WRITE (R58). -/
def execLockWrite (req page : Nat) (v : Word) (s : State) : Host.Outcome State Fault Refusal :=
  onUnit (s.variant.requester req && s.variant.present page)
    (s.bar0Write req (bar0Of page + 0x20) false (v.setWidth 64))

/-- FUNCTION_LEVEL_RESET (R65). -/
def execFunctionLevelReset (s : State) : Host.Outcome State Fault Refusal := .next s.endpointReset

/-- HOT_RESET (R65). -/
def execHotReset (s : State) : Host.Outcome State Fault Refusal := .next s.endpointReset

/-- LINK_DOWN_RESET (R65). -/
def execLinkDownReset (s : State) : Host.Outcome State Fault Refusal := .next s.endpointReset

/-- SPI_READ_BAR0 (R69-R71). -/
def execSpiReadBar0 (addr words : Nat) (tail : Bool) (s : State) : Host.Outcome State Fault Refusal :=
  .next (s.spiRead false addr words tail)

/-- SPI_READ_BAR2 (R66, R67, R69-R71). -/
def execSpiReadBar2 (addr words : Nat) (tail : Bool) (s : State) : Host.Outcome State Fault Refusal :=
  .next (s.spiRead true addr words tail)

/-- SPI_WRITE_BAR0 (R69-R71). -/
def execSpiWriteBar0 (addr : Nat) (data : List Word) (tail : Bool) (crc : BitVec 16) (s : State) :
    Host.Outcome State Fault Refusal := .next (s.spiWrite false addr data tail crc)

/-- SPI_WRITE_BAR2 (R66, R67, R69-R71). -/
def execSpiWriteBar2 (addr : Nat) (data : List Word) (tail : Bool) (crc : BitVec 16) (s : State) :
    Host.Outcome State Fault Refusal := .next (s.spiWrite true addr data tail crc)

/-- SPI_STATUS (R69): it changes nothing but what the port drives. -/
def execSpiStatus (s : State) : Host.Outcome State Fault Refusal :=
  .next (if s.powered then { s with host := { s.host with spiOut := [s.spiStatusByte] } } else s)

/-- SPI_WORD_TIMEOUT (R70): 0xEE, then 0x00 for the rest of the frame. -/
def execSpiWordTimeout (s : State) : Host.Outcome State Fault Refusal :=
  .next (if s.powered then (s.hostFlt 5).spiFrame [0xEE] false false else s)

/-- CREDIT_RETURN (R26, R28). -/
def execCreditReturn (l : Landing) (producer : Nat) (s : State) : Host.Outcome State Fault Refusal :=
  onUnit (State.hasLanding s.variant l) (s.creditReturn l producer)

/-- MIRROR_REG (R287). -/
def execMirrorReg (off a : Nat) (wide : Bool) (v : Word64) (s : State) : Host.Outcome State Fault Refusal :=
  onUnit (decide (a < s.variant.axes)) (s.mirrorReg off a wide v)

end Sys2Proof.Machine
end

