-- ==== Sys2Proof/Machine/Mac.lean ====
section
/-!
DEFINITION. The gallery's MAC unit and accumulators (R89, R97, R106-R108).
-/
namespace Sys2Proof.Machine

/-- The product of a MAC lane (R106). -/
def macProduct (fr : Bool) (x y : Word) : Int :=
  if fr then
    if x = 0x80000000 ∧ y = 0x80000000 then 2 ^ 63 - 1 else 2 * (x.toInt * y.toInt)
  else x.toInt * y.toInt

/-- An accumulator after `p` is added (R107): the nearer limit and the lock bit where the range is left, nothing while
it is locked.  Answers whether it saturated. -/
def accAdd (a : AccVal) (p : Int) : AccVal × Bool :=
  if a.lock then (a, false)
  else
    let t := a.v.toInt + p
    if t < sMin 72 ∨ t > sMax 72 then ({ v := satInt 72 t, lock := true }, true)
    else ({ v := BitVec.ofInt 72 t, lock := false }, false)

/-- G sign-extended and shifted left by N, at the nearer limit where it does not fit (R107). -/
def aldValue (x : Word) (n : Nat) : AccVal × Bool := accAdd {} (x.toInt * 2 ^ n)

/-- The accumulator shifted right by N, rounded where asked, before saturation (R108). -/
def asatShift (v : BitVec 72) (n : Nat) (round : Bool) : Int :=
  (v.toInt + (if round ∧ n ≥ 1 then 2 ^ (n - 1) else 0)) / 2 ^ n

namespace State

/-- Accumulator `i` as its landed results left it (R89, R107). -/
def accOf (s : State) (g i : Nat) : AccVal :=
  { v := Tab.get 0 (s.coreOf g).acc i, lock := s.bit (GAL.ASTAT g) (16 + i) }

/-- Accumulator `i` as a MAC finds it: the newest MAC in flight chains (R89, log entry 21). -/
def accChained (s : State) (g i : Nat) : AccVal :=
  match Tab.find (s.coreOf g).chain i with
  | some (_, a) => a
  | none => s.accOf g i

/-- An accumulator's result in flight. -/
def produceA (g lat i : Nat) (r : AccVal × Bool) (mac : Bool) (s : State) : State :=
  s.produce g lat
    { due := 0, seq := 0, dest := .a i, words := [], acc := r.1, note := if r.2 then some i else none, mac := mac }

/-- A MAC of the sum `p` into accumulator `i` (R89, R106, R107). -/
def mac (g i : Nat) (p : Int) (s : State) : State :=
  let r := accAdd (s.accChained g i) p
  let s := s.produceA g 4 i r true
  let c := s.coreOf g
  s.putCore g { c with chain := Tab.put c.chain i (c.seq, r.1) }

/-- The sum of the products of the masked lanes (R106). -/
def dot (s : State) (g : Nat) (fr : Bool) (a b : BitVec 4) (mask : BitVec 8) : Int :=
  let c := s.coreOf g
  (bitsOf 8 mask.toNat).foldl (fun t i => t + macProduct fr (c.lane a i) (c.lane b i)) 0

/-- ASAT and ASATT (R89, R108). -/
def asatStep (g : Nat) (a : BitVec 3) (r : BitVec 5) (n : BitVec 6) (round : Bool) (s : State) : State :=
  let v := asatShift (s.accOf g a.toNat).v n.toNat round
  s.produceG g 2 r (satInt 32 v) (if v < sMin 32 ∨ v > sMax 32 then some 8 else none)

/-- APUTL, APUTM and APUTH (R89, R97). -/
def aputStep (g part : Nat) (a : BitVec 3) (r : BitVec 5) (s : State) : State :=
  s.produce g 2 { due := 0, seq := 0, dest := .aput a.toNat part, words := [(s.coreOf g).g r] }

end State

/-- SMAC (R106). -/
def execSmac (g : Nat) (fr : Bool) (ad : BitVec 3) (a b : BitVec 5) (s : State) : Host.Outcome State Fault Refusal :=
  onGal g (State.issue g false [a, b] false (fun s =>
    (s.mac g ad.toNat (macProduct fr ((s.coreOf g).g a) ((s.coreOf g).g b)), .seq))) s

/-- SMSU (R106). -/
def execSmsu (g : Nat) (fr : Bool) (ad : BitVec 3) (a b : BitVec 5) (s : State) : Host.Outcome State Fault Refusal :=
  onGal g (State.issue g false [a, b] false (fun s =>
    (s.mac g ad.toNat (-macProduct fr ((s.coreOf g).g a) ((s.coreOf g).g b)), .seq))) s

/-- VDOT (R106). -/
def execVdot (g : Nat) (fr : Bool) (ad : BitVec 3) (a b : BitVec 4) (mask : BitVec 8) (s : State) :
    Host.Outcome State Fault Refusal :=
  onGal g (State.issue g false [] false (fun s => (s.mac g ad.toNat (s.dot g fr a b mask), .seq))) s

/-- VDOTN (R106). -/
def execVdotn (g : Nat) (fr : Bool) (ad : BitVec 3) (a b : BitVec 4) (mask : BitVec 8) (s : State) :
    Host.Outcome State Fault Refusal :=
  onGal g (State.issue g false [] false (fun s => (s.mac g ad.toNat (-s.dot g fr a b mask), .seq))) s

/-- AZERO: the accumulator and its lock bit cleared (R89, R107). -/
def execAzero (g : Nat) (a : BitVec 3) (s : State) : Host.Outcome State Fault Refusal :=
  onGal g (State.issue g false [] false (fun s => (s.produceA g 2 a.toNat ({}, false) false, .seq))) s

/-- ALD (R89, R107). -/
def execAld (g : Nat) (a : BitVec 3) (r : BitVec 5) (n : BitVec 6) (s : State) : Host.Outcome State Fault Refusal :=
  onGal g (State.issue g false [r] false (fun s =>
    (s.produceA g 2 a.toNat (aldValue ((s.coreOf g).g r) n.toNat) false, .seq))) s

/-- ASAT (R108). -/
def execAsat (g : Nat) (a : BitVec 3) (r : BitVec 5) (n : BitVec 6) (s : State) : Host.Outcome State Fault Refusal :=
  onGal g (State.issue g false [] false (fun s => (s.asatStep g a r n true, .seq))) s

/-- ASATT (R108). -/
def execAsatt (g : Nat) (a : BitVec 3) (r : BitVec 5) (n : BitVec 6) (s : State) : Host.Outcome State Fault Refusal :=
  onGal g (State.issue g false [] false (fun s => (s.asatStep g a r n false, .seq))) s

/-- AGETL: bits [31:0] (R97). -/
def execAgetl (g : Nat) (a : BitVec 3) (r : BitVec 5) (s : State) : Host.Outcome State Fault Refusal :=
  onGal g (State.issue g false [] false (fun s =>
    (s.produceG g 2 r ((s.accOf g a.toNat).v.setWidth 32) none, .seq))) s

/-- AGETM: bits [63:32] (R97). -/
def execAgetm (g : Nat) (a : BitVec 3) (r : BitVec 5) (s : State) : Host.Outcome State Fault Refusal :=
  onGal g (State.issue g false [] false (fun s =>
    (s.produceG g 2 r (((s.accOf g a.toNat).v >>> 32).setWidth 32) none, .seq))) s

/-- AGETH: the guard bits in [7:0] and the lock bit in [8] (R97). -/
def execAgeth (g : Nat) (a : BitVec 3) (r : BitVec 5) (s : State) : Host.Outcome State Fault Refusal :=
  onGal g (State.issue g false [] false (fun s =>
    let x := s.accOf g a.toNat
    (s.produceG g 2 r (BitVec.ofNat 32 (wfld x.v 71 64 + 256 * b01 x.lock)) none, .seq))) s

/-- APUTL (R97). -/
def execAputl (g : Nat) (a : BitVec 3) (r : BitVec 5) (s : State) : Host.Outcome State Fault Refusal :=
  onGal g (State.issue g false [r] false (fun s => (s.aputStep g 0 a r, .seq))) s

/-- APUTM (R97). -/
def execAputm (g : Nat) (a : BitVec 3) (r : BitVec 5) (s : State) : Host.Outcome State Fault Refusal :=
  onGal g (State.issue g false [r] false (fun s => (s.aputStep g 1 a r, .seq))) s

/-- APUTH (R97, R107). -/
def execAputh (g : Nat) (a : BitVec 3) (r : BitVec 5) (s : State) : Host.Outcome State Fault Refusal :=
  onGal g (State.issue g false [r] false (fun s => (s.aputStep g 2 a r, .seq))) s

end Sys2Proof.Machine
end

