-- ==== Sys2Proof/Machine/Dispatch.lean ====
section
/-!
DEFINITION. The meaning of every command: one arm per constructor of `Instr`.
-/
namespace Sys2Proof.Machine

/-- The effect of a command on everything but the queue of waiting commands. -/
def exec (i : Instr) (s : State) : Host.Outcome State Fault Refusal :=
  match i with
  -- host
  | .registerWrite req addr wide v => Sys2Proof.Machine.execRegisterWrite req addr wide v s
  | .rcRead req addr => Sys2Proof.Machine.execRcRead req addr s
  | .snapshotLowRead req addr => Sys2Proof.Machine.execSnapshotLowRead req addr s
  | .snapshotLowWrite req addr v => Sys2Proof.Machine.execSnapshotLowWrite req addr v s
  | .snapshotHighWrite req addr v => Sys2Proof.Machine.execSnapshotHighWrite req addr v s
  | .holeAccess req addr write => Sys2Proof.Machine.execHoleAccess req addr write s
  | .absentPageAccess req addr write => Sys2Proof.Machine.execAbsentPageAccess req addr write s
  | .misalignedAccess req addr bytes write => Sys2Proof.Machine.execMisalignedAccess req addr bytes write s
  | .readTimeout req addr => Sys2Proof.Machine.execReadTimeout req addr s
  | .ctlFreset req page => Sys2Proof.Machine.execCtlFreset req page s
  | .fresetComplete page => Sys2Proof.Machine.execFresetComplete page s
  | .verActiveWrite req page v => Sys2Proof.Machine.execVerActiveWrite req page v s
  | .lockWrite req page v => Sys2Proof.Machine.execLockWrite req page v s
  | .functionLevelReset => Sys2Proof.Machine.execFunctionLevelReset s
  | .hotReset => Sys2Proof.Machine.execHotReset s
  | .linkDownReset => Sys2Proof.Machine.execLinkDownReset s
  | .spiReadBar0 addr words tail => Sys2Proof.Machine.execSpiReadBar0 addr words tail s
  | .spiReadBar2 addr words tail => Sys2Proof.Machine.execSpiReadBar2 addr words tail s
  | .spiWriteBar0 addr data tail crc => Sys2Proof.Machine.execSpiWriteBar0 addr data tail crc s
  | .spiWriteBar2 addr data tail crc => Sys2Proof.Machine.execSpiWriteBar2 addr data tail crc s
  | .spiStatus => Sys2Proof.Machine.execSpiStatus s
  | .spiWordTimeout => Sys2Proof.Machine.execSpiWordTimeout s
  | .cctlRun req ch hostIn => Sys2Proof.Machine.execCctlRun req ch hostIn s
  | .cctlAbort req ch moved => Sys2Proof.Machine.execCctlAbort req ch moved s
  | .descriptorDone ch hostIn => Sys2Proof.Machine.execDescriptorDone ch hostIn s
  | .hostCompletionTimeout ch => Sys2Proof.Machine.execHostCompletionTimeout ch s
  | .wakeCause cause env => Sys2Proof.Machine.execWakeCause cause env s
  | .wakecauseRead => Sys2Proof.Machine.execWakecauseRead s
  | .warmReset env => Sys2Proof.Machine.execWarmReset env s
  | .powerCycle => Sys2Proof.Machine.execPowerCycle s
  -- landings
  | .creditReturn l producer => Sys2Proof.Machine.execCreditReturn l producer s
  | .sampleUnitArrival g producer u => Sys2Proof.Machine.execSampleUnitArrival g producer u s
  | .setpointUnitArrival g core u => Sys2Proof.Machine.execSetpointUnitArrival g core u s
  | .fastClockRequest g => Sys2Proof.Machine.execFastClockRequest g s
  -- gallery
  | .treadDispatch g slot lib => Sys2Proof.Machine.execTreadDispatch g slot lib s
  | .interruptEntry g => Sys2Proof.Machine.execInterruptEntry g s
  | .trapEntry g c xaddr => Sys2Proof.Machine.execTrapEntry g c xaddr s
  | .budgetExpiry g => Sys2Proof.Machine.execBudgetExpiry g s
  | .fetchUe g => Sys2Proof.Machine.execFetchUe g s
  | .sampleDeadline g => Sys2Proof.Machine.execSampleDeadline g s
  | .doorbell g => Sys2Proof.Machine.execDoorbell g s
  | .localTimer g => Sys2Proof.Machine.execLocalTimer g s
  | .schctlCommit g => Sys2Proof.Machine.execSchctlCommit g s
  | .schctlAbort g => Sys2Proof.Machine.execSchctlAbort g s
  | .scheduleCommitDone g => Sys2Proof.Machine.execScheduleCommitDone g s
  | .coefwWrite g v => Sys2Proof.Machine.execCoefwWrite g v s
  | .trctlArm g => Sys2Proof.Machine.execTrctlArm g s
  | .trctlStop g => Sys2Proof.Machine.execTrctlStop g s
  | .suptripClear g => Sys2Proof.Machine.execSuptripClear g s
  | .supervisorTrip g slot => Sys2Proof.Machine.execSupervisorTrip g slot s
  -- gallery instructions
  | .nop g => Sys2Proof.Machine.execNop g s
  | .b g c gc off => Sys2Proof.Machine.execB g c gc off s
  | .call g off => Sys2Proof.Machine.execCall g off s
  | .ret g => Sys2Proof.Machine.execRet g s
  | .reti g => Sys2Proof.Machine.execReti g s
  | .retx g => Sys2Proof.Machine.execRetx g s
  | .loop g l gc off => Sys2Proof.Machine.execLoop g l gc off s
  | .loopi g l count off => Sys2Proof.Machine.execLoopi g l count off s
  | .lexit g l => Sys2Proof.Machine.execLexit g l s
  | .endt g => Sys2Proof.Machine.execEndt g s
  | .waiti g nextDispatchNs => Sys2Proof.Machine.execWaiti g nextDispatchNs s
  | .sync g => Sys2Proof.Machine.execSync g s
  | .trap g code => Sys2Proof.Machine.execTrap g code s
  | .sevt g => Sys2Proof.Machine.execSevt g s
  | .add g d a y => Sys2Proof.Machine.execAdd g d a y s
  | .sub g d a y => Sys2Proof.Machine.execSub g d a y s
  | .adds g d a y => Sys2Proof.Machine.execAdds g d a y s
  | .subs g d a y => Sys2Proof.Machine.execSubs g d a y s
  | .and g d a y => Sys2Proof.Machine.execAnd g d a y s
  | .or g d a y => Sys2Proof.Machine.execOr g d a y s
  | .xor g d a y => Sys2Proof.Machine.execXor g d a y s
  | .shl g d a y => Sys2Proof.Machine.execShl g d a y s
  | .shr g d a y => Sys2Proof.Machine.execShr g d a y s
  | .sar g d a y => Sys2Proof.Machine.execSar g d a y s
  | .mul g d a y => Sys2Proof.Machine.execMul g d a y s
  | .min g d a y => Sys2Proof.Machine.execMin g d a y s
  | .max g d a y => Sys2Proof.Machine.execMax g d a y s
  | .abss g d a imm => Sys2Proof.Machine.execAbss g d a imm s
  | .slt g d a y => Sys2Proof.Machine.execSlt g d a y s
  | .sltu g d a y => Sys2Proof.Machine.execSltu g d a y s
  | .lui g d imm => Sys2Proof.Machine.execLui g d imm s
  | .lw g d b off => Sys2Proof.Machine.execLw g d b off s
  | .sw g x b off => Sys2Proof.Machine.execSw g x b off s
  | .lf g d b off => Sys2Proof.Machine.execLf g d b off s
  | .sf g x b off => Sys2Proof.Machine.execSf g x b off s
  | .mlw g d b off lat => Sys2Proof.Machine.execMlw g d b off lat s
  | .msw g x b off => Sys2Proof.Machine.execMsw g x b off s
  | .vld g d b off => Sys2Proof.Machine.execVld g d b off s
  | .vst g x b off => Sys2Proof.Machine.execVst g x b off s
  | .vbc g d b => Sys2Proof.Machine.execVbc g d b s
  | .vins g d b lane => Sys2Proof.Machine.execVins g d b lane s
  | .vext g x b lane => Sys2Proof.Machine.execVext g x b lane s
  | .smac g fr ad a b => Sys2Proof.Machine.execSmac g fr ad a b s
  | .smsu g fr ad a b => Sys2Proof.Machine.execSmsu g fr ad a b s
  | .vdot g fr ad a b mask => Sys2Proof.Machine.execVdot g fr ad a b mask s
  | .vdotn g fr ad a b mask => Sys2Proof.Machine.execVdotn g fr ad a b mask s
  | .azero g a => Sys2Proof.Machine.execAzero g a s
  | .ald g a r n => Sys2Proof.Machine.execAld g a r n s
  | .asat g a r n => Sys2Proof.Machine.execAsat g a r n s
  | .asatt g a r n => Sys2Proof.Machine.execAsatt g a r n s
  | .agetl g a r => Sys2Proof.Machine.execAgetl g a r s
  | .agetm g a r => Sys2Proof.Machine.execAgetm g a r s
  | .ageth g a r => Sys2Proof.Machine.execAgeth g a r s
  | .aputl g a r => Sys2Proof.Machine.execAputl g a r s
  | .aputm g a r => Sys2Proof.Machine.execAputm g a r s
  | .aputh g a r => Sys2Proof.Machine.execAputh g a r s
  | .fadd g d a b => Sys2Proof.Machine.execFadd g d a b s
  | .fsub g d a b => Sys2Proof.Machine.execFsub g d a b s
  | .fmul g d a b => Sys2Proof.Machine.execFmul g d a b s
  | .fma g d a b => Sys2Proof.Machine.execFma g d a b s
  | .fdiv g d a b => Sys2Proof.Machine.execFdiv g d a b s
  | .fsqrt g d a => Sys2Proof.Machine.execFsqrt g d a s
  | .fmin g d a b => Sys2Proof.Machine.execFmin g d a b s
  | .fmax g d a b => Sys2Proof.Machine.execFmax g d a b s
  | .fabs g d a => Sys2Proof.Machine.execFabs g d a s
  | .fneg g d a => Sys2Proof.Machine.execFneg g d a s
  | .fcmplt g r a b => Sys2Proof.Machine.execFcmplt g r a b s
  | .ftoq g r a => Sys2Proof.Machine.execFtoq g r a s
  | .qtof g d r => Sys2Proof.Machine.execQtof g d r s
  | .ftoi g r a => Sys2Proof.Machine.execFtoi g r a s
  | .itof g d r => Sys2Proof.Machine.execItof g d r s
  | .fmvg g r a => Sys2Proof.Machine.execFmvg g r a s
  | .gmvf g d r => Sys2Proof.Machine.execGmvf g d r s
  | .sinitmax g r => Sys2Proof.Machine.execSinitmax g r s
  | .sinitmin g r => Sys2Proof.Machine.execSinitmin g r s
  | .sstep g x lanes => Sys2Proof.Machine.execSstep g x lanes s
  | .sget g r => Sys2Proof.Machine.execSget g r s
  | .sgeti g r => Sys2Proof.Machine.execSgeti g r s
  | .swait g a b => Sys2Proof.Machine.execSwait g a b s
  | .ldsp g a b => Sys2Proof.Machine.execLdsp g a b s
  | .pcommit g a b => Sys2Proof.Machine.execPcommit g a b s
  | .obsr g a b => Sys2Proof.Machine.execObsr g a b s
  | .trcap g => Sys2Proof.Machine.execTrcap g s
  | .mfs g r n => Sys2Proof.Machine.execMfs g r n s
  | .mts g r n => Sys2Proof.Machine.execMts g r n s
  -- bridges
  | .bridgeTread b => Sys2Proof.Machine.execBridgeTread b s
  | .carrierStart b => Sys2Proof.Machine.execCarrierStart b s
  | .shadowWrite b v => Sys2Proof.Machine.execShadowWrite b v s
  | .forceWrite b v => Sys2Proof.Machine.execForceWrite b v s
  | .forceApply b => Sys2Proof.Machine.execForceApply b s
  | .xferctlArm b => Sys2Proof.Machine.execXferctlArm b s
  | .xferctlAbort b => Sys2Proof.Machine.execXferctlAbort b s
  | .xferBoundary b => Sys2Proof.Machine.execXferBoundary b s
  | .standstillEngage b => Sys2Proof.Machine.execStandstillEngage b s
  | .planProcess r late => Sys2Proof.Machine.execPlanProcess r late s
  -- rzl
  | .rctlStart r => Sys2Proof.Machine.execRctlStart r s
  | .rctlStop r => Sys2Proof.Machine.execRctlStop r s
  | .rctlAbort r => Sys2Proof.Machine.execRctlAbort r s
  | .rctlCalnow r => Sys2Proof.Machine.execRctlCalnow r s
  | .rctlResume r k => Sys2Proof.Machine.execRctlResume r k s
  | .ringStartTimeout r => Sys2Proof.Machine.execRingStartTimeout r s
  | .vnegOfferRepeat r => Sys2Proof.Machine.execVnegOfferRepeat r s
  | .edgeFrame r k f copies => Sys2Proof.Machine.execEdgeFrame r k f copies s
  | .sampleFrame r k f => Sys2Proof.Machine.execSampleFrame r k f s
  | .senseFrame r k f copies => Sys2Proof.Machine.execSenseFrame r k f copies s
  | .leaseRenew r k src epoch => Sys2Proof.Machine.execLeaseRenew r k src epoch s
  | .leaseHandover r k f => Sys2Proof.Machine.execLeaseHandover r k f s
  | .leaseClaim r k f => Sys2Proof.Machine.execLeaseClaim r k f s
  | .leaseRelease r k src epoch => Sys2Proof.Machine.execLeaseRelease r k src epoch s
  | .protFrame r k f => Sys2Proof.Machine.execProtFrame r k f s
  | .protPeriodic r k => Sys2Proof.Machine.execProtPeriodic r k s
  | .pcmdClear r k src epoch => Sys2Proof.Machine.execPcmdClear r k src epoch s
  | .pcmdSelftest r k src epoch mask good => Sys2Proof.Machine.execPcmdSelftest r k src epoch mask good s
  | .forceFrame r k f => Sys2Proof.Machine.execForceFrame r k f s
  | .calMark r k td acw accw => Sys2Proof.Machine.execCalMark r k td acw accw s
  | .calResult r k loop => Sys2Proof.Machine.execCalResult r k loop s
  | .vnegOffer r k lo hi => Sys2Proof.Machine.execVnegOffer r k lo hi s
  | .vnegReply r k lo hi ty cwHops => Sys2Proof.Machine.execVnegReply r k lo hi ty cwHops s
  | .vnegSelect r k ver => Sys2Proof.Machine.execVnegSelect r k ver s
  | .cfgFrame r k src idx v => Sys2Proof.Machine.execCfgFrame r k src idx v s
  | .rejectFrame r k f => Sys2Proof.Machine.execRejectFrame r k f s
  | .companionMiss r k => Sys2Proof.Machine.execCompanionMiss r k s
  | .leaseExpiry r k => Sys2Proof.Machine.execLeaseExpiry r k s
  | .renewDue r k => Sys2Proof.Machine.execRenewDue r k s
  | .partnerClaim a => Sys2Proof.Machine.execPartnerClaim a s
  | .scTrip r k mask => Sys2Proof.Machine.execScTrip r k mask s
  | .scwaitEnd r k => Sys2Proof.Machine.execScwaitEnd r k s
  | .scquietEnd r k => Sys2Proof.Machine.execScquietEnd r k s
  | .calRound r loopCw loopCcw ofs => Sys2Proof.Machine.execCalRound r loopCw loopCcw ofs s
  | .ptctlStart r => Sys2Proof.Machine.execPtctlStart r s
  | .ptctlAbort r => Sys2Proof.Machine.execPtctlAbort r s
  | .selftestTimeout r => Sys2Proof.Machine.execSelftestTimeout r s
  | .laneLockLost r port => Sys2Proof.Machine.execLaneLockLost r port s
  | .ownFramesLost r ccw => Sys2Proof.Machine.execOwnFramesLost r ccw s
  -- feedback
  | .fbcfgEnWrite n en => Sys2Proof.Machine.execFbcfgEnWrite n en s
  | .quadEdge n e => Sys2Proof.Machine.execQuadEdge n e s
  | .zEdge n => Sys2Proof.Machine.execZEdge n s
  | .hallCodeChange n code => Sys2Proof.Machine.execHallCodeChange n code s
  | .hallTimeout n => Sys2Proof.Machine.execHallTimeout n s
  | .ssiRequest n => Sys2Proof.Machine.execSsiRequest n s
  | .ssiWord n bits timedOut => Sys2Proof.Machine.execSsiWord n bits timedOut s
  | .ssiHoldExceeded n => Sys2Proof.Machine.execSsiHoldExceeded n s
  | .resolverPair n s1 c angle vel trackErr => Sys2Proof.Machine.execResolverPair n s1 c angle vel trackErr s
  | .ampcntExceeded n => Sys2Proof.Machine.execAmpcntExceeded n s
  | .auxFault n => Sys2Proof.Machine.execAuxFault n s
  | .lostClear n => Sys2Proof.Machine.execLostClear n s
  | .fbCapture n => Sys2Proof.Machine.execFbCapture n s
  | .zerotoExpiry n => Sys2Proof.Machine.execZerotoExpiry n s
  | .fbPossetWrite n v => Sys2Proof.Machine.execFbPossetWrite n v s
  | .sdmOutput k j ones => Sys2Proof.Machine.execSdmOutput k j ones s
  | .sdmStuck k j => Sys2Proof.Machine.execSdmStuck k j s
  | .latchEdge l falling => Sys2Proof.Machine.execLatchEdge l falling s
  | .larmWrite v => Sys2Proof.Machine.execLarmWrite v s
  | .emuUpdate e => Sys2Proof.Machine.execEmuUpdate e s
  -- motion
  | .setpointIssue a => Sys2Proof.Machine.execSetpointIssue a s
  | .underrunStop a => Sys2Proof.Machine.execUnderrunStop a s
  | .cmodeWrite a v => Sys2Proof.Machine.execCmodeWrite a v s
  | .mvctlStart a => Sys2Proof.Machine.execMvctlStart a s
  | .mvctlAbort a => Sys2Proof.Machine.execMvctlAbort a s
  | .mvctlRetarget a => Sys2Proof.Machine.execMvctlRetarget a s
  | .mvctlResume a => Sys2Proof.Machine.execMvctlResume a s
  | .mvctlInterp a => Sys2Proof.Machine.execMvctlInterp a s
  | .mvctlStop a => Sys2Proof.Machine.execMvctlStop a s
  | .mvctlGear a => Sys2Proof.Machine.execMvctlGear a s
  | .mvctlUngear a => Sys2Proof.Machine.execMvctlUngear a s
  | .mvctlClrstop a => Sys2Proof.Machine.execMvctlClrstop a s
  | .moveTerminal a => Sys2Proof.Machine.execMoveTerminal a s
  | .gearEngage a => Sys2Proof.Machine.execGearEngage a s
  | .gearRatioWrite a num den => Sys2Proof.Machine.execGearRatioWrite a num den s
  | .targetWrite a v => Sys2Proof.Machine.execTargetWrite a v s
  | .stopAtRest a => Sys2Proof.Machine.execStopAtRest a s
  | .stallDetect a => Sys2Proof.Machine.execStallDetect a s
  | .slipDetect a => Sys2Proof.Machine.execSlipDetect a s
  | .sensorlessTimeout a => Sys2Proof.Machine.execSensorlessTimeout a s
  | .estimateLeave a => Sys2Proof.Machine.execEstimateLeave a s
  -- route
  | .routeRctlRun => Sys2Proof.Machine.execRouteRctlRun s
  | .routeRctlStop => Sys2Proof.Machine.execRouteRctlStop s
  | .routeRctlClear => Sys2Proof.Machine.execRouteRctlClear s
  | .fcctlCommit count => Sys2Proof.Machine.execFcctlCommit count s
  | .fcctlAbort => Sys2Proof.Machine.execFcctlAbort s
  | .flightMapWrite => Sys2Proof.Machine.execFlightMapWrite s
  | .routeTick => Sys2Proof.Machine.execRouteTick s
  | .routePossetWrite v => Sys2Proof.Machine.execRoutePossetWrite v s
  -- migration
  | .mctlStart => Sys2Proof.Machine.execMctlStart s
  | .mctlAbort => Sys2Proof.Machine.execMctlAbort s
  | .migrationCopy => Sys2Proof.Machine.execMigrationCopy s
  | .migrationRelease => Sys2Proof.Machine.execMigrationRelease s
  | .galleryDead g => Sys2Proof.Machine.execGalleryDead g s
  | .emergencyMigration g => Sys2Proof.Machine.execEmergencyMigration g s
  | .migTctlStart => Sys2Proof.Machine.execMigTctlStart s
  | .migTctlAbort => Sys2Proof.Machine.execMigTctlAbort s
  | .galleryTestDone lbist mbist firstBad => Sys2Proof.Machine.execGalleryTestDone lbist mbist firstBad s
  | .sctlStart partnerOwn verAgree => Sys2Proof.Machine.execSctlStart partnerOwn verAgree s
  | .sctlStop => Sys2Proof.Machine.execSctlStop s
  | .sctlHandover => Sys2Proof.Machine.execSctlHandover s
  | .sctlAbort => Sys2Proof.Machine.execSctlAbort s
  | .sctlResync => Sys2Proof.Machine.execSctlResync s
  | .stateCopyDone => Sys2Proof.Machine.execStateCopyDone s
  | .heartbeat epoch stw mode owned lt => Sys2Proof.Machine.execHeartbeat epoch stw mode owned lt s
  | .heartbeatSend => Sys2Proof.Machine.execHeartbeatSend s
  | .mirrorSp u => Sys2Proof.Machine.execMirrorSp u s
  | .mirrorReg off a wide v => Sys2Proof.Machine.execMirrorReg off a wide v s
  | .stateFrame b coef off tread data => Sys2Proof.Machine.execStateFrame b coef off tread data s
  | .epochFrame epoch => Sys2Proof.Machine.execEpochFrame epoch s
  | .hoReq axes switch => Sys2Proof.Machine.execHoReq axes switch s
  | .hoAck axes accepted epoch => Sys2Proof.Machine.execHoAck axes accepted epoch s
  | .stairwellDown alive => Sys2Proof.Machine.execStairwellDown alive s
  | .partnerSilent => Sys2Proof.Machine.execPartnerSilent s
  | .driftResync b => Sys2Proof.Machine.execDriftResync b s
  -- newel and hall
  | .newelRelease env => Sys2Proof.Machine.execNewelRelease env s
  | .configCopyRewrite => Sys2Proof.Machine.execConfigCopyRewrite s
  | .newelRecov off valid => Sys2Proof.Machine.execNewelRecov off valid s
  | .unknownCall core code seq => Sys2Proof.Machine.execUnknownCall core code seq s
  | .fwOpen core seq arglen a => Sys2Proof.Machine.execFwOpen core seq arglen a s
  | .fwClose core seq arglen region => Sys2Proof.Machine.execFwClose core seq arglen region s
  | .dmaAssign core seq arglen ch owner => Sys2Proof.Machine.execDmaAssign core seq arglen ch owner s
  | .imgWrite core seq arglen set comp off data => Sys2Proof.Machine.execImgWrite core seq arglen set comp off data s
  | .imgVerify core seq arglen set passes version => Sys2Proof.Machine.execImgVerify core seq arglen set passes version s
  | .imgActivate core seq arglen set tries => Sys2Proof.Machine.execImgActivate core seq arglen set tries s
  | .imgConfirm core seq arglen => Sys2Proof.Machine.execImgConfirm core seq arglen s
  | .hallLoad core seq arglen slot passes => Sys2Proof.Machine.execHallLoad core seq arglen slot passes s
  | .hallRestart core seq arglen target slot => Sys2Proof.Machine.execHallRestart core seq arglen target slot s
  | .tchLoad core seq arglen addr len sigOk axes => Sys2Proof.Machine.execTchLoad core seq arglen addr len sigOk axes s
  | .safeOpen core seq arglen user pw => Sys2Proof.Machine.execSafeOpen core seq arglen user pw s
  | .safeClose core seq arglen => Sys2Proof.Machine.execSafeClose core seq arglen s
  | .safeCommit core seq arglen user comment => Sys2Proof.Machine.execSafeCommit core seq arglen user comment s
  | .safePwset core seq arglen old new salt => Sys2Proof.Machine.execSafePwset core seq arglen old new salt s
  | .safeLogread core seq arglen first count => Sys2Proof.Machine.execSafeLogread core seq arglen first count s
  | .safeSig core seq arglen => Sys2Proof.Machine.execSafeSig core seq arglen s
  | .mabort core => Sys2Proof.Machine.execMabort core s
  | .callTimeout core => Sys2Proof.Machine.execCallTimeout core s
  | .hallTrapEntry k c addr => Sys2Proof.Machine.execHallTrapEntry k c addr s
  | .hallInterrupt k n => Sys2Proof.Machine.execHallInterrupt k n s
  | .wcall k off => Sys2Proof.Machine.execWcall k off s
  | .wret k => Sys2Proof.Machine.execWret k s
  | .spillw k n => Sys2Proof.Machine.execSpillw k n s
  | .fillw k n => Sys2Proof.Machine.execFillw k n s
  | .tret k => Sys2Proof.Machine.execTret k s
  | .isync k => Sys2Proof.Machine.execIsync k s
  | .hallFence k => Sys2Proof.Machine.execHallFence k s
  | .sysc k => Sys2Proof.Machine.execSysc k s
  | .brk k => Sys2Proof.Machine.execBrk k s
  | .pxctlStart k p => Sys2Proof.Machine.execPxctlStart k p s
  | .pxctlAbort k => Sys2Proof.Machine.execPxctlAbort k s
  | .pxExchange k => Sys2Proof.Machine.execPxExchange k s
  | .tchioraScan k inputs writes ms => Sys2Proof.Machine.execTchioraScan k inputs writes ms s
  | .scanOverrun k => Sys2Proof.Machine.execScanOverrun k s
  | .codeSigFail => Sys2Proof.Machine.execCodeSigFail s
  -- memory
  | .scrctlStart => Sys2Proof.Machine.execScrctlStart s
  | .scrctlAbort => Sys2Proof.Machine.execScrctlAbort s
  | .scrubPassEnd => Sys2Proof.Machine.execScrubPassEnd s
  | .retctlStart => Sys2Proof.Machine.execRetctlStart s
  | .retctlAbort => Sys2Proof.Machine.execRetctlAbort s
  | .bankMapWrite => Sys2Proof.Machine.execBankMapWrite s
  | .autoRetirement p => Sys2Proof.Machine.execAutoRetirement p s
  | .injcfgArm v => Sys2Proof.Machine.execInjcfgArm v s
  | .unitComplete retries verifyFails us => Sys2Proof.Machine.execUnitComplete retries verifyFails us s
  -- balustrade
  | .balCycle io => Sys2Proof.Machine.execBalCycle io s
  | .discrepancyTimeout k => Sys2Proof.Machine.execDiscrepancyTimeout k s
  | .ss1Timeout a => Sys2Proof.Machine.execSs1Timeout a s
  | .safetyViolation a code => Sys2Proof.Machine.execSafetyViolation a code s
  | .plausibilityViolation a => Sys2Proof.Machine.execPlausibilityViolation a s
  | .brakeApply a => Sys2Proof.Machine.execBrakeApply a s
  | .darkPulse ball readback => Sys2Proof.Machine.execDarkPulse ball readback s
  | .thermalShutdown sensor => Sys2Proof.Machine.execThermalShutdown sensor s
  | .gateTimeout => Sys2Proof.Machine.execGateTimeout s
  | .lockoutEnd => Sys2Proof.Machine.execLockoutEnd s
  | .safeDataRx c netB bytes => Sys2Proof.Machine.execSafeDataRx c netB bytes s
  | .sdwinExpiry c => Sys2Proof.Machine.execSdwinExpiry c s
  | .sdtoExpiry c => Sys2Proof.Machine.execSdtoExpiry c s
  | .safeDataTx c => Sys2Proof.Machine.execSafeDataTx c s
  -- can
  | .canCtlEn c en => Sys2Proof.Machine.execCanCtlEn c en s
  | .canFrameRx c f => Sys2Proof.Machine.execCanFrameRx c f s
  | .bufferLockRead req c b => Sys2Proof.Machine.execBufferLockRead req c b s
  | .bufferReleaseRead req c b => Sys2Proof.Machine.execBufferReleaseRead req c b s
  | .lockTimeout c b => Sys2Proof.Machine.execLockTimeout c b s
  | .bctlReq c b => Sys2Proof.Machine.execBctlReq c b s
  | .bctlAbort c b => Sys2Proof.Machine.execBctlAbort c b s
  | .canAttemptEnd c o => Sys2Proof.Machine.execCanAttemptEnd c o s
  | .busctlRecover c => Sys2Proof.Machine.execBusctlRecover c s
  | .busRecoveryDone c => Sys2Proof.Machine.execBusRecoveryDone c s
  | .statusMessage c => Sys2Proof.Machine.execStatusMessage c s
  | .referenceMessageRx c f => Sys2Proof.Machine.execReferenceMessageRx c f s
  | .referenceSend c => Sys2Proof.Machine.execReferenceSend c s
  | .backupMasterTimeout c => Sys2Proof.Machine.execBackupMasterTimeout c s
  | .ttSyncLoss c => Sys2Proof.Machine.execTtSyncLoss c s
  | .windowStart c w => Sys2Proof.Machine.execWindowStart c w s
  | .canTctlStart c => Sys2Proof.Machine.execCanTctlStart c s
  | .canTctlAbort c => Sys2Proof.Machine.execCanTctlAbort c s
  | .canSelftestDone c pass => Sys2Proof.Machine.execCanSelftestDone c pass s
  | .canWake c => Sys2Proof.Machine.execCanWake c s
  -- time and ethernet
  | .timeTctlSet => Sys2Proof.Machine.execTimeTctlSet s
  | .timeTctlAbort => Sys2Proof.Machine.execTimeTctlAbort s
  | .timeFirstWordRead req page off => Sys2Proof.Machine.execTimeFirstWordRead req page off s
  | .ptpSync d s1 => Sys2Proof.Machine.execPtpSync d s1 s
  | .ptpSyncSend d => Sys2Proof.Machine.execPtpSyncSend d s
  | .syncTimeout d => Sys2Proof.Machine.execSyncTimeout d s
  | .holdmaxExpiry => Sys2Proof.Machine.execHoldmaxExpiry s
  | .ringSourceTimeout => Sys2Proof.Machine.execRingSourceTimeout s
  | .ethFrameRx e f => Sys2Proof.Machine.execEthFrameRx e f s
  | .ethTxwrWrite e v => Sys2Proof.Machine.execEthTxwrWrite e v s
  | .ethTxDone e => Sys2Proof.Machine.execEthTxDone e s
  | .ethLinkChange e up => Sys2Proof.Machine.execEthLinkChange e up s
  | .mdioStart e v phyData => Sys2Proof.Machine.execMdioStart e v phyData s
  -- acquisition and recorder
  | .actlArm => Sys2Proof.Machine.execActlArm s
  | .actlStop => Sys2Proof.Machine.execActlStop s
  | .acqInstant grp => Sys2Proof.Machine.execAcqInstant grp s
  | .trgTctlForce t => Sys2Proof.Machine.execTrgTctlForce t s
  | .fwrecSubmit core v => Sys2Proof.Machine.execFwrecSubmit core v s
  | .fctlFreeze => Sys2Proof.Machine.execFctlFreeze s
  | .fctlUnfreeze => Sys2Proof.Machine.execFctlUnfreeze s
  | .freezeTimeout => Sys2Proof.Machine.execFreezeTimeout s
  | .fctlFlush => Sys2Proof.Machine.execFctlFlush s
  | .flrdctlStart => Sys2Proof.Machine.execFlrdctlStart s
  | .flrdctlAbort => Sys2Proof.Machine.execFlrdctlAbort s
  | .storeSctlStart p labels => Sys2Proof.Machine.execStoreSctlStart p labels s
  | .storeSctlStop p => Sys2Proof.Machine.execStoreSctlStop p s
  | .storeSctlAbort p => Sys2Proof.Machine.execStoreSctlAbort p s
  | .storeSctlFormat p force labels => Sys2Proof.Machine.execStoreSctlFormat p force labels s
  | .storeSctlCkpt p => Sys2Proof.Machine.execStoreSctlCkpt p s
  | .checkpointTimer => Sys2Proof.Machine.execCheckpointTimer s
  | .memberFail p m => Sys2Proof.Machine.execMemberFail p m s
  | .smartWarning p m warn => Sys2Proof.Machine.execSmartWarning p m warn s
  | .healthPoll p m h => Sys2Proof.Machine.execHealthPoll p m h s
  -- field i/o
  | .fioRctlStart r => Sys2Proof.Machine.execFioRctlStart r s
  | .fioRctlStop r => Sys2Proof.Machine.execFioRctlStop r s
  | .fioRctlAbort r => Sys2Proof.Machine.execFioRctlAbort r s
  | .fioRctlResume r k => Sys2Proof.Machine.execFioRctlResume r k s
  | .fioStartTimeout r => Sys2Proof.Machine.execFioStartTimeout r s
  | .fioParamWrite r k idx v => Sys2Proof.Machine.execFioParamWrite r k idx v s
  | .fioCycleFrame r => Sys2Proof.Machine.execFioCycleFrame r s
  | .fioFrameReturn r loopNs ups => Sys2Proof.Machine.execFioFrameReturn r loopNs ups s
  | .fioFrameLost r => Sys2Proof.Machine.execFioFrameLost r s
  | .fioStale r k => Sys2Proof.Machine.execFioStale r k s
  | .fioBroken r => Sys2Proof.Machine.execFioBroken r s
  | .fioCompanionFrame r k crcOk pins => Sys2Proof.Machine.execFioCompanionFrame r k crcOk pins s
  | .fioSafetoExpiry r k => Sys2Proof.Machine.execFioSafetoExpiry r k s
  | .fioOvercurrent r k c => Sys2Proof.Machine.execFioOvercurrent r k c s
  | .fioSupplyChange r k grpB mv => Sys2Proof.Machine.execFioSupplyChange r k grpB mv s
  | .fioLatchEdge r k c falling off => Sys2Proof.Machine.execFioLatchEdge r k c falling off s
  -- modes and power
  | .modereqGo target => Sys2Proof.Machine.execModereqGo target s
  | .modereqAbort => Sys2Proof.Machine.execModereqAbort s
  | .modeChangeDone => Sys2Proof.Machine.execModeChangeDone s
  | .limpStep4Timer => Sys2Proof.Machine.execLimpStep4Timer s
  | .waketmrExpiry => Sys2Proof.Machine.execWaketmrExpiry s
  | .ignWake => Sys2Proof.Machine.execIgnWake s
  | .idleEntry page => Sys2Proof.Machine.execIdleEntry page s
  | .mainExcursion rail => Sys2Proof.Machine.execMainExcursion rail s
  | .mainReturn ms => Sys2Proof.Machine.execMainReturn ms s
  | .backupExcursion rail => Sys2Proof.Machine.execBackupExcursion rail s
  | .swctlTest => Sys2Proof.Machine.execSwctlTest s
  | .swctlAbort => Sys2Proof.Machine.execSwctlAbort s
  | .switchTestHoldEnd ms => Sys2Proof.Machine.execSwitchTestHoldEnd ms s
  | .powerCycleRestore env => Sys2Proof.Machine.execPowerCycleRestore env s
  | .referenceLoss isB => Sys2Proof.Machine.execReferenceLoss isB s
  | .bothReferencesLost => Sys2Proof.Machine.execBothReferencesLost s
  | .referenceCompare diff devA devB => Sys2Proof.Machine.execReferenceCompare diff devA devB s
  | .referenceRevert => Sys2Proof.Machine.execReferenceRevert s
  | .housekeepingRead ch raw => Sys2Proof.Machine.execHousekeepingRead ch raw s
  | .deratingUpdate => Sys2Proof.Machine.execDeratingUpdate s
  | .ddrVddqLoss => Sys2Proof.Machine.execDdrVddqLoss s
  | .porstNFall => Sys2Proof.Machine.execPorstNFall s
  | .powerUp mainOk bkupOk refA refB => Sys2Proof.Machine.execPowerUp mainOk bkupOk refA refB s
  | .pciePerstRise => Sys2Proof.Machine.execPciePerstRise s
  | .rzlBlockLockGained r port => Sys2Proof.Machine.execRzlBlockLockGained r port s
  | .stwLaneLockChange lane lock => Sys2Proof.Machine.execStwLaneLockChange lane lock s
  | .bothSupplySetsLost => Sys2Proof.Machine.execBothSupplySetsLost s
  | .referenceReturn isB => Sys2Proof.Machine.execReferenceReturn isB s
  | .pcieLinkStateChange aspm speed width => Sys2Proof.Machine.execPcieLinkStateChange aspm speed width s
  | .canRxError c e => Sys2Proof.Machine.execCanRxError c e s
  | .slewEnd => Sys2Proof.Machine.execSlewEnd s
  | .nvmeCompletion p m ok => Sys2Proof.Machine.execNvmeCompletion p m ok s
  | .flushReadDone => Sys2Proof.Machine.execFlushReadDone s
  | .pciePerstFall => Sys2Proof.Machine.execPciePerstFall s

end Sys2Proof.Machine
end

