-- ==== Sys2Proof/Machine/Tick.lean ====
section
/-!
DEFINITION. What the passing of time alone does: one tick of TIME (R412, R414), the operating time, and what counts seconds
(R374, R387, R418, R451, R454).  A machine with no command waiting takes it (log entry 1).
-/
namespace Sys2Proof.Machine

namespace State

/-- A second of operating time has passed: the rates over the last second, the time spent in HOLDOVER, and what is left
before the configuration gate or its lockout ends. -/
def secondTick (s : State) : State :=
  let s := { s.wr ACQ.RATE (BitVec.ofNat 32 s.acqBytes) with acqBytes := 0 }
  let s := (List.range s.variant.stores).foldl (fun (s : State) p =>
    s.wr (STORE.RATE p) (BitVec.ofNat 32 (Tab.get 0 s.vol.secBytes p))) s
  let s := { s with vol := { s.vol with secBytes := [] } }
  let s := if s.timeSource = 4 then s.count TIME.TSTA 31 16 else s
  s.setFld BAL1.GATE 31 16 (s.fld BAL1.GATE 31 16 - 1)

/-- One tick: 4 ns of TIME; in DORMANT one step of 160 ns, with no slew and no operating time (R16, R412, R414). -/
def tick (s : State) : State :=
  if s.powered = false then s
  else if s.booted = true ∧ s.sysMode = 0 then s.putTime (s.t16 + 2560)
  else
    let ms := s.time.ms
    let s := ((s.putTime (s.t16 + 64)).slewTick).opTime 4
    if s.time.ms < ms ∧ (s.rd64 SYS.OPTIME).toNat % 1000 = 0 then s.secondTick else s

end State

end Sys2Proof.Machine
end

