-- ==== Sys2Proof/Safety.lean ====
section
/-!
DEFINITION. The terms in which statements speak: the canonical forms of memory and registers, a command that completes, and
what a command leaves as it was.
-/
namespace Sys2Proof.Machine

/-- The memory is in its canonical form: addresses rise strictly, and no entry equals what an unlisted byte reads as. -/
def Memory.wf (m : List Host.Cell) : Bool := Tab.wf byteDefault m

/-- The syndromes are in their canonical form. -/
def Memory.eccWf (m : List Host.Cell) : Bool := Tab.wf synDefault m

namespace State

/-- The registers are in their canonical form: no entry equals its register's reset value. -/
def regsWf (s : State) : Bool := Tab.wf (fun a => some (resetWord s.variant a)) s.regs

/-- Equal contents are equal lists: memory, syndromes and registers are in canonical form. -/
def Canon (s : State) : Prop := Memory.wf s.mem = true ∧ Memory.eccWf s.ecc = true ∧ s.regsWf = true

/-- The command completes from `s`, in a state of which `P` holds. -/
def Completes (i : Instr) (s : State) (P : State → Prop) : Prop := ∃ t, exec i s = .next t ∧ P t

/-- The access of a requester at a BAR0 offset reaches page `p`: the page is built, answers, and the firewall opens it. -/
def Opened (s : State) (req addr : Nat) (r : Right) (p : Nat) : Prop :=
  s.variant.requester req = true ∧ s.reach req addr r = (some p, s)

/-- Every byte of memory outside `p` reads as before. -/
def SameBytes (p : Nat → Prop) (s t : State) : Prop := ∀ a, ¬ p a → t.byte a = s.byte a

/-- Every register word outside `p` reads as before. -/
def SameRegs (p : Nat → Prop) (s t : State) : Prop := ∀ a, ¬ p a → t.rd a = s.rd a

/-- A byte of the recorder's ring, or of the record that its write position names (R440). -/
def recRing (s : State) (a : Nat) : Prop :=
  mezzBase + s.num REC.RBASE ≤ a + 7 ∧ a < mezzBase + s.num REC.RBASE + Nat.max (s.num REC.RSIZE) (s.num REC.RWR + 64)

/-- Registers that a report on a page may change beside the page's own FLT and EVT: the recorder's, the trigger units', the
acquisition groups', the eMRAM's commit, and an error injection that a record's word disarms (R352, R432, R439-R442). -/
def reportWord (a : Nat) : Prop :=
  a / 0x1000 = pgREC ∨ (161 ≤ a / 0x1000 ∧ a / 0x1000 ≤ 164) ∨ a / 0x1000 = pgACQ ∨ a / 0x1000 = pgNVM ∨ a = MEM.INJCFG

/-- Registers that a report on page `p` may change. -/
def reports (p a : Nat) : Prop := a = HDR.FLT p ∨ a = HDR.EVT p ∨ reportWord a


/-- A register of page `p`, or one that a report on a page may change. -/
def onPage (p a : Nat) : Prop := a / 0x1000 = p ∨ reportWord a

/-- Operation status register `a` reads PHASE 3 with completion code `c` (R61, R62). -/
def Ended (s : State) (a : Nat) (c : Code) : Prop := s.phase a = 3 ∧ s.fld a 7 0 = c.num

/-- A companion accepts a frame of sender `src` with `epoch`: a lease of the same device, an epoch that is not older, and
no handover that waits (R182). -/
def LeaseOk (s : State) (r k : Nat) (src : Byte) (epoch : Word) : Prop :=
  let c := s.compOf r k
  c.lease = true ∧ src.getLsbD 5 = c.owner.getLsbD 5 ∧ c.epoch.toNat ≤ epoch.toNat ∧ c.handover = none

/-- Core `k`'s call of sequence number `seq` has ended with code `c` (R309, R310). -/
def Answered (s t : State) (k seq : Nat) (c : Code) : Prop :=
  t.mbx k 8 = BitVec.ofNat 32 (0x300 + c.num + seq * 65536) ∧ t.bit NEWEL.MBXSTA k = false
    ∧ t.num NEWEL.CALLCNT = Nat.min 0xFFFFFFFF (s.num NEWEL.CALLCNT + 1) ∧ t.bit (HDR.EVT pgNEWEL) 0 = true

/-- Core `k`'s call of sequence number `seq` runs (R309, R310). -/
def CallGoesOn (t : State) (k seq : Nat) : Prop :=
  t.mbx k 8 = BitVec.ofNat 32 (0x200 + seq * 65536) ∧ t.bit NEWEL.MBXSTA k = true

/-- Only core `k`'s mailbox page, the NEWEL page, and what a report may change differ. -/
def CallFrame (s t : State) (k : Nat) : Prop :=
  SameRegs (onPage pgNEWEL) s t ∧ SameBytes (fun y => s.recRing y ∨ mbxBase k ≤ y ∧ y < mbxBase (k + 1)) s t

/-- A boot of the preferred set succeeds (R304-R307, R339-R341): no trial, no commit, the gate closed, a set that passes,
an LPDDR5 that trains, and a board whose assignments name bridges. -/
def BootGood (s : State) (env : BootEnv) : Prop :=
  let x := State.pick env s.newel.preferred
  s.regsWf = true ∧ s.newel.trial = false ∧ s.commits = [] ∧ s.gateOpen = false ∧ x.cause = 0 ∧ s.num NEWEL.SVNMIN ≤ x.svn.toNat
    ∧ env.ch0Up = true ∧ env.ch1Up = true ∧ 1 ≤ env.trainTries ∧ env.trainTries ≤ 3
    ∧ ∀ e ∈ env.assign, e.1 < s.variant.bridges

/-- The device has booted for `cause` (R305, R479): step 9, the preferred set, STANDBY, the hall cores at their entry. -/
def Booted (s t : State) (cause : Nat) : Prop :=
  t.booted = true ∧ t.newel.waiting = none ∧ t.fld NEWEL.BOOTSTA 3 0 = 9 ∧ t.bit NEWEL.BOOTSTA 4 = s.newel.preferred
    ∧ t.sysMode = 1 ∧ t.fld SYS.MODE 15 8 = cause ∧ ∀ k < s.variant.halls, (t.hallOf k).pc = Config.hallEntry

/-! ### A gallery between two instructions (R89-R93) -/

/-- Gallery `g` is built and about to issue an instruction with no result in flight, no deferred trap and the divide
unit free; its program counter lies in code memory.  A delay slot may be waiting and loops may be active. -/
def GalReady (s : State) (g : Nat) : Prop :=
  let c := s.coreOf g
  g < s.variant.galleries ∧ s.galIssues g = true ∧ c.flights = [] ∧ c.deferred = [] ∧ c.divBusy ≤ c.cyc
    ∧ c.pc.toNat < 0x10000 ∧ c.pc.toNat % 4 = 0

/-- As `GalReady`, with the instruction in no delay slot and no loop active. -/
def GalQuiet (s : State) (g : Nat) : Prop := s.GalReady g ∧ (s.coreOf g).slotOf = none ∧ (s.coreOf g).act = 0

/-- Gallery `g` has entered the trap context for a cause of code `code` (R98, R99): the state `t` after it, from `s`. -/
def TrapTaken (s t : State) (g code : Nat) (pc : Word) : Prop :=
  let c := s.coreOf g
  t.rd (GAL.XPC g) = pc ∧ t.rd (GAL.XINFO g) = BitVec.ofNat 32 (code + c.slotno % 8 * 256) ∧ (t.coreOf g).ctx = .trap
    ∧ (t.coreOf g).stack = c.ctx :: c.stack ∧ (t.coreOf g).pc = 0x40 ∧ (t.coreOf g).gpr = c.gpr
    ∧ t.bit (HDR.FLT (pgGAL g)) 20 = true

/-- The storage words of the `n` bytes from `a` up hold good codes (R328). -/
def GoodCode (s : State) (a n : Nat) : Prop := ∀ w, a / 8 ≤ w → w < (a + n + 7) / 8 → s.syn w = 0

end State

/-- A core after an instruction that goes on in order outside a loop: the next address, one cycle later (R91). -/
def Core.next (c : Core) : Core := { c with pc := c.pc + 4, cyc := c.cyc + 1, seq := c.seq + 1 }

/-- Scalar register `r` of the running context written; G0 stays (R82). -/
def Core.setG (c : Core) (r : BitVec 5) (w : Word) : Core :=
  if r = 0 then c else { c with gpr := Tab.set (some 0) c.gpr (gIndex c.ctx r.toNat) w }

/-- Words that land at `dest` `lat` cycles after the issue at `c`; `inter` where readers wait for them (R89, R90). -/
def Core.fly (c : Core) (lat : Nat) (dest : Dest) (ws : List Word) (inter : Bool := false) : Core :=
  { c.next with flights := [{ due := c.cyc + lat, seq := c.seq, dest := dest, words := ws, inter := inter }] }

/-- A scalar result that lands `lat` cycles after the issue at `c` (R89, R90). -/
def Core.flyG (c : Core) (lat : Nat) (r : BitVec 5) (w : Word) (note : Option Nat := none) : Core :=
  { c.next with flights := [{ due := c.cyc + lat, seq := c.seq, dest := .g (gIndex c.ctx r.toNat), words := [w], note := note }] }

/-- An F result that lands `lat` cycles after the issue at `c` (R89, R90). -/
def Core.flyF (c : Core) (lat : Nat) (r : BitVec 4) (w : Word) (note : Option Nat := none) : Core :=
  { c.next with flights := [{ due := c.cyc + lat, seq := c.seq, dest := .f r.toNat, words := [w], note := note }] }

/-- An accumulator result that lands `lat` cycles after the issue at `c` (R89, R90). -/
def Core.flyA (c : Core) (lat : Nat) (i : BitVec 3) (r : AccVal × Bool) (mac : Bool) : Core :=
  { c.next with flights := [{ due := c.cyc + lat, seq := c.seq, dest := .a i.toNat, words := [], acc := r.1,
                              note := if r.2 then some i.toNat else none, mac := mac }] }

end Sys2Proof.Machine
end

