-- ==== Sys2Proof/Certificates/Slice0/Obligations.lean ====
section
/-!
DEFINITION. The statements for the provers: one definition per obligation, under the name that OBLIGATIONS.json lists.
-/

open Sys2Proof Sys2Proof.Machine

/-! ### The machine -/

/-- A step of a state with a command at the front of its queue is that command's meaning on the state with the queue's
rest. -/
def Obligations.StepRunsFront : Prop :=
  ∀ (c : Instr) (rest : List Instr) (s : State), s.pending = c :: rest → step s = exec c { s with pending := rest }

/-- With no command waiting, one tick passes (the model's choice, log entry 1): TIME advances by 4 ns, as R412 says of a
tick, where the nanoseconds have not reached a full second and none is reached; memory stays. -/
def Obligations.IdleTick : Prop :=
  ∀ s : State, s.pending = [] → s.powered = true → ¬ (s.booted = true ∧ s.sysMode = 0) →
    s.num (TIME.NOW 2) + 4 < 1000000000 → s.t16 < 2 ^ 90 →
    ∃ t, step s = .next t ∧ t.num (TIME.NOW 2) = s.num (TIME.NOW 2) + 4 ∧ t.rd (TIME.NOW 0) = s.rd (TIME.NOW 0)
      ∧ t.rd (TIME.NOW 1) = s.rd (TIME.NOW 1) ∧ State.SameBytes (fun _ => False) s t

/-- The values that R51, R52 and R79 give the header and the HOST page at reset. -/
def Obligations.ResetRegisters : Prop :=
  (∀ p k i, pageOf p = some (k, i) → State.reset.variant.present p = true →
    State.reset.fld (HDR.PID p) 31 20 = k.type ∧ State.reset.fld (HDR.PID p) 15 8 = i ∧
    ∀ r ∈ [HDR.CTL p, HDR.STA p, HDR.FLT p, HDR.FLTEN p, HDR.EVT p, HDR.LOCK p, HDR.SEQ p, HDR.LDISC p], State.reset.rd r = 0) ∧
  State.reset.rd HOST.WAKEEN = 0xFF ∧ (∀ n < 42, State.reset.rd (HOST.IVEC n) = 0xFFFFFFFF) ∧ State.reset.pending = []

/-- The canonical form holds at reset. -/
def Obligations.ResetCanon : Prop := State.reset.Canon

/-- Every step keeps memory, syndromes and registers in canonical form and never changes what the device is (R2). -/
def Obligations.StepKeepsCanon : Prop :=
  ∀ s t : State, s.Canon → step s = .next t → t.Canon ∧ t.variant = s.variant

/-- The queue is first in, first out: a step takes its front and leaves the rest. -/
def Obligations.QueueOrder : Prop :=
  ∀ s t : State, step s = .next t → t.pending = s.pending.tail

/-- A unit that the variant does not build (R2, R4) answers no row: the model's fault noUnit (log entry 4). -/
def Obligations.AbsentUnits : Prop :=
  ∀ s : State,
    (∀ b, s.variant.bridges ≤ b → exec (.bridgeTread b) s = .fault .noUnit) ∧
    (∀ g n lib, s.variant.galleries ≤ g → exec (.treadDispatch g n lib) s = .fault .noUnit) ∧
    (∀ r, s.variant.rings ≤ r → exec (.rctlStart r) s = .fault .noUnit) ∧
    (∀ a, s.variant.axes ≤ a → exec (.setpointIssue a) s = .fault .noUnit) ∧
    (∀ c en, s.variant.cans ≤ c → exec (.canCtlEn c en) s = .fault .noUnit) ∧
    (∀ k v, s.variant.halls ≤ k → exec (.wcall k v) s = .fault .noUnit)

/-! ### Register access -/

/-- R43: a hole reads zero, discards writes, and reports. -/
def Obligations.HoleAccess : Prop :=
  ∀ (s : State) (req addr : Nat) (write : Bool), s.variant.requester req = true → addr < 0x1000000 → bar0Page addr = none →
    State.Completes (.holeAccess req addr write) s fun t =>
      t.bit SYS.HOSTFLT 0 = true
      ∧ t.rd64 HOST.ERRADDR = (if s.bit (HOST.ERRADDR + 4) 31 = true then s.rd64 HOST.ERRADDR
          else BitVec.ofNat 64 (addr + req * 2 ^ 32 + 2 ^ 63))
      ∧ (write = false → Tab.find t.host.resp req = some { value := 0 })
      ∧ State.SameRegs (fun a => a = SYS.HOSTFLT ∨ a = HOST.ERRADDR ∨ a = HOST.ERRADDR + 4) s t
      ∧ State.SameBytes (fun _ => False) s t

/-- R44: an absent page reads zero, discards writes, and reports. R46 and R50. -/
def Obligations.PageAccess : Prop :=
  (
  ∀ (s : State) (req addr p : Nat) (write : Bool), s.variant.requester req = true → addr < 0x1000000 →
    bar0Page addr = some p → s.variant.present p = false →
    State.Completes (.absentPageAccess req addr write) s fun t =>
      t.bit SYS.HOSTFLT 2 = true
      ∧ t.rd64 HOST.ERRADDR = (if s.bit (HOST.ERRADDR + 4) 31 = true then s.rd64 HOST.ERRADDR
          else BitVec.ofNat 64 (addr + req * 2 ^ 32 + 2 ^ 63))
      ∧ (write = false → Tab.find t.host.resp req = some { value := 0 })
      ∧ State.SameRegs (fun a => a = SYS.HOSTFLT ∨ a = HOST.ERRADDR ∨ a = HOST.ERRADDR + 4) s t
      ∧ State.SameBytes (fun _ => False) s t) ∧
  (
  (∀ (s : State) (req addr bytes p : Nat) (write : Bool), State.bar2Of addr = none →
    ¬ (bytes = 4 ∧ addr % 4 = 0) → ¬ (bytes = 8 ∧ addr % 8 = 0) → s.Opened req addr (if write then .write else .read) p →
    State.Completes (.misalignedAccess req addr bytes write) s fun t =>
      t.bit (HDR.FLT p) 0 = true ∧ (write = false → Tab.find t.host.resp req = some { value := 0 })
      ∧ State.SameRegs (State.reports p) s t ∧ State.SameBytes s.recRing s t) ∧
  (∀ (s : State) (req addr p : Nat), s.Opened req addr .read p →
    State.Completes (.readTimeout req addr) s fun t =>
      t.bit (HDR.FLT p) 5 = true ∧ t.bit SYS.HOSTFLT 5 = true ∧ Tab.find t.host.resp req = some { value := 0 }
      ∧ State.SameRegs (fun a => State.reports p a ∨ a = SYS.HOSTFLT) s t ∧ State.SameBytes s.recRing s t))

/-- R45, R48 and R51: an RW header register, and an RC one. R49, on DMA.HEAD. -/
def Obligations.RegisterAccess : Prop :=
  (
  (∀ (s : State) (req p : Nat) (v : Word64), p < 171 → s.Opened req (bar0Of p + 0x18) .write p →
    State.Completes (.registerWrite req (bar0Of p + 0x18) false v) s fun t =>
      t.rd (HDR.FLTEN p) = loWord v &&& State.fltBits p
      ∧ (loWord v &&& ~~~ State.fltBits p ≠ 0 → t.bit (HDR.FLT p) 0 = true)) ∧
  (∀ (s : State) (req p : Nat), p < 171 → s.Opened req (bar0Of p + 0x28) .read p →
    State.Completes (.rcRead req (bar0Of p + 0x28)) s fun t =>
      Tab.find t.host.resp req = some { value := (s.rd (HDR.LDISC p)).setWidth 64 } ∧ t.rd (HDR.LDISC p) = 0
      ∧ State.SameRegs (fun a => a = HDR.LDISC p) s t ∧ State.SameBytes (fun _ => False) s t)) ∧
  (
  ∀ (s : State) (req ch : Nat), ch < 16 →
    let lo := 0xF8000 + 0x100 + 0x40 * ch
    (s.Opened req lo .read pgDMA →
      State.Completes (.snapshotLowRead req lo) s fun t =>
        Tab.find t.host.resp req = some { value := (s.rd (DMA.HEAD ch)).setWidth 64 }
        ∧ Tab.find t.host.snaps req = some { reg := DMA.HEAD ch, high := some (s.rd (DMA.HEAD ch + 4)) }
        ∧ State.SameRegs (fun _ => False) s t) ∧
    (∀ v : Word, s.Opened req lo .write pgDMA →
      State.Completes (.snapshotLowWrite req lo v) s fun t =>
        Tab.find t.host.snaps req = some { reg := DMA.HEAD ch, low := some v } ∧ State.SameRegs (fun _ => False) s t) ∧
    (∀ v w : Word, s.Opened req (lo + 4) .write pgDMA → (s.dmaOf ch).owner = req →
      Tab.find s.host.snaps req = some { reg := DMA.HEAD ch, low := some w } →
      State.Completes (.snapshotHighWrite req (lo + 4) v) s fun t =>
        t.rd64 (DMA.HEAD ch) = wide w v ∧ Tab.find t.host.snaps req = none))

/-- R53, R54 and R58, on the pages that each rule leaves to its general case. -/
def Obligations.HeaderCommands : Prop :=
  (∀ (s : State) (req p : Nat), (p ∈ [1, 141, 143, 165, 170] ∨ (136 ≤ p ∧ p ≤ 140) ∨ (149 ≤ p ∧ p < 159)) →
    s.variant.present p = true → s.Opened req (bar0Of p + 0x0C) .write p →
    State.Completes (.ctlFreset req p) s fun t => t.bit (HDR.CTL p) 1 = true ∧ t.fld (HDR.STA p) 3 0 = 5) ∧
  (∀ (s : State) (p : Nat), s.variant.present p = true → (p < 6 ∨ 32 ≤ p) → ¬ (56 ≤ p ∧ p < 104) → s.bit (HDR.CTL p) 1 = true →
    State.Completes (.fresetComplete p) s fun t =>
      t.bit (HDR.CTL p) 1 = false ∧ t.fld (HDR.STA p) 3 0 = (if t.bit (HDR.CTL p) 0 = true then 3 else 2)) ∧
  (∀ (s : State) (req p : Nat) (v : BitVec 8), p ≠ pgNEWEL → s.variant.present p = true → s.Opened req (bar0Of p + 0x04) .write p →
    State.Completes (.verActiveWrite req p v) s fun t =>
      if s.bit (HDR.CTL p) 0 = false ∧ s.fld (HDR.VER p) 7 0 ≤ v.toNat ∧ v.toNat ≤ s.fld (HDR.VER p) 15 8
      then t.fld (HDR.VER p) 23 16 = v.toNat
      else t.rd (HDR.VER p) = s.rd (HDR.VER p) ∧ t.bit (HDR.FLT p) 7 = true) ∧
  (∀ (s : State) (req p : Nat) (v : Word), p ≠ pgNEWEL → s.variant.present p = true → s.Opened req (bar0Of p + 0x20) .write p →
    State.Completes (.lockWrite req p v) s fun t =>
      t.rd (HDR.LOCK p) = (if v = State.lockKey p ∧ v ≠ 0 then 1 else 0)
      ∧ (v ≠ 0 → v ≠ State.lockKey p → t.bit (HDR.FLT p) 6 = true))

/-- R65. -/
def Obligations.EndpointResets : Prop :=
  ∀ (s : State) (c : Instr), s.regsWf = true → c ∈ [Instr.functionLevelReset, .hotReset, .linkDownReset] →
    State.Completes c s fun t =>
      t.fld (HDR.STA pgHOST) 3 0 = 1 ∧ State.SameRegs (fun a => a / 0x1000 = pgHOST) s t
      ∧ State.SameBytes (fun _ => False) s t ∧ t.gal = s.gal ∧ t.axis = s.axis ∧ t.ring = s.ring

/-! ### The SPI host port and credits -/

/-- R69 to R71. R26, on the landings whose producers let nothing wait. -/
def Obligations.SpiAndCredits : Prop :=
  (
  ∀ s : State, s.powered = true →
    (s.spiCrc = false →
      (∀ addr, addr + 4 ≤ 0x1000000 → State.Completes (.spiReadBar0 addr 1 false) s fun t =>
        t.host.spiOut = 0xA5 :: leBytes 4 (s.wordRead 0 addr).1.toNat) ∧
      (∀ addr, 0x1000000 < addr + 4 → addr < 0x4000000 → State.Completes (.spiReadBar0 addr 1 false) s fun t =>
        t.host.spiOut = [0xA5, 0, 0, 0, 0] ∧ t.bit SYS.HOSTFLT 1 = true
        ∧ State.SameRegs (fun a => a = SYS.HOSTFLT) s t ∧ State.SameBytes (fun _ => False) s t) ∧
      (∀ addr, addr + 4 ≤ 0x4000000 → State.Completes (.spiReadBar2 addr 1 false) s fun t =>
        t.host.spiOut = 0xA5 :: leBytes 4 (s.bar2Read 0 addr).1.toNat) ∧
      (∀ addr w crc, addr + 4 ≤ 0x1000000 → State.Completes (.spiWriteBar0 addr [w] false crc) s fun t =>
        t.regs = (s.wordWrite 0 addr w).regs ∧ t.mem = (s.wordWrite 0 addr w).mem ∧ t.host.spiRefused = false) ∧
      (∀ addr w crc, addr + 4 ≤ 0x4000000 → State.Completes (.spiWriteBar2 addr [w] false crc) s fun t =>
        t.regs = (s.bar2Write 0 addr w).regs ∧ t.mem = (s.bar2Write 0 addr w).mem ∧ t.host.spiRefused = false)) ∧
    (s.spiCrc = true → ∀ addr data crc, data.length ≤ 64 → crc ≠ crc16 (State.spiCovered false addr data) →
      State.Completes (.spiWriteBar0 addr data false crc) s fun t =>
        t.host.spiOut = [0xEE] ∧ t.host.spiCrcErr = true ∧ t.regs = s.regs ∧ t.mem = s.mem) ∧
    (State.Completes .spiStatus s fun t =>
      t.host.spiOut.length = 1 ∧ (∀ b ∈ t.host.spiOut, b.getLsbD 1 = s.host.spiRefused ∧ b.getLsbD 2 = s.host.spiCrcErr
        ∧ b.getLsbD 0 = s.irqPending ∧ b.getLsbD 3 = (s.rd HOST.WAKECAUSE != 0)) ∧ t.regs = s.regs ∧ t.mem = s.mem) ∧
    (State.Completes .spiWordTimeout s fun t =>
      t.host.spiOut = [0xEE] ∧ t.bit SYS.HOSTFLT 5 = true ∧ State.SameRegs (fun a => a = SYS.HOSTFLT) s t
      ∧ State.SameBytes (fun _ => False) s t)) ∧
  (
  ∀ (s : State) (l : Landing) (p : Nat), State.hasLanding s.variant l = true → 0 < (s.credit l p).back →
    ((∃ g, l = .sample g) ∨ (∃ r, l = .edge r) ∨ (∃ r, l = .force r) ∨ (∃ g, l = .trace g) ∨ (∃ k, l = .mailbox k) ∨ l = .safeData) →
    State.Completes (.creditReturn l p) s fun t =>
      (t.credit l p).spent = (s.credit l p).spent - 1 ∧ (t.credit l p).back = (s.credit l p).back - 1
      ∧ t.regs = s.regs ∧ t.mem = s.mem ∧ t.gal = s.gal)

/-! ### DMA -/

/-- R72 to R76: a chain starts. R63, R75 and R76: a chain ends. -/
def Obligations.DmaChains : Prop :=
  (
  (∀ (s : State) (req ch : Nat) (bs : List Byte), ch < 16 → s.Opened req (0xF8108 + 0x40 * ch) .write pgDMA →
    (s.dmaOf ch).owner = req → s.dmaState ch ≠ 1 → s.fld (DMA.CCTL ch) 5 4 = 2 →
    let a := (State.descAddr (s.rd64 (DMA.HEAD ch))).toNat
    let len := ofLeBytes ((bs.drop 24).take 4)
    let src := ofLeBytes (bs.take 8)
    let dst := ofLeBytes ((bs.drop 8).take 8)
    a + 32 ≤ mezzSize → bs = s.bytes a 32 → (∀ w, a / 8 ≤ w → w < a / 8 + 4 → s.syn w = 0) →
    s.fwAdmits (9 + ch) 1 a 32 .read = true → 4 ≤ len → len ≤ 4096 → src + len ≤ mezzSize → dst + len ≤ mezzSize →
    (BitVec.ofNat 32 (ofLeBytes ((bs.drop 28).take 4))).extractLsb' 4 4 = 0xA#4 →
    (BitVec.ofNat 32 (ofLeBytes ((bs.drop 28).take 4))).getLsbD 23 = false →
    s.fwAdmits (9 + ch) 1 src len .read = true → s.fwAdmits (9 + ch) 1 dst len .write = true → s.offView pgDMA = false →
    State.Completes (.cctlRun req ch []) s fun t =>
      t.fld (DMA.CSTA ch) 11 8 = 6 ∧ t.fld (DMA.CSTA ch) 31 16 = 0 ∧ t.rd (DMA.BYTES ch) = 0
      ∧ t.rd64 (DMA.CUR ch) = State.descAddr (s.rd64 (DMA.HEAD ch)) ∧ t.mem = s.mem) ∧
  (∀ (s : State) (req ch : Nat) (h : List (Nat × Byte)), ch < 16 → s.Opened req (0xF8108 + 0x40 * ch) .write pgDMA →
    (s.dmaOf ch).owner ≠ req →
    State.Completes (.cctlRun req ch h) s fun t =>
      t.bit (HDR.FLT pgDMA) 0 = true ∧ State.SameRegs (State.reports pgDMA) s t ∧ State.SameBytes s.recRing s t)) ∧
  (
  (∀ (s : State) (ch : Nat), ch < 16 → s.dmaRuns ch = true → (s.dmaOf ch).len = 0 → (s.dmaOf ch).ctl.getLsbD 2 = true →
    s.fld (DMA.CCTL ch) 5 4 = 3 →
    State.Completes (.descriptorDone ch []) s fun t =>
      t.fld (DMA.CSTA ch) 11 0 = 0xB00 ∧ t.fld (DMA.CSTA ch) 31 16 = Nat.min 0xFFFF (s.fld (DMA.CSTA ch) 31 16 + 1)
      ∧ ((s.dmaOf ch).ctl.getLsbD 0 = true → t.bit (HDR.EVT pgDMA) ch = true) ∧ State.SameBytes s.recRing s t) ∧
  (∀ (s : State) (ch : Nat), ch < 16 → s.dmaState ch = 1 → s.dmaOnHost ch = true →
    State.Completes (.hostCompletionTimeout ch) s fun t => t.fld (DMA.CSTA ch) 11 0 = 0xF07 ∧ t.mem = s.mem) ∧
  (∀ (s : State) (req ch : Nat), ch < 16 → s.Opened req (0xF8108 + 0x40 * ch) .write pgDMA → (s.dmaOf ch).owner = req →
    (s.phase (DMA.CSTA ch) = 1 ∨ s.phase (DMA.CSTA ch) = 2) → (s.dmaOf ch).len ≠ 0 →
    State.Completes (.cctlAbort req ch 0) s fun t =>
      t.fld (DMA.CSTA ch) 11 0 = 0xB01 ∧ t.rd (DMA.BYTES ch) = 0 ∧ t.mem = s.mem) ∧
  (∀ (s : State) (req ch m : Nat), ch < 16 → s.Opened req (0xF8108 + 0x40 * ch) .write pgDMA → (s.dmaOf ch).owner = req →
    s.phase (DMA.CSTA ch) = 3 →
    State.Completes (.cctlAbort req ch m) s fun t =>
      t.bit (HDR.FLT pgDMA) 8 = true ∧ t.rd (DMA.CSTA ch) = s.rd (DMA.CSTA ch)))

/-! ### A gallery's instructions -/

/-- R82, R86, R87, R89: results of the ALU instructions, as whole next states.  That MIN and MAX compare signed words is
log entry 20. R89, R90: when a result can be used. -/
def Obligations.GalAluResults : Prop :=
  (
  ∀ (s : State) (g : Nat) (d a : BitVec 5) (y : AluSrc), s.GalQuiet g →
    let c := s.coreOf g
    let x := c.g a
    let v := c.src y
    let gives := fun (i : Instr) (w : Word) => exec i s = .next (s.putCore g (c.next.setG d w))
    gives (.add g d a y) (x + v) ∧ gives (.sub g d a y) (x - v) ∧
    gives (.adds g d a y) (satInt 32 (x.toInt + v.toInt)) ∧ gives (.subs g d a y) (satInt 32 (x.toInt - v.toInt)) ∧
    gives (.and g d a y) (x &&& v) ∧ gives (.or g d a y) (x ||| v) ∧ gives (.xor g d a y) (x ^^^ v) ∧
    gives (.shl g d a y) (x <<< (v.toNat % 64)) ∧ gives (.shr g d a y) (x >>> (v.toNat % 64)) ∧
    gives (.sar g d a y) (x.sshiftRight (v.toNat % 64)) ∧
    exec (.mul g d a y) s = .next (s.putCore g (c.flyG 3 d (x * v))) ∧
    gives (.min g d a y) (if x.slt v then x else v) ∧
    gives (.max g d a y) (if x.slt v then v else x) ∧
    (∀ imm, gives (.abss g d a imm) (if x = 0x80000000 then 0x7FFFFFFF else if x.msb then -x else x)) ∧
    gives (.slt g d a y) (if x.slt v then 1 else 0) ∧ gives (.sltu g d a y) (if x.ult v then 1 else 0) ∧
    (∀ imm : BitVec 20, gives (.lui g d imm) (imm ++ (0 : BitVec 12)))) ∧
  (
  ∀ (s : State) (g : Nat) (r : BitVec 5) (f : Flight), r ≠ 0 →
    let c := s.coreOf g
    (s.putCore g { c with flights := [] }).GalQuiet g → c.flights = [f] → c.cyc < f.due →
    f.dest = .g (gIndex c.ctx r.toNat) → f.note = none → f.inter = false →
    (c.cyc + 1 < f.due → exec (.nop g) s = .next (s.putCore g c.next)) ∧
    (c.cyc + 1 = f.due → exec (.nop g) s = .next (s.putCore g ({ c.next with flights := [] }.setG r (f.words.getD 0 0)))))

/-- R84, R86, R89, R330: loads of good words. R84, R86, R89, R332: stores over good words. -/
def Obligations.GalLoadsStores : Prop :=
  (
  ∀ (s : State) (g : Nat) (b : BitVec 5), s.GalQuiet g →
    let c := s.coreOf g
    let loc := fun (off : BitVec 14) => (c.g b + off.signExtend 32).toNat
    (∀ off : BitVec 14, loc off % 4 = 0 → 0x10000 ≤ loc off → loc off + 4 ≤ 0x48000 →
      s.GoodCode (galBase g + loc off) 4 →
      let w := BitVec.ofNat 32 (ofLeBytes (s.bytes (galBase g + loc off) 4))
      (∀ d, exec (.lw g d b off) s = .next (s.putCore g (c.flyG 3 d w))) ∧
      (∀ d, exec (.lf g d b off) s = .next (s.putCore g (c.flyF 3 d w)))) ∧
    (∀ (d : BitVec 4) (off : BitVec 15), let a := (c.g b + off.signExtend 32).toNat
      a % 4 = 0 → 0x10000 ≤ a → a + 32 ≤ 0x48000 → s.GoodCode (galBase g + a) 32 →
      exec (.vld g d b off) s = .next (s.putCore g (c.fly 3 (.v d.toNat)
        ((List.range 8).map fun k => BitVec.ofNat 32 (ofLeBytes (s.bytes (galBase g + a + 4 * k) 4)))))) ∧
    (∀ (d : BitVec 5) (off : BitVec 14) (lat : Nat), 1 < lat → loc off % 4 = 0 → 0x10000000 ≤ loc off → loc off < 0x13000000 →
      s.fwAdmits (25 + g) 1 (loc off - 0x10000000) 4 .read = true → s.GoodCode (loc off - 0x10000000) 4 →
      exec (.mlw g d b off lat) s = .next (s.putCore g (c.fly lat (.g (gIndex c.ctx d.toNat))
        [BitVec.ofNat 32 (ofLeBytes (s.bytes (loc off - 0x10000000) 4))] true)))) ∧
  (
  ∀ (s : State) (g : Nat) (b : BitVec 5), s.GalQuiet g → s.bit MEM.INJCFG 16 = false →
    let c := s.coreOf g
    let loc := fun (off : BitVec 14) => (c.g b + off.signExtend 32).toNat
    let stores := fun (i : Instr) (a : Nat) (ws : List Word) => State.Completes i s fun t =>
      (∀ k < ws.length, BitVec.ofNat 32 (ofLeBytes (t.bytes (a + 4 * k) 4)) = ws.getD k 0)
      ∧ State.SameBytes (fun x => a ≤ x ∧ x < a + 4 * ws.length) s t
      ∧ t.regs = s.regs ∧ t.coreOf g = c.next ∧ (∀ h, h ≠ g → t.galOf h = s.galOf h)
    (∀ off : BitVec 14, loc off % 4 = 0 → 0x10000 ≤ loc off → loc off + 4 ≤ 0x3F000 → s.GoodCode (galBase g + loc off) 4 →
      (∀ x, stores (.sw g x b off) (galBase g + loc off) [c.g x]) ∧
      (∀ x, stores (.sf g x b off) (galBase g + loc off) [c.f x])) ∧
    (∀ (x : BitVec 4) (off : BitVec 15), let a := (c.g b + off.signExtend 32).toNat
      a % 4 = 0 → 0x10000 ≤ a → a + 32 ≤ 0x3F000 → s.GoodCode (galBase g + a) 32 →
      stores (.vst g x b off) (galBase g + a) (c.v x)) ∧
    (∀ (x : BitVec 5) (off : BitVec 14), loc off % 4 = 0 → 0x10000000 ≤ loc off → loc off < 0x13000000 →
      s.fwAdmits (25 + g) 1 (loc off - 0x10000000) 4 .write = true → s.GoodCode (loc off - 0x10000000) 4 →
      stores (.msw g x b off) (loc off - 0x10000000) [c.g x]))

/-- R84, R98, R99: the ACCESS trap of a load or store. -/
def Obligations.GalAccessTrap : Prop :=
  ∀ (s : State) (g : Nat) (b : BitVec 5), s.GalQuiet g → (s.coreOf g).ctx ≠ .trap →
    let c := s.coreOf g
    let traps := fun (i : Instr) (ea : Word) => State.Completes i s fun t =>
      s.TrapTaken t g 2 c.pc ∧ t.rd (GAL.XADDR g) = ea ∧ State.SameBytes s.recRing s t
    (∀ off : BitVec 14, let ea := c.g b + off.signExtend 32
      (¬ (ea.toNat % 4 = 0 ∧ 0x10000 ≤ ea.toNat ∧ ea.toNat + 4 ≤ 0x48000) →
        (∀ d, traps (.lw g d b off) ea) ∧ (∀ d, traps (.lf g d b off) ea)) ∧
      (¬ (ea.toNat % 4 = 0 ∧ 0x10000 ≤ ea.toNat ∧ ea.toNat + 4 ≤ 0x3F000) →
        (∀ x, traps (.sw g x b off) ea) ∧ (∀ x, traps (.sf g x b off) ea))) ∧
    (∀ off : BitVec 15, let ea := c.g b + off.signExtend 32
      (¬ (ea.toNat % 4 = 0 ∧ 0x10000 ≤ ea.toNat ∧ ea.toNat + 32 ≤ 0x48000) → ∀ d, traps (.vld g d b off) ea) ∧
      (¬ (ea.toNat % 4 = 0 ∧ 0x10000 ≤ ea.toNat ∧ ea.toNat + 32 ≤ 0x3F000) → ∀ x, traps (.vst g x b off) ea))

/-- R86, R89, R109. -/
def Obligations.GalVectors : Prop :=
  ∀ (s : State) (g : Nat) (r : BitVec 5) (v : BitVec 4), s.GalQuiet g →
    let c := s.coreOf g
    State.Completes (.vbc g v r) s (fun t => ∃ vr, t = s.putCore g { c.next with vr := vr }
      ∧ (∀ k < 8, Tab.get 0 vr (v.toNat * 8 + k) = c.g r) ∧ (∀ k, k / 8 ≠ v.toNat → Tab.get 0 vr k = Tab.get 0 c.vr k)) ∧
    (∀ lane : BitVec 3, exec (.vins g v r lane) s =
      .next (s.putCore g { c.next with vr := Tab.set (some 0) c.vr (v.toNat * 8 + lane.toNat) (c.g r) })) ∧
    (∀ lane : BitVec 3, exec (.vext g v r lane) s = .next (s.putCore g (c.next.setG r (c.lane v lane.toNat)))) ∧
    (let search := fun (i : Instr) (u : Search) =>
      exec i s = .next (s.putCore g { c.next with search := u, searchPrev := c.search, searchAt := some c.cyc })
     search (.sinitmax g r) { c.search with base := c.g r, idx := 0xFFFFFFFF, minimum := false } ∧
     search (.sinitmin g r) { c.search with base := c.g r, idx := 0xFFFFFFFF, minimum := true } ∧
     (∀ lanes : BitVec 3, let n := lanes.toNat + 1
       search (.sstep g v lanes) { (List.range n).foldl (fun u k =>
         let x := c.lane v k
         if u.idx = 0xFFFFFFFF ∨ (if u.minimum then x.slt u.best else u.best.slt x) = true then
           { u with best := x, idx := c.search.base + BitVec.ofNat 32 k } else u) c.search
         with base := c.search.base + BitVec.ofNat 32 n })) ∧
    ((∀ k, c.searchAt = some k → k + 1 < c.cyc) →
      exec (.sget g r) s = .next (s.putCore g (c.flyG 2 r c.search.best)) ∧
      exec (.sgeti g r) s = .next (s.putCore g (c.flyG 2 r c.search.idx)))

/-- R89, R106, R107. R89, R97, R107, R108. -/
def Obligations.GalMultiplyAdd : Prop :=
  (
  ∀ (s : State) (g : Nat) (fr : Bool) (ad : BitVec 3), s.GalQuiet g → (s.coreOf g).chain = [] →
    let c := s.coreOf g
    let acc := Tab.get 0 c.acc ad.toNat
    let prod := fun (x y : Word) => if fr = true ∧ x = 0x80000000 ∧ y = 0x80000000 then (2 : Int) ^ 63 - 1
      else (if fr then 2 else 1) * (x.toInt * y.toInt)
    let adds := fun (i : Instr) (p : Int) =>
      let t := acc.toInt + p
      let r : AccVal × Bool := if s.bit (GAL.ASTAT g) (16 + ad.toNat) then ({ v := acc, lock := true }, false)
        else if t < -2 ^ 71 then ({ v := BitVec.ofInt 72 (-2 ^ 71), lock := true }, true)
        else if t ≥ 2 ^ 71 then ({ v := BitVec.ofInt 72 (2 ^ 71 - 1), lock := true }, true)
        else ({ v := BitVec.ofInt 72 t, lock := false }, false)
      exec i s = .next (s.putCore g { c.flyA 4 ad r true with chain := [(ad.toNat, (c.seq, r.1))] })
    (∀ a b, adds (.smac g fr ad a b) (prod (c.g a) (c.g b)) ∧ adds (.smsu g fr ad a b) (-prod (c.g a) (c.g b))) ∧
    (∀ (a b : BitVec 4) (mask : BitVec 8),
      let sum := ((List.range 8).map fun k => if mask.getLsbD k then prod (c.lane a k) (c.lane b k) else 0).sum
      adds (.vdot g fr ad a b mask) sum ∧ adds (.vdotn g fr ad a b mask) (-sum))) ∧
  (
  ∀ (s : State) (g : Nat) (a : BitVec 3) (r : BitVec 5), s.GalQuiet g →
    let c := s.coreOf g
    let acc := Tab.get 0 c.acc a.toNat
    let lock := s.bit (GAL.ASTAT g) (16 + a.toNat)
    let put := fun (part : Nat) => c.fly 2 (.aput a.toNat part) [c.g r]
    exec (.azero g a) s = .next (s.putCore g (c.flyA 2 a ({}, false) false)) ∧
    (∀ n : BitVec 6, let t := (c.g r).toInt * 2 ^ n.toNat
      exec (.ald g a r n) s = .next (s.putCore g (c.flyA 2 a
        (if t < -2 ^ 71 then ({ v := BitVec.ofInt 72 (-2 ^ 71), lock := true }, true)
         else if t ≥ 2 ^ 71 then ({ v := BitVec.ofInt 72 (2 ^ 71 - 1), lock := true }, true)
         else ({ v := BitVec.ofInt 72 t, lock := false }, false)) false))) ∧
    (∀ n : BitVec 6,
      let lim := fun (v : Int) => if v < -2 ^ 31 then (0x80000000#32, some 8) else if v ≥ 2 ^ 31 then (0x7FFFFFFF#32, some 8)
        else (BitVec.ofInt 32 v, none)
      let near := lim ((acc.toInt + if n = 0 then 0 else 2 ^ (n.toNat - 1)) / 2 ^ n.toNat)
      let down := lim (acc.toInt / 2 ^ n.toNat)
      exec (.asat g a r n) s = .next (s.putCore g (c.flyG 2 r near.1 near.2)) ∧
      exec (.asatt g a r n) s = .next (s.putCore g (c.flyG 2 r down.1 down.2))) ∧
    exec (.agetl g a r) s = .next (s.putCore g (c.flyG 2 r (acc.extractLsb' 0 32))) ∧
    exec (.agetm g a r) s = .next (s.putCore g (c.flyG 2 r (acc.extractLsb' 32 32))) ∧
    exec (.ageth g a r) s = .next (s.putCore g (c.flyG 2 r
      (BitVec.ofNat 32 ((acc.extractLsb' 64 8).toNat + if lock then 256 else 0)))) ∧
    exec (.aputl g a r) s = .next (s.putCore g (put 0)) ∧ exec (.aputm g a r) s = .next (s.putCore g (put 1)) ∧
    exec (.aputh g a r) s = .next (s.putCore g (put 2)))

/-- R88, R89. R88: NaNs, subnormal operands and results. -/
def Obligations.GalFloat : Prop :=
  (
  ∀ (s : State) (g : Nat) (d a b : BitVec 4) (r : BitVec 5), s.GalQuiet g →
    let c := s.coreOf g
    let inv := fun (x : Word × Bool) => if x.2 then some 9 else none
    let toF := fun (i : Instr) (x : Word × Bool) => exec i s = .next (s.putCore g (c.flyF 4 d x.1 (inv x)))
    let toG := fun (i : Instr) (x : Word × Bool) => exec i s = .next (s.putCore g (c.flyG 4 r x.1 (inv x)))
    toF (.fadd g d a b) (f32Add (c.f a) (c.f b)) ∧ toF (.fsub g d a b) (f32Sub (c.f a) (c.f b)) ∧
    toF (.fmul g d a b) (f32Mul (c.f a) (c.f b)) ∧ toF (.fma g d a b) (f32Fma (c.f d) (c.f a) (c.f b)) ∧
    toF (.fmin g d a b) (f32MinMax false (c.f a) (c.f b)) ∧ toF (.fmax g d a b) (f32MinMax true (c.f a) (c.f b)) ∧
    toF (.fabs g d a) (f32Abs (c.f a)) ∧ toF (.fneg g d a) (f32Neg (c.f a)) ∧
    (let x := c.f a
     let e := x.extractLsb' 23 8
     e ≠ 0 → e ≠ 0xFF → f32Abs x = (x &&& 0x7FFFFFFF, false) ∧ f32Neg x = (x ^^^ 0x80000000, false)) ∧
    toF (.qtof g d r) (f32OfInt 31 (c.g r), false) ∧ toF (.itof g d r) (f32OfInt 0 (c.g r), false) ∧
    toF (.gmvf g d r) (c.g r, false) ∧ toG (.fmvg g r a) (c.f a, false) ∧
    toG (.fcmplt g r a b) (f32CmpLt (c.f a) (c.f b)) ∧ toG (.ftoq g r a) (f32ToInt 31 (c.f a)) ∧
    toG (.ftoi g r a) (f32ToInt 0 (c.f a)) ∧
    (let x := f32Div (c.f a) (c.f b)
     exec (.fdiv g d a b) s = .next (s.putCore g { c.flyF 12 d x.1 (inv x) with divBusy := c.cyc + 12 })) ∧
    (let x := f32Sqrt (c.f a)
     exec (.fsqrt g d a) s = .next (s.putCore g { c.flyF 14 d x.1 (inv x) with divBusy := c.cyc + 14 }))) ∧
  (
  ∀ x y : Word,
    let sub := fun (w : Word) => w.extractLsb' 23 8 = 0 ∧ w.extractLsb' 0 23 ≠ 0
    let nan := fun (w : Word) => w.extractLsb' 23 8 = 0xFF ∧ w.extractLsb' 0 23 ≠ 0
    (nan x ∨ nan y → (f32Add x y).1 = 0x7FC00000 ∧ (f32Sub x y).1 = 0x7FC00000 ∧ (f32Mul x y).1 = 0x7FC00000
      ∧ (f32Div x y).1 = 0x7FC00000) ∧
    (sub x → let z := x &&& 0x80000000
      f32Add x y = f32Add z y ∧ f32Add y x = f32Add y z ∧ f32Sub x y = f32Sub z y ∧ f32Mul x y = f32Mul z y
      ∧ f32Div x y = f32Div z y ∧ f32Sqrt x = f32Sqrt z ∧ f32ToInt 31 x = f32ToInt 31 z) ∧
    ¬ sub (f32Add x y).1 ∧ ¬ sub (f32Sub x y).1 ∧ ¬ sub (f32Mul x y).1 ∧ ¬ sub (f32Div x y).1 ∧ ¬ sub (f32Sqrt x).1 ∧
    (nan x → f32ToInt 31 x = (0, true) ∧ f32ToInt 0 x = (0, true)))

/-- R86, R91, R93, R99, R105: the control instructions outside loops, and NOP, SYNC and SEVT. R91, R95, R96, R98: delay slots and the exits from contexts. -/
def Obligations.GalControlFlow : Prop :=
  (
  ∀ (s : State) (g : Nat), s.GalQuiet g →
    let c := s.coreOf g
    let jumps := fun (i : Instr) (j : Jump) (d : Core) => exec i s = .next (s.putCore g { d with slotOf := some (j, c.pc) })
    let holds := fun (k : Cond) (v : Word) => match k with
      | .always => true
      | .eqz => v == 0
      | .nez => v != 0
      | .ltz => v.msb
      | .gez => !v.msb
      | .gtz => v != 0 && !v.msb
      | .lez => v == 0 || v.msb
    exec (.nop g) s = .next (s.putCore g c.next) ∧ exec (.sync g) s = .next (s.putCore g c.next) ∧
    (∀ (k : Cond) (gc : BitVec 5) (off : BitVec 15),
      jumps (.b g k gc off) (.to (if holds k (c.g gc) then c.pc + off.signExtend 32 * 4 else c.pc + 8)) c.next) ∧
    (∀ off : BitVec 15, jumps (.call g off) (.to (c.pc + off.signExtend 32 * 4)) (c.next.setG 31 (c.pc + 8))) ∧
    jumps (.ret g) (.to (c.g 31)) c.next ∧
    exec (.lexit g false) s = .next (s.putCore g { c.next with lc0 := 0 }) ∧
    exec (.lexit g true) s = .next (s.putCore g { c.next with lc1 := 0 }) ∧
    State.Completes (.sevt g) s (fun t => t.bit (HDR.EVT (pgGAL g)) 4 = true ∧ t.coreOf g = c.next
      ∧ State.SameRegs (State.reports (pgGAL g)) s t ∧ State.SameBytes s.recRing s t) ∧
    (∀ code : BitVec 8, c.ctx ≠ .trap → State.Completes (.trap g code) s fun t =>
      if 0x80 ≤ code.toNat then s.TrapTaken t g code.toNat (c.pc + 4) else s.TrapTaken t g 1 c.pc) ∧
    (∀ ns, c.ctx = .background → s.irqReady g = false → (∀ n < 6, (s.slotRun g n).ready = false) →
      State.Completes (.waiti g ns) s fun t => t.coreOf g = { c.next with waiti := true } ∧ t.mem = s.mem
        ∧ (if 1000 < ns ∧ c.imask.getLsbD 4 = false then t.fld (HDR.STA (pgGAL g)) 10 8 = 2 else t.regs = s.regs))) ∧
  (
  ∀ (s : State) (g : Nat), s.GalReady g →
    let c := s.coreOf g
    (∀ t b, c.slotOf = some (.to t, b) → exec (.nop g) s = .next (s.putCore g { c.next with pc := t, slotOf := none })) ∧
    (c.ctx = .interrupt → c.slotOf = none → c.act = 0 →
      exec (.reti g) s = .next (s.putCore g { c.next with slotOf := some (.reti, c.pc) })) ∧
    (c.ctx = .trap → c.slotOf = none → c.act = 0 →
      exec (.retx g) s = .next (s.putCore g { c.next with slotOf := some (.retx, c.pc) })) ∧
    (∀ b, c.ctx = .interrupt → c.slotOf = some (.reti, b) →
      exec (.nop g) s = .next (s.putCore g { c.next with pc := c.ipc, slotOf := none, ctx := c.stack.headD .background, stack := c.stack.tail, act := c.actSaved.extractLsb' 0 2 })) ∧
    (∀ b, c.ctx = .trap → c.budgetHeld = false → c.slotOf = some (.retx, b) →
      exec (.nop g) s = .next (s.putCore g { c.next with pc := s.rd (GAL.XPC g), slotOf := none, ctx := c.stack.headD .background, stack := c.stack.tail, act := c.actSaved.extractLsb' 4 2 })) ∧
    (∀ (j : Jump) (b : Word) (i : Instr), c.ctx ≠ .trap → c.slotOf = some (j, b) →
      ((∃ k gc off, i = .b g k gc off) ∨ (∃ off, i = .call g off) ∨ i = .ret g ∨ i = .reti g ∨ i = .retx g
        ∨ (∃ l gc off, i = .loop g l gc off) ∨ (∃ l n off, i = .loopi g l n off) ∨ (∃ l, i = .lexit g l) ∨ i = .endt g
        ∨ (∃ ns, i = .waiti g ns) ∨ (∃ code, i = .trap g code)) →
      State.Completes i s fun t => t.rd (GAL.XPC g) = b ∧ t.fld (GAL.XINFO g) 7 0 = 1 ∧ t.bit (GAL.XINFO g) 12 = true
        ∧ (t.coreOf g).ctx = .trap ∧ (t.coreOf g).pc = 0x40))

/-- R92, R93, R99: loops of level 0, level 1 inside level 0, and going round. -/
def Obligations.GalLoops : Prop :=
  ∀ (s : State) (g : Nat), s.GalReady g → (s.coreOf g).slotOf = none →
    let c := s.coreOf g
    (∀ off : BitVec 12, off ≠ 0 →
      let last := c.pc + off.setWidth 32 * 4
      isControlWord (s.codeWord g last) = false → (off = 1 ∨ isDelayedWord (s.codeWord g (last - 4)) = false) →
      (c.act = 0 →
        let starts := fun (i : Instr) (n : Word) => exec i s = .next (s.putCore g { c.next with ls0 := c.pc + 4, le0 := last, lc0 := n, act := 1 })
        let skips := fun (i : Instr) => exec i s = .next (s.putCore g { c.next with pc := last + 4 })
        (∀ gc, (c.g gc = 0 → skips (.loop g false gc off)) ∧
          (0 < (c.g gc).toNat → (c.g gc).toNat < 0xFFFF → starts (.loop g false gc off) (c.g gc)) ∧
          (0xFFFF ≤ (c.g gc).toNat → c.ctx ≠ .trap → State.Completes (.loop g false gc off) s fun t => s.TrapTaken t g 3 c.pc)) ∧
        (∀ n : BitVec 11, (n = 0 → skips (.loopi g false n off)) ∧ (n ≠ 0 → starts (.loopi g false n off) (n.setWidth 32)))) ∧
      (c.act = 1 → c.ls0.toNat ≤ (c.pc + 4).toNat → last.toNat ≤ c.le0.toNat →
        ∀ n : BitVec 11, n ≠ 0 → exec (.loopi g true n off) s =
          .next (s.putCore g { c.next with ls1 := c.pc + 4, le1 := last, lc1 := n.setWidth 32, act := 3 }))) ∧
    (c.act = 1 → c.le0 = c.pc →
      (1 < c.lc0.toNat → exec (.nop g) s = .next (s.putCore g { c.next with pc := c.ls0, lc0 := c.lc0 - 1 })) ∧
      (c.lc0.toNat ≤ 1 → exec (.nop g) s = .next (s.putCore g { c.next with lc0 := 0, act := 0 })))

/-- R89, R119: every system register, read and written. -/
def Obligations.GalSystemRegisters : Prop :=
  ∀ (s : State) (g : Nat) (r : BitVec 5), s.GalQuiet g → ((∀ k, (s.coreOf g).searchAt = some k → k + 1 < (s.coreOf g).cyc)) →
    let c := s.coreOf g
    let v := c.g r
    let reads := fun (n : Nat) (w : Word) => exec (.mfs g r (BitVec.ofNat 11 n)) s = .next (s.putCore g (c.next.setG r w))
    let reads2 := fun (n : Nat) (w : Word) => exec (.mfs g r (BitVec.ofNat 11 n)) s = .next (s.putCore g (c.flyG 2 r w))
    let writes := fun (n : Nat) (d : Core) => exec (.mts g r (BitVec.ofNat 11 n)) s = .next (s.putCore g d)
    let n := c.next
    (reads 0x001 c.ipc ∧ reads 0x002 c.tpc ∧ reads 0x003 (s.rd (GAL.XPC g)) ∧ reads 0x004 (s.rd (GAL.XINFO g)) ∧
     reads 0x005 (s.rd (GAL.XADDR g)) ∧ reads 0x006 (c.imask.setWidth 32) ∧ reads 0x007 (c.ipend.setWidth 32) ∧
     reads 0x010 c.ls0 ∧ reads 0x011 c.le0 ∧ reads 0x012 c.lc0 ∧ reads 0x013 c.ls1 ∧ reads 0x014 c.le1 ∧ reads 0x015 c.lc1 ∧
     reads 0x016 0 ∧ reads2 0x020 c.search.best ∧ reads2 0x021 c.search.idx ∧ reads2 0x022 c.search.base ∧
     reads 0x030 (s.rd (GAL.ASTAT g)) ∧
     reads 0x031 (BitVec.ofNat 32 (if c.ctx = .tread then c.cyc - c.dispatchCyc else c.cyc)) ∧
     reads 0x032 (BitVec.ofNat 32 c.slotno) ∧ reads 0x033 (s.rd (GAL.TREADCNT g)) ∧ reads 0x034 c.timecmp ∧
     reads 0x000 ((match c.ctx with | .background => 0 | .interrupt => 1 | .tread => 2 | .trap => 3) + c.actSaved.setWidth 32 * 4)) ∧
    (writes 0x000 { n with actSaved := v.extractLsb' 2 6 } ∧ writes 0x001 { n with ipc := v } ∧ writes 0x002 { n with tpc := v } ∧
     writes 0x010 { n with ls0 := v } ∧ writes 0x011 { n with le0 := v } ∧ writes 0x012 { n with lc0 := v } ∧
     writes 0x013 { n with ls1 := v } ∧ writes 0x014 { n with le1 := v } ∧ writes 0x015 { n with lc1 := v } ∧
     writes 0x034 { n with timecmp := v } ∧
     State.Completes (.mts g r 0x003) s (fun t => t.rd (GAL.XPC g) = v ∧ State.SameRegs (fun a => a = GAL.XPC g) s t ∧ t.coreOf g = n) ∧
     State.Completes (.mts g r 0x006) s (fun t => (t.coreOf g).imask = v.setWidth 8 &&& 0xFE ∧ (t.coreOf g).pc = n.pc) ∧
     (c.le0 ≠ c.pc → c.le1 ≠ c.pc → writes 0x016 { n with act := v.extractLsb' 0 2 }) ∧
     State.Completes (.mts g r 0x020) s (fun t => (t.coreOf g).search = { c.search with best := v } ∧ (t.coreOf g).pc = n.pc) ∧
     State.Completes (.mts g r 0x021) s (fun t => (t.coreOf g).search = { c.search with idx := v } ∧ (t.coreOf g).pc = n.pc) ∧
     State.Completes (.mts g r 0x022) s (fun t => (t.coreOf g).search = { c.search with base := v } ∧ (t.coreOf g).pc = n.pc)) ∧
    (c.ctx ≠ .trap →
      (∀ k ∈ [0x004, 0x005, 0x007, 0x030, 0x031, 0x032, 0x033, 0x008, 0x017, 0x023, 0x035, 0x7FF],
        State.Completes (.mts g r (BitVec.ofNat 11 k)) s fun t => s.TrapTaken t g 1 c.pc) ∧
      (∀ k ∈ [0x008, 0x017, 0x023, 0x035, 0x7FF],
        State.Completes (.mfs g r (BitVec.ofNat 11 k)) s fun t => s.TrapTaken t g 1 c.pc))

/-- R26, R28, R101, R169: the landing instructions. -/
def Obligations.GalLandingInstrs : Prop :=
  ∀ (s : State) (g : Nat) (a b : BitVec 5), s.GalQuiet g → s.bit MEM.INJCFG 16 = false →
    let c := s.coreOf g
    let n := c.slotno
    let br := s.slotBridge g n
    let at_ := galBase g + (c.g a).toNat
    let gives := fun (t : State) (w : Word) => t.coreOf g = c.next.setG b w
    let copied := fun (t : State) (u : List Word) =>
      (∀ k < 64, ¬ s.recRing (at_ + k) → t.byte (at_ + k) = (bytesOf u).getD k 0)
      ∧ State.SameBytes (fun x => (at_ ≤ x ∧ x < at_ + 64) ∨ s.recRing x) s t
    (c.ctx = .tread → localStoreOk (c.g a).toNat 64 = true → s.GoodCode at_ 64 →
      (∀ p u, s.sampleFor g br = some (p, u) → u.length = 16 → State.Completes (.swait g a b) s fun t =>
        copied t u ∧ gives t (if (s.slotRun g n).overrun then 2 else 0) ∧ t.regs = s.regs
        ∧ (t.galOf g).samples = (s.galOf g).samples.erase (p, u) ∧ (t.slotRun g n).lastSample = u
        ∧ (t.credit (.sample g) p).back = Nat.min (s.credit (.sample g) p).spent ((s.credit (.sample g) p).back + 1)) ∧
      (s.sampleFor g br = none → (s.slotRun g n).sdlPassed = true → (s.slotRun g n).lastSample.length = 16 →
        State.Completes (.swait g a b) s fun t => copied t (s.slotRun g n).lastSample
        ∧ gives t (if (s.slotRun g n).overrun then 3 else 1) ∧ (t.slotRun g n).missing = true
        ∧ t.fld (GAL.MISSCNT g) 15 0 = Nat.min 0xFFFF (s.fld (GAL.MISSCNT g) 15 0 + 1) ∧ t.bit (HDR.FLT (pgGAL g)) 16 = true) ∧
      (let mine := fun (u : Nat × List Word) => decide (wfld (u.2.getD 1 0) 4 0 = s.brgAxis br)
       (∀ u, ((s.galOf g).setpoints.filter mine).getLast? = some u → u.2.length = 16 → State.Completes (.ldsp g a b) s fun t =>
         copied t u.2 ∧ gives t 1 ∧ t.regs = s.regs ∧ (t.galOf g).setpoints = (s.galOf g).setpoints.filter (fun x => !mine x)
         ∧ (t.slotRun g n).lastSetpoint = u.2) ∧
       ((s.galOf g).setpoints.filter mine = [] → (s.slotRun g n).lastSetpoint.length = 16 → State.Completes (.ldsp g a b) s fun t =>
         copied t (s.slotRun g n).lastSetpoint ∧ gives t 0 ∧ t.regs = s.regs))) ∧
    (c.ctx = .tread → s.sampleFor g br = none → (s.slotRun g n).sdlPassed = false →
      exec (.swait g a b) s = .next (s.putCore g { c with swait := some (c.g a, gIndex c.ctx b.toNat), cyc := c.cyc + 1, seq := c.seq + 1 })) ∧
    (c.ctx = .tread → s.galState g = 3 → (s.slotRun g n).shadow = false → s.busyOp MIG.MSTA = false →
      let len := if (s.byte (galBase g + (c.g a).toNat % 0x100000 + 1)).getLsbD 0 then 128 else 64
      localLoadOk (c.g a).toNat len = true → s.GoodCode at_ len →
      let p := s.planOf g n (leWords (len / 4) (s.bytes at_ len))
      let r := s.brgRing br
      (s.hasCredit (.edge r) (s.brgPos br) p.units = true → State.Completes (.pcommit g a b) s fun t =>
        (t.ringOf r).edge = (s.ringOf r).edge ++ [p] ∧ gives t 0 ∧ t.regs = s.regs ∧ t.mem = s.mem
        ∧ p.bridge = br ∧ p.tread = (s.slotRun g n).tread ∧ p.epoch = (s.slotRun g n).epoch
        ∧ (t.credit (.edge r) (s.brgPos br)).spent = (s.credit (.edge r) (s.brgPos br)).spent + p.units) ∧
      (s.hasCredit (.edge r) (s.brgPos br) p.units = false → State.Completes (.pcommit g a b) s fun t =>
        t.ringOf r = s.ringOf r ∧ gives t 1 ∧ t.bit (HDR.FLT (pgGAL g)) 18 = true
        ∧ t.fld (GAL.PLANCNT g) 15 0 = Nat.min 0xFFFF (s.fld (GAL.PLANCNT g) 15 0 + 1))) ∧
    (c.ctx = .tread → State.Completes (.obsr g a b) s fun t =>
      (t.slotRun g n).residual = some (c.g a) ∧ gives t 0 ∧ t.regs = s.regs ∧ t.mem = s.mem) ∧
    ((c.ctx = .background ∨ c.ctx = .interrupt) → ∀ i ∈ [Instr.swait g a b, .ldsp g a b, .pcommit g a b, .obsr g a b],
      State.Completes i s fun t => s.TrapTaken t g 1 c.pc)

/-- R95, R96, R100, R102: TREAD_DISPATCH and ENDT. -/
def Obligations.GalTreads : Prop :=
  (∀ (s : State) (g n : Nat) (lib : LibDemand), g < s.variant.galleries → n < 6 → s.slotOn g n = true →
    (s.galState g = 3 ∨ s.galState g = 9) → s.holdMode = false →
    let c := s.coreOf g
    ((c.ctx = .background ∨ c.ctx = .interrupt) → s.interruptible g = true →
      (∀ m < 6, m ≠ n → (s.slotRun g m).ready = false) →
      State.Completes (.treadDispatch g n lib) s fun t =>
        (t.coreOf g).ctx = .tread ∧ (t.coreOf g).stack = c.ctx :: c.stack ∧ (t.coreOf g).tpc = c.pc
        ∧ (t.coreOf g).pc = (s.slotCfg g n).entry &&& 0xFFFFFFFC ∧ (t.coreOf g).slotno = n ∧ (t.coreOf g).act = 0
        ∧ (t.coreOf g).dispatchCyc = c.cyc ∧ t.rd64 (GAL.TREADCNT g) = s.rd64 (GAL.TREADCNT g) + 1) ∧
    ((c.ctx = .tread ∨ c.ctx = .trap) → State.Completes (.treadDispatch g n lib) s fun t =>
      (t.slotRun g n).ready = true ∧ (t.coreOf g).pc = c.pc ∧ (t.coreOf g).ctx = c.ctx ∧ t.mem = s.mem)) ∧
  (∀ (s : State) (g : Nat), s.GalQuiet g → (s.coreOf g).ctx = .tread →
    let c := s.coreOf g
    ((∀ m < 6, (s.slotRun g m).ready = false) → State.Completes (.endt g) s fun t =>
      (t.coreOf g).ctx = c.stack.headD .background ∧ (t.coreOf g).stack = c.stack.tail ∧ (t.coreOf g).pc = c.tpc
      ∧ (t.coreOf g).act = c.actSaved.extractLsb' 2 2 ∧ (t.coreOf g).gpr = c.gpr
      ∧ t.fld (GAL.SLOT_CYCMAX g c.slotno) 15 0 = Nat.max (s.fld (GAL.SLOT_CYCMAX g c.slotno) 15 0) (Nat.min (c.cyc - c.dispatchCyc) 0xFFFF)) ∧
    (∀ m, s.nextSlot g = some m → State.Completes (.endt g) s fun t =>
      (t.coreOf g).ctx = .tread ∧ (t.coreOf g).slotno = m ∧ (t.coreOf g).pc = (s.slotCfg g m).entry &&& 0xFFFFFFFC
      ∧ (t.coreOf g).tpc = c.tpc))

/-- R22, R94, R96, R98, R99, R101, R105: what comes to a gallery from outside its program. -/
def Obligations.GalEntries : Prop :=
  ∀ (s : State) (g : Nat), g < s.variant.galleries →
    let c := s.coreOf g
    let pend := c.ipend &&& c.imask
    (∀ k, k < 8 → pend.getLsbD k = true → (∀ j < k, pend.getLsbD j = false) → (s.galState g = 3 ∨ s.galState g = 9) →
      c.ctx = .background → s.interruptible g = true → State.Completes (.interruptEntry g) s fun t =>
        (t.coreOf g).ctx = .interrupt ∧ (t.coreOf g).pc = BitVec.ofNat 32 (8 * k) ∧ (t.coreOf g).ipc = c.pc
        ∧ (t.coreOf g).ipend.getLsbD k = false ∧ (t.coreOf g).stack = .background :: c.stack
        ∧ (k = 1 → t.bit (GAL.DOORBELL g) 0 = false) ∧ t.mem = s.mem) ∧
    (∀ x : Word, s.galIssues g = true → c.slotOf = none → c.ctx ≠ .trap →
      (State.Completes (.trapEntry g .illegal x) s fun t => s.TrapTaken t g 1 c.pc) ∧
      (State.Completes (.trapEntry g .access x) s fun t => s.TrapTaken t g 2 c.pc ∧ t.rd (GAL.XADDR g) = x) ∧
      (State.Completes (.trapEntry g .dataUe x) s fun t => s.TrapTaken t g 5 c.pc ∧ t.rd (GAL.XADDR g) = x ∧ t.bit (HDR.FLT (pgGAL g)) 4 = true) ∧
      (State.Completes (.trapEntry g .storeUe x) s fun t => s.TrapTaken t g 6 c.pc ∧ t.rd (GAL.XADDR g) = x) ∧
      (c.deferred = [] → s.interruptible g = true → State.Completes (.trapEntry g .accsat x) s fun t => s.TrapTaken t g 8 c.pc)) ∧
    (∀ x : Word, s.galIssues g = true → c.ctx = .trap → State.Completes (.trapEntry g .illegal x) s fun t =>
      s.galState g ≠ 6 ∧ t.galState g = 6 ∧ t.bit (HDR.FLT (pgGAL g)) 21 = true ∧ t.bit (GAL.XINFO g) 11 = true) ∧
    ((s.galState g = 3 ∨ s.galState g = 9) → c.ctx = .tread → c.slotOf = none → c.budgetGone = false →
      State.Completes (.budgetExpiry g) s fun t => t.rd (GAL.XPC g) = c.pc ∧ t.fld (GAL.XINFO g) 7 0 = 7 ∧ (t.coreOf g).ctx = .trap
        ∧ (t.coreOf g).pc = 0x40 ∧ t.bit (HDR.FLT (pgGAL g)) 19 = true
        ∧ t.fld (GAL.PLANCNT g) 31 16 = Nat.min 0xFFFF (s.fld (GAL.PLANCNT g) 31 16 + 1)) ∧
    (s.galIssues g = true → State.Completes (.fetchUe g) s fun t =>
      t.galState g = 6 ∧ t.fld (GAL.XINFO g) 7 0 = 4 ∧ t.bit (HDR.FLT (pgGAL g)) 22 = true ∧ t.bit (HDR.FLT (pgGAL g)) 4 = true
      ∧ (t.coreOf g).gpr = c.gpr) ∧
    (c.swait = none → c.ctx = .tread → State.Completes (.sampleDeadline g) s fun t =>
      (t.slotRun g c.slotno).sdlPassed = true ∧ t.regs = s.regs ∧ t.mem = s.mem ∧ t.coreOf g = c) ∧
    (∀ ea reg, c.swait = some (ea, reg) → (s.putCore g { c with swait := none }).GalQuiet g →
      s.sampleFor g (s.slotBridge g c.slotno) = none → localStoreOk ea.toNat 64 = true → s.GoodCode (galBase g + ea.toNat) 64 →
      State.Completes (.sampleDeadline g) s fun t => (t.coreOf g).pc = c.pc + 4 ∧ (t.coreOf g).swait = none
        ∧ (t.slotRun g c.slotno).missing = true ∧ t.bit (HDR.FLT (pgGAL g)) 16 = true) ∧
    (State.Completes (.doorbell g) s fun t => (t.coreOf g).ipend = c.ipend ||| 2 ∧ t.bit (GAL.DOORBELL g) 0 = true
      ∧ (t.coreOf g).waiti = false ∧ (t.coreOf g).pc = c.pc ∧ t.mem = s.mem) ∧
    (State.Completes (.localTimer g) s fun t => (t.coreOf g).ipend = c.ipend ||| 16 ∧ (t.coreOf g).pc = c.pc ∧ t.mem = s.mem) ∧
    (State.Completes (.fastClockRequest g) s fun t => t.coreOf g = { c with waiti := false } ∧ t.mem = s.mem
      ∧ t.fld (HDR.STA (pgGAL g)) 10 8 = (if s.fld (HDR.STA (pgGAL g)) 10 8 = 2 then 3 else s.fld (HDR.STA (pgGAL g)) 10 8))

/-- R28, R94, R110, R111, R134. -/
def Obligations.GalLandings : Prop :=
  ∀ (s : State) (g : Nat), g < s.variant.galleries →
    let x := s.galOf g
    (∀ p u, u.length = 16 → x.core.swait = none →
      (s.hasCredit (.sample g) p = true → State.Completes (.sampleUnitArrival g p u) s fun t =>
        (t.galOf g).samples = x.samples ++ [(p, u)] ∧ (t.credit (.sample g) p).spent = (s.credit (.sample g) p).spent + 1
        ∧ t.regs = s.regs ∧ t.mem = s.mem ∧ t.coreOf g = x.core) ∧
      (s.hasCredit (.sample g) p = false → State.Completes (.sampleUnitArrival g p u) s fun t =>
        (t.galOf g).samples = x.samples ∧ t.bit (HDR.FLT (pgGAL g)) 17 = true
        ∧ t.fld (GAL.MISSCNT g) 31 16 = Nat.min 0xFFFF (s.fld (GAL.MISSCNT g) 31 16 + 1) ∧ State.SameBytes s.recRing s t)) ∧
    (∀ k u, u.length = 16 →
      (s.hasCredit (.setpoint g) k = true → (∀ e ∈ x.stalled, e.1 ≠ k) → State.Completes (.setpointUnitArrival g k u) s fun t =>
        (t.galOf g).setpoints = x.setpoints ++ [(k, u)] ∧ (t.credit (.setpoint g) k).spent = (s.credit (.setpoint g) k).spent + 1
        ∧ (t.coreOf g).ipend = x.core.ipend ||| 64 ∧ t.mem = s.mem) ∧
      (s.hasCredit (.setpoint g) k = false → State.Completes (.setpointUnitArrival g k u) s fun t =>
        t = s.putGal g { x with stalled := x.stalled ++ [(k, u)] })) ∧
    (∀ v : Word64, v.extractLsb' 42 22 = 0 →
      let i := (v.extractLsb' 32 10).toNat
      (s.ownedCoef g i = false → s.anySlot g = true → s.galState g ≠ 8 → x.coefs.length < 16 →
        State.Completes (.coefwWrite g v) s fun t => (t.galOf g).coefs = x.coefs ++ [(i, v.extractLsb' 0 32)]
          ∧ t.fld (GAL.COEFQ g) 4 0 = x.coefs.length + 1 ∧ t.mem = s.mem) ∧
      (s.ownedCoef g i = false → s.anySlot g = true → s.galState g ≠ 8 → 16 ≤ x.coefs.length →
        State.Completes (.coefwWrite g v) s fun t => (t.galOf g).coefs = x.coefs ∧ t.bit (HDR.FLT (pgGAL g)) 24 = true) ∧
      (s.ownedCoef g i = false → s.anySlot g = false → s.bit MEM.INJCFG 16 = false → s.GoodCode (galBase g + 0x3F000 + 4 * i) 4 →
        State.Completes (.coefwWrite g v) s fun t =>
          t.bytes (galBase g + 0x3F000 + 4 * i) 4 = leBytes 4 (v.extractLsb' 0 32).toNat
          ∧ State.SameBytes (fun a => galBase g + 0x3F000 + 4 * i ≤ a ∧ a < galBase g + 0x3F000 + 4 * i + 4) s t
          ∧ t.fld (GAL.COEFQ g) 31 16 = Nat.min 0xFFFF (s.fld (GAL.COEFQ g) 31 16 + 1)) ∧
      (s.ownedCoef g i = true → State.Completes (.coefwWrite g v) s fun t =>
        t.bit (HDR.FLT (pgGAL g)) 0 = true ∧ (t.galOf g).coefs = x.coefs ∧ State.SameBytes s.recRing s t))

/-- R94, R101, R103, R113 to R117, R122, R522. -/
def Obligations.GalScheduleTrace : Prop :=
  ∀ (s : State) (g : Nat), g < s.variant.galleries →
    let sta := GAL.SCHSTA g
    let tr := GAL.TRSTA g
    (s.busyOp sta = false → s.offView (pgGAL g) = false → State.Completes (.schctlCommit g) s fun t => t.phase sta = 1 ∧ t.fld sta 7 0 = 0 ∧ t.galOf g = s.galOf g ∧ t.mem = s.mem) ∧
    (s.busyOp sta = true → State.Completes (.schctlCommit g) s fun t => t.rd sta = s.rd sta ∧ t.bit (HDR.FLT (pgGAL g)) 0 = true) ∧
    (s.busyOp sta = true → s.isPast sta = false → State.Completes (.schctlAbort g) s fun t =>
      t.phase sta = 3 ∧ t.fld sta 7 0 = 1 ∧ t.bit (HDR.FLT (pgGAL g)) 26 = true ∧ t.galOf g = s.galOf g) ∧
    (s.busyOp sta = true → (∀ n < 6, s.bit (GAL.SLOT_SBR g n) 7 = false) → s.scheduleCheck g ((List.range 6).map fun n => (n, s.stagedSlot g n)) = none →
      State.Completes (.scheduleCommitDone g) s fun t => t.phase sta = 3 ∧ t.fld sta 7 0 = 0 ∧ t.fld sta 18 16 = 0
        ∧ (∀ n < 6, t.slotOn g n = false ∧ t.bit (GAL.SLOT_ACTIVE g n) 7 = false) ∧ t.bit (HDR.EVT (pgGAL g)) 3 = true) ∧
    (s.busyOp tr = false → s.offView (pgGAL g) = false → s.num (GAL.TRPOST g) ≤ s.traceCap g → s.num (GAL.TRPOST g) ≠ 0xFFFF → s.fld (GAL.TRTRIG g) 6 4 ≠ 0 →
      State.Completes (.trctlArm g) s fun t => t.phase tr = 1 ∧ t.fld tr 31 16 = 0 ∧ t.rd (GAL.TRPTR g) = 0
        ∧ (t.galOf g).trace = {} ∧ t.mem = s.mem) ∧
    (s.busyOp tr = true → s.isPast tr = false → State.Completes (.trctlStop g) s fun t =>
      t.phase tr = 3 ∧ t.fld tr 7 0 = 1 ∧ t.mem = s.mem ∧ t.galOf g = s.galOf g) ∧
    (s.GalQuiet g → s.phase tr = 1 → s.bit (GAL.TRCFG g) 0 = false → s.fld (GAL.TRTRIG g) 6 4 = 3 → s.bit MEM.INJCFG 16 = false →
      let size := 8 + 4 * (s.fld (GAL.TRCFG g) 7 4 + 1)
      let at_ := galBase g + 0x40000 + s.num (GAL.TRPTR g)
      s.num (GAL.TRPTR g) + size ≤ 0x8000 → s.num (GAL.TRPTR g) % 4 = 0 → s.GoodCode at_ size → State.Completes (.trcap g) s fun t =>
        t.bytes at_ size = bytesOf (s.traceHead g ++ (List.range (s.fld (GAL.TRCFG g) 7 4 + 1)).map (s.traceNode g))
        ∧ State.SameBytes (fun a => at_ ≤ a ∧ a < at_ + size) s t ∧ t.coreOf g = (s.coreOf g).next
        ∧ t.num (GAL.TRPTR g) = (if s.num (GAL.TRPTR g) + 2 * size ≤ 0x8000 then s.num (GAL.TRPTR g) + size else 0)) ∧
    (∀ n < 6, let lim := s.fld (GAL.SUPCFG g n) 7 0
      s.bit (GAL.SUPCFG g n) 8 = true → lim ≠ 0 → lim ≤ s.fld (GAL.SUPCNT g n) 7 0 → s.bit (GAL.SUPCNT g n) 16 = false →
      State.Completes (.supervisorTrip g n) s fun t => t.bit (GAL.SUPCNT g n) 16 = true ∧ t.bit (HDR.FLT (pgGAL g)) 23 = true
        ∧ (t.coreOf g).ipend.getLsbD 5 = true ∧ (t.coreOf g).pc = (s.coreOf g).pc
        ∧ (s.slotBridge g n < 48 → t.galFault.getLsbD (s.slotBridge g n) = true)) ∧
    (State.Completes (.suptripClear g) s fun t => t.bit (HDR.FLT (pgGAL g)) 23 = false ∧ t.mem = s.mem ∧ t.galOf g = s.galOf g
      ∧ ∀ n < 6, t.bit (GAL.SUPCNT g n) 16 = false ∧ (s.bit (GAL.SUPCNT g n) 16 = true → t.fld (GAL.SUPCNT g n) 7 0 = 0))

/-- R86: encode, then decode.  The ns and latency operands of WAITI and MLW are no part of the word (log entry 67). -/
def Obligations.GalRoundTrip : Prop :=
  ∀ (i : Instr) (w : Word), encodeGal i = some w → ∃ g ns lat, decodeGal g ns lat w = some i

/-- R86: a few words of its layout. -/
def Obligations.GalWords : Prop :=
  decodeGal 0 0 0 (0x0#4 ++ 0x1#4 ++ 0x2#4 ++ 3#5 ++ 0x7FFF#15) = some (.b 0 .nez 3 0x7FFF) ∧
  decodeGal 1 0 0 (0x2#4 ++ 0x00#6 ++ 7#5 ++ 9#5 ++ 0xFFF#12) = some (.add 1 7 9 (.imm 0xFFF)) ∧
  decodeGal 2 0 0 (0x3#4 ++ 0x0#4 ++ 5#5 ++ 6#5 ++ 0x2004#14) = some (.lw 2 5 6 0x2004) ∧
  decodeGal 3 0 0 (0x5#4 ++ 0x0#4 ++ 4#4 ++ 6#5 ++ 0x4020#15) = some (.vld 3 4 6 0x4020) ∧
  decodeGal 4 0 0 (0x6#4 ++ 0x0#4 ++ 1#1 ++ 5#3 ++ 17#5 ++ 18#5 ++ 0#10) = some (.smac 4 true 5 17 18) ∧
  decodeGal 5 0 0 (0x0#4 ++ 0xC#4 ++ 0#16 ++ 0x91#8) = some (.trap 5 0x91) ∧
  decodeGal 6 0 0 (0x1#4 ++ 0x0D#6 ++ 1#5 ++ 2#5 ++ 3#5 ++ 0#7) = none ∧ decodeGal 7 0 0 0xD0000000 = none

/-! ### Bridges, rings and companions -/

/-- R124, R125, R129, R130, R133, R145, R152, R153. -/
def Obligations.Bridges : Prop :=
  ∀ (s : State) (b : Nat), b < s.variant.bridges →
    let p := pgBRG b
    let x := s.brgOf b
    (x.running = false → (s.bridgeSlot b).isSome = true → s.leadOf b = b → State.Completes (.carrierStart b) s fun t =>
      (t.brgOf b).running = true ∧ (t.brgOf b).nextPeak = false ∧ (t.brgOf b).captured = s.rd64 (BRG.SHADOW b)
      ∧ t.fld (HDR.STA p) 3 0 = (if s.brgSafe b then 8 else 3) ∧ State.SameRegs (fun a => a = HDR.STA p) s t ∧ t.mem = s.mem) ∧
    (x.running = true → x.nextPeak = false → s.bridgeSlot b = none →
      State.Completes (.bridgeTread b) s fun t => (t.brgOf b).running = false ∧ t.rd64 (BRG.TREADCNT b) = s.rd64 (BRG.TREADCNT b)) ∧
    (x.running = true → (s.bridgeSlot b).isSome = true → State.Completes (.bridgeTread b) s fun t =>
      t.rd64 (BRG.TREADCNT b) = s.rd64 (BRG.TREADCNT b) + 1 ∧ (t.brgOf b).tread = s.t16) ∧
    (∀ v : Word64, let d := fun i => (v.extractLsb' (16 * i) 16).toNat
      (d 0 ≤ 0x8000 → d 1 ≤ 0x8000 → d 2 ≤ 0x8000 → d 3 = 0 → State.Completes (.shadowWrite b v) s fun t =>
        t.rd64 (BRG.SHADOW b) = v ∧ State.SameRegs (fun a => a = BRG.SHADOW b ∨ a = BRG.SHADOW b + 4) s t ∧ t.mem = s.mem) ∧
      (0x8000 < d 0 ∨ 0x8000 < d 1 ∨ 0x8000 < d 2 → State.Completes (.shadowWrite b v) s fun t =>
        t.rd64 (BRG.SHADOW b) = s.rd64 (BRG.SHADOW b) ∧ t.bit (HDR.FLT p) 21 = true ∧ t.bit (HDR.FLT p) 0 = true)) ∧
    (∀ v : Word, v.extractLsb' 6 26 = 0 → v.extractLsb' 0 2 ≠ 3 → v.extractLsb' 2 2 ≠ 3 → v.extractLsb' 4 2 ≠ 3 →
      State.Completes (.forceWrite b v) s fun t => t.fld (BRG.FORCE b) 5 0 = v.toNat
        ∧ State.SameRegs (fun a => a = BRG.FORCE b) s t ∧ t.mem = s.mem) ∧
    (∀ v : Word, v.extractLsb' 0 2 = 3 → s.sysMode ≠ 6 → State.Completes (.forceWrite b v) s fun t =>
      t.fld (BRG.FORCE b) 1 0 = s.fld (BRG.FORCE b) 1 0 ∧ t.bit (HDR.FLT p) 20 = true) ∧
    (s.bit (BRG.FORCESTA b) 8 = false → x.modeHold = false → State.Completes (.forceApply b) s fun t =>
      t.rd (BRG.FORCESTA b) = BitVec.ofNat 32 (s.fld (BRG.FORCE b) 5 0)
      ∧ State.SameRegs (fun a => a = BRG.FORCESTA b ∨ a = HDR.STA p) s t ∧ t.mem = s.mem) ∧
    (s.phase (BRG.XFERSTA b) ≠ 1 → s.offView p = false → ((s.mates b).all fun c => (s.xferCheck (s.leadOf b) c).isNone) = true →
      State.Completes (.xferctlArm b) s fun t => (∀ c ∈ s.mates b, t.phase (BRG.XFERSTA c) = 1 ∧ (t.brgOf c).xferReady = false) ∧ t.mem = s.mem) ∧
    (s.phase (BRG.XFERSTA b) = 1 → State.Completes (.xferctlArm b) s fun t =>
      t.bit (HDR.FLT p) 0 = true ∧ t.rd (BRG.XFERSTA b) = s.rd (BRG.XFERSTA b)) ∧
    (s.phase (BRG.XFERSTA b) = 1 → State.Completes (.xferctlAbort b) s fun t =>
      t.Ended (BRG.XFERSTA b) .aborted ∧ t.bit (HDR.FLT p) 16 = true ∧ t.rd (BRG.ACT_PERIOD b) = s.rd (BRG.ACT_PERIOD b)) ∧
    (x.running = true → s.leadOf b = b → s.phase (BRG.XFERSTA b) = 1 → x.xferReady = true → State.Completes (.xferBoundary b) s fun t =>
      t.Ended (BRG.XFERSTA b) .done ∧ t.bit (HDR.EVT p) 0 = true ∧ t.rd (BRG.ACT_PERIOD b) = s.sh b 0x080
      ∧ t.fld (BRG.REGSTA b) 2 0 = ((s.sh b 0x0A0).extractLsb' 0 3).toNat) ∧
    (s.standstillOk b = true → State.Completes (.standstillEngage b) s fun t =>
      t.bit (BRG.REGSTA b) 6 = true ∧ t.bit (HDR.EVT p) 3 = true ∧ (t.brgOf b).ramp = 0
      ∧ State.SameRegs (fun a => State.reports p a ∨ a = BRG.REGSTA b) s t ∧ State.SameBytes s.recRing s t)

/-- R148 to R150, R166, R169, R170: PLAN_PROCESS. -/
def Obligations.Plans : Prop :=
  ∀ (s : State) (r : Nat) (p : Plan) (rest : List Plan), r < s.variant.rings → (s.ringOf r).edge = p :: rest →
    let b := p.bridge
    (State.Completes (.planProcess r true) s fun t => (t.ringOf r).edge = rest ∧ t.bit (HDR.FLT (pgRZL r)) 24 = true
      ∧ t.fld (RZL.LATECNT r) 15 0 = Nat.min 0xFFFF (s.fld (RZL.LATECNT r) 15 0 + 1)
      ∧ (t.credit (.edge r) (s.brgPos b)).back
        = Nat.min (s.credit (.edge r) (s.brgPos b)).spent ((s.credit (.edge r) (s.brgPos b)).back + p.units)
      ∧ t.brg = s.brg) ∧
    (let l := p.edges.map edgeOf
     let tref := s.nextTread b
     (∀ f ∈ (s.ringOf r).force, f.bridge ≠ b) → s.bit (BRG.FORCESTA b) 8 = false → s.epochOk p = true →
     State.planForm p (s.servedInterval b) = true → s.minPulse b tref l = (l, 0) →
     deadOk (s.fld (BRG.ACT_DEADT b) 15 0) (s.brgOf b).gates ((s.brgOf b).changed.map fun e => (e.1, (e.2 : Int) - tref)) l = true →
     s.fld (BRG.ACT_REFRESH b) 15 0 = 0 →
     State.Completes (.planProcess r false) s fun t => (t.ringOf r).edge = rest ∧ t.regs = s.regs ∧ t.mem = s.mem
       ∧ (match (t.brgOf b).sent with
          | some f => f.src = p.owner ∧ f.epoch = p.epoch ∧ f.tread = p.tread ∧ f.tref = BitVec.ofNat 48 tref
              ∧ f.edges = l.map edgeEntry ∧ f.samples = s.sampleCmds b
          | none => False))

/-- R173, R174, R176, R177, R180, R181, R184, R185, R189, R192: the device's side of a ring. -/
def Obligations.Rings : Prop :=
  ∀ (s : State) (r : Nat), r < s.variant.rings →
    let p := pgRZL r
    let sta := RZL.RSTA r
    let pt := RZL.PTSTA r
    (s.busyOp sta = false → s.offView p = false → s.ringState r = 0 →
      20 ≤ s.fld (RZL.LEASETO r) 15 0 → s.fld (RZL.LEASETO r) 15 0 ≠ 0xFFFF → s.longestInterval r * 2 ≤ s.fld (RZL.LEASETO r) 15 0 * 16000 →
      State.Completes (.rctlStart r) s fun t => t.phase sta = 2 ∧ t.ringState r = 1 ∧ t.fld (RZL.TOPO r) 23 16 = 0
        ∧ (∀ k < 8, t.rd (RZL.SLOT_SSTA r k) = 0) ∧ t.mem = s.mem ∧ State.SameRegs (fun a => a / 0x1000 = p) s t) ∧
    (s.busyOp sta = false → State.Completes (.rctlStop r) s fun t => t.ringState r = 0 ∧ (∀ k < 8, t.leaseOurs r k = false)
      ∧ t.mem = s.mem ∧ State.SameRegs (fun a => a / 0x1000 = p) s t) ∧
    (s.busyOp sta = true → s.isPast sta = false → State.Completes (.rctlAbort r) s fun t =>
      t.Ended sta .aborted ∧ t.ringState r = 0 ∧ (∀ k < 8, t.leaseOurs r k = false)) ∧
    (s.busyOp sta = true → State.Completes (.ringStartTimeout r) s fun t => t.Ended sta .timeout ∧ t.ringState r = 0) ∧
    (s.ringState r ≠ 0 → s.deviceBit r = false → State.Completes (.rctlCalnow r) s fun t =>
      (t.ringOf r).calReq = true ∧ t.regs = s.regs ∧ t.mem = s.mem) ∧
    (∀ k < 8, State.Completes (.rctlResume r k) s fun t => (t.ringOf r).resume.getLsbD k = true
      ∧ (∀ j, j ≠ k → (t.ringOf r).resume.getLsbD j = (s.ringOf r).resume.getLsbD j) ∧ t.regs = s.regs ∧ t.mem = s.mem) ∧
    (∀ k < 8, 2 ≤ s.ringState r → s.slotState r k = 1 → State.Completes (.vnegOfferRepeat r) s fun t =>
      (t.ringOf r).frames = (s.ringOf r).frames + 1 ∧ t.regs = s.regs) ∧
    (∀ k < 8, ∀ lo hi ty cw, s.ringState r < 2 → lo ≤ 3 → 2 ≤ hi → hi < 256 → State.Completes (.vnegReply r k lo hi ty cw) s fun t =>
      t.bit (RZL.TOPO r) (16 + k) = true ∧ t.slotState r k = 2
      ∧ t.rd (RZL.SLOT_SID r k) = BitVec.ofNat 32 (ty.toNat + lo * 65536 + hi * 2 ^ 24)) ∧
    (∀ (cw ccw : Nat) (ofs : Int), s.ringState r ≠ 0 →
      (cw ≤ ccw + 32 → ccw ≤ cw + 32 → s.deviceBit r = false → State.Completes (.calRound r cw ccw ofs) s fun t =>
        (t.ringOf r).loop = (cw + ccw) / 2 ∧ (t.ringOf r).calReq = false ∧ (t.ringOf r).round = (s.ringOf r).round + 1
        ∧ t.bit (HDR.EVT p) 3 = true) ∧
      (ccw + 32 < cw → State.Completes (.calRound r cw ccw ofs) s fun t => t.bit (HDR.FLT p) 17 = true ∧ t.ring = s.ring)) ∧
    (let k := s.fld (RZL.PTCTL r) 6 4
     s.busyOp pt = false → s.offView p = false → s.sysMode = 6 → s.leaseOurs r k = true → s.slotState r k ≠ 7 → s.bridgeAt r k = none →
       State.Completes (.ptctlStart r) s fun t => t.phase pt = 2 ∧ t.fld pt 23 16 = 0) ∧
    (s.busyOp pt = true → s.isPast pt = false → State.Completes (.ptctlAbort r) s fun t => t.Ended pt .aborted ∧ t.ring = s.ring) ∧
    (s.busyOp pt = true → State.Completes (.selftestTimeout r) s fun t => t.Ended pt .timeout ∧ t.ring = s.ring) ∧
    (∀ port < 2, State.Completes (.laneLockLost r port) s fun t => t.bit (RZL.LANESTA r) port = false ∧ t.bit (HDR.FLT p) 16 = true
      ∧ t.ringState r = (if s.ringState r = 2 then 3 else s.ringState r)) ∧
    (∀ ccw, State.Completes (.ownFramesLost r ccw) s fun t => t.bit (RZL.LANESTA r) (if ccw then 5 else 4) = false
      ∧ t.ringState r = (if s.ringState r = 2 then 3 else s.ringState r)) ∧
    (∀ k < 8, s.leaseOurs r k = true → State.Completes (.renewDue r k) s fun t =>
      (t.ringOf r).frames = (s.ringOf r).frames + 1 ∧ t.regs = s.regs ∧ t.mem = s.mem) ∧
    (∀ a < s.variant.axes, s.bit STW.SHADOW a = true → State.Completes (.partnerClaim a) s fun t =>
      t.bit STW.OWN a = true ∧ t.bit STW.SHADOW a = false ∧ t.rd STW.TOVAXES = BitVec.ofNat 32 (2 ^ a) ∧ t.bit (HDR.FLT pgSTW) 19 = true)

/-- R165, R171, R172, R181, R183, R188, R189, R192: SENSE, PROT and REJECT frames. -/
def Obligations.RingFrames : Prop :=
  ∀ (s : State) (r k : Nat), r < s.variant.rings → k < 8 →
    let p := pgRZL r
    (∀ f, State.Completes (.senseFrame r k f .none) s fun t =>
      t.fld (RZL.CRCCNT r) 15 0 = Nat.min 0xFFFF (s.fld (RZL.CRCCNT r) 15 0 + 2)
      ∧ t.fld (RZL.CRCCNT r) 31 16 = Nat.min 0xFFFF (s.fld (RZL.CRCCNT r) 31 16 + 1)
      ∧ State.SameRegs (fun a => a = RZL.CRCCNT r) s t ∧ t.gal = s.gal) ∧
    (∀ (f : SenseFrame) (b : Nat), s.bridgeAt r k = some b → f.status.getLsbD 0 = true → f.status &&& 0x58 = 0 →
      State.Completes (.senseFrame r k f .both) s fun t =>
        t.slotState r k = (if f.status.getLsbD 1 then 4 else 3) ∧ t.bit (RZL.SLOT_SSTA r k) 4 = f.status.getLsbD 5
        ∧ (t.brgOf b).unit.getD 5 0 = f.status ∧ (t.brgOf b).unit.getD 6 0 = f.iu ++ (0 : BitVec 16)
        ∧ (t.brgOf b).unit.getD 8 0 = f.iw ++ (0 : BitVec 16) ∧ (t.brgOf b).unit.length = 16) ∧
    (∀ f : ProtFrame, f.latched = 0 → f.resultValid = false → State.Completes (.protFrame r k f) s fun t =>
      t.rd (RZL.SLOT_SCTRIP r k) = f.latches ++ f.trips ∧ t.bit (RZL.SLOT_SSTA r k) 4 = (f.tripped != 0)
      ∧ (f.tripped ≠ 0 → t.bit (HDR.EVT p) 4 = true)
      ∧ State.SameRegs (fun a => State.reports p a ∨ a = RZL.SLOT_SCTRIP r k ∨ a = RZL.SLOT_SSTA r k) s t) ∧
    (∀ f : ProtFrame, f.latched = 0 → f.resultValid = true → s.busyOp (RZL.PTSTA r) = true → s.fld (RZL.PTCTL r) 6 4 = k →
      State.Completes (.protFrame r k f) s fun t => t.Ended (RZL.PTSTA r) .done ∧ t.fld (RZL.PTSTA r) 19 16 = f.passMask.toNat
        ∧ t.fld (RZL.PTSTA r) 23 20 = f.failMask.toNat ∧ (f.failMask ≠ 0 → t.bit (HDR.FLT p) 23 = true)) ∧
    (∀ f : RejectFrame, 2 ≤ f.reason.toNat → State.Completes (.rejectFrame r k f) s fun t =>
      t.rd64 (RZL.REJLAST r) = BitVec.ofNat 64 (f.epoch.toNat + f.src.toNat * 2 ^ 32 + f.reason.toNat * 2 ^ 40 + k * 2 ^ 48 + 2 ^ 63)
      ∧ t.num (RZL.REJCNT r) = Nat.min 0xFFFFFFFF (s.num (RZL.REJCNT r) + 1) ∧ t.bit (HDR.FLT p) 20 = true ∧ t.gal = s.gal)

/-- R166, R178, R182, R183, R188 to R190: what a companion does with a frame under its lease. R173 to R176, R179, R188. -/
def Obligations.CompanionPorts : Prop :=
  (
  ∀ (s : State) (r k : Nat), r < s.variant.rings → k < 8 →
    let c := s.compOf r k
    let same := fun (t : State) => t.regs = s.regs ∧ t.mem = s.mem
    (∀ (src : Byte) (e : Word), s.LeaseOk r k src e →
      let exp := s.t16 + (s.param r k 1).toNat * 16000
      (State.Completes (.leaseRenew r k src e) s fun t => same t ∧ (t.compOf r k).epoch = e ∧ (t.compOf r k).expiry = exp ∧ (t.compOf r k).owner = c.owner) ∧
      (∀ f : SampleFrame, f.src = src → f.epoch = e → State.Completes (.sampleFrame r k f) s fun t =>
        same t ∧ (t.compOf r k).epoch = e ∧ (t.compOf r k).expiry = exp) ∧
      (∀ f : EdgeFrame, f.src = src → f.epoch = e → 300 ≤ f.lead → State.Completes (.edgeFrame r k f .both) s fun t =>
        (t.compOf r k).last = some f ∧ (t.compOf r k).misses = 0 ∧ (t.compOf r k).hold = false ∧ (t.compOf r k).coast = false
        ∧ (t.compOf r k).epoch = e ∧ t.mem = s.mem) ∧
      (∀ f : EdgeFrame, f.src = src → f.epoch = e → f.lead < 300 → State.Completes (.edgeFrame r k f .both) s fun t =>
        (t.compOf r k).last = c.last ∧ (t.compOf r k).latePlans = c.latePlans + 1
        ∧ t.fld (RZL.SLOT_SCRC r k) 31 16 = Nat.min 0xFFFF (s.fld (RZL.SLOT_SCRC r k) 31 16 + 1)) ∧
      (∀ f : ForceFrame, f.src = src → f.epoch = e → f.safety = false → State.Completes (.forceFrame r k f) s fun t =>
        same t ∧ (t.compOf r k).force = (if f.release then 0 else f.w ++ f.v ++ f.u) ∧ (t.compOf r k).safety = c.safety) ∧
      (State.Completes (.pcmdClear r k src e) s fun t => same t ∧ (t.compOf r k).latched = 0 ∧ (t.compOf r k).tripActive = false
        ∧ (t.compOf r k).tries = 0) ∧
      (∀ mask good, State.Completes (.pcmdSelftest r k src e mask good) s fun t =>
        same t ∧ (t.compOf r k).selfTest = some (mask &&& good, mask &&& ~~~ good)) ∧
      (c.epoch = e → State.Completes (.leaseRelease r k src e) s fun t => State.SameBytes s.recRing s t
        ∧ (t.compOf r k).lease = false ∧ (t.compOf r k).safeLease = true ∧ t.leaseOurs r k = false)) ∧
    (∀ (src : Byte) (e : Word), c.handover = none → c.rejected = [] → (c.lease = false ∨ src.getLsbD 5 ≠ c.owner.getLsbD 5) →
      State.Completes (.leaseRenew r k src e) s fun t => same t ∧ (t.compOf r k).epoch = c.epoch
        ∧ (match (t.compOf r k).reject with | some f => f.dst = src ∧ f.reason = 1 ∧ f.leaseEpoch = c.epoch | none => False)) ∧
    (∀ f : LeaseFrame, c.lease = true → f.oldOwner = c.owner → f.oldEpoch = c.epoch → c.epoch.toNat < f.newEpoch.toNat →
      State.Completes (.leaseHandover r k f) s fun t =>
        (t.compOf r k).handover = some (f.newEpoch, f.newOwner, f.switchTref) ∧ (t.compOf r k).epoch = c.epoch
        ∧ State.SameRegs (fun a => a = MIG.EPOCHNEXT) s t) ∧
    (∀ f : LeaseFrame, c.lease = false → c.epoch.toNat < f.newEpoch.toNat → State.Completes (.leaseClaim r k f) s fun t =>
      (t.compOf r k).lease = true ∧ (t.compOf r k).owner = f.newOwner ∧ (t.compOf r k).epoch = f.newEpoch
      ∧ t.rd (RZL.SLOT_SEPOCH r k) = f.newEpoch ∧ (s.ownAddr r f.src = true → t.leaseOurs r k = true)) ∧
    (c.lease = true → State.Completes (.leaseExpiry r k) s fun t =>
      (t.compOf r k).lease = false ∧ (t.compOf r k).safeLease = true ∧ t.leaseOurs r k = false
      ∧ (s.leaseOurs r k = true → t.slotState r k = 6 ∧ t.bit (HDR.FLT (pgRZL r)) 19 = true))) ∧
  (
  ∀ (s : State) (r k : Nat), r < s.variant.rings → k < 8 →
    let c := s.compOf r k
    let same := fun (t : State) => t.regs = s.regs ∧ t.mem = s.mem
    let max := ((s.param r k 2).extractLsb' 0 3).toNat
    (c.safeMiss = false → c.safeLease = false → c.tripActive = false → c.misses < 7 → State.Completes (.companionMiss r k) s fun t =>
      same t ∧ (t.compOf r k).misses = c.misses + 1 ∧ (t.compOf r k).safeMiss = decide (max ≤ c.misses + 1)
      ∧ (t.compOf r k).hold = (decide (c.misses + 1 < max) && decide (c.misses = 0))
      ∧ (c.misses ≠ 0 → (t.compOf r k).coast = decide (c.misses + 1 < max))) ∧
    (∀ mask : BitVec 4, let tries := ((s.param r k 5).extractLsb' 0 3).toNat
      State.Completes (.scTrip r k mask) s fun t => same t ∧ (t.compOf r k).tripActive = true ∧ (t.compOf r k).tripped = mask
        ∧ (t.compOf r k).trips = c.trips + 1 ∧ (t.compOf r k).rank = 1
        ∧ (if tries ≤ c.tries then (t.compOf r k).latched = mask else (t.compOf r k).latched = c.latched ∧ (t.compOf r k).tries = c.tries + 1)) ∧
    (State.Completes (.scwaitEnd r k) s fun t => same t
      ∧ (c.latched = 0 → (t.compOf r k).tripActive = false ∧ (t.compOf r k).tripped = 0) ∧ (c.latched ≠ 0 → t.compOf r k = c)) ∧
    (State.Completes (.scquietEnd r k) s fun t => same t ∧ (t.compOf r k).tries = 0 ∧ (t.compOf r k).trips = c.trips) ∧
    (∀ td acw accw, State.Completes (.calMark r k td acw accw) s fun t => same t ∧ (t.compOf r k).td = td
      ∧ (t.compOf r k).acw = acw ∧ (t.compOf r k).accw = accw) ∧
    (∀ loop : Nat, let d : Int := ((loop : Int) + c.acw - c.accw) / 2
      State.Completes (.calResult r k loop) s fun t => (t.compOf r k).delay = d ∧ (t.compOf r k).slew = (c.td : Int) + d - c.acw
        ∧ t.fld (RZL.SLOT_SDELAY r k) 23 0 = (BitVec.ofInt 24 d).toNat
        ∧ ((c.td : Int) + d - c.acw > 32 → t.bit (HDR.FLT (pgRZL r)) 17 = true)) ∧
    (∀ lo hi, State.Completes (.vnegOffer r k lo hi) s fun t => same t ∧ (t.compOf r k).offer = some (lo, hi)) ∧
    (∀ ver, ver < 256 → (s.commonVersion r).1 ≤ (s.commonVersion r).2 → State.Completes (.vnegSelect r k ver) s fun t =>
      (t.compOf r k).version = ver ∧ (s.busyOp (RZL.RSTA r) = true → t.fld (RZL.PVER r) 7 0 = ver)
      ∧ State.SameRegs (fun a => a = RZL.PVER r) s t) ∧
    (∀ (src : Byte) (i : Nat) (v : Word), src.toNat % 32 = 31 → State.Completes (.cfgFrame r k src i v) s fun t =>
      same t ∧ Tab.find (t.compOf r k).params i = some v) ∧
    (c.version = 3 → State.Completes (.protPeriodic r k) s fun t => same t ∧ (t.compOf r k).prots = c.prots + 1))

/-! ### Feedback, sigma-delta channels, latches and encoder emulation -/

/-- R195, R199 to R208. -/
def Obligations.FeedbackInputs : Prop :=
  ∀ (s : State) (n : Nat), n < 24 →
    let p := pgFB n
    let x := s.portOf n
    let sta := FB.FBSTA n
    let cnt := s.sint64 (FB.COUNT n)
    let frame := fun t => State.SameRegs (fun y => State.onPage p y ∨ y / 0x1000 = pgAXIS (s.fld (FB.FBCFG n) 20 16)) s t
      ∧ State.SameBytes s.recRing s t
    (s.fbBadField n = none → State.Completes (.fbcfgEnWrite n true) s fun t => t.bit (HDR.CTL p) 0 = true
      ∧ t.fld (HDR.STA p) 3 0 = 3 ∧ t.bit sta 0 = decide (s.fbMode n = 1) ∧ t.fld (FB.CFGERR n) 11 0 = 0 ∧ frame t ∧ t.mem = s.mem) ∧
    (∀ o, s.fbBadField n = some o → State.Completes (.fbcfgEnWrite n true) s fun t => t.bit (HDR.FLT p) 0 = true
      ∧ t.fld (FB.CFGERR n) 11 0 = o ∧ t.rd (HDR.CTL p) = s.rd (HDR.CTL p) ∧ frame t) ∧
    (State.Completes (.fbcfgEnWrite n false) s fun t => t.bit (HDR.CTL p) 0 = false ∧ t.fld (HDR.STA p) 3 0 = 2 ∧ frame t
      ∧ t.mem = s.mem) ∧
    (s.fbOn n = true →
      (s.fbMode n = 1 →
        (∀ e : QuadStep, e ≠ .both → -2 ^ 62 < cnt → cnt < 2 ^ 62 → State.Completes (.quadEdge n e) s fun t =>
          t.sint64 (FB.COUNT n) = cnt + (if (e = .forward) = (s.bit (FB.FBCFG n) 3 = false) then 1 else -1) ∧ frame t) ∧
        (State.Completes (.quadEdge n .both) s fun t => t.rd64 (FB.COUNT n) = s.rd64 (FB.COUNT n)
          ∧ t.fld (FB.ERRCNT n) 15 0 = Nat.min 0xFFFF (s.fld (FB.ERRCNT n) 15 0 + 1) ∧ t.bit (HDR.FLT p) 16 = true
          ∧ t.bit sta 3 = false ∧ frame t) ∧
        (State.Completes (.zEdge n) s fun t => t.rd64 (FB.ZCAP n) = s.rd64 (FB.COUNT n) ∧ t.bit sta 20 = true
          ∧ t.bit (HDR.EVT p) 0 = true ∧ (t.portOf n).zLast = some (cnt, x.forward) ∧ frame t)) ∧
      (s.fbMode n = 2 →
        (∀ code : BitVec 3, State.Completes (.hallCodeChange n code) s fun t => t.fld sta 10 8 = code.toNat
          ∧ (code = 0 ∨ code = 7 → t.bit (HDR.FLT p) 18 = true) ∧ (∀ k, s.hallSector n code.toNat = some k → t.fld sta 14 12 = k)
          ∧ frame t) ∧
        (∀ (code : BitVec 3) (j : Nat), x.sector = some j → j < 6 → s.hallSector n code.toNat = some ((j + 1) % 6) →
          -2 ^ 62 < cnt → cnt < 2 ^ 62 → State.Completes (.hallCodeChange n code) s fun t => t.sint64 (FB.COUNT n) = cnt + 1)) ∧
      (s.fbMode n = 3 →
        (State.Completes (.ssiRequest n) s fun t => (t.portOf n).reqAt = s.t16 ∧ t.regs = s.regs ∧ t.mem = s.mem) ∧
        (∀ l, State.Completes (.ssiWord n l true) s fun t => t.fld (FB.SSICNT n) 23 16 = Nat.min 0xFF (s.fld (FB.SSICNT n) 23 16 + 1)
          ∧ t.bit (HDR.FLT p) 22 = true ∧ t.bit sta 7 = true ∧ (t.portOf n).fails = x.fails + 1 ∧ frame t) ∧
        (∀ l, s.ssiJudge n l false = some .crc → State.Completes (.ssiWord n l false) s fun t =>
          t.fld (FB.SSICNT n) 7 0 = Nat.min 0xFF (s.fld (FB.SSICNT n) 7 0 + 1) ∧ t.bit (HDR.FLT p) 20 = true ∧ t.bit sta 7 = true ∧ frame t) ∧
        (∀ l, s.ssiJudge n l false = none → State.Completes (.ssiWord n l false) s fun t =>
          (t.portOf n).last = some { pos := s.ssiPos n l, at_ := x.reqAt } ∧ (t.portOf n).fails = 0 ∧ t.bit sta 7 = false
          ∧ t.fld sta 19 16 = 0 ∧ (s.fbLost n = false → t.bit sta 0 = true) ∧ frame t)) ∧
      (s.fbMode n = 4 → ∀ (sv cv : BitVec 32) (angle vel : Int) (track : Nat),
        let amp := Nat.min 0xFFFF (isqrt (sv.toInt * sv.toInt + cv.toInt * cv.toInt).natAbs / 32768)
        let rpp : Int := s.fld (FB.RESCFG n) 22 20 + 1
        State.Completes (.resolverPair n sv cv angle vel track) s fun t => t.fld (FB.RESMON n) 15 0 = amp
          ∧ t.fld (FB.RESMON n) 31 16 = Nat.min 0xFFFF track ∧ t.rd (FB.SPD n) = satInt 32 (Int.tdiv vel rpp)
          ∧ (t.portOf n).res = angle / rpp ∧ (s.fbLost n = false → t.bit sta 0 = true)
          ∧ (amp < s.fld (FB.RESAMP n) 15 0 ∨ s.fld (FB.RESAMP n) 31 16 < amp →
              t.bit (HDR.FLT p) 23 = true ∧ (t.portOf n).bad = x.bad + 1)
          ∧ (s.fld (FB.RESAMP n) 15 0 ≤ amp → amp ≤ s.fld (FB.RESAMP n) 31 16 → track ≤ s.fld (FB.RESTRK n) 15 0 → (t.portOf n).bad = 0)
          ∧ frame t))

/-- R196, R198, R203, R206, R208, R209, R211 to R213, R215. -/
def Obligations.FeedbackStates : Prop :=
  ∀ (s : State) (n : Nat), n < 24 →
    let p := pgFB n
    let x := s.portOf n
    let sta := FB.FBSTA n
    let a := s.fld (FB.FBCFG n) 20 16
    let lost := fun (t : State) => t.bit sta 2 = true ∧ t.bit sta 0 = false ∧ t.bit sta 1 = false ∧ t.bit sta 3 = false
      ∧ t.bit (HDR.FLT p) 26 = true ∧ t.bit (HDR.EVT p) 2 = true
      ∧ t.fld (FB.LOSTCNT n) 15 0 = Nat.min 0xFFFF (s.fld (FB.LOSTCNT n) 15 0 + 1) ∧ (a < 24 → t.fbFault.getLsbD a = true)
      ∧ State.SameBytes s.recRing s t
    (s.fbOn n = true → s.fbLost n = false →
      (s.fbMode n = 2 → s.fld sta 10 8 = 0 ∨ s.fld sta 10 8 = 7 → State.Completes (.hallTimeout n) s lost) ∧
      (s.fbMode n = 3 → s.fld (FB.SSITIM n) 11 8 < x.fails → State.Completes (.ssiHoldExceeded n) s fun t =>
        lost t ∧ t.bit (HDR.FLT p) 22 = true) ∧
      (s.fbMode n = 4 → s.fld (FB.RESTRK n) 23 16 ≤ x.bad → State.Completes (.ampcntExceeded n) s lost) ∧
      (s.fbMode n = 1 ∨ s.fbMode n = 2 → s.bit (FB.FBCFG n) 4 = true → State.Completes (.auxFault n) s fun t =>
        lost t ∧ t.bit (HDR.FLT p) 25 = true)) ∧
    (s.fbLost n = true → 16 ≤ x.clean → State.Completes (.lostClear n) s fun t => t.bit sta 2 = false ∧ t.bit sta 0 = true
      ∧ t.fld (FB.LOSTCNT n) 31 16 = Nat.min 0xFFFF (s.fld (FB.LOSTCNT n) 31 16 + 1) ∧ t.bit (HDR.EVT p) 3 = true
      ∧ State.SameRegs (fun y => State.onPage p y ∨ y / 0x1000 = pgAXIS a) s t ∧ State.SameBytes s.recRing s t) ∧
    (x.clean < 16 → exec (.lostClear n) s = .next s) ∧
    (∀ lead, let g := s.brgGal lead
      s.axisLead a = some lead → s.fbOn n = true → (s.brgOf lead).running = true → s.hasCredit (.sample g) 48 = true →
      (s.coreOf g).swait = none → s.busyOp MIG.MSTA = false → State.Completes (.fbCapture n) s fun t =>
        (∃ u : List Word, (t.galOf g).samples = (s.galOf g).samples ++ [(48, u)] ∧ u.take 4 = timeWords s.t16
          ∧ u.getD 5 0 = t.rd sta ∧ u.getD 6 0 = t.rd (FB.POS n) ∧ u.getD 7 0 = t.rd (FB.POS n + 4) ∧ u.getD 8 0 = t.rd (FB.SPD n)
          ∧ u.length = 16)
        ∧ State.SameRegs (fun y => State.onPage p y ∨ y / 0x1000 = pgAXIS a) s t ∧ State.SameBytes s.recRing s t) ∧
    (s.fbOn n = true → s.fbMode n = 1 ∨ s.fbMode n = 2 → s.bit sta 4 = false → State.Completes (.zerotoExpiry n) s fun t =>
      t.rd (FB.SPD n) = 0 ∧ (t.portOf n).idle = true
      ∧ State.SameRegs (fun y => y = FB.SPD n ∨ y / 0x1000 = pgAXIS a) s t ∧ t.mem = s.mem) ∧
    (∀ v : Word64, s.sint64 (FB.SOFTLO n) ≤ v.toInt → v.toInt ≤ s.sint64 (FB.SOFTHI n) →
      State.Completes (.fbPossetWrite n v) s fun t => t.rd64 (FB.POS n) = v ∧ t.bit sta 3 = true ∧ t.bit sta 5 = false
        ∧ t.bit sta 6 = false ∧ (s.primaryPort a = some n → a < s.variant.axes →
            (t.axisOf a).posStep = (s.axisOf a).posStep + (v.toInt - s.sint64 (FB.POS n)))
        ∧ State.SameRegs (fun y => y / 0x1000 = p ∨ y / 0x1000 = pgAXIS a) s t ∧ t.mem = s.mem)

/-- R216, R218, R220 and R222. -/
def Obligations.Channels : Prop :=
  ∀ s : State,
    (∀ k < 4, ∀ j < 8, s.bit (SDM.CH_CFG k j) 9 = true →
      (∀ l, let r := s.fld (SDM.CH_CFG k j) 8 0
        let v := State.sincValue r l
        s.bit (SDM.SDMCLK k) 8 = true → r ≠ 0 → State.Completes (.sdmOutput k j l) s fun t => t.rd (SDM.CH_DATA k j) = v
          ∧ t.bit (SDM.CH_STAT k j) 25 = decide (s.num (SDM.OVRTHR k) ≤ v.toInt.natAbs)
          ∧ (s.num (SDM.OVRTHR k) ≤ v.toInt.natAbs → t.bit (HDR.FLT (pgSDM k)) 17 = true ∧ t.bit (HDR.EVT (pgSDM k)) 1 = true
              ∧ t.fld (SDM.CH_CNT k j) 15 0 = Nat.min 0xFFFF (s.fld (SDM.CH_CNT k j) 15 0 + 1))
          ∧ State.SameRegs (State.onPage (pgSDM k)) s t ∧ State.SameBytes s.recRing s t) ∧
      (State.Completes (.sdmStuck k j) s fun t => t.bit (SDM.CH_STAT k j) 24 = true ∧ t.bit (HDR.FLT (pgSDM k)) 16 = true
        ∧ t.bit (HDR.EVT (pgSDM k)) 0 = true ∧ t.fld (SDM.CH_CNT k j) 31 16 = Nat.min 0xFFFF (s.fld (SDM.CH_CNT k j) 31 16 + 1)
        ∧ State.SameRegs (fun y => State.reports (pgSDM k) y ∨ y = SDM.CH_STAT k j ∨ y = SDM.CH_CNT k j) s t ∧ State.SameBytes s.recRing s t)) ∧
    (∀ l < 16, ∀ falling,
      (s.latchTakes l falling = true → State.Completes (.latchEdge l falling) s fun t =>
        t.num (LATCH.LCNT l) = Nat.min 0xFFFFFFFF (s.num (LATCH.LCNT l) + 1)
        ∧ (s.bit (LATCH.LCFG l) 8 = true → t.bit LATCH.LARMSTA l = false)) ∧
      (s.latchTakes l falling = false → exec (.latchEdge l falling) s = .next s)) ∧
    (∀ v : BitVec 16, State.Completes (.larmWrite v) s fun t => t.rd LATCH.LARMSTA = s.rd LATCH.LARMSTA ||| v.setWidth 32
      ∧ State.SameRegs (fun y => y = LATCH.LARMSTA) s t ∧ t.mem = s.mem) ∧
    (∀ e < 8, let p := s.fld (LATCH.EMU_CFG e) 4 0
      let due := s.sint64 (FB.POS p) * (4 * s.fld (LATCH.EMU_LINES e) 16 0 : Nat) / 4294967296
      (s.bit (LATCH.EMU_CFG e) 5 = true → p < 24 → s.fbLost p = false → s.bit (LATCH.EMU_CFG e) 6 = false →
        (s.emuOf e).started = true → due - (s.emuOf e).sent ≤ 10 → -10 ≤ due - (s.emuOf e).sent →
        State.Completes (.emuUpdate e) s fun t => (t.emuOf e).sent = due ∧ t.fld (LATCH.EMU_STA e) 15 0 = 0
          ∧ t.bit (LATCH.EMU_STA e) 16 = false ∧ State.SameRegs (fun y => y = LATCH.EMU_STA e) s t ∧ t.mem = s.mem) ∧
      (s.bit (LATCH.EMU_CFG e) 5 = false → State.Completes (.emuUpdate e) s fun t => t.emuOf e = {} ∧ t.regs = s.regs ∧ t.mem = s.mem))

/-! ### Axis motion -/

/-- R230, R232, R234 to R236, R239, R241, R243, R246 to R248. -/
def Obligations.MotionCommands : Prop :=
  ∀ (s : State) (a : Nat), a < s.variant.axes →
    let p := pgAXIS a
    let mv := AXIS.MVSTA a
    let sta := AXIS.AXSTA a
    let op := s.fld mv 11 10
    let to_ := s.sint64 (AXIS.TARGET a)
    let dist := to_ - s.sint64 (AXIS.CMDPOS a)
    (s.busyOp mv = false →
      (s.motionBlocked a = false →
        (s.unverified a = false → s.zeroLimit a = false → State.tooFar dist = false →
          (dist ≠ 0 → State.Completes (.mvctlStart a) s fun t => t.phase mv = 2 ∧ t.fld mv 11 10 = 0 ∧ t.mstate a = 2
            ∧ (t.axisOf a).leader = some a ∧ (t.axisOf a).goal = to_ ∧ t.bit sta 7 = false
            ∧ State.SameRegs (fun y => y / 0x1000 = p) s t ∧ t.mem = s.mem) ∧
          (dist = 0 → State.Completes (.mvctlStart a) s fun t => t.Ended mv .done ∧ t.mstate a = 1 ∧ t.bit (HDR.EVT p) 0 = true
            ∧ State.SameRegs (State.onPage p) s t ∧ State.SameBytes s.recRing s t)) ∧
        (s.unverified a = false → s.zeroLimit a = false → State.tooFar dist = true → State.Completes (.mvctlStart a) s fun t =>
          t.Ended mv .rejLength ∧ t.bit (HDR.FLT p) 1 = true ∧ t.axisOf a = s.axisOf a) ∧
        (s.unverified a = true → State.Completes (.mvctlStart a) s fun t => t.Ended mv .rejState ∧ t.bit (HDR.FLT p) 19 = true
          ∧ t.axisOf a = s.axisOf a) ∧
        (s.unverified a = false → s.masterGone a = false → 2 ≤ s.fld (AXIS.GEARSRC a) 1 0 → State.Completes (.mvctlGear a) s fun t =>
          t.phase mv = 2 ∧ t.fld mv 11 10 = 2 ∧ t.mstate a = 2 ∧ (t.axisOf a).gnum = s.sint (AXIS.GNUM a)
          ∧ (t.axisOf a).gden = s.sint (AXIS.GDEN a) ∧ State.SameRegs (fun y => y / 0x1000 = p) s t ∧ t.mem = s.mem) ∧
        (s.unverified a = false → s.masterGone a = true → State.Completes (.mvctlGear a) s fun t =>
          t.Ended mv .rejState ∧ t.axisOf a = s.axisOf a) ∧
        (s.resumable a = true → s.bit (AXIS.AXCFG a) 7 = false → s.unverified a = false → s.zeroLimit a = false →
          to_ ≠ s.sint64 (AXIS.ACTPOS a) → State.tooFar (to_ - s.sint64 (AXIS.ACTPOS a)) = false →
          State.Completes (.mvctlResume a) s fun t => t.phase mv = 2 ∧ t.mstate a = 2 ∧ (t.axisOf a).goal = to_
            ∧ t.rd64 (AXIS.CMDPOS a) = s.rd64 (AXIS.ACTPOS a) ∧ t.bit sta 7 = false)) ∧
      (s.motionBlocked a = true → State.Completes (.mvctlStart a) s fun t => t.Ended mv .rejState ∧ t.axisOf a = s.axisOf a) ∧
      (s.resumable a = false → State.Completes (.mvctlResume a) s fun t => t.Ended mv .rejState ∧ t.axisOf a = s.axisOf a) ∧
      (let g := s.groupOf a
       let d := fun i => s.sint64 (AXIS.TARGET i) - s.sint64 (AXIS.CMDPOS i)
       s.bit (AXIS.AXCFG a) 7 = true → g.head? = some a → g.length ≤ 8 →
       (∀ i ∈ g, s.motionBlocked i = false ∧ s.unverified i = false ∧ s.zeroLimit i = false ∧ State.tooFar (d i) = false) →
       (∃ i ∈ g, d i ≠ 0) → State.Completes (.mvctlInterp a) s fun t => t.phase mv = 2 ∧ t.fld mv 11 10 = 1
         ∧ (∀ i ∈ g, t.mstate i = 2 ∧ (t.axisOf i).leader = some a ∧ (t.axisOf i).goal = s.sint64 (AXIS.TARGET i)) ∧ t.mem = s.mem)) ∧
    (s.busyOp mv = true → State.Completes (.mvctlStart a) s fun t => t.bit (HDR.FLT p) 0 = true ∧ t.rd mv = s.rd mv ∧ t.axis = s.axis) ∧
    (s.busyOp mv = true → s.isPast mv = false → op ≠ 2 → State.Completes (.mvctlAbort a) s fun t =>
      t.Ended mv .aborted ∧ t.bit sta 7 = true ∧ t.mem = s.mem) ∧
    (s.phase mv = 3 → State.Completes (.mvctlAbort a) s fun t => t.bit (HDR.FLT p) 8 = true ∧ t.rd mv = s.rd mv ∧ t.axis = s.axis) ∧
    (s.phase mv = 2 → s.isPast mv = false → s.zeroLimit a = false → op = 0 → State.tooFar dist = false →
      State.Completes (.mvctlRetarget a) s fun t => (t.axisOf a).goal = to_ ∧ (t.axisOf a).leader = some a
        ∧ (t.axisOf a).path.isSome = true ∧ t.regs = s.regs ∧ t.mem = s.mem) ∧
    (s.mstate a = 3 → State.Completes (.mvctlUngear a) s fun t => t.mstate a = 2 ∧ t.bit sta 8 = false
      ∧ (t.axisOf a).leader = some a ∧ State.SameRegs (fun y => y = sta) s t ∧ t.mem = s.mem) ∧
    (s.mstate a ≠ 3 → State.Completes (.mvctlUngear a) s fun t => t.bit (HDR.FLT p) 0 = true ∧ t.rd sta = s.rd sta ∧ t.axis = s.axis) ∧
    (6 ≤ s.mstate a → s.causePresent a = false → State.Completes (.mvctlClrstop a) s fun t =>
      t.mstate a = 1 ∧ t.fld sta 15 10 = 0 ∧ t.rd64 (AXIS.CMDPOS a) = s.rd64 (AXIS.ACTPOS a)
      ∧ (∀ b ∈ s.axisBridges a, t.fld (BRG.FORCE b) 5 0 = 0)
      ∧ State.SameRegs (fun y => y = sta ∨ y = AXIS.CMDPOS a ∨ y = AXIS.CMDPOS a + 4 ∨ ∃ b ∈ s.axisBridges a, y = BRG.FORCE b) s t
      ∧ t.mem = s.mem) ∧
    (s.busyOp mv = true → op ≠ 2 → (s.axisOf a).leader = some a → (∀ i ∈ s.partyOf a, (s.axisOf i).arrived = true) →
      Tab.find s.pastCompletion mv ≠ some true → State.Completes (.moveTerminal a) s fun t => t.Ended mv .done
        ∧ t.bit (HDR.EVT p) 0 = true ∧ (∀ i ∈ s.partyOf a, t.mstate i = 1 ∧ (t.axisOf i).leader = none) ∧ State.SameBytes s.recRing s t) ∧
    (s.busyOp mv = true → op = 2 → s.bit (AXIS.GEARSRC a) 8 = false ∨ (s.axisOf a).matched = true →
      State.Completes (.gearEngage a) s fun t => t.Ended mv .done ∧ t.mstate a = 3 ∧ t.bit sta 8 = true ∧ t.bit (HDR.EVT p) 3 = true
        ∧ (t.axisOf a).m0 = (s.masterAt a).1 ∧ (t.axisOf a).p0 = s.sint64 (AXIS.CMDPOS a)
        ∧ State.SameRegs (State.onPage p) s t ∧ State.SameBytes s.recRing s t) ∧
    (∀ v : BitVec 2,
      (s.mstate a ≤ 1 ∨ 6 ≤ s.mstate a → State.Completes (.cmodeWrite a v) s fun t => t.cmode a = v.toNat
        ∧ State.SameRegs (fun y => y = AXIS.AXCFG a ∨ y = HDR.SEQ p) s t ∧ t.mem = s.mem) ∧
      (2 ≤ s.mstate a → s.mstate a ≤ 5 → State.Completes (.cmodeWrite a v) s fun t => t.bit (HDR.FLT p) 0 = true
        ∧ State.SameRegs (State.reports p) s t ∧ State.SameBytes s.recRing s t)) ∧
    (∀ num den : Word,
      (0 < den.toInt → State.Completes (.gearRatioWrite a num den) s fun t => t.rd (AXIS.GNUM a) = num ∧ t.rd (AXIS.GDEN a) = den
        ∧ State.SameRegs (fun y => y = AXIS.GNUM a ∨ y = AXIS.GDEN a ∨ y = HDR.SEQ p) s t ∧ t.mem = s.mem) ∧
      (den.toInt ≤ 0 → State.Completes (.gearRatioWrite a num den) s fun t => t.bit (HDR.FLT p) 0 = true
        ∧ State.SameRegs (State.reports p) s t ∧ State.SameBytes s.recRing s t)) ∧
    (∀ v : Word64, State.Completes (.targetWrite a v) s fun t => t.rd64 (AXIS.TARGET a) = v ∧ t.bit sta 7 = false
      ∧ t.rd64 (AXIS.REMAIN a) = 0
      ∧ State.SameRegs (fun y => y = AXIS.TARGET a ∨ y = AXIS.TARGET a + 4 ∨ y = HDR.SEQ p ∨ y = sta ∨ y = AXIS.REMAIN a ∨ y = AXIS.REMAIN a + 4) s t
      ∧ t.mem = s.mem)

/-- R227, R237, R238, R249 to R252. -/
def Obligations.MotionRuns : Prop :=
  ∀ (s : State) (a : Nat), a < s.variant.axes →
    let p := pgAXIS a
    let mv := AXIS.MVSTA a
    let sta := AXIS.AXSTA a
    let x := s.axisOf a
    (∀ (lead : Nat) (n : Word) (at_ : Nat), let g := s.brgGal lead
      s.axisLead a = some lead → s.axisOn a = true → s.mstate a ≠ 0 → s.bit STW.SHADOW a = false → s.hallStalls 0 = false →
      s.unitTread a lead = some (n, at_) → s.hasCredit (.setpoint g) 0 = true →
      ((s.galOf g).stalled.any fun e => e.1 == 0) = false → s.busyOp MIG.MSTA = false →
      State.Completes (.setpointIssue a) s fun t => (t.axisOf a).issued = some n ∧ (t.axisOf a).at_ = at_
        ∧ (∃ u : List Word, (t.galOf g).setpoints = (s.galOf g).setpoints ++ [(0, u)] ∧ u.length = 16 ∧ u.getD 0 0 = n
            ∧ wfld (u.getD 1 0) 4 0 = a) ∧ State.SameBytes s.recRing s t) ∧
    (s.axisOn a = false → exec (.setpointIssue a) s = .next s) ∧
    (let stopped := fun (cause : Nat) (t : State) => t.mstate a = 5 ∧ t.fld sta 15 12 = cause
        ∧ t.fld sta 11 10 = (if s.num (AXIS.STOPDEC a) = 0 then 0 else s.causeCat a cause) ∧ t.bit (HDR.EVT p) 1 = true
        ∧ (s.busyOp mv = true → t.Ended mv .rejState)
        ∧ State.SameRegs (fun y => State.onPage p y ∨ ∃ b ∈ s.axisBridges a, y = BRG.FORCE b) s t ∧ State.SameBytes s.recRing s t
     x.leader = none → 1 ≤ s.mstate a → s.mstate a ≤ 3 →
      (State.Completes (.mvctlStop a) s (stopped 1)) ∧
      (let lim := s.fld (AXIS.DEVCFG a) 23 16
       lim ≠ 0 → lim ≤ x.under → State.Completes (.underrunStop a) s fun t => stopped 5 t ∧ t.bit (HDR.FLT p) 18 = true
        ∧ t.fld (AXIS.UNDERCNT a) 31 16 = Nat.min 0xFFFF (s.fld (AXIS.UNDERCNT a) 31 16 + 1)) ∧
      (let lim := s.fld (AXIS.DEVCFG a) 7 0
       s.bit (AXIS.DEVCFG a) 8 = true → lim ≠ 0 → lim ≤ x.devs → s.unverified a = false →
        State.Completes (.stallDetect a) s fun t => stopped 3 t ∧ t.bit (HDR.FLT p) 16 = true) ∧
      (let lim := s.fld (AXIS.SLIPCFG a) 23 16
       s.bit (AXIS.SLIPCFG a) 24 = true → lim ≠ 0 → lim ≤ x.slips →
        State.Completes (.slipDetect a) s fun t => stopped 4 t ∧ t.bit (HDR.FLT p) 17 = true) ∧
      (s.sensorless a = true → (s.sint (AXIS.CMDSPD a)).natAbs < s.num (AXIS.BEMFMIN a) →
        State.Completes (.sensorlessTimeout a) s fun t => stopped 2 t ∧ t.bit (HDR.FLT p) 21 = true)) ∧
    (let cat := s.fld sta 11 10
     s.mstate a = 5 → cat = 0 ∨ x.arrived = true → State.Completes (.stopAtRest a) s fun t =>
      t.mstate a = (if cat = 2 then 6 else 7) ∧ t.bit (HDR.EVT p) 2 = true ∧ t.fld sta 11 10 = cat
      ∧ (cat ≠ 2 → t.rd (AXIS.CMDSPD a) = 0 ∧ ∀ b ∈ s.axisBridges a, t.fld (BRG.FORCE b) 5 0 = 0x15)
      ∧ State.SameRegs (fun y => State.onPage p y ∨ ∃ b ∈ s.axisBridges a, y = BRG.FORCE b) s t ∧ State.SameBytes s.recRing s t) ∧
    (s.onEstimate a = true → s.sensorless a = false → 16 ≤ x.back → State.Completes (.estimateLeave a) s fun t =>
      t.bit sta 6 = false ∧ (∀ n, s.primaryPort a = some n → t.rd64 (AXIS.ACTPOS a) = s.rd64 (FB.POS n)
        ∧ t.rd (AXIS.ACTSPD a) = s.rd (FB.SPD n)) ∧ State.SameRegs (fun y => y / 0x1000 = p) s t ∧ t.mem = s.mem)

/-! ### The route store -/

/-- R258 to R261, R264, R265, R268, R272, R273. -/
def Obligations.Routes : Prop :=
  ∀ s : State,
    let p := pgROUTE
    let fc := ROUTE.FCSTA
    let fallback := fun t : State => t.routeState = 3 ∧ t.rd ROUTE.VENV = BitVec.ofNat 32 (s.fld ROUTE.FBVLIM 15 0 * 256)
      ∧ t.rd ROUTE.TENV = BitVec.ofNat 32 (State.torque15 (s.fld ROUTE.FBTRQ 15 0))
      ∧ t.rd (ROUTE.TENV + 4) = BitVec.ofNat 32 (State.torque15 (s.fld ROUTE.FBTRQ 31 16)) ∧ t.rd ROUTE.FFOUT = 0
    let at_ := (s.sint64 ROUTE.POS * 1000 / (4294967296 * s.fld ROUTE.SPACING 13 0)).toNat
    (s.routeState = 1 → 0 ≤ s.sint64 ROUTE.POS → at_ < 0x2000000 → (s.mapEntry (at_ / 4096)).2 = true →
      State.Completes .routeRctlRun s fun t => t.routeState = 2 ∧ t.bit ROUTE.RSTATE 4 = false ∧ t.bit (HDR.EVT p) 1 = true
        ∧ State.SameRegs (fun y => State.reports p y ∨ y = ROUTE.RSTATE) s t ∧ State.SameBytes s.recRing s t) ∧
    (s.routeState = 1 → s.sint64 ROUTE.POS < 0 ∨ (s.mapEntry (at_ / 4096)).2 = false → State.Completes .routeRctlRun s fun t =>
      fallback t ∧ t.bit ROUTE.RSTATE 4 = true ∧ t.bit (HDR.FLT p) 18 = true) ∧
    (s.routeState ≠ 1 → State.Completes .routeRctlRun s fun t => t.bit (HDR.FLT p) 0 = true ∧ t.rd ROUTE.RSTATE = s.rd ROUTE.RSTATE) ∧
    (2 ≤ s.routeState → State.Completes .routeRctlStop s fun t => t.routeState = 1 ∧ t.bit (HDR.EVT p) 1 = true
      ∧ State.SameRegs (fun y => State.reports p y ∨ y = ROUTE.RSTATE) s t ∧ State.SameBytes s.recRing s t) ∧
    (s.routeState < 2 → exec .routeRctlStop s = .next s ∧ State.Completes .routeRctlClear s fun t => t.route.map = []
      ∧ t.rd ROUTE.FREE = 0x20012000 ∧ t.routeState = 0
      ∧ State.SameRegs (fun y => State.reports p y ∨ y = ROUTE.RSTATE ∨ y = ROUTE.FREE ∨ y = ROUTE.FMAP) s t ∧ State.SameBytes s.recRing s t) ∧
    (2 ≤ s.routeState → State.Completes .routeRctlClear s fun t => t.bit (HDR.FLT p) 0 = true ∧ t.route = s.route) ∧
    (s.busyOp fc = false → s.offView p = false →
      (State.Completes (.fcctlCommit 0) s fun t => t.rd fc = 0x300 ∧ t.route = s.route ∧ t.mem = s.mem
        ∧ State.SameRegs (fun y => y = fc ∨ y = ROUTE.FCCTL ∨ y = HDR.SEQ p) s t) ∧
      (State.Completes (.fcctlCommit 3) s fun t => t.Ended fc .rejLength ∧ t.bit (HDR.FLT p) 1 = true ∧ t.bit (HDR.FLT p) 20 = true
        ∧ t.route.map = s.route.map) ∧
      (let l := s.fld ROUTE.FCARG0 12 0
       let q := s.fld ROUTE.FCARG0 29 16
       let base := (s.rd64 ROUTE.BASE).toNat + q * 0x20000
       (s.pairOk l q = false → State.Completes (.fcctlCommit 1) s fun t => t.Ended fc .rejState ∧ t.bit (HDR.FLT p) 20 = true
         ∧ t.route.map = s.route.map ∧ State.SameBytes s.recRing s t) ∧
       (s.pairOk l q = true → (∀ i < 4096, s.fwAdmits 2 0 (base + i * 32) 32 .read = true) → s.GoodCode (dramBase + base) 0x20000 →
        (∀ i < 4096, nodeFault l (s.bytes (dramBase + base + i * 32) 32) = none) → State.Completes (.fcctlCommit 1) s fun t =>
          t.phase fc = 2 ∧ t.route = { s.route with pairs := [(l, q)] } ∧ t.mem = s.mem))) ∧
    (s.busyOp fc = true →
      (State.Completes (.fcctlCommit 1) s fun t => t.bit (HDR.FLT p) 0 = true ∧ t.rd fc = s.rd fc ∧ t.route = s.route) ∧
      (s.isPast fc = false → State.Completes .fcctlAbort s fun t => t.Ended fc .aborted ∧ t.route.pairs = []
        ∧ t.route.map = s.route.map ∧ t.bit (HDR.FLT p) 20 = true) ∧
      (∀ l q, s.route.pairs = [(l, q)] → State.Completes .flightMapWrite s fun t => t.Ended fc .done ∧ t.mapEntry l = (q, true)
        ∧ (∀ j, j ≠ l → t.mapEntry j = s.mapEntry j) ∧ t.route.pairs = [] ∧ t.bit (HDR.EVT p) 0 = true
        ∧ t.routeState = (if s.routeState = 0 then 1 else s.routeState) ∧ State.SameBytes s.recRing s t)) ∧
    (2 ≤ s.routeState →
      (State.Completes .routeTick s fun t => (t.routeState = 2 ∨ t.routeState = 3) ∧ t.route.lastTick = some s.t16
        ∧ t.route.posset = none ∧ t.route.marker = none ∧ t.route.map = s.route.map) ∧
      (∀ v : Word64, s.route.posset = some v.toInt → State.Completes .routeTick s fun t => t.rd64 ROUTE.POS = v) ∧
      (s.odoAxes = [] → State.Completes .routeTick s fun t => fallback t ∧ t.bit (HDR.FLT p) 17 = true ∧ t.rd ROUTE.SPD = 0
        ∧ State.SameBytes s.recRing s t)) ∧
    (s.routeState < 2 → exec .routeTick s = .next s) ∧
    (∀ v : Word64, State.Completes (.routePossetWrite v) s fun t => t.route = { s.route with posset := some v.toInt }
      ∧ t.regs = s.regs ∧ t.mem = s.mem)

/-! ### Migrations, the gallery test, and the duplex pair -/

/-- R277 to R279, R281, R282, R284, R293, R296. -/
def Obligations.Migrations : Prop :=
  ∀ s : State,
    let p := pgMIG
    let ms := MIG.MSTA
    let ts := MIG.TSTA
    let g := s.fld MIG.MARGS 4 0
    let t := s.fld MIG.MARGS 12 8
    let slots := s.fld MIG.MARGS 21 16
    let src := s.mig.source
    let tgt := s.mig.target
    (s.busyOp ms = true → State.Completes .mctlStart s fun u => u.bit (HDR.FLT p) 0 = true ∧ u.mig = s.mig ∧ u.rd ms = s.rd ms) ∧
    (s.busyOp ms = false → s.offView p = false →
      (s.galState t ≠ 8 ∨ g = t → State.Completes .mctlStart s fun u => u.Ended ms .rejState ∧ u.bit (HDR.EVT p) 1 = true
        ∧ u.gal = s.gal ∧ State.SameRegs (fun y => State.reports p y ∨ y = ms) s u) ∧
      (s.galState t = 8 → g ≠ t → slots = 0 → State.Completes .mctlStart s fun u => u.Ended ms .done ∧ u.bit (HDR.EVT p) 0 = true
        ∧ u.gal = s.gal ∧ State.SameRegs (fun y => State.reports p y ∨ y = ms) s u) ∧
      (∀ i, s.galState t = 8 → g ≠ t → slots ≠ 0 → g < s.variant.galleries → t < s.variant.galleries →
        (∀ n ∈ bitsOf 6 slots, s.slotOn g n = true ∧ s.phase (BRG.XFERSTA (s.slotBridge g n)) ≠ 1) →
        2 ≤ s.fld MIG.MCMP 7 0 → s.fld MIG.MCMP 7 0 < 0xFF → s.num (GAL.STATELEN g) ≤ s.stateCap g →
        s.busyOp (GAL.SCHSTA g) = false → s.busyOp (GAL.SCHSTA t) = false → s.fld STW.STATE 3 0 < 3 →
        s.copyFails g 1200 = none → s.scheduleFails 1200 0 (s.movedTable g slots) = none → s.num MIG.EPOCHNEXT ≠ 0 →
        s.num MIG.EPOCHNEXT + (bitsOf 6 slots).length ≤ 0x100000000 → s.namedImage g = some i → s.holds t i = true →
        State.Completes .mctlStart s fun u => u.phase ms = 2 ∧ u.fld ms 18 10 = 2 ∧ u.mig.source = g ∧ u.mig.target = t
          ∧ u.mig.slots = BitVec.ofNat 6 slots ∧ u.mig.image = i ∧ (u.galOf t).sched = s.movedTable g slots
          ∧ u.num MIG.MCOPY = State.copyNs (s.num (GAL.STATELEN g))
          ∧ State.SameRegs (fun y => y / 0x1000 = p ∨ y / 0x1000 = pgGAL g ∨ y / 0x1000 = pgGAL t) s u ∧ u.mem = s.mem)) ∧
    (s.busyOp ms = true → src < s.variant.galleries → tgt < s.variant.galleries → src ≠ tgt →
      (s.isPast ms = false → State.Completes .mctlAbort s fun u => u.Ended ms .aborted ∧ u.galState tgt = 8
        ∧ u.bit MIG.SPARES tgt = true ∧ (u.galOf tgt).sched = [] ∧ u.bit (HDR.EVT p) 1 = true) ∧
      (let base := s.num (GAL.STATEBASE src)
       let len := Nat.min (s.num (GAL.STATELEN src)) (s.stateCap src)
       s.fld ms 12 10 = 2 → s.GoodCode (galBase src + base) len → s.GoodCode (galBase src + 0x3F000) 4096 →
       s.bit MEM.INJCFG 16 = false → State.Completes .migrationCopy s fun u => u.fld ms 12 10 = 3 ∧ u.galState tgt = 9
         ∧ (∀ i < 4096, u.byte (galBase tgt + 0x3F000 + i) = s.byte (galBase src + 0x3F000 + i)) ∧ u.busyOp ms = true) ∧
      (s.fld ms 12 10 = 5 → Tab.find s.pastCompletion ms ≠ some true → State.Completes .migrationRelease s fun u =>
        u.Ended ms .done ∧ u.fld ms 12 10 = 0 ∧ u.bit MIG.SPARES tgt = false ∧ u.bit (HDR.EVT p) 0 = true
        ∧ (s.anySlot src = false → s.galState src ≠ 6 → u.galState src = 8))) ∧
    (∀ d < s.variant.galleries,
      (s.fld MIG.DEADCFG 3 0 ≠ 0 → s.anySlot d = true → State.Completes (.galleryDead d) s fun u => u.mig.dead.getLsbD d = true
        ∧ u.bit (HDR.FLT p) 21 = true ∧ State.SameRegs (State.reports p) s u ∧ State.SameBytes s.recRing s u) ∧
      (s.anySlot d = false → exec (.galleryDead d) s = .next s) ∧
      (s.busyOp ms = false → s.anySlot d = true → s.galState d ≠ 8 →
        ((∀ k < s.variant.galleries, s.galState k ≠ 8) → State.Completes (.emergencyMigration d) s fun u => u.Ended ms .rejState
          ∧ u.bit ms 13 = true ∧ u.bit (HDR.FLT p) 22 = true ∧ u.bit (HDR.FLT p) 19 = true ∧ u.bit (HDR.EVT p) 1 = true
          ∧ u.bit (HDR.EVT p) 2 = true) ∧
        (∀ i k, Tab.find s.mig.held d = some i → s.chooseSpare none (some i) = some k → s.holds k i = true →
          s.num MIG.EPOCHNEXT ≠ 0 → s.num MIG.EPOCHNEXT + 6 ≤ 0x100000000 → s.bit MEM.INJCFG 16 = false →
          s.GoodCode (galBase d + s.num (GAL.STATEBASE d)) (Nat.min (s.num (GAL.STATELEN d)) (s.stateCap d)) →
          s.GoodCode (galBase d + 0x3F000) 4096 → State.Completes (.emergencyMigration d) s fun u => u.Ended ms .done
            ∧ u.bit ms 13 = true ∧ u.bit (HDR.FLT p) 19 = true ∧ u.bit (HDR.EVT p) 0 = true ∧ u.bit (HDR.EVT p) 2 = true
            ∧ u.galState k = 3 ∧ u.bit MIG.SPARES k = false
            ∧ (∀ n < 6, s.slotOn d n = true → u.brgGal (s.slotBridge d n) = k)))) ∧
    (let x := s.fld MIG.TSEL 4 0
     s.busyOp ts = false → s.offView p = false →
      (s.galState x = 8 → State.Completes .migTctlStart s fun u => u.phase ts = 2 ∧ u.galState x = 4 ∧ u.mig.testing = x ∧ u.mem = s.mem) ∧
      (s.galState x ≠ 8 → State.Completes .migTctlStart s fun u => u.Ended ts .rejState ∧ u.gal = s.gal ∧ u.mem = s.mem)) ∧
    (let x := s.mig.testing
     s.busyOp ts = true → x < s.variant.galleries →
      (s.isPast ts = false → State.Completes .migTctlAbort s fun u => u.Ended ts .aborted ∧ u.galState x = 8 ∧ u.bit MIG.SPARES x = true) ∧
      (∀ lbist mbist bad, State.Completes (.galleryTestDone lbist mbist bad) s fun u => u.Ended ts .done ∧ u.bit (HDR.EVT p) 4 = true
        ∧ u.bit MIG.TRES 0 = lbist ∧ u.bit MIG.TRES 1 = mbist ∧ u.fld MIG.TRES 11 8 = bad.toNat
        ∧ (lbist = true → mbist = true → u.galState x = 8 ∧ u.bit MIG.SPARES x = true)
        ∧ (lbist = false ∨ mbist = false → u.galState x = 7 ∧ u.bit MIG.SPARES x = false ∧ u.bit (HDR.FLT p) 23 = true)))

/-- R275, R285 to R289, R292, R298. -/
def Obligations.DuplexPair : Prop :=
  ∀ s : State,
    let p := pgSTW
    let ho := STW.HOSTA
    let st := s.pairState
    let credit := s.hasCredit .stairwell 0
    (∀ (partner : BitVec 24) (agree : Bool), let own := s.fld STW.CFGOWN 23 0
      s.busyOp ho = false → s.offView p = false → st = 0 →
      (agree = true → (∀ r < s.variant.rings, s.fld (RZL.TOPO r) 1 0 = (if s.bit STW.STATE 4 then 2 else 1)) →
        BitVec.ofNat 24 own &&& partner = 0 →
        (∀ a < s.variant.axes, s.axisOn a = true → own.testBit a = true ∨ partner.getLsbD a = true) →
        State.Completes (.sctlStart partner agree) s fun t => t.phase ho = 2 ∧ t.pairState = 1 ∧ t.num STW.OWN = own
          ∧ t.rd STW.SHADOW = partner.setWidth 32) ∧
      (agree = false → State.Completes (.sctlStart partner agree) s fun t => t.Ended ho .rejState ∧ t.bit (HDR.FLT p) 22 = true
        ∧ t.pairState = 0 ∧ t.gal = s.gal ∧ State.SameRegs (fun y => State.reports p y ∨ y = ho) s t)) ∧
    (State.Completes .sctlStop s fun t => t.pairState = 0 ∧ t.rd STW.SHADOW = 0 ∧ (s.busyOp ho = true → t.Ended ho .aborted)) ∧
    (s.busyOp ho = false → s.offView p = false → let sel := s.rd STW.HOSEL &&& 0xFFFFFF
      (sel = 0 → State.Completes .sctlHandover s fun t => t.Ended ho .done ∧ t.stw = s.stw ∧ t.mem = s.mem) ∧
      (sel ≠ 0 → st ≠ 2 → State.Completes .sctlHandover s fun t => t.Ended ho .rejState ∧ t.stw = s.stw ∧ t.mem = s.mem) ∧
      (sel ≠ 0 → st = 2 → sel &&& ~~~ s.rd STW.OWN = 0 → State.Completes .sctlHandover s fun t => t.phase ho = 2
        ∧ t.stw.handAxes = sel.setWidth 24 ∧ t.stw.handAt = State.switchInstant s.t16
        ∧ (credit = true → t.stw.last = [6, sel, 0, (State.switchInstant s.t16).setWidth 32, 0]) ∧ t.mem = s.mem
        ∧ State.SameRegs (fun y => y = ho ∨ y = HDR.STA p) s t)) ∧
    (s.busyOp ho = true → s.isPast ho = false →
      (State.Completes .sctlAbort s fun t => t.Ended ho .aborted ∧ t.stw.handAxes = 0 ∧ t.stw.switching = []
        ∧ t.pairState = (if st = 1 then 0 else st) ∧ t.rd STW.OWN = s.rd STW.OWN) ∧
      (∀ (axes : BitVec 24) (e : Word), s.stw.incoming = false → s.stw.handAxes = axes → axes ≠ 0 →
        (State.Completes (.hoAck axes false e) s fun t => t.Ended ho .rejState ∧ t.stw.handAxes = 0 ∧ t.rd STW.OWN = s.rd STW.OWN ∧ t.mem = s.mem) ∧
        (State.Completes (.hoAck axes true e) s fun t => t.isPast ho = true ∧ t.stw.switching = s.bridgesOf axes.toNat
          ∧ t.rd STW.OWN = s.rd STW.OWN ∧ (∀ b, s.bridgesOf axes.toNat = [b] → t.rd (MIG.EPOCH b) = e) ∧ t.mem = s.mem))) ∧
    (∀ axes at_ : BitVec 24, let bs := s.bridgesOf axes.toNat
      (st ≠ 2 → credit = true → State.Completes (.hoReq axes at_) s fun t => t.stw.last = [7, axes.setWidth 32, 0, 0, 0]
        ∧ t.stw.handAxes = s.stw.handAxes ∧ t.regs = s.regs ∧ t.mem = s.mem) ∧
      (st = 2 → axes &&& ~~~ (s.rd STW.SHADOW).setWidth 24 = 0 → (∀ b ∈ bs, s.fld MIG.MCMP 7 0 ≤ Tab.get 0 s.stw.hits b) →
        s.num MIG.EPOCHNEXT ≠ 0 → s.num MIG.EPOCHNEXT + bs.length < 0x100000000 → s.busyOp ho = false → s.stw.switching = [] →
        State.Completes (.hoReq axes at_) s fun t => t.stw.handAxes = axes ∧ t.stw.incoming = true ∧ t.stw.switching = bs
          ∧ t.num MIG.EPOCHNEXT = s.num MIG.EPOCHNEXT + bs.length
          ∧ (credit = true → t.stw.last = [7, axes.setWidth 32 ||| 0x1000000, 0, s.rd MIG.EPOCHNEXT, 0])
          ∧ t.rd STW.OWN = s.rd STW.OWN ∧ t.mem = s.mem)) ∧
    (st ≠ 2 → State.Completes .sctlResync s fun t => t.bit (HDR.FLT p) 0 = true ∧ t.stw = s.stw) ∧
    (∀ b, st = 2 → s.bridgesOf (s.fld STW.OWN 23 0) = [b] → s.GoodCode (galBase (s.brgGal b) + 0x3F000) 4096 →
      s.GoodCode (galBase (s.brgGal b) + s.num (GAL.STATEBASE (s.brgGal b)))
        (Nat.min (s.num (GAL.STATELEN (s.brgGal b))) (s.stateCap (s.brgGal b))) →
      State.Completes .sctlResync s fun t => s.stw.sent + s.stw.wait.length + 21 ≤ t.stw.sent + t.stw.wait.length ∧ t.pairState = 2) ∧
    (st = 1 → s.busyOp ho = true → State.Completes .stateCopyDone s fun t => t.Ended ho .done ∧ t.pairState = 2
      ∧ t.bit (HDR.EVT p) 0 = true ∧ State.SameRegs (fun y => State.reports p y ∨ y = ho ∨ y = STW.STATE) s t ∧ State.SameBytes s.recRing s t) ∧
    (∀ e stw mode owned lt,
      (State.Completes (.heartbeat e stw mode owned lt) s fun t => t.fld STW.STATE 11 8 = stw.toNat ∧ t.stw.partnerMode = mode
        ∧ t.stw.partnerOwn = owned ∧ t.stw.partnerLt = lt ∧ t.pairState = (if st = 3 ∨ st = 4 then 2 else st)
        ∧ (s.num MIG.EPOCHNEXT ≠ 0 → e.toNat < 0xFFFFFFFF → e.toNat < t.num MIG.EPOCHNEXT))) ∧
    (st ≠ 0 → credit = true → State.Completes .heartbeatSend s fun t => t.stw.last = s.heartbeatFrame
      ∧ t.stw.sent = s.stw.sent + 1 ∧ t.regs = s.regs ∧ t.mem = s.mem) ∧
    (∀ (u : List Word) (b : Nat), let a := wfld (u.getD 1 0) 4 0
      let g := s.brgGal b
      s.axisLead a = some b → s.bit STW.SHADOW a = true → s.hasCredit (.setpoint g) 0 = true →
      ((s.galOf g).stalled.any fun e => e.1 == 0) = false → State.Completes (.mirrorSp u) s fun t =>
        (t.galOf g).setpoints = (s.galOf g).setpoints ++ [(0, State.unitWords u)] ∧ t.mem = s.mem) ∧
    (∀ a < s.variant.axes, ∀ v : Word64,
      (s.bit STW.OWN a = false → s.booted = true → State.Completes (.mirrorReg 0x70 a false v) s fun t =>
        t.rd (AXIS.VMAX a) = loWord v ∧ State.SameRegs (fun y => y = AXIS.VMAX a ∨ y = HDR.SEQ (pgAXIS a)) s t ∧ t.mem = s.mem) ∧
      (∀ off wide, s.bit STW.OWN a = true → exec (.mirrorReg off a wide v) s = .next s)) ∧
    (∀ b < s.variant.bridges, let g := s.brgGal b
      (∀ off tread (data : List Word64), (s.slotRun g (s.brgSlot b)).shadow = true → off % 8 = 0 → off + 8 * data.length ≤ 4096 →
        s.bit MEM.INJCFG 16 = false → State.Completes (.stateFrame b true off tread data) s fun t =>
          (∀ i < data.length, t.word64 ((galBase g + 0x3F000 + off) / 8 + i) = data.getD i 0) ∧ t.regs = s.regs
          ∧ State.SameBytes (fun y => galBase g + 0x3F000 + off ≤ y ∧ y < galBase g + 0x3F000 + off + 8 * data.length) s t) ∧
      (s.bit STW.OWN (s.brgAxis b) = true → State.Completes (.driftResync b) s fun t => t.bit (HDR.FLT p) 21 = true
        ∧ t.fld STW.TOVCNT 31 16 = Nat.min 0xFFFF (s.fld STW.TOVCNT 31 16 + 1))) ∧
    (∀ e : Word,
      (s.num MIG.EPOCHNEXT ≤ e.toNat → s.num MIG.EPOCHNEXT ≠ 0 → State.Completes (.epochFrame e) s fun t =>
        t.rd MIG.EPOCHNEXT = e + 1 ∧ State.SameRegs (fun y => y = MIG.EPOCHNEXT) s t ∧ t.mem = s.mem) ∧
      (e.toNat < s.num MIG.EPOCHNEXT → exec (.epochFrame e) s = .next s)) ∧
    (∀ alive : Byte, st = 1 ∨ st = 2 → State.Completes (.stairwellDown alive) s fun t => t.rd STW.RINGSEEN = alive.setWidth 32
      ∧ (alive ≠ 0 → t.pairState = 3 ∧ t.bit (HDR.FLT p) 16 = true ∧ t.bit (HDR.EVT p) 1 = true)
      ∧ (alive = 0 → t.pairState = st) ∧ (s.busyOp ho = true → s.isPast ho = false → t.Ended ho .rejState)) ∧
    (st ≠ 0 → st ≠ 4 → State.Completes .partnerSilent s fun t => t.pairState = 4 ∧ t.rd STW.RINGSEEN = 0 ∧ t.bit (HDR.FLT p) 17 = true
      ∧ State.SameRegs (fun y => State.reports p y ∨ y = STW.STATE ∨ y = STW.RINGSEEN) s t ∧ State.SameBytes s.recRing s t)

/-! ### The newel and its mailboxes -/

/-- R80, R81, R304 to R307, R323, R479. -/
def Obligations.NewelBoot : Prop :=
  ∀ s : State,
    (∀ (env : BootEnv) (c : Nat), s.newel.waiting = some c → c < 256 → s.powered = true → s.pwr.waitRef = false → s.BootGood env →
      State.Completes (.newelRelease env) s fun t => s.Booted t c) ∧
    (∀ env, s.newel.waiting = none ∨ s.powered = false → exec (.newelRelease env) s = .next s) ∧
    (∀ env, s.powered = true → s.BootGood env → State.Completes (.warmReset env) s fun t => s.Booted t 2) ∧
    (∀ env, s.powered = false → exec (.warmReset env) s = .next s) ∧
    (∀ off valid, s.bit NEWEL.BOOTSTA 17 = false → State.Completes (.newelRecov off valid) s fun t =>
      t.bit (HDR.FLT pgNEWEL) 0 = true ∧ t.num NEWEL.FWCNT = Nat.min 0xFFFFFFFF (s.num NEWEL.FWCNT + 1) ∧ t.newel = s.newel
      ∧ State.SameRegs (fun y => State.reports pgNEWEL y ∨ y = NEWEL.FWCNT) s t ∧ State.SameBytes s.recRing s t) ∧
    (∀ off, s.bit NEWEL.BOOTSTA 17 = true →
      (State.Completes (.newelRecov off true) s fun t => t.newel.waiting = some 2 ∧ t.booted = false ∧ t.gal = [] ∧ t.axis = []
        ∧ t.commits = []) ∧
      (State.Completes (.newelRecov off false) s fun t => t.Ended NEWEL.RECOVSTA .rejState ∧ t.bit (HDR.FLT pgNEWEL) 21 = true
        ∧ t.rd NEWEL.RECOV = off ∧ t.newel = s.newel)) ∧
    (s.powered = true → State.Completes .codeSigFail s fun t => t.newel.waiting = some 2 ∧ t.booted = false
      ∧ t.bit (HDR.FLT pgNEWEL) 19 = true ∧ t.gal = [] ∧ t.axis = []) ∧
    (s.powered = false → exec .codeSigFail s = .next s)

/-- R72, R303, R309 to R311, R320, R345, R376 to R378. -/
def Obligations.MailboxCalls : Prop :=
  ∀ (s : State) (k : Nat) (seq : BitVec 16), k < s.variant.halls →
    (s.callRuns k = false →
      let done := fun t => s.Answered t k seq.toNat .done
      let fails := fun c t => s.Answered t k seq.toNat c
      let commit := fun (t : State) (c : Commit) => t.CallGoesOn k seq.toNat ∧ t.commits = s.commits ++ [c]
      (∀ code : BitVec 16, State.knownCall code.toNat = false → State.Completes (.unknownCall k code seq) s fun t =>
        fails .rejState t ∧ s.CallFrame t k) ∧
      (∀ n a, 32 < n → State.Completes (.fwOpen k seq n a) s fun t => fails .rejLength t ∧ t.bit (HDR.FLT pgNEWEL) 1 = true ∧ s.CallFrame t k) ∧
      (∀ n a, 0 < n → n ≤ 32 → a.region < 64 → a.space < 4 → a.size ≠ 0 → a.size ≤ s.spacePages a.space →
        (s.policyOk a.mask a.space a.size = true → State.Completes (.fwOpen k seq n a) s fun t => done t
          ∧ t.bit (NEWEL.FWR_ATTR a.region) 31 = true ∧ t.fld (NEWEL.FWR_ATTR a.region) 5 4 = a.space
          ∧ t.fld (NEWEL.FWR_ATTR a.region) 2 0 = b01 a.r + 2 * b01 a.w + 4 * b01 a.x
          ∧ t.rd64 (NEWEL.FWR_BASE a.region) = a.base &&& 0xFFFFFFFFFFFFF000
          ∧ t.rd (NEWEL.FWR_SIZE a.region) = BitVec.ofNat 32 a.size ∧ t.rd64 (NEWEL.FWR_MASK a.region) = a.mask &&& 0x7FFFFFFFFFF
          ∧ s.CallFrame t k) ∧
        (s.policyOk a.mask a.space a.size = false → State.Completes (.fwOpen k seq n a) s fun t => fails .rejLock t
          ∧ t.bit (HDR.FLT pgNEWEL) 6 = true ∧ t.rd (NEWEL.FWR_ATTR a.region) = s.rd (NEWEL.FWR_ATTR a.region) ∧ s.CallFrame t k)) ∧
      (∀ n r, 0 < n → n ≤ 4 → r < 64 → State.Completes (.fwClose k seq n r) s fun t => done t ∧ t.bit (NEWEL.FWR_ATTR r) 31 = false ∧ s.CallFrame t k) ∧
      (∀ n ch owner, 0 < n → n ≤ 8 →
        (ch < 16 → owner ≤ s.variant.halls → State.Completes (.dmaAssign k seq n ch owner) s fun t =>
          done t ∧ (t.dmaOf ch).owner = owner ∧ s.CallFrame t k) ∧
        (16 ≤ ch → State.Completes (.dmaAssign k seq n ch owner) s fun t => fails .rejState t ∧ t.host = s.host ∧ s.CallFrame t k)) ∧
      (∀ n set comp off (data : List Byte), 0 < n → n ≤ 4012 → set < 2 → set ≠ s.runningSet → data ≠ [] → data.length ≤ 4000 →
        State.Completes (.imgWrite k seq n set comp off data) s fun t => done t ∧ t.newel.verified.getLsbD set = false
          ∧ (∀ i < data.length, t.byte (State.flashAddr set comp off + i) = data.getD i 0) ∧ State.SameRegs (State.onPage pgNEWEL) s t) ∧
      (∀ n set v, 0 < n → n ≤ 4 → set < 2 → set ≠ s.runningSet →
        (State.Completes (.imgVerify k seq n set true v) s fun t => done t ∧ t.newel.verified.getLsbD set = true
          ∧ t.rd (if set = 0 then NEWEL.SETAVER else NEWEL.SETBVER) = v ∧ t.bit (HDR.EVT pgNEWEL) 1 = true ∧ s.CallFrame t k) ∧
        (State.Completes (.imgVerify k seq n set false v) s fun t => fails .rejState t ∧ t.newel = s.newel ∧ s.CallFrame t k)) ∧
      (∀ n set tries, 0 < n → n ≤ 8 → set < 2 → 1 ≤ tries → tries ≤ 3 →
        (s.newel.verified.getLsbD set = true → State.Completes (.imgActivate k seq n set tries) s fun t =>
          commit t { kind := 4, units := 1, core := some k, act := .activate (decide (set = 1)) tries }) ∧
        (s.newel.verified.getLsbD set = false → State.Completes (.imgActivate k seq n set tries) s fun t =>
          fails .rejState t ∧ t.commits = s.commits ∧ s.CallFrame t k)) ∧
      (State.Completes (.imgConfirm k seq 0) s fun t => commit t { kind := 4, units := 1, core := some k, act := .confirm }) ∧
      (∀ n slot passes, 0 < n → n ≤ 4 → slot < 2 →
        (∀ j < s.variant.halls, ¬ (s.fld (HDR.STA (pgHALL j)) 3 0 = 3 ∧ s.fld (HALL.IMGSLOT j) 0 0 = slot)) →
        State.Completes (.hallLoad k seq n slot passes) s fun t => fails (if passes then .done else .rejState) t
          ∧ t.newel.loaded.getLsbD slot = passes ∧ s.CallFrame t k) ∧
      (∀ n x slot, 0 < n → n ≤ 8 → x ≠ k → x < s.variant.halls → slot < 2 →
        (s.newel.loaded.getLsbD slot = true → State.Completes (.hallRestart k seq n x slot) s fun t => done t
          ∧ (t.hallOf x).pc = Config.hallEntry ∧ t.rd (HALL.IMGSLOT x) = BitVec.ofNat 32 slot ∧ t.fld (HDR.STA (pgHALL x)) 3 0 = 3
          ∧ t.bit (HDR.EVT (pgHALL x)) 3 = true) ∧
        (s.newel.loaded.getLsbD slot = false → State.Completes (.hallRestart k seq n x slot) s fun t => fails .rejState t
          ∧ t.hall = s.hall ∧ s.CallFrame t k)) ∧
      (∀ n addr len axes, 0 < n → n ≤ 108 → 0 < len →
        (len ≤ 0x1000000 → State.Completes (.tchLoad k seq n addr len true 0) s fun t => done t ∧ s.CallFrame t k) ∧
        (len ≤ 0x1000000 → State.Completes (.tchLoad k seq n addr len false axes) s fun t => fails .rejLock t ∧ s.CallFrame t k) ∧
        (0x1000000 < len → ∀ sig, State.Completes (.tchLoad k seq n addr len sig axes) s fun t => fails .rejLength t ∧ s.CallFrame t k)) ∧
      (∀ n user (pw : List Byte), 0 < n → n ≤ 68 → pw.length ≤ 64 → s.bit BAL1.GATE 1 = false →
        (s.sysMode = 6 → (∀ a < s.variant.axes, s.bit BAL0.STOAX a = true) → s.balState = 1 ∨ s.balState = 3 → s.gateOpen = false →
          (s.passwordOk pw = true → State.Completes (.safeOpen k seq n user pw) s fun t => done t ∧ t.gateOpen = true
            ∧ t.fld BAL1.GATE 31 16 = 900 ∧ t.fld BAL1.GATE 7 4 = 0 ∧ t.bit BAL0.BSTA 6 = true ∧ t.bit (HDR.EVT pgBAL1) 0 = true) ∧
          (s.passwordOk pw = false → State.Completes (.safeOpen k seq n user pw) s fun t => fails .rejLock t ∧ t.gateOpen = false
            ∧ t.fld BAL1.GATE 7 4 = Nat.min 15 (s.fld BAL1.GATE 7 4 + 1) ∧ t.bit (HDR.FLT pgBAL1) 18 = true
            ∧ t.bit BAL1.GATE 1 = decide (4 ≤ s.fld BAL1.GATE 7 4))) ∧
        (s.sysMode ≠ 6 → State.Completes (.safeOpen k seq n user pw) s fun t => fails .rejState t ∧ s.CallFrame t k)) ∧
      (s.gateOpen = true → s.bal.committing = none →
        (State.Completes (.safeClose k seq 0) s fun t => done t ∧ t.gateOpen = false ∧ t.bal.edits = [] ∧ t.bit BAL0.BSTA 6 = false
          ∧ ∀ p < 171, t.rd (HDR.LOCK p) = 0) ∧
        (∀ n user (c : List Byte), 0 < n → n ≤ 132 → c.length ≤ 128 → s.bit BAL1.GATE 2 = true →
          let e := s.bal.edits.foldl (fun s (e : Nat × Word) => s.wr e.1 e.2) s
          (e.commitChecks.all (·.2) = true → State.Completes (.safeCommit k seq n user c) s fun t =>
            commit t { kind := 2, units := 98, core := some k, act := .safety user c } ∧ t.bal.committing = some s.bal.edits) ∧
          (e.commitChecks.all (·.2) = false → State.Completes (.safeCommit k seq n user c) s fun t =>
            fails .rejState t ∧ t.bit (HDR.FLT pgBAL1) 19 = true ∧ t.bal = s.bal ∧ t.commits = s.commits)) ∧
        (∀ n (old new salt : List Byte), 0 < n → n ≤ 132 → old.length ≤ 64 → 8 ≤ new.length → new.length ≤ 64 → s.passwordOk old = true →
          State.Completes (.safePwset k seq n old new salt) s fun t =>
            commit t { kind := 4, units := 1, core := some k, act := .password (salt.take 16) (sha256 (salt.take 16 ++ new)) })) ∧
      (s.gateOpen = false → State.Completes (.safeClose k seq 0) s fun t => fails .rejState t ∧ s.CallFrame t k) ∧
      (∀ n first count, 0 < n → n ≤ 8 → count ≤ 15 → State.Completes (.safeLogread k seq n first count) s fun t => done t ∧ s.CallFrame t k) ∧
      (State.Completes (.safeSig k seq 0) s fun t => done t ∧ t.mbx k 12 = 36 ∧ t.mbx k 0x60 = s.rd BAL1.GEN ∧ s.CallFrame t k)) ∧
    (s.callRuns k = true →
      (∀ n r, State.Completes (.fwClose k seq n r) s fun t => t.mbx k 8 = s.mbx k 8 ∧ t.mbx k 20 = BitVec.ofNat 32 (4 + seq.toNat * 65536)
        ∧ t.regs = s.regs ∧ State.SameBytes (fun y => mbxBase k + 20 ≤ y ∧ y < mbxBase k + 24) s t) ∧
      (s.commits = [] → State.Completes (.mabort k) s fun t => t.callPhase k = 3 ∧ wfld (t.mbx k 8) 7 0 = 1
        ∧ t.bit (HDR.EVT pgNEWEL) 0 = true ∧ s.CallFrame t k) ∧
      (∀ x rest, s.commits = x :: rest → x.core = some k → State.Completes (.mabort k) s fun t =>
        t.commits = { x with stopping := some 0 } :: rest ∧ t.regs = s.regs ∧ t.mem = s.mem) ∧
      (State.Completes (.callTimeout k) s fun t => t.callPhase k = 3 ∧ wfld (t.mbx k 8) 7 0 = 7 ∧ (∀ c ∈ t.commits, c.core ≠ some k)
        ∧ s.CallFrame t k)) ∧
    (s.callPhase k = 3 → State.Completes (.mabort k) s fun t => t.bit (HDR.FLT pgNEWEL) 8 = true ∧ t.mbx k 8 = s.mbx k 8
      ∧ t.commits = s.commits)

/-! ### The hall cores -/

/-- R303, R313 to R318. R319 to R321, R325. -/
def Obligations.HallPartition : Prop :=
  (
  ∀ (s : State) (k : Nat), k < s.variant.halls →
    let p := pgHALL k
    let ws := HALL.WINSTA k
    let x := s.hallOf k
    let c := s.cwp k
    let n := (c + 1) % 7
    let b := (c + 6) % 7
    let reg := fun (s : State) (i : Nat) => Tab.get 0 (s.hallOf k).win i
    let k6 := (Tab.get 0 x.glob 6).toNat
    let fresh := fun (code : Nat) (addr ret : Word64) (t : State) => t.cwp k = n ∧ t.occ k n = true ∧ t.occ k c = true ∧ t.inLanding k = false
      ∧ t.fld (HALL.TRAPSTA k) 7 0 = code ∧ t.fld (HALL.TRAPSTA k) 11 9 = c ∧ t.bit (HALL.TRAPSTA k) 8 = false
      ∧ t.rd64 (HALL.TRAPPC k) = x.pc ∧ t.rd64 (HALL.TRAPADDR k) = addr ∧ (t.hallOf k).user = false
      ∧ (t.hallOf k).pc = Config.hallVectors + BitVec.ofNat 64 (hallVector code) ∧ (t.hallOf k).links = (ret, x.user) :: x.links
      ∧ State.SameBytes s.recRing s t
    let landed := fun (code : Nat) (t : State) => t.inLanding k = true ∧ t.cwp k = c ∧ t.fld (HALL.TRAPSTA k) 7 0 = code
      ∧ (t.hallOf k).landPc = x.pc ∧ (t.hallOf k).landUser = x.user ∧ (t.hallOf k).user = false
      ∧ (t.hallOf k).pc = Config.hallVectors + BitVec.ofNat 64 (hallVector code) ∧ (t.hallOf k).win = x.win ∧ t.mem = s.mem
    (s.hallRuns k = false → exec (.isync k) s = .next s ∧ exec (.tret k) s = .next s) ∧
    (s.hallRuns k = true →
      (State.Completes (.isync k) s fun t => t.hallOf k = { x with pc := x.pc + 4 } ∧ t.regs = s.regs ∧ t.mem = s.mem) ∧
      (State.Completes (.hallFence k) s fun t => t.hallOf k = { x with pc := x.pc + 4 } ∧ t.regs = s.regs ∧ t.mem = s.mem) ∧
      (c < 7 →
        (∀ v, s.occ k n = false → State.Completes (.wcall k v) s fun t => t.cwp k = n ∧ t.occ k n = true ∧ t.occ k c = true
          ∧ (t.hallOf k).pc = v ∧ (t.hallOf k).links = (x.pc + 4, x.user) :: x.links
          ∧ (∀ i < 8, reg t (n * 24 + i) = reg s (c * 24 + 16 + i)) ∧ (∀ i < 24, reg t (c * 24 + i) = reg s (c * 24 + i))
          ∧ State.SameRegs (fun y => y = ws) s t ∧ t.mem = s.mem) ∧
        (∀ pc user, s.occ k b = true → x.links.head? = some (pc, user) → State.Completes (.wret k) s fun t => t.cwp k = b
          ∧ t.occ k c = false ∧ (t.hallOf k).pc = pc ∧ (t.hallOf k).user = user ∧ (t.hallOf k).links = x.links.tail
          ∧ (∀ i < 8, reg t (b * 24 + 16 + i) = reg s (c * 24 + i)) ∧ State.SameRegs (fun y => y = ws) s t ∧ t.mem = s.mem) ∧
        (s.inLanding k = false →
          (∀ v, s.occ k n = true → State.Completes (.wcall k v) s fun t => landed 6 t
            ∧ t.fld (HALL.WINCNT k) 15 0 = Nat.min 0xFFFF (s.fld (HALL.WINCNT k) 15 0 + 1)) ∧
          (s.occ k b = false → 0 < s.spillDepth k → State.Completes (.wret k) s fun t => landed 7 t
            ∧ t.fld (HALL.WINCNT k) 31 16 = Nat.min 0xFFFF (s.fld (HALL.WINCNT k) 31 16 + 1)) ∧
          (s.occ k n = false →
            (∀ (cause : HallCause) (addr : Word64), cause ≠ .wovf → cause ≠ .wunf → (∀ sp, cause ≠ .access (some sp)) →
              State.Completes (.hallTrapEntry k cause addr) s fun t => fresh (hallCode cause) addr
                (if cause = .sysc ∨ cause = .brk then x.pc + 4 else x.pc) t) ∧
            (∀ sp addr, State.Completes (.hallTrapEntry k (.access (some sp)) addr) s fun t => fresh 2 addr x.pc t
              ∧ t.bit (HDR.FLT pgNEWEL) 18 = true ∧ t.num NEWEL.FWCNT = Nat.min 0xFFFFFFFF (s.num NEWEL.FWCNT + 1)) ∧
            (State.Completes (.sysc k) s fun t => fresh 9 0 (x.pc + 4) t ∧ State.SameRegs (fun y => y / 0x1000 = p) s t) ∧
            (State.Completes (.brk k) s fun t => fresh 10 0 (x.pc + 4) t ∧ State.SameRegs (fun y => y / 0x1000 = p) s t) ∧
            (∀ i < 32, State.Completes (.hallInterrupt k i) s fun t => fresh (0x10 + i) 0 x.pc t)))) ∧
      (s.inLanding k = true →
        (∀ i < 32, State.Completes (.hallInterrupt k i) s fun t => (t.hallOf k).irqs = x.irqs ++ [i] ∧ (t.hallOf k).pc = x.pc
          ∧ t.regs = s.regs ∧ t.mem = s.mem) ∧
        (∀ addr, State.Completes (.hallTrapEntry k .align addr) s fun t => t.fld (HDR.STA p) 3 0 = 6 ∧ t.bit (HALL.TRAPSTA k) 8 = true
          ∧ t.fld (HALL.TRAPSTA k) 7 0 = 3 ∧ t.bit (HDR.FLT p) 17 = true ∧ t.bit (HDR.EVT p) 2 = true
          ∧ t.bit (HDR.FLT pgNEWEL) 20 = true ∧ t.bit (HDR.EVT pgNEWEL) 3 = true) ∧
        (x.pend = none → x.irqs = [] → State.Completes (.tret k) s fun t => t.inLanding k = false ∧ (t.hallOf k).pc = x.landPc
          ∧ (t.hallOf k).user = x.landUser ∧ State.SameRegs (fun y => y = ws) s t ∧ t.mem = s.mem)) ∧
      (∀ i < 7, s.bit MEM.INJCFG 16 = false → x.splim.toNat ≤ k6 → k6 % 8 = 0 → k6 + 192 ≤ (s.rd64 DRAM.USABLE).toNat →
        dramBase + k6 + 192 ≤ hostBase → s.fwAdmits (k + 1) 0 k6 192 .write = true → State.Completes (.spillw k i) s fun t =>
          (∀ j < 24, t.word64 ((dramBase + k6) / 8 + j) = reg s (i * 24 + j)) ∧ Tab.get 0 (t.hallOf k).glob 6 = Tab.get 0 x.glob 6 - 192
          ∧ t.occ k i = false ∧ t.spillDepth k = Nat.min 0xFFFF (s.spillDepth k + 1) ∧ (t.hallOf k).pc = x.pc + 4
          ∧ State.SameRegs (fun y => y = ws) s t ∧ State.SameBytes (fun y => dramBase + k6 ≤ y ∧ y < dramBase + k6 + 192) s t) ∧
      (let a := (Tab.get 0 x.glob 6 + 192).toNat
       ∀ i < 7, 0 < s.spillDepth k → a % 8 = 0 → a + 192 ≤ (s.rd64 DRAM.USABLE).toNat → s.fwAdmits (k + 1) 0 a 192 .read = true →
        s.GoodCode (dramBase + a) 192 → State.Completes (.fillw k i) s fun t =>
          (∀ j < 24, reg t (i * 24 + j) = s.word64 ((dramBase + a) / 8 + j)) ∧ Tab.get 0 (t.hallOf k).glob 6 = Tab.get 0 x.glob 6 + 192
          ∧ t.occ k i = true ∧ t.spillDepth k + 1 = s.spillDepth k ∧ (t.hallOf k).pc = x.pc + 4
          ∧ State.SameRegs (fun y => y = ws) s t ∧ t.mem = s.mem))) ∧
  (
  ∀ (s : State) (k : Nat), k < s.variant.halls →
    let p := pgHALL k
    let px := HALL.PXSTA k
    let x := s.hallOf k
    let len := (s.rd (HALL.PXLEN k)).toNat
    (s.busyOp px = false →
      (∀ q, len = 0 → State.Completes (.pxctlStart k q) s fun t => t.Ended px .done ∧ t.hall = s.hall
        ∧ State.SameRegs (fun y => y = px) s t ∧ t.mem = s.mem) ∧
      (∀ q : TchProgram, 0 < len → len ≤ 0x1000000 → q.objects.length ≤ 4096 →
        (q.sigOk = false → State.Completes (.pxctlStart k q) s fun t => t.Ended px .rejLock ∧ t.bit (HDR.FLT p) 21 = true
          ∧ t.bit (HDR.FLT p) 6 = true ∧ t.hall = s.hall) ∧
        (q.sigOk = true → q.axes = 0 →
          (State.repeats q.objects = true → State.Completes (.pxctlStart k q) s fun t => t.Ended px .rejState ∧ t.bit (HDR.FLT p) 21 = true
            ∧ t.hall = s.hall) ∧
          (State.repeats q.objects = false → State.Completes (.pxctlStart k q) s fun t => t.phase px = 2
            ∧ t.hallOf k = { x with next := some q } ∧ State.SameRegs (fun y => y = px ∨ y = HDR.STA p) s t ∧ t.mem = s.mem)))) ∧
    (s.busyOp px = true → s.isPast px = false → State.Completes (.pxctlAbort k) s fun t => t.Ended px .aborted
      ∧ (t.hallOf k).next = none ∧ (t.hallOf k).program = x.program ∧ t.bit (HDR.FLT p) 21 = true) ∧
    (∀ q : TchProgram, x.next = some q → x.overrun = false → State.Completes (.pxExchange k) s fun t => t.Ended px .done
      ∧ (t.hallOf k).next = none ∧ ((t.hallOf k).program.getD []).map (·.obj) = q.objects
      ∧ (∀ o e, o ∈ q.objects → (x.program.getD []).find? (fun e => e.obj == o) = some e →
          { e with fresh := false } ∈ (t.hallOf k).program.getD [])
      ∧ t.rd (HALL.PXVER k) = q.version ∧ t.fld (HALL.PXSCAN k) 15 0 = q.scanMs.toNat ∧ t.bit (HDR.EVT p) 0 = true
      ∧ State.SameRegs (State.onPage p) s t ∧ State.SameBytes s.recRing s t) ∧
    (x.next = none → exec (.pxExchange k) s = .next s) ∧
    (∀ (l : List TchState) ins ws ms, x.program = some l → State.Completes (.tchioraScan k ins ws ms) s fun t =>
      t.num (HALL.SCANCNT k) = Nat.min 0xFFFFFFFF (s.num (HALL.SCANCNT k) + 1) ∧ (t.hallOf k).scanAt = s.rd64 SYS.OPTIME
      ∧ (t.hallOf k).overrun = false ∧ ((t.hallOf k).program.getD []).map (·.obj) = l.map (·.obj)
      ∧ t.fld (HALL.PXSCAN k) 31 16 = Nat.max (s.fld (HALL.PXSCAN k) 31 16) (Nat.min ms 0xFFFF)
      ∧ (ws = [] → ∀ (i : Nat) (e : TchState), l[i]? = some e → 1 ≤ e.obj.type.toNat → e.obj.type.toNat ≤ 3 → e.running = true →
          ((t.hallOf k).program.getD [])[i]?.map (fun y : TchState => y.value) = some (e.value + (s.rd64 SYS.OPTIME - x.scanAt)))
      ∧ State.SameRegs (fun y => y = HALL.SCANCNT k ∨ y = HALL.PXSCAN k) s t ∧ t.mem = s.mem) ∧
    (x.program.isSome = true → State.Completes (.scanOverrun k) s fun t => (t.hallOf k).overrun = true ∧ t.bit (HDR.FLT p) 22 = true
      ∧ t.bit (HDR.EVT p) 1 = true ∧ State.SameRegs (State.reports p) s t ∧ State.SameBytes s.recRing s t))

/-! ### The coded memories, the scrubber, bank retirement and the eMRAM -/

/-- R334 to R338, R352, R503. -/
def Obligations.Scrubbing : Prop :=
  ∀ s : State,
    let sp := s.fld MEM.SCRCFG 2 0
    let g := s.fld MEM.SCRCFG 12 8
    let base := (s.rd64 MEM.SCRBASE).toNat / 64 * 64
    let len := (s.rd64 MEM.SCRLEN).toNat / 64 * 64
    let from_ := spaceAddr sp g base
    let found := s.memOps.found
    let summary := fun (l : List (Nat × Bool)) (t : State) =>
      t.num MEM.SCRCNT = Nat.min 0xFFFF (l.filter fun e => !e.2).length + Nat.min 0xFFFF (l.filter fun e => e.2).length * 65536
      ∧ (∀ e, l.head? = some e → t.rd64 MEM.SCRFIRST = BitVec.ofNat 64 e.1)
      ∧ (∀ e, l.getLast? = some e → t.rd64 MEM.SCRLAST = BitVec.ofNat 64 e.1)
      ∧ t.bit (HDR.EVT pgMEM) 0 = true ∧ (l.any (fun e => e.2) = true → t.bit (HDR.FLT pgMEM) 16 = true)
      ∧ State.SameRegs (fun y => State.reports pgMEM y ∨ y / 0x1000 = pgMEM) s t ∧ State.SameBytes s.recRing s t
    (s.busyOp MEM.SCRSTA = true → State.Completes .scrctlStart s fun t => t.bit (HDR.FLT pgMEM) 0 = true
      ∧ State.SameRegs (State.reports pgMEM) s t ∧ State.SameBytes s.recRing s t) ∧
    (s.busyOp MEM.SCRSTA = false → s.offView pgMEM = false → sp < 6 → (2 ≤ sp → sp ≤ 4 → g < s.variant.galleries) → s.rd64 MEM.SCRLEN ≠ BitVec.allOnes 64 →
      (len = 0 → State.Completes .scrctlStart s fun t => t.Ended MEM.SCRSTA .done ∧ t.num MEM.SCRCNT = 0 ∧ t.mem = s.mem) ∧
      (0 < len → base + len ≤ s.spaceSize sp → s.GoodCode from_ len → State.Completes .scrctlStart s fun t =>
        t.phase MEM.SCRSTA = 2 ∧ t.memOps.found = [] ∧ t.memOps.scrubAt = s.t16 ∧ t.num MEM.SCRCNT = 0
        ∧ State.SameRegs (fun y => y / 0x1000 = pgMEM) s t ∧ t.mem = s.mem ∧ t.ecc = s.ecc) ∧
      (sp = 0 → len = 64 → base + 64 ≤ mezzSize → s.bit MEM.INJCFG 16 = false → classify (s.syn (base / 8)) = .uncorrectable →
        s.GoodCode (base + 8) 56 → State.Completes .scrctlStart s fun t => t.phase MEM.SCRSTA = 2
          ∧ t.memOps.found = [(base, true)] ∧ t.bit (HDR.FLT pgMEM) 4 = true ∧ t.bit (HDR.EVT pgMEM) 2 = true
          ∧ t.fld MEM.UECNT 15 0 = Nat.min 0xFFFF (s.fld MEM.UECNT 15 0 + 1) ∧ State.SameBytes s.recRing s t)) ∧
    (s.busyOp MEM.SCRSTA = true → State.Completes .scrubPassEnd s fun t => t.Ended MEM.SCRSTA .done ∧ summary found t) ∧
    (s.busyOp MEM.SCRSTA = false → exec .scrubPassEnd s = .next s) ∧
    (s.busyOp MEM.SCRSTA = true → s.isPast MEM.SCRSTA = false → State.Completes .scrctlAbort s fun t => t.Ended MEM.SCRSTA .aborted
      ∧ summary (found.filter fun e =>
          decide (e.1 < base + (s.t16 - s.memOps.scrubAt) * s.fld MEM.SCRCFG 23 16 / 16000 * 64)) t) ∧
    (s.phase MEM.SCRSTA = 3 → State.Completes .scrctlAbort s fun t => t.bit (HDR.FLT pgMEM) 8 = true
      ∧ State.SameRegs (State.reports pgMEM) s t ∧ State.SameBytes s.recRing s t) ∧
    (let l := s.fld MEM.RETSEL 4 0
     s.offView pgMEM = false →
     (s.memOps.retire.isSome = true ∨ 24 ≤ l → State.Completes .retctlStart s fun t => t.Ended MEM.RETSTA .rejState
        ∧ t.memOps = s.memOps ∧ State.SameRegs (fun y => y = MEM.RETSTA) s t ∧ t.mem = s.mem) ∧
     (s.memOps.retire = none → l < 24 →
       (s.spareBank = none → State.Completes .retctlStart s fun t => t.Ended MEM.RETSTA .rejState ∧ t.bit (HDR.FLT pgMEM) 17 = true
          ∧ t.memOps = s.memOps) ∧
       (∀ p, s.spareBank = some p → State.Completes .retctlStart s fun t => t.phase MEM.RETSTA = 2
          ∧ t.memOps.retire = some (l, p) ∧ State.SameRegs (fun y => y = MEM.RETSTA ∨ y = HDR.STA pgMEM) s t ∧ t.mem = s.mem))) ∧
    (s.busyOp MEM.RETSTA = true → s.isPast MEM.RETSTA = false → State.Completes .retctlAbort s fun t => t.Ended MEM.RETSTA .aborted
      ∧ t.memOps.retire = none ∧ State.SameRegs (fun y => y = MEM.RETSTA) s t ∧ t.mem = s.mem) ∧
    (∀ l p, let old := s.fld (MEM.BANKMAP l) 4 0
      s.memOps.retire = some (l, p) → l < 24 → p < 26 → old < 26 → s.GoodCode (l * 0x200000) 0x200000 → 0 < s.fld MEM.BANKSTA 29 28 →
      State.Completes .bankMapWrite s fun t => t.Ended MEM.RETSTA .done ∧ t.num (MEM.BANKMAP l) = p ∧ t.bit MEM.BANKSTA old = true
        ∧ t.fld MEM.BANKSTA 29 28 + 1 = s.fld MEM.BANKSTA 29 28 ∧ t.memOps.retire = none ∧ t.bit (HDR.FLT pgMEM) 18 = true
        ∧ t.bit (HDR.EVT pgMEM) 1 = true ∧ State.SameBytes s.recRing s t
        ∧ State.SameRegs (fun y => State.reports pgMEM y ∨ y = MEM.BANKMAP l ∨ y = MEM.BANKSTA ∨ y = MEM.RETSTA) s t) ∧
    (∀ p < 26, ∀ l < 24, ∀ q, s.fld (MEM.BANKMAP l) 4 0 = p → (∀ j < l, s.fld (MEM.BANKMAP j) 4 0 ≠ p) →
      (s.bit MEM.RETCFG 0 = true → s.fld MEM.RETCFG 15 8 ≠ 0 → s.fld MEM.RETCFG 15 8 ≤ s.fld (MEM.BANKCE p) 15 0 →
        s.memOps.retire = none → s.spareBank = some q → State.Completes (.autoRetirement p) s fun t => t.phase MEM.RETSTA = 2
          ∧ t.memOps.retire = some (l, q) ∧ State.SameRegs (fun y => y = MEM.RETSTA ∨ y = HDR.STA pgMEM) s t ∧ t.mem = s.mem) ∧
      (s.bit MEM.RETCFG 0 = false ∨ s.fld MEM.RETCFG 15 8 = 0 → exec (.autoRetirement p) s = .next s)) ∧
    (∀ v : Word,
      (s.sysMode = 6 → wfld v 10 8 < 2 ∨ wfld v 10 8 = 5 → State.Completes (.injcfgArm v) s fun t =>
        t.rd MEM.INJCFG = (v &&& 0xFFFF) ||| 0x10000 ∧ State.SameRegs (fun y => y = MEM.INJCFG ∨ y = HDR.SEQ pgMEM) s t
        ∧ t.mem = s.mem) ∧
      (s.sysMode ≠ 6 → State.Completes (.injcfgArm v) s fun t => t.bit (HDR.FLT pgMEM) 0 = true ∧ t.bit (HDR.FLT pgMEM) 19 = true
        ∧ State.SameRegs (State.reports pgMEM) s t ∧ State.SameBytes s.recRing s t)) ∧
    (∀ (w : Nat) (d : Word64), s.injWord = some w →
      let t := s.storeWord w d
      t.word64 w = d ^^^ s.rd64 MEM.INJDATA ∧ t.bit MEM.INJCFG 16 = false
        ∧ t.syn w = BitVec.ofNat 8 (xorColumns dataColumns (s.rd64 MEM.INJDATA).toNat ^^^ s.fld MEM.INJCFG 7 0)) ∧
    (State.Completes .ddrVddqLoss s fun t => t.bit (HDR.FLT pgDRAM) 16 = true ∧ t.dramGen = s.dramGen + 1
      ∧ (∀ a, isDram a = true → t.byte a = Config.dramByte (s.dramGen + 1) a)
      ∧ State.SameBytes (fun a => isDram a = true ∨ s.recRing a) s t ∧ State.SameRegs (State.reports pgDRAM) s t)

/-- R344 to R347, R350. -/
def Obligations.EmramCommits : Prop :=
  ∀ s : State,
    (s.commits = [] → ∀ r v u, exec (.unitComplete r v u) s = .next s) ∧
    (∀ (x : Commit) (rest : List Commit) (r u : Nat), s.commits = x :: rest → x.kind ≠ 5 →
      (∀ user com, x.act = .safety user com → x.done ≠ 0 ∧ x.done ≠ 97) →
      let l := s.unitSector x x.done
      (x.stopping = none → x.done + 1 < x.units → State.Completes (.unitComplete r false u) s fun t =>
        t.commits.head? = some { x with done := x.done + 1 } ∧ t.num NVM.JSEQ = (s.num NVM.JSEQ + 1) % 2 ^ 32
        ∧ t.fld NVM.CSTA 31 16 = (x.done + 1) % 65536 ∧ (0 < r → t.bit (HDR.FLT pgNVM) 16 = true)
        ∧ t.fld NVM.RETRY 31 16 = Nat.max (s.fld NVM.RETRY 31 16) (Nat.min r 0xFFFF)
        ∧ State.SameRegs (State.reports pgNVM) s t ∧ State.SameBytes s.recRing s t) ∧
      (∀ b n k seq, k < s.variant.halls → x.act = .activate b n → x.core = some k → s.CallGoesOn k seq → seq < 0x10000 → x.kind ≠ 2 →
        x.stopping = none → x.units ≤ x.done + 1 →
        State.Completes (.unitComplete r false u) s fun t => t.newel.preferred = b ∧ t.newel.trial = true ∧ t.newel.tries = n
          ∧ s.Answered t k seq .done ∧ t.bit (HDR.EVT pgNEWEL) 2 = true ∧ t.bit (HDR.EVT pgNVM) 0 = true) ∧
      (∀ b n k seq, k < s.variant.halls → x.act = .activate b n → x.core = some k → s.CallGoesOn k seq → seq < 0x10000 → x.kind ≠ 2 →
        x.stopping = some 0 → State.Completes (.unitComplete r false u) s fun t => t.newel = s.newel ∧ s.Answered t k seq .aborted) ∧
      (s.nvm.spares < 128 → s.bit MEM.INJCFG 16 = false → State.Completes (.unitComplete 0 true u) s fun t =>
        t.commits.head? = some x ∧ t.nvm.spares = s.nvm.spares + 1 ∧ t.physOf l = 0xF80 + s.nvm.spares
        ∧ t.nvm.retired = s.physOf l :: s.nvm.retired ∧ (∀ o < 4096, t.byte (t.sectAddr l o) = s.byte (s.sectAddr l o))
        ∧ t.bit (HDR.FLT pgNVM) 17 = true ∧ t.bit (HDR.EVT pgNVM) 1 = true) ∧
      (∀ k seq, k < s.variant.halls → 128 ≤ s.nvm.spares → x.kind ≠ 2 → (∀ user com, x.act ≠ .safety user com) → x.core = some k →
        s.CallGoesOn k seq → seq < 0x10000 →
        State.Completes (.unitComplete r true u) s fun t => s.Answered t k seq .failEcc
          ∧ t.bit (HDR.FLT pgNVM) 18 = true ∧ t.nvm.map = s.nvm.map)) ∧
    (s.bit NVM.NSTA 6 = true → State.Completes .configCopyRewrite s fun t => t.bit NVM.NSTA 6 = false
      ∧ (s.fld NVM.NSTA 1 0 ≠ 0 → t.fld NVM.NSTA 1 0 = 3) ∧ (s.fld NVM.NSTA 3 2 ≠ 0 → t.fld NVM.NSTA 3 2 = 3)
      ∧ t.bit (HDR.EVT pgNVM) 3 = true ∧ State.SameRegs (State.reports pgNVM) s t ∧ State.SameBytes s.recRing s t) ∧
    (s.bit NVM.NSTA 6 = false → exec .configCopyRewrite s = .next s)

/-! ### The balustrade -/

/-- R358, R360, R362, R363, R365, R366, R368, R370, R371. -/
def Obligations.BalustradeCycle : Prop :=
  ∀ (s : State) (i : BalInputs),
    (s.balRuns = false → exec (.balCycle i) s = .next s) ∧
    (∀ cause : Nat, s.balRuns = true → s.balState ≠ 2 → s.bal.committed = false →
      (i.failsafe.map BitVec.toNat = some cause ∨ (i.failsafe = none ∧ i.readbackOk = false ∧ cause = 5)
        ∨ (i.failsafe = none ∧ i.readbackOk = true ∧ 2500 < i.cycle10ns.toNat ∧ cause = 6)) →
      State.Completes (.balCycle i) s fun t => t.balState = 2 ∧ t.fld BAL0.BSTA 15 8 = cause ∧ t.fld BAL0.OUTSTA 1 0 = 0
        ∧ t.fld BAL0.OUTSTA 15 8 = 0 ∧ (∀ a < s.variant.axes, t.balFn a = 1)
        ∧ (∀ b < s.variant.bridges, t.bal.forced.getLsbD b = true ∧ t.bal.forcedLow.getLsbD b = false)
        ∧ t.gateOpen = false ∧ t.bit (HDR.FLT pgBAL0) 16 = true ∧ t.bit (HDR.EVT pgBAL0) 5 = true ∧ State.SameBytes s.recRing s t) ∧
    (s.balRuns = true → s.balState = 1 → s.bit BAL0.OUTSTA 2 = false → i.failsafe = none → i.readbackOk = true →
      i.cycle10ns.toNat ≤ 2500 →
      (∀ k < 8, let a := i.chanA.getLsbD k
        let b := i.chanB.getLsbD k
        s.bal.level.getLsbD k = a → s.bal.level.getLsbD (8 + k) = b → s.fld (BAL1.INCFG k) 3 0 % 2 = 1 → s.fld (BAL1.INCFG k) 3 2 = 0 →
        State.Completes (.balCycle i) s fun t =>
          (s.bit BAL0.INSTA (8 + k) = false → t.bit BAL0.INSTA k = (a && b) ∧ t.bit BAL0.INSTA (8 + k) = false)
          ∧ (s.bit BAL0.INSTA (8 + k) = true → a || b = true → t.bit BAL0.INSTA k = false ∧ t.bit BAL0.INSTA (8 + k) = true)
          ∧ (a = false → b = false → t.bit BAL0.INSTA k = false ∧ t.bit BAL0.INSTA (8 + k) = false)) ∧
      (∀ a < s.variant.axes,
        let sto := s.fld (BAL1.SRCA a) 5 0
        let ss1 := s.fld (BAL1.SRCA a) 13 8
        let ss2 := s.fld (BAL1.SRCA a) 21 16
        let sos := s.fld (BAL1.SRCA a) 29 24
        let off := fun c => 9 ≤ c ∧ s.source c = false
        State.Completes (.balCycle i) s (fun t => t.num (BAL0.SPDSAFE a) = (s.safeSpeed a).natAbs ∧ t.balState = 1
          ∧ t.bit (BAL0.AFSTA a) 12 = decide ((s.safeSpeed a - s.secondSpeed a).natAbs ≤ s.fld (BAL1.PLCFG a) 31 16 * 256)
          ∧ State.SameBytes s.recRing s t) ∧
        (off sto → s.balFn a ≠ 1 → State.Completes (.balCycle i) s fun t => t.balFn a = 1 ∧ t.bit BAL0.STOAX a = true
          ∧ t.bit (HDR.EVT pgBAL0) 0 = true ∧ (∀ j < 2, s.bit (BAL1.SRCB a) (24 + j) = true → t.bit BAL0.OUTSTA j = false)
          ∧ ∀ b ∈ s.axisBridges a, t.bal.forced.getLsbD b = true ∧ t.bal.forcedLow.getLsbD b = s.bit (BAL1.SRCB a) 21) ∧
        (sto = 0 → s.balFn a = 0 →
          (off ss1 → s.fld (BAL1.SS1CFG a) 31 16 = 0 → State.Completes (.balCycle i) s fun t => t.balFn a = 2
            ∧ (t.balAxis a).t = i.cycle10ns.toNat ∧ t.bit (HDR.EVT pgBAL0) 2 = true) ∧
          (ss1 = 0 → off ss2 → s.fld (BAL1.SS1CFG a) 31 16 = 0 → State.Completes (.balCycle i) s fun t => t.balFn a = 3
            ∧ (t.balAxis a).t = i.cycle10ns.toNat ∧ t.bit (HDR.EVT pgBAL0) 2 = true) ∧
          (ss1 = 0 → ss2 = 0 → off sos → State.Completes (.balCycle i) s fun t => t.balFn a = 4 ∧ (t.balAxis a).p0 = s.safePos a)) ∧
        ((∀ c ∈ s.sources a, c = 0) → s.bit (BAL0.AFSTA a) 5 = false →
          (s.balFn a = 1 → s.bit BAL1.GENERAL 16 = false → State.Completes (.balCycle i) s fun t => t.balFn a = 0
            ∧ t.bit BAL0.STOAX a = false ∧ t.bit (HDR.EVT pgBAL0) 1 = true) ∧
          (s.balFn a = 4 → State.Completes (.balCycle i) s fun t => t.balFn a = 0))))

/-- R362, R365 to R367, R369, R371, R372, R376, R377. -/
def Obligations.BalustradeEvents : Prop :=
  ∀ s : State,
    let frame := fun (t : State) => State.SameRegs (fun y => State.reports pgBAL0 y ∨ y / 0x1000 = pgBAL0) s t ∧ State.SameBytes s.recRing s t
    (∀ a < s.variant.axes,
      let f := s.balFn a
      let latched := fun (code : Nat) (t : State) => t.bit (BAL0.AFSTA a) 5 = true ∧ t.fld (BAL0.AFSTA a) 9 6 = code
        ∧ t.bit BAL0.VIOLAX a = true ∧ t.bit (BAL0.AFSTA a) 10 = true ∧ t.bit (HDR.FLT pgBAL0) 18 = true ∧ t.bit (HDR.EVT pgBAL0) 3 = true
        ∧ frame t
      let over_ := s.fld (BAL1.SS1CFG a) 15 0 * 100000 ≤ (s.balAxis a).t
      (∀ code : BitVec 4,
        (s.violationDue a code.toNat = true → s.balRuns = true → State.Completes (.safetyViolation a code) s fun t =>
          latched code.toNat t ∧ t.balFn a = (if f = 1 ∨ 5 ≤ code.toNat ∨ f = 2 ∨ s.bit (BAL1.SRCB a) 20 = false then 1 else 2)
          ∧ (f ≠ 1 → t.balFn a = 1 → t.bit BAL0.STOAX a = true ∧ t.bit (HDR.EVT pgBAL0) 0 = true)
          ∧ (code = 7 → ∀ b ∈ s.axisBridges a, t.galFault.getLsbD b = false)) ∧
        (s.violationDue a code.toNat = false ∨ s.balRuns = false → exec (.safetyViolation a code) s = .next s)) ∧
      (let due := s.sourced a = true ∧ s.balRuns = true ∧ Nat.max 1 (s.fld (BAL1.PLCFG a) 15 8) ≤ (s.balAxis a).plFails
       (due → State.Completes (.plausibilityViolation a) s fun t => latched 5 t ∧ t.balFn a = 1) ∧
       (¬ due → exec (.plausibilityViolation a) s = .next s)) ∧
      (over_ → f = 2 → State.Completes (.ss1Timeout a) s fun t => t.balFn a = 1 ∧ t.bit BAL0.STOAX a = true
        ∧ t.bit (HDR.EVT pgBAL0) 0 = true ∧ frame t) ∧
      (over_ → f = 3 → s.sspd a < (s.safeSpeed a).natAbs → State.Completes (.ss1Timeout a) s (latched 4)) ∧
      (over_ → f = 3 → (s.safeSpeed a).natAbs ≤ s.sspd a → State.Completes (.ss1Timeout a) s fun t => t.balFn a = 4
        ∧ (t.balAxis a).p0 = s.safePos a ∧ State.SameRegs (fun y => y = BAL0.AFSTA a) s t ∧ t.mem = s.mem) ∧
      (¬ over_ → exec (.ss1Timeout a) s = .next s) ∧
      (let k := s.fld (BAL1.MISC a) 26 24
       (f = 1 → s.bit (BAL1.MISC a) 27 = true → State.Completes (.brakeApply a) s fun t => t.bit BAL0.OUTSTA (8 + k) = false
         ∧ t.bit (BAL0.AFSTA a) 11 = true ∧ State.SameRegs (fun y => y = BAL0.OUTSTA ∨ y = BAL0.AFSTA a) s t ∧ t.mem = s.mem) ∧
       (f ≠ 1 → exec (.brakeApply a) s = .next s))) ∧
    (∀ k < 8,
      (s.disagree k = true → s.balRuns = true → State.Completes (.discrepancyTimeout k) s fun t => t.bit BAL0.INSTA (8 + k) = true
        ∧ t.bit BAL0.INSTA k = false ∧ t.bit (HDR.FLT pgBAL0) 17 = true
        ∧ State.SameRegs (fun y => State.reports pgBAL0 y ∨ y = BAL0.INSTA) s t ∧ State.SameBytes s.recRing s t) ∧
      (s.disagree k = false → exec (.discrepancyTimeout k) s = .next s)) ∧
    (∀ ball : BitVec 2,
      (s.bit BAL0.OUTSTA (ball.toNat / 2) = false → ∀ ok, exec (.darkPulse ball ok) s = .next s) ∧
      (s.bit BAL0.OUTSTA (ball.toNat / 2) = true →
        (State.Completes (.darkPulse ball true) s fun t => t.bal.dark = ball.toNat ∧ t.regs = s.regs ∧ t.mem = s.mem) ∧
        (s.balState ≠ 2 → s.bal.committed = false → State.Completes (.darkPulse ball false) s fun t => t.balState = 2
          ∧ t.fld BAL0.BSTA 15 8 = 5 ∧ t.fld BAL0.OUTSTA 1 0 = 0 ∧ t.gateOpen = false ∧ t.bit (HDR.FLT pgBAL0) 16 = true))) ∧
    (∀ n < 14, s.sysMode ≠ 0 → s.bal.committed = false → State.Completes (.thermalShutdown n) s fun t => t.bit BAL0.OUTSTA 2 = true
      ∧ t.fld BAL0.OUTSTA 1 0 = 0 ∧ t.num THM.SDSTA = 3 + n * 256 ∧ t.bit (HDR.FLT pgTHM) 17 = true ∧ t.bit (HDR.EVT pgTHM) 1 = true
      ∧ t.sysMode = 7 ∧ t.fld SYS.MODE 7 4 = s.sysMode ∧ t.fld SYS.MODE 15 8 = 3 ∧ t.gateOpen = false) ∧
    (s.gateOpen = true → s.bal.committing = none → State.Completes .gateTimeout s fun t => t.gateOpen = false ∧ t.bal.edits = []
      ∧ t.fld BAL1.GATE 31 16 = 0 ∧ t.bit BAL0.BSTA 6 = false ∧ (∀ p < 171, t.rd (HDR.LOCK p) = 0) ∧ t.bit (HDR.EVT pgBAL1) 1 = true
      ∧ State.SameBytes s.recRing s t) ∧
    (s.gateOpen = false ∨ s.bal.committing.isSome = true → exec .gateTimeout s = .next s) ∧
    (s.bit BAL1.GATE 1 = true → State.Completes .lockoutEnd s fun t => t.bit BAL1.GATE 1 = false ∧ t.fld BAL1.GATE 7 4 = 0
      ∧ (s.gateOpen = false → t.fld BAL1.GATE 31 16 = 0) ∧ t.gateOpen = s.gateOpen ∧ State.SameRegs (fun y => y = BAL1.GATE) s t
      ∧ t.mem = s.mem) ∧
    (s.bit BAL1.GATE 1 = false → exec .lockoutEnd s = .next s)

/-- R28, R380 to R382. -/
def Obligations.SafeData : Prop :=
  ∀ (s : State) (c : Nat), c < 8 →
    let x := s.chanOf c
    let cnt := BAL1.SDCNT c
    let sta := BAL1.SDSTA c
    let v := fun (t : State) => t.fld BAL0.VINSTA (4 * c + 3) (4 * c)
    let frame := fun (t : State) => State.SameRegs (fun y => State.reports pgBAL1 y ∨ y = cnt ∨ y = sta ∨ y = BAL0.VINSTA ∨ y = BAL1.SDDATA c) s t
      ∧ State.SameBytes s.recRing s t
    let plus := fun (hi lo : Nat) (t : State) => t.fld cnt hi lo = Nat.min 0xFF (s.fld cnt hi lo + 1)
    (s.sdOn c false = false → (∀ nb bs, exec (.safeDataRx c nb bs) s = .next s) ∧ exec (.sdtoExpiry c) s = .next s) ∧
    (s.sdOn c false = true → s.balRuns = true → ∀ (nb : Bool) (bs : List Byte),
      (s.hasCredit .safeData (s.sdNet c nb) = false → State.Completes (.safeDataRx c nb bs) s fun t => plus 15 8 t ∧ t.bal = s.bal
        ∧ frame t) ∧
      (s.hasCredit .safeData (s.sdNet c nb) = true →
        (s.sdGood c bs = false → State.Completes (.safeDataRx c nb bs) s fun t => plus 31 24 t ∧ t.bal = s.bal ∧ frame t) ∧
        (s.sdGood c bs = true →
          s.t16 ≤ s.expandLt (BitVec.ofNat 48 (ofLeBytes ((bs.drop 4).take 6))) + s.fld (BAL1.SDTIM c) 23 16 * 16000000 →
          (x.copy = none → State.Completes (.safeDataRx c nb bs) s fun t => (t.chanOf c).copy = some (nb, bs, s.t16)
            ∧ t.bit sta (if nb then 2 else 1) = true ∧ frame t) ∧
          (∀ old at_, x.copy = some (!nb, old, at_) → s.t16 ≤ at_ + s.fld (BAL1.SDTIM c) 15 8 * 16000000 →
            State.sdSeq old = State.sdSeq bs →
            (old.take 28 ≠ bs.take 28 → State.Completes (.safeDataRx c nb bs) s fun t => plus 7 0 t ∧ t.bit sta 0 = false ∧ v t = 0
              ∧ t.bit (HDR.FLT pgBAL1) 16 = true ∧ (t.chanOf c).copy = none ∧ frame t) ∧
            (let d := (State.sdSeq bs + 0x10000 - s.fld sta 31 16) % 0x10000
             old.take 28 = bs.take 28 → x.started = false ∨ (1 ≤ d ∧ d ≤ 16) → State.Completes (.safeDataRx c nb bs) s fun t =>
              (t.chanOf c).data = (bs.drop 10).take 16 ∧ (t.chanOf c).copy = none ∧ t.fld sta 31 16 = State.sdSeq bs
              ∧ t.num (BAL1.SDDATA c) = ofLeBytes ((bs.drop 10).take 4)
              ∧ (x.started = true → t.fld cnt 15 8 = Nat.min 0xFF (s.fld cnt 15 8 + (d - 1)))
              ∧ (1 ≤ x.good → t.bit sta 0 = true ∧ v t = ((bs.drop 10).headD 0).toNat % 16
                  ∧ (s.bit sta 0 = false → t.bit (HDR.EVT pgBAL1) 4 = true))
              ∧ frame t))))) ∧
    (x.copy.isSome = true → State.Completes (.sdwinExpiry c) s fun t => plus 23 16 t ∧ (t.chanOf c).copy = none
      ∧ State.SameRegs (fun y => y = cnt) s t ∧ t.mem = s.mem) ∧
    (x.copy = none → exec (.sdwinExpiry c) s = .next s) ∧
    (s.sdOn c false = true → State.Completes (.sdtoExpiry c) s fun t => t.bit sta 0 = false ∧ v t = 0 ∧ (t.chanOf c).good = 0
      ∧ t.bit (HDR.FLT pgBAL1) 17 = true ∧ (s.bit sta 0 = true → t.bit (HDR.EVT pgBAL1) 3 = true) ∧ frame t) ∧
    (s.sdOn c true = true → s.balRuns = true → State.Completes (.safeDataTx c) s fun t =>
      let bs := (t.chanOf c).sent
      let seq := (s.fld sta 31 16 + 1) % 0x10000
      bs.length = 32 ∧ bs.take 2 = leBytes 2 (s.fld (BAL1.SDCFG c) 31 16) ∧ (bs.drop 2).take 2 = leBytes 2 seq
        ∧ (bs.drop 10).take 16 = s.sdReport ∧ bs.drop 28 = leBytes 4 (State.sdCrc (s.rd (BAL1.SDSALT c)) bs).toNat
        ∧ t.fld sta 31 16 = seq ∧ t.num (BAL1.SDDATA c) = ofLeBytes (s.sdReport.take 4)
        ∧ (∀ nb e, s.sdNet c nb = 8 + e → s.sdNet c (!nb) < 8 → Tab.find (Tab.get {} t.eth e).safe c = some bs)
        ∧ State.SameBytes (fun y => canBase 0 ≤ y ∧ y < canBase 8) s t) ∧
    (s.sdOn c true = false → exec (.safeDataTx c) s = .next s)

/-! ### CAN networks -/

/-- R394 to R400. -/
def Obligations.CanFrames : Prop :=
  ∀ (s : State) (c : Nat), c < s.variant.cans →
    let p := pgCAN c
    let x := s.canOf c
    let ram := fun y => canBase c ≤ y ∧ y < canBase (c + 1)
    let frame := fun (t : State) => State.SameRegs (State.onPage p) s t ∧ State.SameBytes (fun y => s.recRing y ∨ ram y) s t
    let stored := fun (b : Nat) (f : CanFrame) (sof : Nat) (t : State) => t.bufWord c b 0 = State.frameId f ∧ t.bctl c b 7 4 = f.dlc.toNat
      ∧ t.bytes (canBase c + 0x80 * b + 0x20) 64 = State.frameData f ∧ t.bytes (canBase c + 0x80 * b + 0x10) 16 = bytesOf (timeWords sof)
      ∧ t.bsta c b 10 10 = 1 ∧ t.bsta c b 14 14 = b01 f.esi ∧ t.bsta c b 31 24 = (s.bsta c b 31 24 + 2) % 256
      ∧ t.bit (CAN.RXNEW c (b / 32)) (b % 32) = true ∧ t.fld (CAN.CNT1 c) 15 0 = Nat.min 0xFFFF (s.fld (CAN.CNT1 c) 15 0 + 1)
      ∧ (s.bsta c b 10 10 = 1 → t.bsta c b 11 11 = 1 ∧ t.bit (HDR.FLT p) 19 = true) ∧ (s.bctl c b 15 15 = 1 → t.bit (HDR.EVT p) 0 = true)
    (∀ f : CanFrame,
      (s.canOn c = false ∨ (f.fdf = true ∧ s.bit (CAN.CFG c) 0 = false) → exec (.canFrameRx c f) s = .next s) ∧
      (s.canOn c = true → (f.fdf = true → s.bit (CAN.CFG c) 0 = true) → x.rec_ ≤ 127 → s.safeChannel c f = none → s.isReference c f = false →
        (∀ b < 128, s.accepts c b f = true → (∀ j < b, s.accepts c j f = false) →
          (Tab.find x.locks b = none → State.Completes (.canFrameRx c f) s fun t => stored b f (s.t16 - f.age) t
            ∧ (t.canOf c).rec_ = x.rec_ - 1 ∧ frame t) ∧
          (∀ req, Tab.find x.locks b = some req → State.Completes (.canFrameRx c f) s fun t =>
            Tab.find (t.canOf c).shadows b = some (f, s.t16 - f.age) ∧ t.bsta c b 13 13 = 1 ∧ t.bufWord c b 0 = s.bufWord c b 0 ∧ frame t)) ∧
        ((∀ b < 128, s.accepts c b f = false) → State.Completes (.canFrameRx c f) s fun t =>
          t.fld (CAN.CNT3 c) 15 0 = Nat.min 0xFFFF (s.fld (CAN.CNT3 c) 15 0 + 1) ∧ frame t ∧ State.SameBytes s.recRing s t))) ∧
    (∀ b < 128,
      let pend := fun (t : State) => t.bit (CAN.TXPEND c (b / 32)) (b % 32)
      (∀ req, b < 4 → Tab.find x.locks b = none → State.Completes (.bufferLockRead req c b) s fun t =>
        Tab.find t.host.resp req = some { value := (s.bufWord c b 0).setWidth 64 } ∧ Tab.find (t.canOf c).locks b = some req
        ∧ t.bsta c b 12 12 = 1 ∧ t.regs = s.regs ∧ State.SameBytes ram s t) ∧
      (∀ req, Tab.find x.locks b = some req →
        (Tab.find x.shadows b = none → State.Completes (.bufferReleaseRead req c b) s fun t =>
          Tab.find t.host.resp req = some { value := (s.bufWord c b (s.lastWord c b)).setWidth 64 } ∧ Tab.find (t.canOf c).locks b = none
          ∧ t.bsta c b 12 12 = 0 ∧ t.regs = s.regs) ∧
        (∀ f sof, Tab.find x.shadows b = some (f, sof) → State.Completes (.bufferReleaseRead req c b) s fun t => stored b f sof t
          ∧ Tab.find (t.canOf c).locks b = none ∧ Tab.find (t.canOf c).shadows b = none ∧ t.bsta c b 13 13 = 0 ∧ frame t) ∧
        (State.Completes (.lockTimeout c b) s fun t => Tab.find (t.canOf c).locks b = none ∧ t.bsta c b 12 12 = 0
          ∧ t.bit (HDR.FLT p) 20 = true ∧ frame t)) ∧
      (Tab.find x.locks b = none → exec (.lockTimeout c b) s = .next s) ∧
      (s.bufPends c b = true →
        (State.Completes (.bctlReq c b) s fun t => t.bit (HDR.FLT p) 0 = true ∧ State.SameRegs (State.reports p) s t
          ∧ State.SameBytes s.recRing s t) ∧
        (x.attempt.map (·.1) = some (.buffer b) → State.Completes (.bctlAbort c b) s fun t => (t.canOf c).aborted = true
          ∧ t.regs = s.regs ∧ t.mem = s.mem) ∧
        (x.attempt.map (·.1) ≠ some (.buffer b) → State.Completes (.bctlAbort c b) s fun t => t.bsta c b 9 0 = 0x301 ∧ pend t = false
          ∧ t.can = s.can ∧ frame t)) ∧
      (s.bsta c b 9 8 = 3 → State.Completes (.bctlAbort c b) s fun t => t.bit (HDR.FLT p) 8 = true
        ∧ State.SameRegs (State.reports p) s t ∧ State.SameBytes s.recRing s t) ∧
      (s.bufPends c b = false →
        (s.bctl c b 1 0 ≠ 2 → State.Completes (.bctlReq c b) s fun t => t.bsta c b 9 0 = 0x304 ∧ t.regs = s.regs ∧ t.can = s.can) ∧
        (s.bctl c b 1 0 = 2 → s.bctl c b 3 2 = 0 → s.bctl c b 12 12 = 0 →
          (x.attempt.isSome = true → State.Completes (.bctlReq c b) s fun t => t.bsta c b 9 0 = 0x100 ∧ t.bsta c b 19 16 = 0
            ∧ pend t = true ∧ t.can = s.can ∧ frame t) ∧
          (x.attempt = none → x.closing = false → s.canOn c = true → s.bit (CAN.CFG c) 2 = false → x.refDue = false → x.safe = [] →
            x.status = none → (∀ j < 128, s.bufPends c j = false) → s.ttOn c = false → State.Completes (.bctlReq c b) s fun t =>
              (t.canOf c).attempt = some (.buffer b, s.t16) ∧ t.bsta c b 9 0 = 0x200 ∧ pend t = true ∧ frame t))) ∧
      (∀ sof, x.attempt = some (.buffer b, sof) → x.closing = false → s.bsta c b 9 8 = 2 →
        let n := Nat.min 15 (s.bsta c b 19 16 + 1)
        let r := s.bctl c b 11 8
        (∀ d, State.Completes (.canAttemptEnd c (.sent d)) s fun t => t.bsta c b 9 0 = (if x.aborted then 0x302 else 0x300) ∧ pend t = false
          ∧ t.bytes (canBase c + 0x80 * b + 0x10) 16 = bytesOf (timeWords sof) ∧ (t.canOf c).tec = x.tec - 1
          ∧ t.fld (CAN.CNT1 c) 31 16 = Nat.min 0xFFFF (s.fld (CAN.CNT1 c) 31 16 + 1) ∧ (x.aborted = true → t.bit (HDR.FLT p) 8 = true)
          ∧ (x.aborted = false → s.bctl c b 15 15 = 1 → t.bit (HDR.EVT p) 1 = true) ∧ frame t) ∧
        (r ≠ 15 → r + 1 ≤ n → State.Completes (.canAttemptEnd c .lostArbitration) s fun t => t.bsta c b 9 0 = 0x307 ∧ pend t = false
          ∧ t.bsta c b 15 15 = 1 ∧ t.bit (CAN.ABANDONED c (b / 32)) (b % 32) = true ∧ t.bit (HDR.FLT p) 18 = true
          ∧ t.bit (HDR.EVT p) 2 = true ∧ t.fld (CAN.CNT2 c) 23 16 = Nat.min 0xFF (s.fld (CAN.CNT2 c) 23 16 + 1) ∧ frame t) ∧
        (r = 15 ∨ n < r + 1 → x.aborted = true → State.Completes (.canAttemptEnd c .lostArbitration) s fun t => t.bsta c b 9 0 = 0x301
          ∧ pend t = false ∧ t.bsta c b 19 16 = n ∧ frame t))) ∧
    (x.attempt = none → ∀ o, exec (.canAttemptEnd c o) s = .next s)

/-- R401 to R405, R407. -/
def Obligations.CanNetworks : Prop :=
  ∀ (s : State) (c : Nat), c < s.variant.cans →
    let p := pgCAN c
    let x := s.canOf c
    let tt := CAN.TTSTA c
    let ec := CAN.ECSTA c
    let frame := fun (t : State) => State.SameRegs (State.onPage p) s t
      ∧ State.SameBytes (fun y => s.recRing y ∨ canBase c ≤ y ∧ y < canBase (c + 1)) s t
    (∀ tx sof (lec : BitVec 3) (d : Bool), x.attempt = some (tx, sof) → State.Completes (.canAttemptEnd c (.error lec d)) s fun t =>
      t.fld ec 23 20 = lec.toNat + b01 d * 8 ∧ t.fld (CAN.CNT2 c) 15 0 = Nat.min 0xFFFF (s.fld (CAN.CNT2 c) 15 0 + 1)
      ∧ (t.canOf c).tec = (if s.fld ec 17 16 = 1 ∧ lec = 3 then x.tec else x.tec + 8)
      ∧ (s.fld ec 17 16 = 0 → 255 < x.tec + 8 → t.fld ec 17 16 = 2 ∧ t.bit (HDR.FLT p) 16 = true ∧ t.bit (HDR.EVT p) 3 = true)
      ∧ frame t) ∧
    (s.canOn c = true →
      (∀ l : BitVec 3, State.Completes (.canRxError c (.normal l)) s fun t => (t.canOf c).rec_ = (if 128 ≤ x.rec_ then x.rec_ else x.rec_ + 1)
        ∧ t.fld ec 23 20 = l.toNat ∧ t.fld (CAN.CNT2 c) 15 0 = Nat.min 0xFFFF (s.fld (CAN.CNT2 c) 15 0 + 1) ∧ frame t) ∧
      (∀ l : BitVec 3, State.Completes (.canRxError c (.dominantAfterFlag l)) s fun t => (t.canOf c).rec_ = x.rec_ + 8
        ∧ (s.fld ec 17 16 = 0 → x.tec ≤ 255 → 128 ≤ x.rec_ + 8 → t.fld ec 17 16 = 1 ∧ t.bit (HDR.FLT p) 17 = true) ∧ frame t) ∧
      (State.Completes (.canRxError c .protocolException) s fun t => t.fld (CAN.CNT2 c) 31 24 = Nat.min 0xFF (s.fld (CAN.CNT2 c) 31 24 + 1)
        ∧ State.SameRegs (fun y => y = CAN.CNT2 c) s t ∧ t.mem = s.mem)) ∧
    (s.fld ec 17 16 = 2 → State.Completes (.busctlRecover c) s fun t => t.bit ec 18 = true ∧ State.SameRegs (fun y => y = ec) s t
      ∧ t.mem = s.mem) ∧
    (s.fld ec 17 16 ≠ 2 → exec (.busctlRecover c) s = .next s) ∧
    (s.bit ec 18 = true → State.Completes (.busRecoveryDone c) s fun t => t.fld ec 18 0 = 0 ∧ (t.canOf c).tec = 0 ∧ (t.canOf c).rec_ = 0
      ∧ t.bit (HDR.EVT p) 4 = true ∧ frame t) ∧
    (s.bit ec 18 = false → exec (.busRecoveryDone c) s = .next s) ∧
    (s.bit (CAN.STATCFG c) 31 = true → s.bit (HDR.CTL p) 0 = true → State.Completes (.statusMessage c) s fun t =>
      (t.canOf c).status = some (s.statusBytes x.messages) ∧ (t.canOf c).messages = x.messages + 1
      ∧ (x.status.isSome = true → t.fld (CAN.CNT3 c) 31 24 = Nat.min 0xFF (s.fld (CAN.CNT3 c) 31 24 + 1)) ∧ frame t) ∧
    (s.bit (CAN.STATCFG c) 31 = false → exec (.statusMessage c) s = .next s) ∧
    (∀ f : CanFrame,
      (s.canOn c = true → s.isReference c f = true → x.rec_ ≤ 127 →
        let sof := s.t16 - f.age
        let role := s.fld tt 9 8
        let lower := s.fld (CAN.TTCFG c) 4 2 ≤ (f.data.getD 7 0).toNat % 8
        let new := if s.ttMode c = 1 then 1 else if role = 2 ∧ lower then 2 else 3
        State.Completes (.referenceMessageRx c f) s fun t => t.fld tt 5 0 = (f.data.headD 0).toNat % 64 ∧ t.fld tt 19 16 = 0
          ∧ t.bit tt 10 = true ∧ t.fld tt 9 8 = new ∧ (t.canOf c).cycleAt = sof ∧ t.bit (HDR.EVT p) 5 = true
          ∧ t.rd (CAN.TTOFS c) = BitVec.ofInt 32 (((sof : Int) - s.expandLt (BitVec.ofNat 48 (ofLeBytes ((f.data.drop 1).take 6)))) / 16)
          ∧ t.fld (CAN.REFCNT c) 15 0 = Nat.min 0xFFFF (s.fld (CAN.REFCNT c) 15 0 + 1)
          ∧ (s.ttMode c = 2 → new ≠ role → t.bit (HDR.EVT p) 6 = true) ∧ frame t) ∧
      (s.isReference c f = false → exec (.referenceMessageRx c f) s = .next s)) ∧
    (s.canOn c = true → s.ttMode c = 2 →
      (s.fld tt 9 8 = 2 → State.Completes (.referenceSend c) s fun t => (t.canOf c).refDue = true ∧ (t.canOf c).claims = false ∧ frame t) ∧
      (s.fld tt 9 8 = 3 → State.Completes (.backupMasterTimeout c) s fun t => (t.canOf c).refDue = true ∧ (t.canOf c).claims = true
        ∧ frame t)) ∧
    (s.ttMode c ≠ 2 → exec (.referenceSend c) s = .next s ∧ exec (.backupMasterTimeout c) s = .next s) ∧
    (s.ttOn c = true → s.fld tt 9 8 ≠ 2 → State.Completes (.ttSyncLoss c) s fun t => t.bit tt 10 = false ∧ t.bit (HDR.FLT p) 22 = true
      ∧ frame t) ∧
    (s.ttOn c = false → exec (.ttSyncLoss c) s = .next s ∧ ∀ w, exec (.windowStart c w) s = .next s) ∧
    (∀ w, s.ttOn c = true → 0 < w → w ≤ s.fld (CAN.TTCFG c) 11 8 → State.Completes (.windowStart c w) s fun t => t.fld tt 19 16 = w
      ∧ (let e := s.winEntry c
         wfld e 1 0 = 1 → s.ttWindow c ≠ 0 → x.tried = false → s.bufPends c (wfld e 8 2) = true → s.bctl c (wfld e 8 2) 12 12 = 1 →
         s.bctl c (wfld e 8 2) 1 0 = 2 → t.fld tt 31 24 = Nat.min 0xFF (s.fld tt 31 24 + 1))
      ∧ frame t) ∧
    (let a := CAN.TSTA c
     (s.busyOp a = true →
       (State.Completes (.canTctlStart c) s fun t => t.bit (HDR.FLT p) 0 = true ∧ State.SameRegs (State.reports p) s t
         ∧ State.SameBytes s.recRing s t) ∧
       (s.isPast a = false → State.Completes (.canTctlAbort c) s fun t => t.Ended a .aborted ∧ State.SameRegs (fun y => y = a) s t
         ∧ t.mem = s.mem) ∧
       (∀ pass, State.Completes (.canSelftestDone c pass) s fun t => t.Ended a .done ∧ t.bit (HDR.EVT p) 7 = true
         ∧ (pass = true → t.bit a 16 = true) ∧ (pass = false → t.bit (HDR.FLT p) 24 = true ∧ t.bit a 16 = s.bit a 16)
         ∧ State.SameRegs (fun y => State.reports p y ∨ y = a) s t ∧ State.SameBytes s.recRing s t)) ∧
     (s.busyOp a = false →
       (s.bit (HDR.CTL p) 0 = true → State.Completes (.canTctlStart c) s fun t => t.Ended a .rejState
         ∧ State.SameRegs (fun y => y = a) s t ∧ t.mem = s.mem) ∧
       (s.bit (HDR.CTL p) 0 = false → s.offView p = false → State.Completes (.canTctlStart c) s fun t => t.phase a = 2 ∧ t.bit a 16 = false
         ∧ State.SameRegs (fun y => y = a ∨ y = HDR.STA p) s t ∧ t.mem = s.mem) ∧
       (∀ pass, exec (.canSelftestDone c pass) s = .next s)))

/-! ### The time base and the Ethernet MACs -/

/-- R413 to R419, R421. -/
def Obligations.TimeBase : Prop :=
  ∀ s : State,
    let p := pgTIME
    let a := TIME.SETSTA
    let frame := fun (t : State) => State.SameRegs (State.onPage p) s t ∧ State.SameBytes s.recRing s t
    let okVal := s.num (TIME.SETVAL 2) < 1000000000 ∧ s.num (TIME.SETVAL 3) < 16
    (s.busyOp a = true → State.Completes .timeTctlSet s fun t => t.bit (HDR.FLT p) 0 = true ∧ State.SameRegs (State.reports p) s t
      ∧ State.SameBytes s.recRing s t) ∧
    (s.busyOp a = false →
      (¬ okVal → State.Completes .timeTctlSet s fun t => t.Ended a .rejState ∧ State.SameRegs (fun y => y = a) s t ∧ t.mem = s.mem) ∧
      (okVal → s.stepOk = false → State.Completes .timeTctlSet s fun t => t.Ended a .rejState ∧ t.bit (HDR.FLT p) 18 = true
        ∧ State.SameRegs (fun y => State.reports p y ∨ y = a) s t ∧ State.SameBytes s.recRing s t) ∧
      (okVal → s.stepOk = true → State.Completes .timeTctlSet s fun t => t.Ended a .done ∧ t.bit (HDR.EVT p) 2 = true
        ∧ (∀ i < 4, t.rd (TIME.NOW i) = s.rd (TIME.SETVAL i))
        ∧ State.SameRegs (fun y => State.reports p y ∨ y = a ∨ ∃ i < 4, y = TIME.NOW i) s t ∧ State.SameBytes s.recRing s t)) ∧
    (s.busyOp a = true → s.isPast a = false → State.Completes .timeTctlAbort s fun t => t.Ended a .aborted
      ∧ State.SameRegs (fun y => y = a) s t ∧ t.mem = s.mem) ∧
    (s.phase a = 0 → exec .timeTctlAbort s = .next s) ∧
    (∀ req page off, let r := regAt page off
      (State.isTimeReg r = true → s.variant.present page = true → State.Completes (.timeFirstWordRead req page off) s fun t =>
        Tab.find t.host.resp req = some { value := (s.rd r).setWidth 64 }
        ∧ Tab.find t.host.timeSnaps req = some { reg := r, words := [s.rd r, s.rd (r + 4), s.rd (r + 8), s.rd (r + 12)] }
        ∧ Tab.find t.host.snaps req = none ∧ t.regs = s.regs ∧ t.mem = s.mem) ∧
      (State.isTimeReg r = false → exec (.timeFirstWordRead req page off) s = .next s)) ∧
    (∀ d < 2,
      let st := s.domState d
      let y := s.domOf d
      (∀ x : PtpSync,
        let takes := fun (new n : Nat) (t : State) => t.fld (TIME.DOMSTA d) 2 0 = new ∧ t.fld (TIME.DOMSTA d) 15 8 = n
          ∧ t.fld (TIME.DOMSTA d) 23 16 = x.clockClass.toNat ∧ t.rd64 (TIME.DOMGM d) = x.gm
          ∧ t.rd (TIME.DOMOFS d) = satInt 32 (-x.offset) ∧ t.rd (TIME.DOMDLY d) = BitVec.ofNat 32 x.delay
          ∧ t.rd TIME.UTCOFS = BitVec.ofNat 32 (x.utcOffset.toNat + b01 x.utcValid * 65536)
          ∧ t.fld (TIME.DOMCNT d) 15 0 = Nat.min 0xFFFF (s.fld (TIME.DOMCNT d) 15 0 + 1) ∧ (t.domOf d).last = x.offset ∧ frame t
        let n := Nat.min 255 (s.fld (TIME.DOMSTA d) 15 8 + 1)
        (s.bit (TIME.DOMCFG d) 11 = false → exec (.ptpSync d x) s = .next s) ∧
        (s.bit (TIME.DOMCFG d) 11 = true → s.masterBeaten d x = true →
          (st ≠ 2 → st ≠ 3 → State.Completes (.ptpSync d x) s (takes 2 0)) ∧
          (st = 2 → s.rd64 (TIME.DOMGM d) = x.gm → (x.offset - y.last).natAbs ≤ s.fld (TIME.DOMLOCK d) 15 0 →
            State.Completes (.ptpSync d x) s (takes (if s.fld (TIME.DOMLOCK d) 23 16 ≤ n then 3 else 2) n)) ∧
          (st = 3 → s.rd64 (TIME.DOMGM d) ≠ x.gm → State.Completes (.ptpSync d x) s fun t => takes 4 0 t
            ∧ t.fld (TIME.DOMCNT d) 31 16 = Nat.min 0xFFFF (s.fld (TIME.DOMCNT d) 31 16 + 1)
            ∧ t.bit (HDR.FLT p) 16 = true ∧ t.bit (HDR.FLT p) 17 = true)) ∧
        (s.bit (TIME.DOMCFG d) 11 = true → s.masterBeaten d x = false →
          (st ≠ 5 → State.Completes (.ptpSync d x) s fun t => t.domState d = 5 ∧ frame t) ∧
          (st = 5 → exec (.ptpSync d x) s = .next s))) ∧
      (let e := s.domPort d
       let one := s.bit (ETH.ECFG e) 0
       (st = 5 → State.Completes (.ptpSyncSend d) s fun t => (t.domOf d).sent = y.sent + 1
         ∧ (t.domOf d).follow = (if one then none else some (s.t16 + s.fld (ETH.TXLAT e) 15 0))
         ∧ (t.domOf d).origin = (if one then s.t16 + s.fld (ETH.TXLAT e) 15 0 else 0)
         ∧ t.fld (ETH.CNT1 e) 31 16 = Nat.min 0xFFFF (s.fld (ETH.CNT1 e) 31 16 + if one then 1 else 2)
         ∧ t.fld (ETH.PTPCNT e) 15 0 = Nat.min 0xFFFF (s.fld (ETH.PTPCNT e) 15 0 + 1)
         ∧ State.SameRegs (fun y => y = ETH.CNT1 e ∨ y = ETH.PTPCNT e) s t ∧ t.mem = s.mem) ∧
       (st ≠ 5 → exec (.ptpSyncSend d) s = .next s)) ∧
      (st = 3 → State.Completes (.syncTimeout d) s fun t => t.domState d = 4 ∧ t.bit (HDR.FLT p) 16 = true ∧ frame t) ∧
      (st = 1 ∨ st = 4 → s.bit (TIME.DOMCFG d) 12 = true → State.Completes (.syncTimeout d) s fun t => t.domState d = 5 ∧ frame t) ∧
      (st = 0 ∨ st = 2 ∨ st = 5 → exec (.syncTimeout d) s = .next s)) ∧
    (s.timeSource = 4 → s.timeValid = true → State.Completes .holdmaxExpiry s fun t => t.bit (HDR.FLT p) 19 = true
      ∧ t.bit (HDR.EVT p) 0 = true ∧ (s.pickSource = 4 → t.timeValid = false) ∧ frame t) ∧
    (s.timeSource ≠ 4 ∨ s.timeValid = false → exec .holdmaxExpiry s = .next s) ∧
    (s.time.ringCal = true → State.Completes .ringSourceTimeout s fun t => t.time.ringCal = false ∧ t.bit (HDR.FLT p) 21 = true
      ∧ t.timeSource ≠ 3 ∧ frame t) ∧
    (s.time.ringCal = false → exec .ringSourceTimeout s = .next s) ∧
    (s.time.ofs = 0 → State.Completes .slewEnd s fun t => t.bit TIME.TSTA 4 = false ∧ State.SameRegs (fun y => y = TIME.TSTA) s t
      ∧ t.mem = s.mem) ∧
    (s.time.ofs ≠ 0 → 0 ≤ (s.t16 : Int) + s.time.ofs → (s.t16 : Int) + s.time.ofs < 2 ^ 90 → State.Completes .slewEnd s fun t =>
      (t.t16 : Int) = s.t16 + s.time.ofs ∧ t.time.ofs = 0 ∧ t.bit TIME.TSTA 4 = false ∧ t.rd TIME.OFSNOW = 0 ∧ frame t)

/-- R420, R421, R423, R424, R427. -/
def Obligations.EthernetMacs : Prop :=
  ∀ (s : State) (e : Nat), e < 2 →
    let p := pgETH e
    let x := s.ethOf e
    let on := s.bit (HDR.CTL p) 0 = true ∧ s.bit (ETH.LINK e) 1 = true
    let frame := fun (t : State) => State.SameRegs (State.onPage p) s t ∧ State.SameBytes s.recRing s t
    let counted := fun (a hi lo : Nat) (t : State) => t.fld a hi lo = Nat.min 0xFFFF (s.fld a hi lo + 1)
    let wrote := fun (at_ : Nat) (bs : List Byte) (t : State) => (∀ i < bs.length, ¬ s.recRing (at_ + i) → t.byte (at_ + i) = bs.getD i 0)
      ∧ State.SameBytes (fun y => s.recRing y ∨ at_ ≤ y ∧ y < at_ + bs.length) s t
    (¬ on → (∀ f, exec (.ethFrameRx e f) s = .next s) ∧ exec (.ethTxDone e) s = .next s) ∧
    (on → ∀ f : EthFrame,
      let len := f.data.length + 4
      (f.fcsOk = false ∨ len < 64 ∨ 1522 < len → State.Completes (.ethFrameRx e f) s fun t => counted (ETH.CNT2 e) 15 0 t
        ∧ t.bit (HDR.FLT p) 17 = true ∧ frame t) ∧
      (f.fcsOk = true → 64 ≤ len → len ≤ 1522 →
        (∀ c b, f.safeChan = some c → s.ethNet e c = some b → exec (.ethFrameRx e f) s = .next ((s.count (ETH.CNT1 e) 15 0).safeDataRx c b
          ((f.data.drop (if State.hasVlan f.data then 18 else 14)).take 32))) ∧
        (f.safeChan = none →
          (f.ptpEvent = true → State.Completes (.ethFrameRx e f) s fun t => counted (ETH.CNT1 e) 15 0 t ∧ counted (ETH.PTPCNT e) 15 0 t
            ∧ frame t) ∧
          (let size := s.num (ETH.RXSIZE e)
           let wr := s.num (ETH.RXWR e)
           let at_ := mezzBase + s.num (ETH.RXBASE e) + wr
           let slot := State.ethSlot (s.t16 - s.fld (ETH.RXLAT e) 15 0) f.data
           f.ptpEvent = false →
            (size = 0 → State.Completes (.ethFrameRx e f) s fun t => counted (ETH.CNT1 e) 15 0 t ∧ counted (ETH.CNT2 e) 31 16 t ∧ frame t) ∧
            (0 < size → (wr + 2048) % size = s.num (ETH.RXRD e) → State.Completes (.ethFrameRx e f) s fun t =>
              counted (ETH.CNT1 e) 15 0 t ∧ counted (ETH.CNT2 e) 31 16 t ∧ t.bit (HDR.FLT p) 18 = true ∧ frame t) ∧
            (0 < size → (wr + 2048) % size ≠ s.num (ETH.RXRD e) → at_ % 8 = 0 → s.bit MEM.INJCFG 16 = false →
              State.Completes (.ethFrameRx e f) s fun t => counted (ETH.CNT1 e) 15 0 t ∧ t.num (ETH.RXWR e) = (wr + 2048) % size
                ∧ t.bit (HDR.EVT p) 1 = true ∧ wrote at_ slot t ∧ State.SameRegs (State.onPage p) s t))))) ∧
    (∀ v : Word,
      (v.toNat % 2048 ≠ 0 ∨ s.num (ETH.TXSIZE e) ≤ v.toNat → State.Completes (.ethTxwrWrite e v) s fun t => t.bit (HDR.FLT p) 0 = true
        ∧ t.rd (ETH.TXWR e) = s.rd (ETH.TXWR e) ∧ frame t) ∧
      (v.toNat % 2048 = 0 → v.toNat < s.num (ETH.TXSIZE e) → State.Completes (.ethTxwrWrite e v) s fun t => t.rd (ETH.TXWR e) = v
        ∧ State.SameRegs (fun y => y = ETH.TXWR e ∨ y = HDR.SEQ p) s t ∧ t.mem = s.mem)) ∧
    (on →
      (∀ c bs rest, x.safe = (c, bs) :: rest → State.Completes (.ethTxDone e) s fun t => (t.ethOf e).sent = bs ∧ (t.ethOf e).safe = rest
        ∧ counted (ETH.CNT1 e) 31 16 t ∧ t.bit (HDR.EVT p) 2 = true ∧ frame t) ∧
      (let size := s.num (ETH.TXSIZE e)
       let rd := s.num (ETH.TXRD e)
       let at_ := mezzBase + s.num (ETH.TXBASE e) + rd
       x.safe = [] →
        (size = 0 ∨ rd = s.num (ETH.TXWR e) → exec (.ethTxDone e) s = .next s) ∧
        (0 < size → rd ≠ s.num (ETH.TXWR e) → at_ % 8 = 0 → s.GoodCode at_ 2080 → s.bit MEM.INJCFG 16 = false →
          State.Completes (.ethTxDone e) s fun t =>
            (t.ethOf e).sent = s.bytes (at_ + 32) (ofLeBytes (s.bytes (at_ + 16) 4) % 2048) ∧ t.num (ETH.TXRD e) = (rd + 2048) % size
            ∧ counted (ETH.CNT1 e) 31 16 t ∧ t.bit (HDR.EVT p) 2 = true
            ∧ wrote at_ (bytesOf (timeWords (s.t16 + s.fld (ETH.TXLAT e) 15 0))) t ∧ State.SameRegs (State.onPage p) s t))) ∧
    (∀ up, s.bit (ETH.LINK e) 1 = up → exec (.ethLinkChange e up) s = .next s) ∧
    (s.bit (ETH.LINK e) 1 = false → State.Completes (.ethLinkChange e true) s fun t => t.rd (ETH.LINK e) = 0x27
      ∧ t.bit (HDR.EVT p) 0 = true ∧ frame t) ∧
    (s.bit (ETH.LINK e) 1 = true → State.Completes (.ethLinkChange e false) s fun t => t.rd (ETH.LINK e) = 0
      ∧ t.bit (HDR.EVT p) 0 = true ∧ t.bit (HDR.FLT p) 16 = true
      ∧ (s.domPort 0 = e → s.timeSource = 1 → t.domState 0 = 4 ∧ t.bit (HDR.FLT pgTIME) 16 = true)
      ∧ State.SameRegs (fun y => State.onPage p y ∨ y / 0x1000 = pgTIME) s t ∧ State.SameBytes s.recRing s t) ∧
    (∀ (v : Word) (phy : BitVec 16), State.Completes (.mdioStart e v phy) s fun t =>
      t.rd (ETH.MDIO e) = (if v.getLsbD 30 = true ∧ v.getLsbD 26 = false then wset (v &&& 0x07FFFFFF) 15 0 phy.toNat else v &&& 0x07FFFFFF)
      ∧ State.SameRegs (fun y => y = ETH.MDIO e ∨ y = HDR.SEQ p) s t ∧ t.mem = s.mem)

/-! ### Acquisition, triggers, the event recorder and the record store -/

/-- R430, R432 to R434, R436, R438 to R443. -/
def Obligations.Acquisition : Prop :=
  ∀ s : State,
    (s.variant.acq = true →
      let a := ACQ.ASTA
      let ended := fun (c : Code) (o : Nat) (t : State) => t.Ended a c ∧ t.fld a 27 16 = o ∧ t.grp = s.grp ∧ t.trg = s.trg
      let idle := fun g => s.grpCont g = false ∧ s.fld (ACQ.GRP_NSEG g) 12 0 = 0
      (s.busyOp a = true → State.Completes .actlArm s fun t => t.bit (HDR.FLT pgACQ) 0 = true ∧ State.SameRegs (State.reports pgACQ) s t
        ∧ State.SameBytes s.recRing s t) ∧
      (s.busyOp a = false → s.offView pgACQ = false →
        (∀ o, s.armLength = some o → State.Completes .actlArm s fun t => t.Ended a .rejLength ∧ t.fld a 27 16 = o
          ∧ t.bit (HDR.FLT pgACQ) 1 = true) ∧
        (∀ o, s.armLength = none → s.armState = some o → State.Completes .actlArm s (ended .rejState o)) ∧
        (s.armLength = none → s.armState = none →
          ((∀ g < 4, s.grpOn g = true → idle g) → State.Completes .actlArm s (ended .done 0)) ∧
          (∀ g < 4, s.grpOn g = true → ¬ idle g → State.Completes .actlArm s fun t => t.phase a = 2 ∧ (t.grpOf g).running = true
            ∧ t.bit (ACQ.GRP_GSTA g) 16 = !s.grpCont g ∧ (∀ h < 4, s.grpOn h = false → (t.grpOf h).running = false)
            ∧ (∀ u < 4, (t.trgOf u).armed = !s.bit (TRG.TCFG u) 3) ∧ State.SameRegs (fun y => y / 0x1000 = pgACQ) s t ∧ t.mem = s.mem))) ∧
      (s.busyOp a = true → State.Completes .actlStop s fun t => t.Ended a .aborted ∧ (∀ g < 4, (t.grpOf g).running = false)
        ∧ t.bit (HDR.EVT pgACQ) 1 = true ∧ State.SameRegs (State.onPage pgACQ) s t ∧ State.SameBytes s.recRing s t) ∧
      (s.phase a = 3 → State.Completes .actlStop s fun t => t.bit (HDR.FLT pgACQ) 8 = true ∧ State.SameRegs (State.reports pgACQ) s t) ∧
      (s.phase a = 0 → exec .actlStop s = .next s) ∧
      (∀ g < 4,
        let x := s.grpOf g
        (x.running = false ∨ s.busyOp a = false ∨ s.instantNow g = none → exec (.acqInstant g) s = .next s.storePump) ∧
        (∀ t0, x.running = true → s.busyOp a = true → s.instantNow g = some t0 →
          let vs := (s.sampleGroup g t0).1
          (x.opened = false → s.grpCont g = false → x.fire = none → State.Completes (.acqInstant g) s fun t =>
            (t.grpOf g).at_ = some t0 ∧ (t.grpOf g).pre = (x.pre ++ [vs]).drop (x.pre.length + 1 - s.fld (ACQ.GRP_PRE g) 15 0)
            ∧ State.SameBytes s.recRing s t) ∧
          ((∀ m < 8, s.bit (ACQ.MASK_CFG m) 8 = false) → x.opened = false →
            (s.grpCont g = true → s.maskStop = false → State.Completes (.acqInstant g) s fun t => (t.grpOf g).at_ = some t0
              ∧ (t.grpOf g).opened = true ∧ (t.grpOf g).k = 1 ∧ (t.grpOf g).last = vs ∧ State.SameBytes s.recRing s t) ∧
            (∀ u tf, s.grpCont g = false → x.fire = some (u, tf) → tf ≤ t0 → x.pre = [] → 0 < s.fld (ACQ.GRP_POST g) 23 0 →
              State.Completes (.acqInstant g) s fun t => (t.grpOf g).opened = true ∧ (t.grpOf g).trigAt = some 0
                ∧ (t.grpOf g).postLeft = s.fld (ACQ.GRP_POST g) 23 0 ∧ t.bit (ACQ.GRP_GSTA g) 16 = false ∧ State.SameBytes s.recRing s t)))) ∧
      (∀ u < 4, State.Completes (.trgTctlForce u) s fun t => t.num (TRG.FIRES u) = Nat.min 0xFFFFFFFF (s.num (TRG.FIRES u) + 1)
        ∧ (∀ i < 4, t.rd (TRG.TLAST u i) = (timeWords s.t16).getD i 0)
        ∧ (∀ g < 4, (s.grpOf g).running = true → s.grpOn g = true → s.grpCont g = false → s.fld (ACQ.GRP_GCFG g) 4 3 = u →
            ((s.grpOf g).fire = none → (s.grpOf g).trigAt = none → (t.grpOf g).fire = some (u, s.t16))
            ∧ ((s.grpOf g).fire ≠ none → t.fld (ACQ.GRP_GSTA g) 31 24 = Nat.min 0xFF (s.fld (ACQ.GRP_GSTA g) 31 24 + 1)))
        ∧ (∀ v < 4, s.bit (TRG.TCFG v) 3 = true → s.fld (TRG.TCFG v) 5 4 = u → s.busyOp a = true → (t.trgOf v).armed = true)
        ∧ State.SameRegs (fun y => y / 0x1000 = pgTRG u ∨ y / 0x1000 = pgACQ) s t ∧ t.mem = s.mem)) ∧
    (∀ (k : Nat) (v : Word), k < s.variant.halls →
      let w := fun n => Tab.get 0 s.recd.fw n
      let ws := s.recordWords ((w 0 &&& 0x000FFF00) ||| 0x003000FF) ((List.range 5).map fun i => w (10 + i))
      let size := s.num REC.RSIZE
      let wr := s.num REC.RWR
      let at_ := mezzBase + s.num REC.RBASE + wr
      (s.bit REC.RCFG 0 = false → exec (.fwrecSubmit k v) s = .next s) ∧
      (s.bit REC.RCFG 0 = true →
        (s.hasCredit .recorder 2 = false → State.Completes (.fwrecSubmit k v) s fun t =>
          t.bit (HDR.FLT pgREC) 17 = true ∧ t.bit (HDR.EVT pgREC) 2 = true ∧ State.SameRegs State.reportWord s t ∧ State.SameBytes s.recRing s t) ∧
        (s.hasCredit .recorder 2 = true → s.bit REC.RSTA 0 = false → 64 ≤ size → s.bit REC.RCFG 1 = false → at_ % 8 = 0 →
          s.bit MEM.INJCFG 16 = false → State.Completes (.fwrecSubmit k v) s fun t => t.bytes at_ 64 = bytesOf ws
            ∧ t.num REC.RWR = (if wr + 128 ≤ size then wr + 64 else 0) ∧ t.rd REC.RSEQ = BitVec.ofNat 32 s.recd.seq
            ∧ t.recd.seq = s.recd.seq + 1 ∧ State.SameBytes (fun y => at_ ≤ y ∧ y < at_ + 64) s t
            ∧ State.SameRegs (fun y => y / 0x1000 = pgREC ∨ y = NVM.CSTA) s t))) ∧
    (let thawed := fun (t : State) => t.bit REC.RSTA 0 = false ∧ t.fld REC.RSTA 16 8 = 0 ∧ t.recd.held = [] ∧ t.bit (HDR.EVT pgREC) 1 = true
       ∧ State.SameRegs State.reportWord s t ∧ State.SameBytes s.recRing s t
     (s.bit REC.RSTA 0 = true →
       (State.Completes .fctlFreeze s fun t => t.bit (HDR.FLT pgREC) 0 = true ∧ t.bit REC.RSTA 0 = true ∧ State.SameRegs State.reportWord s t) ∧
       State.Completes .fctlUnfreeze s thawed ∧
       (State.Completes .freezeTimeout s fun t => thawed t ∧ t.bit (HDR.FLT pgREC) 16 = true)) ∧
     (s.bit REC.RSTA 0 = false →
       (State.Completes .fctlFreeze s fun t => t.bit REC.RSTA 0 = true ∧ t.fld REC.RSTA 16 8 = 0 ∧ t.recd.held = s.recd.held
         ∧ State.SameRegs (fun y => y = REC.RSTA) s t ∧ t.mem = s.mem) ∧
       exec .fctlUnfreeze s = .next s ∧ exec .freezeTimeout s = .next s)) ∧
    (s.busyOp REC.FSTA = true → State.Completes .fctlFlush s fun t => t.recd.flushMore = true ∧ t.regs = s.regs ∧ t.mem = s.mem) ∧
    (s.busyOp REC.FSTA = false →
      (s.unflushedCount = 0 → State.Completes .fctlFlush s fun t => t.rd REC.FSTA = 0x300 ∧ State.SameRegs (fun y => y = REC.FSTA) s t
        ∧ t.mem = s.mem ∧ t.commits = s.commits) ∧
      (0 < s.unflushedCount → s.unflushedCount ≤ 0x3F0000 → State.Completes .fctlFlush s fun t => t.phase REC.FSTA = 2
        ∧ t.bit REC.RSTA 1 = true ∧ t.commits = s.commits ++ [{ kind := 5, units := (s.unflushedCount + 62) / 63 }] ∧ t.recd.flushCause = 3
        ∧ State.SameRegs (fun y => y = REC.FSTA ∨ y = REC.RSTA ∨ y = NVM.CSTA) s t ∧ t.mem = s.mem)) ∧
    (let a := REC.FLRDSTA
     let n := s.fld REC.FLRDCNT 11 0
     let dst := s.num REC.FLRDDST
     let len := Nat.max 1 s.flushRing.length
     let pos := (s.nvm.flushNext + len * 3 - 1 - s.fld REC.FLRDSEL 11 0 % len) % len
     let sec := s.sectAddr (0x3B4 + s.flushRing.getD pos 0) 0
     (s.busyOp a = false → exec .flushReadDone s = .next s ∧ (s.offView pgREC = false →
       (3020 < n ∨ mezzSize < dst + n * 4096 → State.Completes .flrdctlStart s fun t => t.Ended a .rejLength ∧ t.bit (HDR.FLT pgREC) 1 = true) ∧
       (n = 0 → dst ≤ mezzSize → State.Completes .flrdctlStart s fun t => t.Ended a .done ∧ State.SameRegs (fun y => y = a) s t ∧ t.mem = s.mem) ∧
       (0 < n → n ≤ 3020 → dst + n * 4096 ≤ mezzSize → State.Completes .flrdctlStart s fun t => t.phase a = 2
         ∧ State.SameRegs (fun y => y = a ∨ y = HDR.STA pgREC) s t ∧ t.mem = s.mem))) ∧
     (s.busyOp a = true →
       (State.Completes .flrdctlStart s fun t => t.bit (HDR.FLT pgREC) 0 = true ∧ State.SameRegs State.reportWord s t) ∧
       (s.isPast a = false → State.Completes .flrdctlAbort s fun t => t.Ended a .aborted ∧ State.SameRegs (fun y => y = a) s t ∧ t.mem = s.mem) ∧
       (n = 1 → dst % 8 = 0 → s.bit MEM.INJCFG 16 = false →
         (s.GoodCode sec 4096 → State.Completes .flushReadDone s fun t => t.Ended a .done ∧ (∀ o < 4096, t.byte (dst + o) = s.byte (sec + o))
           ∧ State.SameRegs (fun y => y = a) s t ∧ State.SameBytes (fun y => dst ≤ y ∧ y < dst + 4096) s t) ∧
         (sec < emramBase + 0x1000000 → classify (s.syn (sec / 8)) = .uncorrectable → State.Completes .flushReadDone s fun t => t.Ended a .failEcc
           ∧ t.bit (HDR.FLT pgNVM) 20 = true ∧ t.bit (HDR.FLT pgNVM) 4 = true ∧ State.SameBytes s.recRing s t))))

/-- R444 to R446, R448, R450, R454. -/
def Obligations.RecordStore : Prop :=
  ∀ (s : State) (p : Nat), p < s.variant.stores →
    let g := pgSTORE p
    let a := STORE.SSTA p
    let refused := fun (t : State) => t.bit (HDR.FLT g) 0 = true ∧ State.SameRegs (State.reports g) s t ∧ t.vol = s.vol ∧ State.SameBytes s.recRing s t
    let rejected := fun (t : State) => t.Ended a .rejState ∧ State.SameRegs (fun y => y = a) s t ∧ t.vol = s.vol ∧ t.mem = s.mem
    let named := fun (sc : LabelScan) => ∀ m ∈ sc.members, m.port < 2 ∧ m.slot < 16
    let quiet := s.bit REC.RCFG 1 = false ∧ ∀ g < 4, (s.grpOf g).out = []
    (s.busyOp a = true → State.Completes (.storeSctlStop p) s refused ∧
      ∀ sc force, State.Completes (.storeSctlStart p sc) s refused ∧ State.Completes (.storeSctlFormat p force sc) s refused) ∧
    (s.busyOp a = false → s.offView g = false →
      (∀ sc : LabelScan,
        (s.volState ≠ 0 ∨ State.usable sc = [] → State.Completes (.storeSctlStart p sc) s rejected) ∧
        (s.volState = 0 → State.usable sc ≠ [] → named sc → State.Completes (.storeSctlStart p sc) s fun t => t.phase a = 2 ∧ t.volState = 1
          ∧ t.vol.op = some (false, sc) ∧ t.mem = s.mem) ∧
        (∀ force, let n := s.volNmem
          let us := State.usable sc
          (s.volState ≠ 0 ∨ n = 0 ∨ 16 < n ∨ us.length < n ∨ (force = false ∧ us.any (fun m => m.labelValid) = true) →
            State.Completes (.storeSctlFormat p force sc) s rejected) ∧
          (s.volState = 0 → 0 < n → n ≤ 16 → n ≤ us.length → (force = true ∨ us.any (fun m => m.labelValid) = false) → named sc →
            State.Completes (.storeSctlFormat p force sc) s fun t => t.phase a = 2 ∧ t.volState = 1
              ∧ t.vol.op = some (true, { sc with members := us.take n }) ∧ t.mem = s.mem))) ∧
      (s.volState < 2 → State.Completes (.storeSctlStop p) s rejected) ∧
      (2 ≤ s.volState → s.nvmeIdle = true → State.Completes (.storeSctlStop p) s fun t => t.Ended a .done ∧ t.volState = 0 ∧ t.vol = {}
        ∧ t.mem = s.mem) ∧
      (2 ≤ s.volState → s.nvmeIdle = false → State.Completes (.storeSctlStop p) s fun t => t.phase a = 2
        ∧ t.vol = { s.vol with stopping := true } ∧ t.mem = s.mem)) ∧
    (s.busyOp a = true → s.isPast a = false →
      (s.vol.stopping = true → State.Completes (.storeSctlAbort p) s fun t => t.Ended a .aborted ∧ t.vol = { s.vol with stopping := false }) ∧
      (s.vol.stopping = false → State.Completes (.storeSctlAbort p) s fun t => t.Ended a .aborted ∧ t.vol = {} ∧ t.volState = 0)) ∧
    (let ck := fun (c : Instr) =>
       (s.volState < 2 ∨ 4 < s.volState → exec c s = .next s) ∧
       (2 ≤ s.volState → s.volState ≤ 4 →
         (s.vol.flushing = true → State.Completes c s fun t => t.vol = { s.vol with ckWant := true } ∧ t.regs = s.regs ∧ t.mem = s.mem) ∧
         (s.vol.flushing = false → ∀ i, i = (s.vol.ckGen + 1) % s.vol.members.length → i < s.vol.members.length → (s.member i).failed = false →
           State.Completes c s fun t => t.vol.flushing = true ∧ t.vol.ckWant = false
             ∧ t.nvmeQueue (s.member i).port (s.member i).slot = s.nvmeQueue (s.member i).port (s.member i).slot ++ [.ckpt]
             ∧ t.regs = s.regs ∧ t.mem = s.mem))
     ck (.storeSctlCkpt p) ∧ ck .checkpointTimer) ∧
    (∀ m < 16,
      (∀ i, s.vol.members.findIdx? (fun x => x.port == p && x.slot == m && !x.failed) = some i → State.Completes (.memberFail p m) s fun t =>
        (t.member i).failed = true ∧ t.bit (STORE.CTRL_CSTA p m) 2 = true ∧ t.bit (HDR.FLT g) 17 = true
        ∧ (s.volState = 2 → t.volState = 3) ∧ State.SameBytes s.recRing s t) ∧
      (s.vol.members.findIdx? (fun x => x.port == p && x.slot == m && !x.failed) = none → State.Completes (.memberFail p m) s fun t =>
        t.bit (STORE.CTRL_CSTA p m) 2 = true ∧ t.nvmeQueue p m = [] ∧ t.vol.members = s.vol.members
        ∧ State.SameRegs (fun y => y = STORE.CTRL_CSTA p m) s t ∧ t.mem = s.mem) ∧
      (let h := STORE.CTRL_HLTH p m
       let old := s.fld h 7 0
       let relay := fun (new : Nat) (t : State) => (new &&& (255 - old) ≠ 0 → t.bit (HDR.FLT g) 18 = true ∧ t.bit (HDR.EVT g) 2 = true)
         ∧ (new &&& (255 - old) = 0 → t.rd (HDR.FLT g) = s.rd (HDR.FLT g)) ∧ State.SameBytes s.recRing s t
       (∀ w : Byte, State.Completes (.smartWarning p m w) s fun t => t.fld h 7 0 = old ||| w.toNat ∧ relay (old ||| w.toNat) t
         ∧ State.SameRegs (fun y => State.reports g y ∨ y = h) s t) ∧
       (∀ l : SmartLog, State.Completes (.healthPoll p m l) s fun t => t.fld h 7 0 = l.warning.toNat ∧ t.fld h 15 8 = l.spare.toNat
         ∧ t.fld h 23 16 = l.used.toNat ∧ t.fld h 31 24 = Nat.min 255 l.mediaErrors.toNat ∧ t.rd (STORE.CTRL_CTEMP p m) = l.tempK.setWidth 32
         ∧ t.rd64 (STORE.CTRL_DUW p m) = l.unitsWritten ∧ relay l.warning.toNat t)) ∧
      (s.nvmeQueue p m = [] → ∀ ok, exec (.nvmeCompletion p m ok) s = .next s) ∧
      (s.vol.stopping = false → ∀ rest,
        (∀ n, s.nvmeQueue p m = .block n :: rest → State.Completes (.nvmeCompletion p m true) s fun t =>
          t.rd64 (STORE.WRBYTES p) = s.rd64 (STORE.WRBYTES p) + 4096
          ∧ t.rd64 (STORE.CTRL_WRITTEN p m) = s.rd64 (STORE.CTRL_WRITTEN p m) + 4096 ∧ State.SameBytes s.recRing s t) ∧
        (s.nvmeQueue p m = .ckpt :: rest → State.Completes (.nvmeCompletion p m true) s fun t => t.vol.ckGen = s.vol.ckGen + 1
          ∧ (∀ q < s.variant.stores, t.bit (HDR.EVT (pgSTORE q)) 1 = true) ∧ State.SameBytes s.recRing s t) ∧
        ((s.putQueue p m []).nvmeIdle = true → ∀ format sc, s.vol.op = some (format, sc) →
          let q := s.storePage
          let b := STORE.SSTA q
          let n := s.volNmem
          let ls := (State.usable sc).filter fun m => m.labelValid
          let one := fun (id : BitVec 128) => ∀ x ∈ ls, x.volumeId = id ∧ x.nmem = n ∧ x.index < n
          (s.nvmeQueue p m = [.writeLabel] → State.Completes (.nvmeCompletion p m true) s fun t => t.Ended b .done ∧ t.vol = {}
            ∧ t.volState = 0 ∧ t.mem = s.mem) ∧
          (s.nvmeQueue p m = [.readLabel] → ls = [] → State.Completes (.nvmeCompletion p m true) s fun t => t.Ended b .rejState ∧ t.vol = {}
            ∧ t.volState = 0 ∧ t.mem = s.mem) ∧
          (∀ id, s.nvmeQueue p m = [.readLabel] → ls ≠ [] → one id → s.volState = 1 → named sc → State.Completes (.nvmeCompletion p m true) s
            fun t => t.vol.id = id ∧ t.vol.members.length = n
              ∧ (∀ x ∈ ls, (∀ y ∈ ls, y.index = x.index → y = x) → (t.member x.index).port = x.port ∧ (t.member x.index).slot = x.slot
                  ∧ (t.member x.index).failed = false)
              ∧ t.nvmeIdle = false ∧ t.mem = s.mem) ∧
          (s.nvmeQueue p m = [.readCkpt] → quiet → State.Completes (.nvmeCompletion p m true) s fun t => t.Ended b .done
            ∧ t.volState = (if s.vol.members.any (fun x => x.failed) then 3 else 2) ∧ t.vol.op = none
            ∧ t.bit (HDR.EVT (pgSTORE q)) 0 = true ∧ State.SameBytes s.recRing s t))))

/-! ### Field I/O -/

/-- R457 to R461, R464, R465, R467, R468. R460 to R467. -/
def Obligations.FieldIo : Prop :=
  (
  ∀ (s : State) (r : Nat), r < 2 →
    let p := pgFIO r
    let a := FIO.RSTA r
    let x := s.fioOf r
    let st := s.fioState r
    let frame := fun (t : State) => State.SameRegs (State.onPage p) s t ∧ State.SameBytes s.recRing s t
    let sta := fun (y : Nat) => y = a ∨ ∃ k < 8, y = FIO.SSTA r k
    (s.busyOp a = true → State.Completes (.fioRctlStart r) s fun t => t.bit (HDR.FLT p) 0 = true ∧ State.SameRegs (State.reports p) s t
      ∧ State.SameBytes s.recRing s t) ∧
    (s.busyOp a = false → s.offView p = false →
      (st ≠ 0 → State.Completes (.fioRctlStart r) s fun t => t.Ended a .rejState ∧ t.fioState r = st ∧ State.SameRegs (fun y => y = a) s t
        ∧ t.mem = s.mem) ∧
      (st = 0 → State.Completes (.fioRctlStart r) s fun t => t.phase a = 2 ∧ t.fioState r = 1 ∧ (t.fioOf r).counted = false
        ∧ (∀ k < 8, (t.fioComp r k).params = [] ∧ (t.fioComp r k).cfgOk = false) ∧ State.SameRegs (fun y => y = a ∨ y = HDR.STA p) s t
        ∧ t.mem = s.mem)) ∧
    (2 ≤ st → State.Completes (.fioRctlStop r) s fun t => t.fioState r = 0
      ∧ (∀ k < 8, s.fioPresent r k = true → t.fioComp r k = State.driveSafe (s.fioComp r k)) ∧ State.SameRegs sta s t ∧ t.mem = s.mem) ∧
    (st < 2 → exec (.fioRctlStop r) s = .next s) ∧
    (s.busyOp a = true → s.isPast a = false → State.Completes (.fioRctlAbort r) s fun t => t.Ended a .aborted ∧ t.fioState r = 0
      ∧ State.SameRegs sta s t ∧ t.mem = s.mem) ∧
    (st = 1 → State.Completes (.fioStartTimeout r) s fun t => t.Ended a .timeout ∧ t.fioState r = 0 ∧ State.SameRegs sta s t
      ∧ t.mem = s.mem) ∧
    (st ≠ 1 → exec (.fioStartTimeout r) s = .next s) ∧
    (st = 0 → exec (.fioCycleFrame r) s = .next s ∧ (∀ n ups, exec (.fioFrameReturn r n ups) s = .next s)
      ∧ exec (.fioFrameLost r) s = .next s) ∧
    (st ≠ 0 →
      (State.Completes (.fioCycleFrame r) s fun t => t.rd (FIO.CYCLE r) = s.rd (FIO.CYCLE r) + 1 ∧ (t.fioOf r).depart = s.t16
        ∧ (∀ k < 8, s.fioPresent r k = true →
            let q := Tab.get [] x.queue k
            let i := q.head?.getD (Tab.get 0 x.refresh k)
            Tab.get [] (t.fioOf r).queue k = q.tail ∧ (q = [] → Tab.get 0 (t.fioOf r).refresh k = (i + 1) % 65)
            ∧ ∃ d, Tab.find (t.fioOf r).down k = some d ∧ d.out = s.rd (FIO.OUT r k) ∧ d.index = BitVec.ofNat 8 i
              ∧ d.cycle = BitVec.ofNat 8 (s.num (FIO.CYCLE r) + 1) ∧ d.value = s.pageParam r k i
              ∧ d.rel = (s.fioSlot r k == 3 && (s.bit (FIO.RCFG r) 12 || x.resume.getLsbD k)))
        ∧ State.SameRegs (fun y => y = FIO.CYCLE r ∨ ∃ k < 8, y = FIO.PPEND r k) s t ∧ t.mem = s.mem) ∧
      (State.Completes (.fioFrameLost r) s fun t => t.fld (FIO.CRCCNT r) 31 16 = Nat.min 0xFFFF (s.fld (FIO.CRCCNT r) 31 16 + 1)
        ∧ (t.fioOf r).lost = x.lost + 1
        ∧ (∀ k < 8, s.fioPresent r k = true → Tab.get 0 (t.fioOf r).misses k = Nat.min 15 (Tab.get 0 x.misses k + 1))
        ∧ State.SameRegs (fun y => y = FIO.CRCCNT r) s t ∧ t.mem = s.mem)) ∧
    (∀ (n : Nat) (u : UpPart), st = 1 → x.counted = false → State.Completes (.fioFrameReturn r n [u]) s fun t =>
      t.fld (FIO.TOPO r) 3 0 = 1 ∧ t.rd (FIO.SID r 0) = u.inputs &&& 0x00FFFFFF ∧ t.rd (FIO.LOOPDLY r) = BitVec.ofNat 32 (Nat.min 0xFFFF n)
      ∧ (wfld u.inputs 23 16 = 1 → s.fioOther r < 8 → t.fioPresent r 0 = true ∧ t.bit (HDR.EVT p) 1 = true)
      ∧ (wfld u.inputs 23 16 ≠ 1 → s.fioOther r < 8 → t.fioPresent r 0 = false ∧ t.bit (FIO.TOPO r) 16 = true ∧ t.bit (HDR.FLT p) 22 = true)
      ∧ frame t) ∧
    (∀ (n : Nat) (ups : List UpPart),
      (2 ≤ st → State.Completes (.fioFrameReturn r n ups) s fun t => t.fioState r = 2 ∧ (t.fioOf r).lost = 0
        ∧ t.rd (FIO.LOOPDLY r) = BitVec.ofNat 32 (Nat.min 0xFFFF n)
        ∧ (∀ k < 8, s.fioPresent r k = true → ∀ u, ups[k]? = some u →
            (u.crcOk = false → t.rd (FIO.IN r k) = s.rd (FIO.IN r k) ∧ t.rd (FIO.OVC r k) = s.rd (FIO.OVC r k)
              ∧ Tab.get 0 (t.fioOf r).misses k = Nat.min 15 (Tab.get 0 x.misses k + 1))
            ∧ (u.crcOk = true → t.rd (FIO.IN r k) = u.inputs ∧ t.rd (FIO.OVC r k) = u.ovc ∧ Tab.get 0 (t.fioOf r).misses k = 0
              ∧ t.fioSlot r k = (if u.status.getLsbD 0 then 3 else 2) ∧ t.fld (FIO.SSTA r k) 6 3 = wfld u.status 4 1
              ∧ t.fld (FIO.SSTA r k) 15 8 = wfld u.status 15 8 ∧ t.bit (FIO.SSTA r k) 7 = u.status.getLsbD 5
              ∧ (u.status.getLsbD 0 = true → s.fioSlot r k ≠ 3 → t.bit (HDR.FLT p) 18 = true)
              ∧ (wfld u.status 4 1 ≠ s.fld (FIO.SSTA r k) 6 3 → t.bit (HDR.FLT p) 19 = true ∧ t.bit (HDR.EVT p) 3 = true)
              ∧ (u.ovc &&& ~~~ s.rd (FIO.OVC r k) ≠ 0 → t.bit (HDR.FLT p) 20 = true)
              ∧ (∀ ch f more off, u.latch = some (ch, f, more, off) →
                  (∀ i < 4, t.rd (FIO.LATTIME r k i) = (timeWords (x.depart + (Nat.min 0xFFFF n - 2376) * 16 * (k + 1)
                    / (s.fld (FIO.TOPO r) 3 0 + 1) + off.toNat * 128)).getD i 0)
                  ∧ t.fld (FIO.LATINFO r k) 5 0 = ch.toNat + b01 f * 32
                  ∧ t.fld (FIO.LATINFO r k) 15 8 = (s.fld (FIO.LATINFO r k) 15 8 + 1) % 256 ∧ t.bit (HDR.EVT p) 4 = true
                  ∧ (more = true → t.bit (HDR.FLT p) 23 = true))))
        ∧ frame t) ∧
      (st = 1 → x.counted = true → (∀ k < 8, s.fioPresent r k = true → ∃ u, ups[k]? = some u ∧ u.crcOk = true ∧ u.status.getLsbD 5 = true) →
        State.Completes (.fioFrameReturn r n ups) s fun t => t.Ended a .done ∧ t.fioState r = 2 ∧ t.bit (HDR.EVT p) 0 = true ∧ frame t)) ∧
    (let cnt := s.staleCnt r
     (∀ k < 8,
       (s.fioPresent r k = true → 2 ≤ st → s.fioSlot r k ≠ 4 → cnt ≤ Tab.get 0 x.misses k → State.Completes (.fioStale r k) s fun t =>
         t.fioSlot r k = 4 ∧ t.bit (HDR.FLT p) 17 = true ∧ State.SameRegs (fun y => State.reports p y ∨ y = FIO.SSTA r k) s t
         ∧ State.SameBytes s.recRing s t) ∧
       (s.fioPresent r k = false ∨ st < 2 ∨ s.fioSlot r k = 4 ∨ Tab.get 0 x.misses k < cnt → exec (.fioStale r k) s = .next s)) ∧
     (st = 2 → cnt ≤ x.lost → State.Completes (.fioBroken r) s fun t => t.fioState r = 3 ∧ t.bit (HDR.FLT p) 16 = true
       ∧ t.bit (HDR.EVT p) 2 = true ∧ State.SameRegs (fun y => State.reports p y ∨ y = a) s t ∧ State.SameBytes s.recRing s t) ∧
     (st ≠ 2 ∨ x.lost < cnt → exec (.fioBroken r) s = .next s)) ∧
    (∀ (k i : Nat) (v : Word), k < 8 →
      let queued := fun (j : Nat) (t : State) => Tab.get [] (t.fioOf r).queue j = Tab.get [] x.queue j ++ [i]
        ∧ t.num (FIO.PPEND r j) = Nat.min 255 ((Tab.get [] x.queue j).length + 1)
      (64 < i → exec (.fioParamWrite r k i v) s = .next s) ∧
      (i = 64 → wfld v 7 0 = 0 → State.Completes (.fioParamWrite r k i v) s fun t => t.bit (HDR.FLT p) 0 = true ∧ frame t) ∧
      (i = 64 → wfld v 7 0 ≠ 0 → State.Completes (.fioParamWrite r k i v) s fun t => t.fld (FIO.RCFG r) 7 0 = wfld v 7 0
        ∧ (∀ j < 8, s.fioPresent r j = true → queued j t) ∧ t.mem = s.mem) ∧
      (i < 64 → s.fioPresent r k = false → State.Completes (.fioParamWrite r k i v) s fun t => t.bit (HDR.FLT p) 2 = true
        ∧ State.SameRegs (State.reports p) s t) ∧
      (i < 32 → s.fioPresent r k = true → State.Completes (.fioParamWrite r k i v) s fun t => t.rd (FIO.CHCFG r k i) = v &&& 0xFF3F
        ∧ queued k t ∧ State.SameRegs (fun y => y = FIO.CHCFG r k i ∨ y = HDR.SEQ p ∨ y = FIO.PPEND r k) s t ∧ t.mem = s.mem) ∧
      (32 ≤ i → i < 64 → s.fioPresent r k = true →
        (wfld v 15 0 < 200 → State.Completes (.fioParamWrite r k i v) s fun t => t.bit (HDR.FLT p) 0 = true
          ∧ State.SameRegs (State.reports p) s t) ∧
        (200 ≤ wfld v 15 0 → State.Completes (.fioParamWrite r k i v) s fun t => t.rd (FIO.PWM r k (i - 32)) = v ∧ queued k t
          ∧ State.SameRegs (fun y => y = FIO.PWM r k (i - 32) ∨ y = HDR.SEQ p ∨ y = FIO.PPEND r k) s t ∧ t.mem = s.mem)))) ∧
  (
  ∀ (s : State) (r k : Nat), r < 2 → k < 8 →
    let c := s.fioComp r k
    let same := fun (t : State) => t.regs = s.regs ∧ t.mem = s.mem
    (Tab.find (s.fioOf r).down k = none → ∀ ok pins, exec (.fioCompanionFrame r k ok pins) s = .next s) ∧
    (∀ (d : DownPart) (pins : Word), Tab.find (s.fioOf r).down k = some d →
      (State.Completes (.fioCompanionFrame r k false pins) s fun t =>
        t.fioComp r k = { c with crcFails := c.crcFails + 1, inp := pins, latch := none, more := false } ∧ same t) ∧
      (State.Completes (.fioCompanionFrame r k true pins) s fun t =>
        let e := t.fioComp r k
        e.out = d.out ∧ e.echo = d.cycle ∧ State.fioParam e d.index.toNat = d.value ∧ e.inp = pins ∧ e.latch = none ∧ e.more = false
        ∧ (c.safe = true → d.rel = false → e.safe = true ∧ e.driven = c.driven)
        ∧ (c.safe = false ∨ d.rel = true → e.safe = false
            ∧ ∀ ch < 32, e.driven.getLsbD ch = (decide (2 ≤ State.chMode e ch) && d.out.getLsbD ch && !e.ovc.getLsbD ch))
        ∧ (∀ ch < 32, c.out.getLsbD ch ≠ d.out.getLsbD ch → e.ovc.getLsbD ch = false)
        ∧ same t)) ∧
    (State.Completes (.fioSafetoExpiry r k) s fun t => (t.fioComp r k).safe = true
      ∧ (∀ ch < 32, 2 ≤ State.chMode c ch →
          (wfld (State.fioParam c ch) 3 2 = 0 → (t.fioComp r k).driven.getLsbD ch = false)
          ∧ (wfld (State.fioParam c ch) 3 2 = 1 → (t.fioComp r k).driven.getLsbD ch = !c.ovc.getLsbD ch)
          ∧ (wfld (State.fioParam c ch) 3 2 = 2 → (t.fioComp r k).driven.getLsbD ch = c.driven.getLsbD ch)
          ∧ (wfld (State.fioParam c ch) 3 2 = 3 → (t.fioComp r k).driven.getLsbD ch = false ∧ (t.fioComp r k).hiz.getLsbD ch = true))
      ∧ same t) ∧
    (∀ ch < 32,
      (c.driven.getLsbD ch = true → State.Completes (.fioOvercurrent r k ch) s fun t => (t.fioComp r k).ovc.getLsbD ch = true
        ∧ (t.fioComp r k).driven.getLsbD ch = false
        ∧ (∀ j, j ≠ ch → (t.fioComp r k).driven.getLsbD j = c.driven.getLsbD j) ∧ same t) ∧
      (c.driven.getLsbD ch = false → exec (.fioOvercurrent r k ch) s = .next s) ∧
      (∀ falling off, let p := State.fioParam c ch
        (wfld p 1 0 ≠ 1 ∨ p.getLsbD (if falling then 5 else 4) = false → exec (.fioLatchEdge r k ch falling off) s = .next s) ∧
        (wfld p 1 0 = 1 → p.getLsbD (if falling then 5 else 4) = true →
          (c.latch = none → State.Completes (.fioLatchEdge r k ch falling off) s fun t =>
            (t.fioComp r k).latch = some (BitVec.ofNat 5 ch, falling, BitVec.ofNat 24 off) ∧ same t) ∧
          (c.latch.isSome = true → State.Completes (.fioLatchEdge r k ch falling off) s fun t =>
            t.fioComp r k = { c with more := true } ∧ same t)))) ∧
    (∀ (b : Bool) (mv : Nat), let i := if b then 2 else 0
      State.Completes (.fioSupplyChange r k b mv) s fun t => let v := (t.fioComp r k).supply
        (mv < 12000 → v.getLsbD i = true) ∧ (12500 ≤ mv → v.getLsbD i = false)
        ∧ (12000 ≤ mv → mv < 12500 → v.getLsbD i = c.supply.getLsbD i)
        ∧ (mv < 19200 → v.getLsbD (i + 1) = true) ∧ (19700 ≤ mv → v.getLsbD (i + 1) = false)
        ∧ (19200 ≤ mv → mv < 19700 → v.getLsbD (i + 1) = c.supply.getLsbD (i + 1)) ∧ same t) ∧
    (State.Completes (.fioRctlResume r k) s fun t => (t.fioOf r).resume.getLsbD k = true ∧ t.fioComp r k = c ∧ same t))

/-! ### Modes, wake, power, references and heat -/

/-- R65, R77, R78, R173, R181, R288, R408, R477 to R481. -/
def Obligations.ModesAndWake : Prop :=
  ∀ s : State,
    let a := SYS.MODESTA
    let busy := s.busyOp a = true
    let woken := fun (i : Nat) (t : State) => t.newel.waiting = some 7 ∧ t.booted = false ∧ t.gal = [] ∧ t.axis = []
      ∧ t.bit HOST.WAKECAUSE i = true
    let kept := fun (i : Nat) (t : State) => t.bit HOST.WAKECAUSE i = true ∧ (s.host.linkL0 = true → t.bit (HDR.EVT pgHOST) 0 = true)
      ∧ (s.host.linkL0 = false → t.host.wakeLow = true) ∧ (busy → s.pwr.target = 0 → t.Ended a .rejState)
      ∧ State.SameRegs (fun y => State.reports pgHOST y ∨ y = HOST.WAKECAUSE ∨ y = a) s t ∧ State.SameBytes s.recRing s t
    (∀ m : BitVec 4,
      (busy → State.Completes (.modereqGo m) s fun t => t.bit (HDR.FLT pgSYS) 0 = true ∧ t.rd a = s.rd a
        ∧ State.SameRegs (fun y => State.reports pgSYS y ∨ y = SYS.MODEREQ ∨ y = HDR.SEQ pgSYS) s t) ∧
      (¬ busy →
        (s.modeCond m.toNat = none → State.Completes (.modereqGo m) s fun t => t.Ended a .rejState ∧ t.sysMode = s.sysMode
          ∧ State.SameRegs (fun y => y = SYS.MODEREQ ∨ y = HDR.SEQ pgSYS ∨ y = a) s t ∧ t.mem = s.mem) ∧
        (s.modeCond m.toNat = some false → State.Completes (.modereqGo m) s fun t => t.Ended a .rejState ∧ t.bit (HDR.FLT pgSYS) 16 = true
          ∧ t.sysMode = s.sysMode) ∧
        (s.modeCond m.toNat = some true → State.Completes (.modereqGo m) s fun t => t.phase a = 2 ∧ t.pwr.target = m.toNat
          ∧ t.sysMode = s.sysMode ∧ t.mem = s.mem
          ∧ (m = 0 ∨ m = 7 → s.busyOp REC.FSTA = false → 0 < s.unflushedCount → t.phase REC.FSTA = 2 ∧ t.recd.flushCause = 3)))) ∧
    (busy → s.isPast a = false → State.Completes .modereqAbort s fun t => t.Ended a .aborted ∧ State.SameRegs (fun y => y = a) s t
      ∧ t.mem = s.mem) ∧
    (let m := s.pwr.target
     let waits := (m = 0 ∨ m = 7) ∧ s.busyOp REC.FSTA = true ∨ m = 0 ∧ s.commits ≠ []
     (¬ busy ∨ waits → exec .modeChangeDone s = .next s) ∧
     (busy → ¬ waits → m < 16 → s.bal.committed = false → State.Completes .modeChangeDone s fun t => t.Ended a .done ∧ t.sysMode = m
       ∧ t.fld SYS.MODE 7 4 = s.sysMode ∧ t.fld SYS.MODE 15 8 = 0 ∧ t.bit (HDR.EVT pgSYS) 0 = true
       ∧ (m = 0 → t.bal.dormFail = if s.balState = 2 then some (s.fld BAL0.BSTA 15 8) else none)
       ∧ State.SameBytes (fun y => s.recRing y ∨ galBase 0 ≤ y ∧ y < galBase 18) s t)) ∧
    (s.fld THM.TSTEP 2 0 = 4 → s.bit SYS.LIMPCFG 20 = true → 2 ≤ s.sysMode → s.sysMode ≤ 4 → State.Completes .limpStep4Timer s fun t =>
      t.sysMode = 5 ∧ t.fld SYS.MODE 15 8 = 6 ∧ t.bit (HDR.FLT pgSYS) 17 = true ∧ t.bit (HDR.EVT pgSYS) 1 = true) ∧
    (s.fld THM.TSTEP 2 0 ≠ 4 ∨ s.bit SYS.LIMPCFG 20 = false → exec .limpStep4Timer s = .next s) ∧
    (∀ p, s.variant.present p = true →
      (3 ≤ s.fld (HDR.STA p) 10 8 → s.fld (HDR.CTL p) 5 4 ≠ 1 → State.Completes (.idleEntry p) s fun t => t.fld (HDR.STA p) 10 8 = 2
        ∧ State.SameRegs (fun y => y = HDR.STA p) s t ∧ t.mem = s.mem) ∧
      (s.fld (HDR.STA p) 10 8 < 3 ∨ s.fld (HDR.CTL p) 5 4 = 1 → exec (.idleEntry p) s = .next s)) ∧
    (let off := fun (p x : Nat) (c : Instr) => s.offView p = true → s.busyOp x = false → State.Completes c s fun t => t.Ended x .rejState
       ∧ State.SameRegs (fun y => State.reports p y ∨ y = x) s t ∧ State.SameBytes s.recRing s t ∧ t.gal = s.gal ∧ t.brg = s.brg
     (∀ g < s.variant.galleries, off (pgGAL g) (GAL.SCHSTA g) (.schctlCommit g) ∧ off (pgGAL g) (GAL.TRSTA g) (.trctlArm g)) ∧
     (∀ b < s.variant.bridges, off (pgBRG b) (BRG.XFERSTA b) (.xferctlArm b)) ∧
     (∀ r < s.variant.rings, off (pgRZL r) (RZL.RSTA r) (.rctlStart r) ∧ off (pgRZL r) (RZL.PTSTA r) (.ptctlStart r)) ∧
     (∀ n, s.offView pgROUTE = true → s.busyOp ROUTE.FCSTA = false → State.Completes (.fcctlCommit n) s fun t =>
       t.Ended ROUTE.FCSTA .rejState ∧ t.route = s.route ∧ t.mem = s.mem
       ∧ State.SameRegs (fun y => y = ROUTE.FCSTA ∨ y = ROUTE.FCCTL ∨ y = HDR.SEQ pgROUTE) s t) ∧
     off pgMIG MIG.MSTA .mctlStart ∧ off pgMIG MIG.TSTA .migTctlStart ∧
     (∀ own agree, off pgSTW STW.HOSTA (.sctlStart own agree)) ∧ off pgSTW STW.HOSTA .sctlHandover ∧
     off pgMEM MEM.SCRSTA .scrctlStart ∧ (s.memOps.retire = none → off pgMEM MEM.RETSTA .retctlStart) ∧
     (∀ c < s.variant.cans, off (pgCAN c) (CAN.TSTA c) (.canTctlStart c)) ∧
     (s.variant.acq = true → off pgACQ ACQ.ASTA .actlArm) ∧ off pgREC REC.FLRDSTA .flrdctlStart ∧
     (∀ q < s.variant.stores, off (pgSTORE q) (STORE.SSTA q) (.storeSctlStop q) ∧
       ∀ sc force, off (pgSTORE q) (STORE.SSTA q) (.storeSctlStart q sc) ∧ off (pgSTORE q) (STORE.SSTA q) (.storeSctlFormat q force sc)) ∧
     (∀ r < 2, off (pgFIO r) (FIO.RSTA r) (.fioRctlStart r)) ∧
     (∀ req ch h, ch < 16 → (s.dmaOf ch).owner = req → s.dmaState ch ≠ 1 → off pgDMA (DMA.CSTA ch) (.cctlRun req ch h))) ∧
    (∀ i < 8, ∀ env,
      (s.bit HOST.WAKEEN i = false → s.sysMode ≠ 0 → exec (.wakeCause i env) s = .next s) ∧
      (s.bit HOST.WAKEEN i = true → s.sysMode ≠ 0 → State.Completes (.wakeCause i env) s (kept i)) ∧
      (s.bit HOST.WAKEEN i = true → s.sysMode = 0 → State.wakes i = true → s.newel.waiting = none → s.regsWf = true →
        woken i (s.wake i) ∧ exec (.wakeCause i env) s = exec (.newelRelease env) (s.wake i))) ∧
    (s.bit HOST.WAKEEN 2 = false → exec .ignWake s = .next s) ∧
    (s.bit HOST.WAKEEN 2 = true → s.sysMode ≠ 0 → State.Completes .ignWake s (kept 2)) ∧
    (s.sysMode = 0 → s.newel.waiting = none → s.regsWf = true →
      (s.bit HOST.WAKEEN 2 = true → State.Completes .ignWake s (woken 2)) ∧
      (s.bit HOST.WAKEEN 4 = true → s.rd PWR.WAKETMR ≠ 0 → State.Completes .waketmrExpiry s (woken 4)) ∧
      (s.bit HOST.WAKEEN 0 = true → ∀ c < s.variant.cans, s.bit (CAN.CFG c) 3 = true → State.Completes (.canWake c) s (woken 0))) ∧
    (s.sysMode ≠ 0 → exec .waketmrExpiry s = .next s ∧ ∀ c < s.variant.cans, exec (.canWake c) s = .next s) ∧
    (State.Completes .wakecauseRead s fun t => Tab.find t.host.resp 0 = some { value := (s.rd HOST.WAKECAUSE).setWidth 64 }
      ∧ t.rd HOST.WAKECAUSE = 0 ∧ (s.host.linkL0 = true → t.host.wakeLow = false) ∧ State.SameRegs (fun y => y = HOST.WAKECAUSE) s t
      ∧ t.mem = s.mem) ∧
    (State.Completes .pciePerstRise s fun t => t.host.perst = false ∧ t.fld (HDR.STA pgHOST) 3 0 = 1
      ∧ State.SameRegs (fun y => y = HDR.STA pgHOST) s t ∧ t.mem = s.mem) ∧
    (s.regsWf = true → State.Completes .pciePerstFall s fun t => t.host.perst = true ∧ t.host.linkL0 = false
      ∧ t.fld (HDR.STA pgHOST) 3 0 = 1 ∧ State.SameRegs (fun y => y / 0x1000 = pgHOST) s t ∧ t.mem = s.mem) ∧
    (∀ (aspm : BitVec 3) (speed width : BitVec 4), let l0 := aspm = 0 ∧ width ≠ 0
      (s.host.perst = true → exec (.pcieLinkStateChange aspm speed width) s = .next s) ∧
      (s.host.perst = false → State.Completes (.pcieLinkStateChange aspm speed width) s fun t =>
        t.num HOST.LINK = speed.toNat + width.toNat * 16 + aspm.toNat * 256 ∧ t.host.linkL0 = decide l0
        ∧ (l0 → t.fld (HDR.STA pgHOST) 3 0 = (if s.bit (HDR.CTL pgHOST) 0 then 3 else 2) ∧ t.host.busMaster = true
            ∧ (s.rd HOST.WAKECAUSE = 0 → t.host.wakeLow = false))
        ∧ State.SameRegs (fun y => y = HOST.LINK ∨ y = HDR.STA pgHOST) s t ∧ t.mem = s.mem)) ∧
    (∀ r < s.variant.rings, ∀ port < 2, State.Completes (.rzlBlockLockGained r port) s fun t => t.bit (RZL.LANESTA r) port = true
      ∧ (s.bit (RZL.LANESTA r) (1 - port) = true → s.fld (RZL.LANESTA r) 5 4 = 3 → s.ringState r = 3 → t.ringState r = 2)
      ∧ (s.ringState r ≠ 3 → t.ringState r = s.ringState r)
      ∧ State.SameRegs (fun y => y = RZL.LANESTA r ∨ y = RZL.RSTA r) s t ∧ t.mem = s.mem) ∧
    (∀ lane < 4, ∀ lock, State.Completes (.stwLaneLockChange lane lock) s fun t => t.bit STW.LANESTA lane = lock
      ∧ t.bit STW.LANESTA 8 = decide (t.fld STW.LANESTA 1 0 ≠ 0) ∧ t.bit STW.LANESTA 9 = decide (t.fld STW.LANESTA 3 2 ≠ 0)
      ∧ (s.bit STW.LANESTA lane = true → lock = false → t.bit (HDR.FLT pgSTW) 18 = true)
      ∧ State.SameRegs (fun y => State.reports pgSTW y ∨ y = STW.LANESTA) s t ∧ State.SameBytes s.recRing s t)

/-- R346, R483 to R489, R491, R492, R496, R516. -/
def Obligations.Supplies : Prop :=
  ∀ s : State,
    let sel := PWR.SELSTA
    let sup := PWR.SUPSTA
    let cnt := PWR.SWCNT
    let ref := CLK.REFSTA
    let up := fun (hi lo : Nat) (t : State) => t.fld cnt hi lo = Nat.min 0xFFFF (s.fld cnt hi lo + 1)
    let flt := fun (p b : Nat) (t : State) => t.bit (HDR.FLT p) b = true
    let evt := fun (p b : Nat) (t : State) => t.bit (HDR.EVT p) b = true
    let pwrOnly := fun (t : State) => State.SameRegs (State.onPage pgPWR) s t ∧ State.SameBytes s.recRing s t
    let stopped := fun (t : State) => t.pwr = { dead := true } ∧ t.booted = false ∧ t.gal = [] ∧ t.axis = [] ∧ t.commits = []
      ∧ t.newel.waiting = none
    let clears := fun (t : State) => t.booted = false ∧ t.gal = [] ∧ t.axis = [] ∧ t.commits = [] ∧ t.bal = {}
    (s.powered = false → (∀ r < 4, exec (.mainExcursion r) s = .next s ∧ exec (.backupExcursion r) s = .next s)
      ∧ (∀ ms, exec (.mainReturn ms) s = .next s) ∧ exec .powerCycle s = .next s) ∧
    (s.powered = true → s.pwr.testing = false → ∀ r < 4,
      (s.rd sel = 0 → s.fld sup 7 4 = 15 → s.bal.committed = false → State.Completes (.mainExcursion r) s fun t => t.rd sel = 0xFF
        ∧ t.bit sup r = false ∧ t.bit sup 9 = true ∧ t.fld PWR.SWLAST 19 16 = r ∧ up 15 0 t ∧ flt pgPWR 16 t ∧ evt pgPWR 0 t
        ∧ (s.sysMode = 0 → t.sysMode = 0 ∧ pwrOnly t)
        ∧ (s.sysMode ≠ 0 → s.bit PWR.PWRCFG 0 = true → s.bit REC.RCFG 0 = false → s.busyOp REC.FSTA = false → s.unflushedCount = 0 →
            t.sysMode = 7 ∧ t.fld SYS.MODE 15 8 = 4 ∧ evt pgPWR 3 t)) ∧
      (s.rd sel = 0 → s.fld sup 7 4 ≠ 15 → State.Completes (.mainExcursion r) s stopped) ∧
      (s.rd sel ≠ 0 → (State.Completes (.mainExcursion r) s fun t => t.bit sup r = false ∧ State.SameRegs (fun y => y = sup) s t ∧ t.mem = s.mem)
        ∧ State.Completes (.backupExcursion r) s stopped) ∧
      (s.rd sel = 0 → State.Completes (.backupExcursion r) s fun t => t.bit sup (4 + r) = false ∧ flt pgPWR 17 t ∧ t.rd sel = 0 ∧ pwrOnly t)) ∧
    (s.powered = true → s.pwr.testing = true → ∀ r < 4, State.Completes (.backupExcursion r) s fun t => t.Ended PWR.SWSTA .rejState
      ∧ t.rd sel = 0 ∧ t.pwr.testing = false ∧ t.bit sup (4 + r) = false ∧ up 31 16 t ∧ flt pgPWR 18 t ∧ evt pgPWR 1 t ∧ pwrOnly t) ∧
    (∀ ms,
      (s.powered = true → s.rd sel ≠ 0 → s.pwr.testing = false → State.Completes (.mainReturn ms) s fun t => t.rd sel = 0
        ∧ t.fld sup 3 0 = 15 ∧ t.bit sup 9 = false ∧ t.fld PWR.SWLAST 15 0 = Nat.min ms 0xFFFF ∧ up 31 16 t ∧ evt pgPWR 1 t ∧ pwrOnly t) ∧
      (s.rd sel = 0 → exec (.mainReturn ms) s = .next s) ∧
      (s.pwr.testing = true → State.Completes (.switchTestHoldEnd ms) s fun t => t.Ended PWR.SWSTA .done ∧ t.rd sel = 0
        ∧ t.pwr.testing = false ∧ t.fld PWR.SWLAST 15 0 = Nat.min ms 0xFFFF ∧ evt pgPWR 1 t ∧ evt pgPWR 2 t ∧ pwrOnly t) ∧
      (s.pwr.testing = false → exec (.switchTestHoldEnd ms) s = .next s)) ∧
    (s.busyOp PWR.SWSTA = true → (State.Completes .swctlTest s fun t => flt pgPWR 0 t ∧ t.pwr = s.pwr ∧ pwrOnly t) ∧
      (s.isPast PWR.SWSTA = false → State.Completes .swctlAbort s fun t => t.Ended PWR.SWSTA .aborted ∧ t.rd sel = 0
        ∧ t.pwr.testing = false ∧ up 31 16 t ∧ evt pgPWR 1 t ∧ pwrOnly t)) ∧
    (s.busyOp PWR.SWSTA = false →
      (s.fld sup 7 4 ≠ 15 ∨ s.rd sel ≠ 0 → State.Completes .swctlTest s fun t => t.Ended PWR.SWSTA .rejState ∧ t.pwr = s.pwr ∧ pwrOnly t) ∧
      (s.fld sup 7 4 = 15 → s.rd sel = 0 → State.Completes .swctlTest s fun t => t.phase PWR.SWSTA = 2 ∧ t.pwr.testing = true
        ∧ t.rd sel = 0xFF ∧ up 15 0 t ∧ evt pgPWR 0 t ∧ pwrOnly t)) ∧
    (s.powered = true → State.Completes .powerCycle s fun t => t.pwr = { cycling := true } ∧ clears t ∧ t.newel.waiting = none) ∧
    (∀ env,
      (s.pwr.cycling = false → exec (.powerCycleRestore env) s = .next s) ∧
      (s.pwr.cycling = true → s.fld ref 1 0 = 0 → State.Completes (.powerCycleRestore env) s fun t => t.pwr = { waitRef := true }
        ∧ t.newel.waiting = some 1 ∧ t.num SYS.PCYCLE = Nat.min 0xFFFFFFFF (s.num SYS.PCYCLE + 1) ∧ t.rd sel = 0 ∧ t.fld sup 3 0 = 15
        ∧ t.bit HOST.WAKECAUSE 7 = true)) ∧
    (∀ m b ra rb,
      (s.pwr.cycling = true ∨ (s.pwr.held = false ∧ s.pwr.dead = false ∧ s.newel.waiting ≠ some 1) → exec (.powerUp m b ra rb) s = .next s) ∧
      (m = true ∨ b = true → s.pwr.cycling = false → s.pwr.held = true ∨ s.pwr.dead = true ∨ s.newel.waiting = some 1 → s.regsWf = true →
        s.bal.committed = false → State.Completes (.powerUp m b ra rb) s fun t => clears t ∧ t.newel.waiting = some 1
          ∧ t.pwr = { waitRef := !(ra || rb) } ∧ t.num SYS.PCYCLE = Nat.min 0xFFFFFFFF (s.num SYS.PCYCLE + 1)
          ∧ t.rd sel = (if m then 0 else 0xFF) ∧ t.num sup = 15 * b01 m + 240 * b01 b + 256 + 512 * b01 (!m)
          ∧ t.bit ref 0 = ra ∧ t.bit ref 1 = rb ∧ t.bit ref 2 = (!ra && rb) ∧ t.bit ref 5 = (ra || rb))) ∧
    (exec (.powerUp false false true true) s = .next s) ∧
    (State.Completes .porstNFall s fun t => t.pwr = { held := true } ∧ clears t ∧ t.newel.waiting = none) ∧
    (State.Completes .bothSupplySetsLost s fun t => stopped t ∧ (∀ x rest, s.commits = x :: rest → t.nvm.torn = true
      ∧ t.nvm.cut = some (x.kind, x.done, 3))) ∧
    (∀ b : Bool, let k := b01 b
      let clk := fun (t : State) => State.SameRegs (State.onPage pgCLK) s t ∧ State.SameBytes s.recRing s t
      (s.refHere b = false → exec (.referenceLoss b) s = .next s) ∧
      (s.refHere b = true → State.Completes (.referenceLoss b) s fun t => t.bit ref k = false ∧ flt pgCLK (16 + k) t
        ∧ t.fld CLK.REFCNT 31 16 = Nat.min 0xFFFF (s.fld CLK.REFCNT 31 16 + 1)
        ∧ (s.refB = b → s.refHere (!b) = true → t.refB = !b ∧ evt pgCLK 0 t
            ∧ t.fld CLK.REFCNT 15 0 = Nat.min 0xFFFF (s.fld CLK.REFCNT 15 0 + 1))
        ∧ (s.refB ≠ b ∨ s.refHere (!b) = false → t.refB = s.refB) ∧ clk t) ∧
      (State.Completes (.referenceReturn b) s fun t => t.refHere b = true ∧ evt pgCLK 1 t
        ∧ (s.refHere s.refB = true → s.refB ≠ b → s.bit ref 5 = true → t.refB = s.refB)
        ∧ (s.refHere s.refB = false ∨ s.bit ref 5 = false → t.refB = b ∧ t.bit ref 5 = true ∧ t.pwr.waitRef = false) ∧ clk t) ∧
      (∀ diff da db : Int,
        (s.timeSource ≠ 1 → s.timeSource ≠ 2 → State.Completes (.referenceCompare diff da db) s fun t => t.rd ref = s.rd ref
          ∧ (s.refHere false = true → s.refHere true = true → t.rd CLK.REFDIFF = satInt 32 diff ∧ (25600 < diff.natAbs → flt pgCLK 18 t))
          ∧ clk t) ∧
        (s.timeSource = 1 ∨ s.timeSource = 2 → s.refHere b = true → 25600 < (if b then db else da).natAbs →
          State.Completes (.referenceCompare diff da db) s fun t => t.refBad b = true ∧ clk t
            ∧ (s.refB = b → s.refHere (!b) = true → s.refBad (!b) = false → (if b then da else db).natAbs ≤ 25600 →
                t.refB = !b ∧ flt pgCLK (16 + k) t ∧ evt pgCLK 0 t))) ∧
      (s.bit CLK.REFCFG 0 = b →
        (s.bit CLK.REFCFG 1 = true → s.refB ≠ b → s.refHere b = true → s.refBad b = false → State.Completes .referenceRevert s fun t =>
          t.refB = b ∧ evt pgCLK 0 t ∧ clk t) ∧
        (s.bit CLK.REFCFG 1 = false ∨ s.refB = b ∨ s.refHere b = false ∨ s.refBad b = true → exec .referenceRevert s = .next s))) ∧
    (s.bal.committed = false → State.Completes .bothReferencesLost s fun t => t.fld ref 1 0 = 0 ∧ t.bit ref 5 = false ∧ flt pgCLK 19 t
      ∧ (s.booted = true → s.sysMode ≠ 0 → t.sysMode = 7 ∧ t.fld SYS.MODE 15 8 = 5)) ∧
    (∀ ch < 64, ∀ raw : Int,
      let ok := decide (-880 ≤ raw ∧ raw ≤ 2800)
      let word := fun (v : Bool) => BitVec.ofNat 32 ((BitVec.ofInt 16 raw).toNat + 65536 * b01 v)
      (∀ i, State.sensorOf ch = some i → State.Completes (.housekeepingRead ch raw) s fun t => t.rd (THM.HK ch) = word ok
        ∧ t.rd (THM.TJ i) = word ok ∧ (ok = false → flt pgTHM 18 t)
        ∧ (t.bit THM.TJMAX 20 = true → t.fld THM.TSTEP 2 0 = t.stepNow (s.fld THM.TSTEP 2 0) (sint16 (t.fld THM.TJMAX 15 0)))
        ∧ State.SameBytes s.recRing s t) ∧
      (State.sensorOf ch = none → State.Completes (.housekeepingRead ch raw) s fun t =>
        t.rd (THM.HK ch) = (if 46 ≤ ch then 0 else word (!decide (24 ≤ ch ∧ ch < 32 ∧ raw = -32768)))
        ∧ State.SameRegs (fun y => y = THM.HK ch) s t ∧ t.mem = s.mem)) ∧
    (State.Completes .deratingUpdate s fun t => State.SameBytes s.recRing s t ∧ ∀ ax < s.variant.axes,
      let lo := sint16 (s.fld (THM.DRT ax) 15 0)
      let hi := sint16 (s.fld (THM.DRT ax) 31 16)
      (hi ≤ lo → t.num (THM.DRTACT ax) = 0x10000)
      ∧ (lo < hi → ∀ v b, t.hottest ax = some (v, b) → t.num (THM.DRTACT ax) = State.derateFactor v lo hi + b * 2 ^ 24)
      ∧ (lo < hi → t.hottest ax = none → t.fld (THM.DRTACT ax) 16 0 = s.fld THM.DINV 16 0)
      ∧ (t.fld (THM.DRTACT ax) 16 0 < 0x10000 → 0x10000 ≤ s.fld (THM.DRTACT ax) 16 0 → flt pgTHM 19 t ∧ evt pgTHM 2 t))
end

