-- ==== Sys2Proof/Laws/Table.lean ====
section
/-!
SUPPORT. Laws of sparse tables: what is found after a write, and that writes keep the canonical form.
-/
namespace Sys2Proof.Machine

variable {α : Type}

@[simp] theorem Tab.find_put_same (t : Tab α) (k : Nat) (v : α) : Tab.find (Tab.put t k v) k = some v := by
  induction t with
  | nil => simp [Tab.put, Tab.find]
  | cons e t ih =>
    obtain ⟨k', v'⟩ := e
    unfold Tab.put
    split
    · simp [Tab.find]
    · split
      · simp [Tab.find]
      · rename_i h; simp [Tab.find, h, ih]

theorem Tab.find_put_ne (t : Tab α) {k j : Nat} (v : α) (h : j ≠ k) : Tab.find (Tab.put t k v) j = Tab.find t j := by
  induction t with
  | nil => simp [Tab.put, Tab.find, h]
  | cons e t ih =>
    obtain ⟨k', v'⟩ := e
    unfold Tab.put
    split
    · simp [Tab.find, h]
    · split
      · subst_vars; simp [Tab.find, h]
      · simp [Tab.find, ih]

@[simp] theorem Tab.get_put_same (d : α) (t : Tab α) (k : Nat) (v : α) : Tab.get d (Tab.put t k v) k = v := by
  simp [Tab.get]

theorem Tab.get_put_ne (d : α) (t : Tab α) {k j : Nat} (v : α) (h : j ≠ k) :
    Tab.get d (Tab.put t k v) j = Tab.get d t j := by simp [Tab.get, Tab.find_put_ne t v h]

/-- Every key of the table lies above `lo`. -/
theorem Tab.rising_above {lo : Nat} {t : Tab α} (h : Tab.rising (some lo) t = true) : ∀ e ∈ t, lo < e.1 := by
  induction t generalizing lo with
  | nil => simp
  | cons e t ih =>
    obtain ⟨k, v⟩ := e
    simp only [Tab.rising, Bool.and_eq_true, decide_eq_true_eq] at h
    intro x hx
    rcases List.mem_cons.1 hx with rfl | hx
    · exact h.1
    · have := ih h.2 x hx; omega

theorem Tab.find_none_of_above {lo k : Nat} {t : Tab α} (h : Tab.rising (some lo) t = true) (hk : k ≤ lo) :
    Tab.find t k = none := by
  induction t generalizing lo with
  | nil => rfl
  | cons e t ih =>
    obtain ⟨k', v'⟩ := e
    simp only [Tab.rising, Bool.and_eq_true, decide_eq_true_eq] at h
    have : k ≠ k' := by omega
    simp [Tab.find, this, ih h.2 (by omega)]

theorem Tab.rising_weaken {a b : Nat} {t : Tab α} (h : Tab.rising (some b) t = true) (hab : a ≤ b) :
    Tab.rising (some a) t = true := by
  cases t with
  | nil => rfl
  | cons e t =>
    obtain ⟨k, v⟩ := e
    simp only [Tab.rising, Bool.and_eq_true, decide_eq_true_eq] at h ⊢
    exact ⟨by omega, h.2⟩

theorem Tab.rising_put {lo k : Nat} (t : Tab α) (v : α) (h : Tab.rising (some lo) t = true) (hk : lo < k) :
    Tab.rising (some lo) (Tab.put t k v) = true := by
  induction t generalizing lo with
  | nil => simp [Tab.put, Tab.rising, hk]
  | cons e t ih =>
    obtain ⟨k', v'⟩ := e
    simp only [Tab.rising, Bool.and_eq_true, decide_eq_true_eq] at h
    unfold Tab.put
    split
    · rename_i h1; simp [Tab.rising, hk, h1, h.2]
    · split
      · subst_vars; simp [Tab.rising, hk, h.2]
      · rename_i h1 h2
        simp only [Tab.rising, Bool.and_eq_true, decide_eq_true_eq]
        exact ⟨h.1, ih h.2 (by omega)⟩

theorem Tab.rising_put_none {k : Nat} (t : Tab α) (v : α) (h : Tab.rising none t = true) :
    Tab.rising none (Tab.put t k v) = true := by
  cases t with
  | nil => rfl
  | cons e t =>
    obtain ⟨k', v'⟩ := e
    simp only [Tab.rising] at h
    unfold Tab.put
    split
    · rename_i h1; simp [Tab.rising, h1, h]
    · split
      · subst_vars; simpa [Tab.rising] using h
      · simp only [Tab.rising]
        exact Tab.rising_put t v h (by omega)

theorem Tab.rising_erase {lo k : Nat} (t : Tab α) (h : Tab.rising (some lo) t = true) :
    Tab.rising (some lo) (Tab.erase t k) = true := by
  induction t generalizing lo with
  | nil => rfl
  | cons e t ih =>
    obtain ⟨k', v'⟩ := e
    simp only [Tab.rising, Bool.and_eq_true, decide_eq_true_eq] at h
    unfold Tab.erase
    split
    · exact Tab.rising_weaken (ih h.2) (by omega)
    · simp only [Tab.rising, Bool.and_eq_true, decide_eq_true_eq]
      exact ⟨h.1, ih h.2⟩

theorem Tab.rising_none_of_some {lo : Nat} {t : Tab α} (h : Tab.rising (some lo) t = true) : Tab.rising none t = true := by
  cases t with
  | nil => rfl
  | cons e t =>
    obtain ⟨k, v⟩ := e
    simp only [Tab.rising, Bool.and_eq_true, decide_eq_true_eq] at h ⊢
    exact h.2

theorem Tab.rising_erase_none {k : Nat} (t : Tab α) (h : Tab.rising none t = true) :
    Tab.rising none (Tab.erase t k) = true := by
  cases t with
  | nil => rfl
  | cons e t =>
    obtain ⟨k', v'⟩ := e
    simp only [Tab.rising] at h
    unfold Tab.erase
    split
    · exact Tab.rising_none_of_some (Tab.rising_erase t h)
    · simp only [Tab.rising]; exact Tab.rising_erase t h

theorem Tab.mem_put {t : Tab α} {k : Nat} {v : α} {e : Nat × α} (h : e ∈ Tab.put t k v) : e = (k, v) ∨ e ∈ t := by
  induction t with
  | nil => simpa [Tab.put] using h
  | cons x t ih =>
    obtain ⟨k', v'⟩ := x
    unfold Tab.put at h
    split at h
    · simpa using h
    · split at h
      · simp only [List.mem_cons] at h ⊢; tauto
      · simp only [List.mem_cons] at h ⊢
        rcases h with h | h
        · tauto
        · have := ih h; tauto

theorem Tab.mem_erase {t : Tab α} {k : Nat} {e : Nat × α} (h : e ∈ Tab.erase t k) : e ∈ t := by
  induction t with
  | nil => simp [Tab.erase] at h
  | cons x t ih =>
    obtain ⟨k', v'⟩ := x
    unfold Tab.erase at h
    split at h
    · exact List.mem_cons_of_mem _ (ih h)
    · simp only [List.mem_cons] at h ⊢
      rcases h with h | h
      · tauto
      · have := ih h; tauto

theorem Tab.find_erase_ne (t : Tab α) {k j : Nat} (h : j ≠ k) : Tab.find (Tab.erase t k) j = Tab.find t j := by
  induction t with
  | nil => rfl
  | cons e t ih =>
    obtain ⟨k', v'⟩ := e
    unfold Tab.erase
    split
    · subst_vars; simp [Tab.find, h, ih]
    · simp [Tab.find, ih]

@[simp] theorem Tab.find_erase_same (t : Tab α) (k : Nat) : Tab.find (Tab.erase t k) k = none := by
  induction t with
  | nil => rfl
  | cons e t ih =>
    obtain ⟨k', v'⟩ := e
    unfold Tab.erase
    split
    · exact ih
    · rename_i h; simp [Tab.find, h, ih]

/-- A write in canonical form keeps the canonical form. -/
theorem Tab.wf_set [DecidableEq α] {d : Nat → Option α} {t : Tab α} (h : Tab.wf d t = true) (k : Nat) (v : α) :
    Tab.wf d (Tab.set (d k) t k v) = true := by
  simp only [Tab.wf, Bool.and_eq_true, List.all_eq_true, decide_eq_true_eq] at h ⊢
  unfold Tab.set
  split
  · exact ⟨Tab.rising_erase_none t h.1, fun e he => h.2 e (Tab.mem_erase he)⟩
  · rename_i hd
    refine ⟨Tab.rising_put_none t v h.1, fun e he => ?_⟩
    rcases Tab.mem_put he with rfl | he
    · exact hd
    · exact h.2 e he

/-- Dropping entries keeps the canonical form. -/
theorem Tab.wf_filter [DecidableEq α] {d : Nat → Option α} {t : Tab α} (h : Tab.wf d t = true) (p : Nat × α → Bool) :
    Tab.wf d (t.filter p) = true := by
  have key : ∀ (t : Tab α) (lo : Nat), Tab.rising (some lo) t = true → Tab.rising (some lo) (t.filter p) = true := by
    intro t
    induction t with
    | nil => intros; rfl
    | cons e t ih =>
      obtain ⟨k', v'⟩ := e
      intro lo h
      simp only [Tab.rising, Bool.and_eq_true, decide_eq_true_eq] at h
      rw [List.filter_cons]
      split
      · simp only [Tab.rising, Bool.and_eq_true, decide_eq_true_eq]; exact ⟨h.1, ih k' h.2⟩
      · exact Tab.rising_weaken (ih k' h.2) (by omega)
  simp only [Tab.wf, Bool.and_eq_true, List.all_eq_true, decide_eq_true_eq] at h ⊢
  refine ⟨?_, fun e he => h.2 e (List.mem_of_mem_filter he)⟩
  cases t with
  | nil => rfl
  | cons e t =>
    obtain ⟨k', v'⟩ := e
    have h1 := h.1
    simp only [Tab.rising] at h1
    rw [List.filter_cons]
    split
    · simp only [Tab.rising]; exact key t k' h1
    · exact Tab.rising_none_of_some (key t k' h1)

/-- What is found after a write: the value, unless it is the default. -/
theorem Tab.find_set_same [DecidableEq α] (d : Option α) (t : Tab α) (k : Nat) (v : α) :
    Tab.find (Tab.set d t k v) k = if d = some v then none else some v := by
  unfold Tab.set
  split <;> simp

@[simp] theorem Tab.get_set_same [DecidableEq α] (d : α) (t : Tab α) (k : Nat) (v : α) :
    Tab.get d (Tab.set (some d) t k v) k = v := by
  unfold Tab.get
  rw [Tab.find_set_same]
  split
  · rename_i h; simpa using h
  · rfl

theorem Tab.find_set_ne [DecidableEq α] (d : Option α) (t : Tab α) {k j : Nat} (v : α) (h : j ≠ k) :
    Tab.find (Tab.set d t k v) j = Tab.find t j := by
  unfold Tab.set
  split
  · exact Tab.find_erase_ne t h
  · exact Tab.find_put_ne t v h

theorem Tab.get_set_ne [DecidableEq α] (d e : α) (t : Tab α) {k j : Nat} (v : α) (h : j ≠ k) :
    Tab.get d (Tab.set (some e) t k v) j = Tab.get d t j := by
  simp [Tab.get, Tab.find_set_ne _ _ _ h]

end Sys2Proof.Machine
end

