-- ==== Sys2Proof/Laws/State.lean ====
section
/-!
SUPPORT. Laws of the state's updates: one lemma per update and per field that the update leaves alone, and what a
register, a byte and a unit read as after a write.
-/
namespace Sys2Proof.Machine
namespace State

variable (s : State)

@[simp] theorem wr_variant (a : Nat) (v : Word) : (s.wr a v).variant = s.variant := rfl
@[simp] theorem wr_mem (a : Nat) (v : Word) : (s.wr a v).mem = s.mem := rfl
@[simp] theorem wr_ecc (a : Nat) (v : Word) : (s.wr a v).ecc = s.ecc := rfl
@[simp] theorem wr_dramGen (a : Nat) (v : Word) : (s.wr a v).dramGen = s.dramGen := rfl
@[simp] theorem wr_free (a : Nat) (v : Word) : (s.wr a v).free = s.free := rfl
@[simp] theorem wr_booted (a : Nat) (v : Word) : (s.wr a v).booted = s.booted := rfl
@[simp] theorem wr_host (a : Nat) (v : Word) : (s.wr a v).host = s.host := rfl
@[simp] theorem wr_credits (a : Nat) (v : Word) : (s.wr a v).credits = s.credits := rfl
@[simp] theorem wr_pastCompletion (a : Nat) (v : Word) : (s.wr a v).pastCompletion = s.pastCompletion := rfl
@[simp] theorem wr_gal (a : Nat) (v : Word) : (s.wr a v).gal = s.gal := rfl
@[simp] theorem wr_brg (a : Nat) (v : Word) : (s.wr a v).brg = s.brg := rfl
@[simp] theorem wr_ring (a : Nat) (v : Word) : (s.wr a v).ring = s.ring := rfl
@[simp] theorem wr_galFault (a : Nat) (v : Word) : (s.wr a v).galFault = s.galFault := rfl
@[simp] theorem wr_mig (a : Nat) (v : Word) : (s.wr a v).mig = s.mig := rfl
@[simp] theorem wr_stw (a : Nat) (v : Word) : (s.wr a v).stw = s.stw := rfl
@[simp] theorem wr_bal (a : Nat) (v : Word) : (s.wr a v).bal = s.bal := rfl
@[simp] theorem wr_newel (a : Nat) (v : Word) : (s.wr a v).newel = s.newel := rfl
@[simp] theorem wr_hall (a : Nat) (v : Word) : (s.wr a v).hall = s.hall := rfl
@[simp] theorem wr_can (a : Nat) (v : Word) : (s.wr a v).can = s.can := rfl
@[simp] theorem wr_time (a : Nat) (v : Word) : (s.wr a v).time = s.time := rfl
@[simp] theorem wr_eth (a : Nat) (v : Word) : (s.wr a v).eth = s.eth := rfl
@[simp] theorem wr_pwr (a : Nat) (v : Word) : (s.wr a v).pwr = s.pwr := rfl
@[simp] theorem wr_vol (a : Nat) (v : Word) : (s.wr a v).vol = s.vol := rfl
@[simp] theorem wr_fio (a : Nat) (v : Word) : (s.wr a v).fio = s.fio := rfl
@[simp] theorem wr_axis (a : Nat) (v : Word) : (s.wr a v).axis = s.axis := rfl
@[simp] theorem wr_port (a : Nat) (v : Word) : (s.wr a v).port = s.port := rfl
@[simp] theorem wr_fbFault (a : Nat) (v : Word) : (s.wr a v).fbFault = s.fbFault := rfl
@[simp] theorem wr_sdm (a : Nat) (v : Word) : (s.wr a v).sdm = s.sdm := rfl
@[simp] theorem wr_emu (a : Nat) (v : Word) : (s.wr a v).emu = s.emu := rfl
@[simp] theorem wr_route (a : Nat) (v : Word) : (s.wr a v).route = s.route := rfl
@[simp] theorem wr_trg (a : Nat) (v : Word) : (s.wr a v).trg = s.trg := rfl
@[simp] theorem wr_grp (a : Nat) (v : Word) : (s.wr a v).grp = s.grp := rfl
@[simp] theorem wr_recd (a : Nat) (v : Word) : (s.wr a v).recd = s.recd := rfl
@[simp] theorem wr_nodes (a : Nat) (v : Word) : (s.wr a v).nodes = s.nodes := rfl
@[simp] theorem wr_acqBytes (a : Nat) (v : Word) : (s.wr a v).acqBytes = s.acqBytes := rfl
@[simp] theorem wr_maskStop (a : Nat) (v : Word) : (s.wr a v).maskStop = s.maskStop := rfl
@[simp] theorem wr_commits (a : Nat) (v : Word) : (s.wr a v).commits = s.commits := rfl
@[simp] theorem wr_nvm (a : Nat) (v : Word) : (s.wr a v).nvm = s.nvm := rfl
@[simp] theorem wr_memOps (a : Nat) (v : Word) : (s.wr a v).memOps = s.memOps := rfl
@[simp] theorem wr_pending (a : Nat) (v : Word) : (s.wr a v).pending = s.pending := rfl

@[simp] theorem wr64_variant (a : Nat) (v : Word64) : (s.wr64 a v).variant = s.variant := rfl
@[simp] theorem wr64_mem (a : Nat) (v : Word64) : (s.wr64 a v).mem = s.mem := rfl
@[simp] theorem wr64_ecc (a : Nat) (v : Word64) : (s.wr64 a v).ecc = s.ecc := rfl
@[simp] theorem wr64_dramGen (a : Nat) (v : Word64) : (s.wr64 a v).dramGen = s.dramGen := rfl
@[simp] theorem wr64_free (a : Nat) (v : Word64) : (s.wr64 a v).free = s.free := rfl
@[simp] theorem wr64_booted (a : Nat) (v : Word64) : (s.wr64 a v).booted = s.booted := rfl
@[simp] theorem wr64_host (a : Nat) (v : Word64) : (s.wr64 a v).host = s.host := rfl
@[simp] theorem wr64_credits (a : Nat) (v : Word64) : (s.wr64 a v).credits = s.credits := rfl
@[simp] theorem wr64_pastCompletion (a : Nat) (v : Word64) : (s.wr64 a v).pastCompletion = s.pastCompletion := rfl
@[simp] theorem wr64_gal (a : Nat) (v : Word64) : (s.wr64 a v).gal = s.gal := rfl
@[simp] theorem wr64_brg (a : Nat) (v : Word64) : (s.wr64 a v).brg = s.brg := rfl
@[simp] theorem wr64_ring (a : Nat) (v : Word64) : (s.wr64 a v).ring = s.ring := rfl
@[simp] theorem wr64_galFault (a : Nat) (v : Word64) : (s.wr64 a v).galFault = s.galFault := rfl
@[simp] theorem wr64_mig (a : Nat) (v : Word64) : (s.wr64 a v).mig = s.mig := rfl
@[simp] theorem wr64_stw (a : Nat) (v : Word64) : (s.wr64 a v).stw = s.stw := rfl
@[simp] theorem wr64_bal (a : Nat) (v : Word64) : (s.wr64 a v).bal = s.bal := rfl
@[simp] theorem wr64_newel (a : Nat) (v : Word64) : (s.wr64 a v).newel = s.newel := rfl
@[simp] theorem wr64_hall (a : Nat) (v : Word64) : (s.wr64 a v).hall = s.hall := rfl
@[simp] theorem wr64_can (a : Nat) (v : Word64) : (s.wr64 a v).can = s.can := rfl
@[simp] theorem wr64_time (a : Nat) (v : Word64) : (s.wr64 a v).time = s.time := rfl
@[simp] theorem wr64_eth (a : Nat) (v : Word64) : (s.wr64 a v).eth = s.eth := rfl
@[simp] theorem wr64_pwr (a : Nat) (v : Word64) : (s.wr64 a v).pwr = s.pwr := rfl
@[simp] theorem wr64_vol (a : Nat) (v : Word64) : (s.wr64 a v).vol = s.vol := rfl
@[simp] theorem wr64_fio (a : Nat) (v : Word64) : (s.wr64 a v).fio = s.fio := rfl
@[simp] theorem wr64_axis (a : Nat) (v : Word64) : (s.wr64 a v).axis = s.axis := rfl
@[simp] theorem wr64_port (a : Nat) (v : Word64) : (s.wr64 a v).port = s.port := rfl
@[simp] theorem wr64_fbFault (a : Nat) (v : Word64) : (s.wr64 a v).fbFault = s.fbFault := rfl
@[simp] theorem wr64_sdm (a : Nat) (v : Word64) : (s.wr64 a v).sdm = s.sdm := rfl
@[simp] theorem wr64_emu (a : Nat) (v : Word64) : (s.wr64 a v).emu = s.emu := rfl
@[simp] theorem wr64_route (a : Nat) (v : Word64) : (s.wr64 a v).route = s.route := rfl
@[simp] theorem wr64_trg (a : Nat) (v : Word64) : (s.wr64 a v).trg = s.trg := rfl
@[simp] theorem wr64_grp (a : Nat) (v : Word64) : (s.wr64 a v).grp = s.grp := rfl
@[simp] theorem wr64_recd (a : Nat) (v : Word64) : (s.wr64 a v).recd = s.recd := rfl
@[simp] theorem wr64_nodes (a : Nat) (v : Word64) : (s.wr64 a v).nodes = s.nodes := rfl
@[simp] theorem wr64_acqBytes (a : Nat) (v : Word64) : (s.wr64 a v).acqBytes = s.acqBytes := rfl
@[simp] theorem wr64_maskStop (a : Nat) (v : Word64) : (s.wr64 a v).maskStop = s.maskStop := rfl
@[simp] theorem wr64_commits (a : Nat) (v : Word64) : (s.wr64 a v).commits = s.commits := rfl
@[simp] theorem wr64_nvm (a : Nat) (v : Word64) : (s.wr64 a v).nvm = s.nvm := rfl
@[simp] theorem wr64_memOps (a : Nat) (v : Word64) : (s.wr64 a v).memOps = s.memOps := rfl
@[simp] theorem wr64_pending (a : Nat) (v : Word64) : (s.wr64 a v).pending = s.pending := rfl

@[simp] theorem setFld_variant (a hi lo v : Nat) : (s.setFld a hi lo v).variant = s.variant := rfl
@[simp] theorem setFld_mem (a hi lo v : Nat) : (s.setFld a hi lo v).mem = s.mem := rfl
@[simp] theorem setFld_ecc (a hi lo v : Nat) : (s.setFld a hi lo v).ecc = s.ecc := rfl
@[simp] theorem setFld_dramGen (a hi lo v : Nat) : (s.setFld a hi lo v).dramGen = s.dramGen := rfl
@[simp] theorem setFld_free (a hi lo v : Nat) : (s.setFld a hi lo v).free = s.free := rfl
@[simp] theorem setFld_booted (a hi lo v : Nat) : (s.setFld a hi lo v).booted = s.booted := rfl
@[simp] theorem setFld_host (a hi lo v : Nat) : (s.setFld a hi lo v).host = s.host := rfl
@[simp] theorem setFld_credits (a hi lo v : Nat) : (s.setFld a hi lo v).credits = s.credits := rfl
@[simp] theorem setFld_pastCompletion (a hi lo v : Nat) : (s.setFld a hi lo v).pastCompletion = s.pastCompletion := rfl
@[simp] theorem setFld_gal (a hi lo v : Nat) : (s.setFld a hi lo v).gal = s.gal := rfl
@[simp] theorem setFld_brg (a hi lo v : Nat) : (s.setFld a hi lo v).brg = s.brg := rfl
@[simp] theorem setFld_ring (a hi lo v : Nat) : (s.setFld a hi lo v).ring = s.ring := rfl
@[simp] theorem setFld_galFault (a hi lo v : Nat) : (s.setFld a hi lo v).galFault = s.galFault := rfl
@[simp] theorem setFld_mig (a hi lo v : Nat) : (s.setFld a hi lo v).mig = s.mig := rfl
@[simp] theorem setFld_stw (a hi lo v : Nat) : (s.setFld a hi lo v).stw = s.stw := rfl
@[simp] theorem setFld_bal (a hi lo v : Nat) : (s.setFld a hi lo v).bal = s.bal := rfl
@[simp] theorem setFld_newel (a hi lo v : Nat) : (s.setFld a hi lo v).newel = s.newel := rfl
@[simp] theorem setFld_hall (a hi lo v : Nat) : (s.setFld a hi lo v).hall = s.hall := rfl
@[simp] theorem setFld_can (a hi lo v : Nat) : (s.setFld a hi lo v).can = s.can := rfl
@[simp] theorem setFld_time (a hi lo v : Nat) : (s.setFld a hi lo v).time = s.time := rfl
@[simp] theorem setFld_eth (a hi lo v : Nat) : (s.setFld a hi lo v).eth = s.eth := rfl
@[simp] theorem setFld_pwr (a hi lo v : Nat) : (s.setFld a hi lo v).pwr = s.pwr := rfl
@[simp] theorem setFld_vol (a hi lo v : Nat) : (s.setFld a hi lo v).vol = s.vol := rfl
@[simp] theorem setFld_fio (a hi lo v : Nat) : (s.setFld a hi lo v).fio = s.fio := rfl
@[simp] theorem setFld_axis (a hi lo v : Nat) : (s.setFld a hi lo v).axis = s.axis := rfl
@[simp] theorem setFld_port (a hi lo v : Nat) : (s.setFld a hi lo v).port = s.port := rfl
@[simp] theorem setFld_fbFault (a hi lo v : Nat) : (s.setFld a hi lo v).fbFault = s.fbFault := rfl
@[simp] theorem setFld_sdm (a hi lo v : Nat) : (s.setFld a hi lo v).sdm = s.sdm := rfl
@[simp] theorem setFld_emu (a hi lo v : Nat) : (s.setFld a hi lo v).emu = s.emu := rfl
@[simp] theorem setFld_route (a hi lo v : Nat) : (s.setFld a hi lo v).route = s.route := rfl
@[simp] theorem setFld_trg (a hi lo v : Nat) : (s.setFld a hi lo v).trg = s.trg := rfl
@[simp] theorem setFld_grp (a hi lo v : Nat) : (s.setFld a hi lo v).grp = s.grp := rfl
@[simp] theorem setFld_recd (a hi lo v : Nat) : (s.setFld a hi lo v).recd = s.recd := rfl
@[simp] theorem setFld_nodes (a hi lo v : Nat) : (s.setFld a hi lo v).nodes = s.nodes := rfl
@[simp] theorem setFld_acqBytes (a hi lo v : Nat) : (s.setFld a hi lo v).acqBytes = s.acqBytes := rfl
@[simp] theorem setFld_maskStop (a hi lo v : Nat) : (s.setFld a hi lo v).maskStop = s.maskStop := rfl
@[simp] theorem setFld_commits (a hi lo v : Nat) : (s.setFld a hi lo v).commits = s.commits := rfl
@[simp] theorem setFld_nvm (a hi lo v : Nat) : (s.setFld a hi lo v).nvm = s.nvm := rfl
@[simp] theorem setFld_memOps (a hi lo v : Nat) : (s.setFld a hi lo v).memOps = s.memOps := rfl
@[simp] theorem setFld_pending (a hi lo v : Nat) : (s.setFld a hi lo v).pending = s.pending := rfl

@[simp] theorem setBit_variant (a i : Nat) (b : Bool) : (s.setBit a i b).variant = s.variant := rfl
@[simp] theorem setBit_mem (a i : Nat) (b : Bool) : (s.setBit a i b).mem = s.mem := rfl
@[simp] theorem setBit_ecc (a i : Nat) (b : Bool) : (s.setBit a i b).ecc = s.ecc := rfl
@[simp] theorem setBit_dramGen (a i : Nat) (b : Bool) : (s.setBit a i b).dramGen = s.dramGen := rfl
@[simp] theorem setBit_free (a i : Nat) (b : Bool) : (s.setBit a i b).free = s.free := rfl
@[simp] theorem setBit_booted (a i : Nat) (b : Bool) : (s.setBit a i b).booted = s.booted := rfl
@[simp] theorem setBit_host (a i : Nat) (b : Bool) : (s.setBit a i b).host = s.host := rfl
@[simp] theorem setBit_credits (a i : Nat) (b : Bool) : (s.setBit a i b).credits = s.credits := rfl
@[simp] theorem setBit_pastCompletion (a i : Nat) (b : Bool) : (s.setBit a i b).pastCompletion = s.pastCompletion := rfl
@[simp] theorem setBit_gal (a i : Nat) (b : Bool) : (s.setBit a i b).gal = s.gal := rfl
@[simp] theorem setBit_brg (a i : Nat) (b : Bool) : (s.setBit a i b).brg = s.brg := rfl
@[simp] theorem setBit_ring (a i : Nat) (b : Bool) : (s.setBit a i b).ring = s.ring := rfl
@[simp] theorem setBit_galFault (a i : Nat) (b : Bool) : (s.setBit a i b).galFault = s.galFault := rfl
@[simp] theorem setBit_mig (a i : Nat) (b : Bool) : (s.setBit a i b).mig = s.mig := rfl
@[simp] theorem setBit_stw (a i : Nat) (b : Bool) : (s.setBit a i b).stw = s.stw := rfl
@[simp] theorem setBit_bal (a i : Nat) (b : Bool) : (s.setBit a i b).bal = s.bal := rfl
@[simp] theorem setBit_newel (a i : Nat) (b : Bool) : (s.setBit a i b).newel = s.newel := rfl
@[simp] theorem setBit_hall (a i : Nat) (b : Bool) : (s.setBit a i b).hall = s.hall := rfl
@[simp] theorem setBit_can (a i : Nat) (b : Bool) : (s.setBit a i b).can = s.can := rfl
@[simp] theorem setBit_time (a i : Nat) (b : Bool) : (s.setBit a i b).time = s.time := rfl
@[simp] theorem setBit_eth (a i : Nat) (b : Bool) : (s.setBit a i b).eth = s.eth := rfl
@[simp] theorem setBit_pwr (a i : Nat) (b : Bool) : (s.setBit a i b).pwr = s.pwr := rfl
@[simp] theorem setBit_vol (a i : Nat) (b : Bool) : (s.setBit a i b).vol = s.vol := rfl
@[simp] theorem setBit_fio (a i : Nat) (b : Bool) : (s.setBit a i b).fio = s.fio := rfl
@[simp] theorem setBit_axis (a i : Nat) (b : Bool) : (s.setBit a i b).axis = s.axis := rfl
@[simp] theorem setBit_port (a i : Nat) (b : Bool) : (s.setBit a i b).port = s.port := rfl
@[simp] theorem setBit_fbFault (a i : Nat) (b : Bool) : (s.setBit a i b).fbFault = s.fbFault := rfl
@[simp] theorem setBit_sdm (a i : Nat) (b : Bool) : (s.setBit a i b).sdm = s.sdm := rfl
@[simp] theorem setBit_emu (a i : Nat) (b : Bool) : (s.setBit a i b).emu = s.emu := rfl
@[simp] theorem setBit_route (a i : Nat) (b : Bool) : (s.setBit a i b).route = s.route := rfl
@[simp] theorem setBit_trg (a i : Nat) (b : Bool) : (s.setBit a i b).trg = s.trg := rfl
@[simp] theorem setBit_grp (a i : Nat) (b : Bool) : (s.setBit a i b).grp = s.grp := rfl
@[simp] theorem setBit_recd (a i : Nat) (b : Bool) : (s.setBit a i b).recd = s.recd := rfl
@[simp] theorem setBit_nodes (a i : Nat) (b : Bool) : (s.setBit a i b).nodes = s.nodes := rfl
@[simp] theorem setBit_acqBytes (a i : Nat) (b : Bool) : (s.setBit a i b).acqBytes = s.acqBytes := rfl
@[simp] theorem setBit_maskStop (a i : Nat) (b : Bool) : (s.setBit a i b).maskStop = s.maskStop := rfl
@[simp] theorem setBit_commits (a i : Nat) (b : Bool) : (s.setBit a i b).commits = s.commits := rfl
@[simp] theorem setBit_nvm (a i : Nat) (b : Bool) : (s.setBit a i b).nvm = s.nvm := rfl
@[simp] theorem setBit_memOps (a i : Nat) (b : Bool) : (s.setBit a i b).memOps = s.memOps := rfl
@[simp] theorem setBit_pending (a i : Nat) (b : Bool) : (s.setBit a i b).pending = s.pending := rfl

@[simp] theorem count_variant (a hi lo d : Nat) : (s.count a hi lo d).variant = s.variant := rfl
@[simp] theorem count_mem (a hi lo d : Nat) : (s.count a hi lo d).mem = s.mem := rfl
@[simp] theorem count_ecc (a hi lo d : Nat) : (s.count a hi lo d).ecc = s.ecc := rfl
@[simp] theorem count_dramGen (a hi lo d : Nat) : (s.count a hi lo d).dramGen = s.dramGen := rfl
@[simp] theorem count_free (a hi lo d : Nat) : (s.count a hi lo d).free = s.free := rfl
@[simp] theorem count_booted (a hi lo d : Nat) : (s.count a hi lo d).booted = s.booted := rfl
@[simp] theorem count_host (a hi lo d : Nat) : (s.count a hi lo d).host = s.host := rfl
@[simp] theorem count_credits (a hi lo d : Nat) : (s.count a hi lo d).credits = s.credits := rfl
@[simp] theorem count_pastCompletion (a hi lo d : Nat) : (s.count a hi lo d).pastCompletion = s.pastCompletion := rfl
@[simp] theorem count_gal (a hi lo d : Nat) : (s.count a hi lo d).gal = s.gal := rfl
@[simp] theorem count_brg (a hi lo d : Nat) : (s.count a hi lo d).brg = s.brg := rfl
@[simp] theorem count_ring (a hi lo d : Nat) : (s.count a hi lo d).ring = s.ring := rfl
@[simp] theorem count_galFault (a hi lo d : Nat) : (s.count a hi lo d).galFault = s.galFault := rfl
@[simp] theorem count_mig (a hi lo d : Nat) : (s.count a hi lo d).mig = s.mig := rfl
@[simp] theorem count_stw (a hi lo d : Nat) : (s.count a hi lo d).stw = s.stw := rfl
@[simp] theorem count_bal (a hi lo d : Nat) : (s.count a hi lo d).bal = s.bal := rfl
@[simp] theorem count_newel (a hi lo d : Nat) : (s.count a hi lo d).newel = s.newel := rfl
@[simp] theorem count_hall (a hi lo d : Nat) : (s.count a hi lo d).hall = s.hall := rfl
@[simp] theorem count_can (a hi lo d : Nat) : (s.count a hi lo d).can = s.can := rfl
@[simp] theorem count_time (a hi lo d : Nat) : (s.count a hi lo d).time = s.time := rfl
@[simp] theorem count_eth (a hi lo d : Nat) : (s.count a hi lo d).eth = s.eth := rfl
@[simp] theorem count_pwr (a hi lo d : Nat) : (s.count a hi lo d).pwr = s.pwr := rfl
@[simp] theorem count_vol (a hi lo d : Nat) : (s.count a hi lo d).vol = s.vol := rfl
@[simp] theorem count_fio (a hi lo d : Nat) : (s.count a hi lo d).fio = s.fio := rfl
@[simp] theorem count_axis (a hi lo d : Nat) : (s.count a hi lo d).axis = s.axis := rfl
@[simp] theorem count_port (a hi lo d : Nat) : (s.count a hi lo d).port = s.port := rfl
@[simp] theorem count_fbFault (a hi lo d : Nat) : (s.count a hi lo d).fbFault = s.fbFault := rfl
@[simp] theorem count_sdm (a hi lo d : Nat) : (s.count a hi lo d).sdm = s.sdm := rfl
@[simp] theorem count_emu (a hi lo d : Nat) : (s.count a hi lo d).emu = s.emu := rfl
@[simp] theorem count_route (a hi lo d : Nat) : (s.count a hi lo d).route = s.route := rfl
@[simp] theorem count_trg (a hi lo d : Nat) : (s.count a hi lo d).trg = s.trg := rfl
@[simp] theorem count_grp (a hi lo d : Nat) : (s.count a hi lo d).grp = s.grp := rfl
@[simp] theorem count_recd (a hi lo d : Nat) : (s.count a hi lo d).recd = s.recd := rfl
@[simp] theorem count_nodes (a hi lo d : Nat) : (s.count a hi lo d).nodes = s.nodes := rfl
@[simp] theorem count_acqBytes (a hi lo d : Nat) : (s.count a hi lo d).acqBytes = s.acqBytes := rfl
@[simp] theorem count_maskStop (a hi lo d : Nat) : (s.count a hi lo d).maskStop = s.maskStop := rfl
@[simp] theorem count_commits (a hi lo d : Nat) : (s.count a hi lo d).commits = s.commits := rfl
@[simp] theorem count_nvm (a hi lo d : Nat) : (s.count a hi lo d).nvm = s.nvm := rfl
@[simp] theorem count_memOps (a hi lo d : Nat) : (s.count a hi lo d).memOps = s.memOps := rfl
@[simp] theorem count_pending (a hi lo d : Nat) : (s.count a hi lo d).pending = s.pending := rfl

@[simp] theorem keepMax_variant (a hi lo v : Nat) : (s.keepMax a hi lo v).variant = s.variant := rfl
@[simp] theorem keepMax_mem (a hi lo v : Nat) : (s.keepMax a hi lo v).mem = s.mem := rfl
@[simp] theorem keepMax_ecc (a hi lo v : Nat) : (s.keepMax a hi lo v).ecc = s.ecc := rfl
@[simp] theorem keepMax_dramGen (a hi lo v : Nat) : (s.keepMax a hi lo v).dramGen = s.dramGen := rfl
@[simp] theorem keepMax_free (a hi lo v : Nat) : (s.keepMax a hi lo v).free = s.free := rfl
@[simp] theorem keepMax_booted (a hi lo v : Nat) : (s.keepMax a hi lo v).booted = s.booted := rfl
@[simp] theorem keepMax_host (a hi lo v : Nat) : (s.keepMax a hi lo v).host = s.host := rfl
@[simp] theorem keepMax_credits (a hi lo v : Nat) : (s.keepMax a hi lo v).credits = s.credits := rfl
@[simp] theorem keepMax_pastCompletion (a hi lo v : Nat) : (s.keepMax a hi lo v).pastCompletion = s.pastCompletion := rfl
@[simp] theorem keepMax_gal (a hi lo v : Nat) : (s.keepMax a hi lo v).gal = s.gal := rfl
@[simp] theorem keepMax_brg (a hi lo v : Nat) : (s.keepMax a hi lo v).brg = s.brg := rfl
@[simp] theorem keepMax_ring (a hi lo v : Nat) : (s.keepMax a hi lo v).ring = s.ring := rfl
@[simp] theorem keepMax_galFault (a hi lo v : Nat) : (s.keepMax a hi lo v).galFault = s.galFault := rfl
@[simp] theorem keepMax_mig (a hi lo v : Nat) : (s.keepMax a hi lo v).mig = s.mig := rfl
@[simp] theorem keepMax_stw (a hi lo v : Nat) : (s.keepMax a hi lo v).stw = s.stw := rfl
@[simp] theorem keepMax_bal (a hi lo v : Nat) : (s.keepMax a hi lo v).bal = s.bal := rfl
@[simp] theorem keepMax_newel (a hi lo v : Nat) : (s.keepMax a hi lo v).newel = s.newel := rfl
@[simp] theorem keepMax_hall (a hi lo v : Nat) : (s.keepMax a hi lo v).hall = s.hall := rfl
@[simp] theorem keepMax_can (a hi lo v : Nat) : (s.keepMax a hi lo v).can = s.can := rfl
@[simp] theorem keepMax_time (a hi lo v : Nat) : (s.keepMax a hi lo v).time = s.time := rfl
@[simp] theorem keepMax_eth (a hi lo v : Nat) : (s.keepMax a hi lo v).eth = s.eth := rfl
@[simp] theorem keepMax_pwr (a hi lo v : Nat) : (s.keepMax a hi lo v).pwr = s.pwr := rfl
@[simp] theorem keepMax_vol (a hi lo v : Nat) : (s.keepMax a hi lo v).vol = s.vol := rfl
@[simp] theorem keepMax_fio (a hi lo v : Nat) : (s.keepMax a hi lo v).fio = s.fio := rfl
@[simp] theorem keepMax_axis (a hi lo v : Nat) : (s.keepMax a hi lo v).axis = s.axis := rfl
@[simp] theorem keepMax_port (a hi lo v : Nat) : (s.keepMax a hi lo v).port = s.port := rfl
@[simp] theorem keepMax_fbFault (a hi lo v : Nat) : (s.keepMax a hi lo v).fbFault = s.fbFault := rfl
@[simp] theorem keepMax_sdm (a hi lo v : Nat) : (s.keepMax a hi lo v).sdm = s.sdm := rfl
@[simp] theorem keepMax_emu (a hi lo v : Nat) : (s.keepMax a hi lo v).emu = s.emu := rfl
@[simp] theorem keepMax_route (a hi lo v : Nat) : (s.keepMax a hi lo v).route = s.route := rfl
@[simp] theorem keepMax_trg (a hi lo v : Nat) : (s.keepMax a hi lo v).trg = s.trg := rfl
@[simp] theorem keepMax_grp (a hi lo v : Nat) : (s.keepMax a hi lo v).grp = s.grp := rfl
@[simp] theorem keepMax_recd (a hi lo v : Nat) : (s.keepMax a hi lo v).recd = s.recd := rfl
@[simp] theorem keepMax_nodes (a hi lo v : Nat) : (s.keepMax a hi lo v).nodes = s.nodes := rfl
@[simp] theorem keepMax_acqBytes (a hi lo v : Nat) : (s.keepMax a hi lo v).acqBytes = s.acqBytes := rfl
@[simp] theorem keepMax_maskStop (a hi lo v : Nat) : (s.keepMax a hi lo v).maskStop = s.maskStop := rfl
@[simp] theorem keepMax_commits (a hi lo v : Nat) : (s.keepMax a hi lo v).commits = s.commits := rfl
@[simp] theorem keepMax_nvm (a hi lo v : Nat) : (s.keepMax a hi lo v).nvm = s.nvm := rfl
@[simp] theorem keepMax_memOps (a hi lo v : Nat) : (s.keepMax a hi lo v).memOps = s.memOps := rfl
@[simp] theorem keepMax_pending (a hi lo v : Nat) : (s.keepMax a hi lo v).pending = s.pending := rfl

@[simp] theorem putByte_variant (a : Nat) (v : Byte) : (s.putByte a v).variant = s.variant := rfl
@[simp] theorem putByte_regs (a : Nat) (v : Byte) : (s.putByte a v).regs = s.regs := rfl
@[simp] theorem putByte_ecc (a : Nat) (v : Byte) : (s.putByte a v).ecc = s.ecc := rfl
@[simp] theorem putByte_dramGen (a : Nat) (v : Byte) : (s.putByte a v).dramGen = s.dramGen := rfl
@[simp] theorem putByte_free (a : Nat) (v : Byte) : (s.putByte a v).free = s.free := rfl
@[simp] theorem putByte_booted (a : Nat) (v : Byte) : (s.putByte a v).booted = s.booted := rfl
@[simp] theorem putByte_host (a : Nat) (v : Byte) : (s.putByte a v).host = s.host := rfl
@[simp] theorem putByte_credits (a : Nat) (v : Byte) : (s.putByte a v).credits = s.credits := rfl
@[simp] theorem putByte_pastCompletion (a : Nat) (v : Byte) : (s.putByte a v).pastCompletion = s.pastCompletion := rfl
@[simp] theorem putByte_gal (a : Nat) (v : Byte) : (s.putByte a v).gal = s.gal := rfl
@[simp] theorem putByte_brg (a : Nat) (v : Byte) : (s.putByte a v).brg = s.brg := rfl
@[simp] theorem putByte_ring (a : Nat) (v : Byte) : (s.putByte a v).ring = s.ring := rfl
@[simp] theorem putByte_galFault (a : Nat) (v : Byte) : (s.putByte a v).galFault = s.galFault := rfl
@[simp] theorem putByte_mig (a : Nat) (v : Byte) : (s.putByte a v).mig = s.mig := rfl
@[simp] theorem putByte_stw (a : Nat) (v : Byte) : (s.putByte a v).stw = s.stw := rfl
@[simp] theorem putByte_bal (a : Nat) (v : Byte) : (s.putByte a v).bal = s.bal := rfl
@[simp] theorem putByte_newel (a : Nat) (v : Byte) : (s.putByte a v).newel = s.newel := rfl
@[simp] theorem putByte_hall (a : Nat) (v : Byte) : (s.putByte a v).hall = s.hall := rfl
@[simp] theorem putByte_can (a : Nat) (v : Byte) : (s.putByte a v).can = s.can := rfl
@[simp] theorem putByte_time (a : Nat) (v : Byte) : (s.putByte a v).time = s.time := rfl
@[simp] theorem putByte_eth (a : Nat) (v : Byte) : (s.putByte a v).eth = s.eth := rfl
@[simp] theorem putByte_pwr (a : Nat) (v : Byte) : (s.putByte a v).pwr = s.pwr := rfl
@[simp] theorem putByte_vol (a : Nat) (v : Byte) : (s.putByte a v).vol = s.vol := rfl
@[simp] theorem putByte_fio (a : Nat) (v : Byte) : (s.putByte a v).fio = s.fio := rfl
@[simp] theorem putByte_axis (a : Nat) (v : Byte) : (s.putByte a v).axis = s.axis := rfl
@[simp] theorem putByte_port (a : Nat) (v : Byte) : (s.putByte a v).port = s.port := rfl
@[simp] theorem putByte_fbFault (a : Nat) (v : Byte) : (s.putByte a v).fbFault = s.fbFault := rfl
@[simp] theorem putByte_sdm (a : Nat) (v : Byte) : (s.putByte a v).sdm = s.sdm := rfl
@[simp] theorem putByte_emu (a : Nat) (v : Byte) : (s.putByte a v).emu = s.emu := rfl
@[simp] theorem putByte_route (a : Nat) (v : Byte) : (s.putByte a v).route = s.route := rfl
@[simp] theorem putByte_trg (a : Nat) (v : Byte) : (s.putByte a v).trg = s.trg := rfl
@[simp] theorem putByte_grp (a : Nat) (v : Byte) : (s.putByte a v).grp = s.grp := rfl
@[simp] theorem putByte_recd (a : Nat) (v : Byte) : (s.putByte a v).recd = s.recd := rfl
@[simp] theorem putByte_nodes (a : Nat) (v : Byte) : (s.putByte a v).nodes = s.nodes := rfl
@[simp] theorem putByte_acqBytes (a : Nat) (v : Byte) : (s.putByte a v).acqBytes = s.acqBytes := rfl
@[simp] theorem putByte_maskStop (a : Nat) (v : Byte) : (s.putByte a v).maskStop = s.maskStop := rfl
@[simp] theorem putByte_commits (a : Nat) (v : Byte) : (s.putByte a v).commits = s.commits := rfl
@[simp] theorem putByte_nvm (a : Nat) (v : Byte) : (s.putByte a v).nvm = s.nvm := rfl
@[simp] theorem putByte_memOps (a : Nat) (v : Byte) : (s.putByte a v).memOps = s.memOps := rfl
@[simp] theorem putByte_pending (a : Nat) (v : Byte) : (s.putByte a v).pending = s.pending := rfl

@[simp] theorem putSyn_variant (w : Nat) (v : Byte) : (s.putSyn w v).variant = s.variant := rfl
@[simp] theorem putSyn_regs (w : Nat) (v : Byte) : (s.putSyn w v).regs = s.regs := rfl
@[simp] theorem putSyn_mem (w : Nat) (v : Byte) : (s.putSyn w v).mem = s.mem := rfl
@[simp] theorem putSyn_dramGen (w : Nat) (v : Byte) : (s.putSyn w v).dramGen = s.dramGen := rfl
@[simp] theorem putSyn_free (w : Nat) (v : Byte) : (s.putSyn w v).free = s.free := rfl
@[simp] theorem putSyn_booted (w : Nat) (v : Byte) : (s.putSyn w v).booted = s.booted := rfl
@[simp] theorem putSyn_host (w : Nat) (v : Byte) : (s.putSyn w v).host = s.host := rfl
@[simp] theorem putSyn_credits (w : Nat) (v : Byte) : (s.putSyn w v).credits = s.credits := rfl
@[simp] theorem putSyn_pastCompletion (w : Nat) (v : Byte) : (s.putSyn w v).pastCompletion = s.pastCompletion := rfl
@[simp] theorem putSyn_gal (w : Nat) (v : Byte) : (s.putSyn w v).gal = s.gal := rfl
@[simp] theorem putSyn_brg (w : Nat) (v : Byte) : (s.putSyn w v).brg = s.brg := rfl
@[simp] theorem putSyn_ring (w : Nat) (v : Byte) : (s.putSyn w v).ring = s.ring := rfl
@[simp] theorem putSyn_galFault (w : Nat) (v : Byte) : (s.putSyn w v).galFault = s.galFault := rfl
@[simp] theorem putSyn_mig (w : Nat) (v : Byte) : (s.putSyn w v).mig = s.mig := rfl
@[simp] theorem putSyn_stw (w : Nat) (v : Byte) : (s.putSyn w v).stw = s.stw := rfl
@[simp] theorem putSyn_bal (w : Nat) (v : Byte) : (s.putSyn w v).bal = s.bal := rfl
@[simp] theorem putSyn_newel (w : Nat) (v : Byte) : (s.putSyn w v).newel = s.newel := rfl
@[simp] theorem putSyn_hall (w : Nat) (v : Byte) : (s.putSyn w v).hall = s.hall := rfl
@[simp] theorem putSyn_can (w : Nat) (v : Byte) : (s.putSyn w v).can = s.can := rfl
@[simp] theorem putSyn_time (w : Nat) (v : Byte) : (s.putSyn w v).time = s.time := rfl
@[simp] theorem putSyn_eth (w : Nat) (v : Byte) : (s.putSyn w v).eth = s.eth := rfl
@[simp] theorem putSyn_pwr (w : Nat) (v : Byte) : (s.putSyn w v).pwr = s.pwr := rfl
@[simp] theorem putSyn_vol (w : Nat) (v : Byte) : (s.putSyn w v).vol = s.vol := rfl
@[simp] theorem putSyn_fio (w : Nat) (v : Byte) : (s.putSyn w v).fio = s.fio := rfl
@[simp] theorem putSyn_axis (w : Nat) (v : Byte) : (s.putSyn w v).axis = s.axis := rfl
@[simp] theorem putSyn_port (w : Nat) (v : Byte) : (s.putSyn w v).port = s.port := rfl
@[simp] theorem putSyn_fbFault (w : Nat) (v : Byte) : (s.putSyn w v).fbFault = s.fbFault := rfl
@[simp] theorem putSyn_sdm (w : Nat) (v : Byte) : (s.putSyn w v).sdm = s.sdm := rfl
@[simp] theorem putSyn_emu (w : Nat) (v : Byte) : (s.putSyn w v).emu = s.emu := rfl
@[simp] theorem putSyn_route (w : Nat) (v : Byte) : (s.putSyn w v).route = s.route := rfl
@[simp] theorem putSyn_trg (w : Nat) (v : Byte) : (s.putSyn w v).trg = s.trg := rfl
@[simp] theorem putSyn_grp (w : Nat) (v : Byte) : (s.putSyn w v).grp = s.grp := rfl
@[simp] theorem putSyn_recd (w : Nat) (v : Byte) : (s.putSyn w v).recd = s.recd := rfl
@[simp] theorem putSyn_nodes (w : Nat) (v : Byte) : (s.putSyn w v).nodes = s.nodes := rfl
@[simp] theorem putSyn_acqBytes (w : Nat) (v : Byte) : (s.putSyn w v).acqBytes = s.acqBytes := rfl
@[simp] theorem putSyn_maskStop (w : Nat) (v : Byte) : (s.putSyn w v).maskStop = s.maskStop := rfl
@[simp] theorem putSyn_commits (w : Nat) (v : Byte) : (s.putSyn w v).commits = s.commits := rfl
@[simp] theorem putSyn_nvm (w : Nat) (v : Byte) : (s.putSyn w v).nvm = s.nvm := rfl
@[simp] theorem putSyn_memOps (w : Nat) (v : Byte) : (s.putSyn w v).memOps = s.memOps := rfl
@[simp] theorem putSyn_pending (w : Nat) (v : Byte) : (s.putSyn w v).pending = s.pending := rfl

@[simp] theorem putCredit_variant (l : Landing) (p : Nat) (c : Credit) : (s.putCredit l p c).variant = s.variant := rfl
@[simp] theorem putCredit_regs (l : Landing) (p : Nat) (c : Credit) : (s.putCredit l p c).regs = s.regs := rfl
@[simp] theorem putCredit_mem (l : Landing) (p : Nat) (c : Credit) : (s.putCredit l p c).mem = s.mem := rfl
@[simp] theorem putCredit_ecc (l : Landing) (p : Nat) (c : Credit) : (s.putCredit l p c).ecc = s.ecc := rfl
@[simp] theorem putCredit_dramGen (l : Landing) (p : Nat) (c : Credit) : (s.putCredit l p c).dramGen = s.dramGen := rfl
@[simp] theorem putCredit_free (l : Landing) (p : Nat) (c : Credit) : (s.putCredit l p c).free = s.free := rfl
@[simp] theorem putCredit_booted (l : Landing) (p : Nat) (c : Credit) : (s.putCredit l p c).booted = s.booted := rfl
@[simp] theorem putCredit_host (l : Landing) (p : Nat) (c : Credit) : (s.putCredit l p c).host = s.host := rfl
@[simp] theorem putCredit_pastCompletion (l : Landing) (p : Nat) (c : Credit) : (s.putCredit l p c).pastCompletion = s.pastCompletion := rfl
@[simp] theorem putCredit_gal (l : Landing) (p : Nat) (c : Credit) : (s.putCredit l p c).gal = s.gal := rfl
@[simp] theorem putCredit_brg (l : Landing) (p : Nat) (c : Credit) : (s.putCredit l p c).brg = s.brg := rfl
@[simp] theorem putCredit_ring (l : Landing) (p : Nat) (c : Credit) : (s.putCredit l p c).ring = s.ring := rfl
@[simp] theorem putCredit_galFault (l : Landing) (p : Nat) (c : Credit) : (s.putCredit l p c).galFault = s.galFault := rfl
@[simp] theorem putCredit_mig (l : Landing) (p : Nat) (c : Credit) : (s.putCredit l p c).mig = s.mig := rfl
@[simp] theorem putCredit_stw (l : Landing) (p : Nat) (c : Credit) : (s.putCredit l p c).stw = s.stw := rfl
@[simp] theorem putCredit_bal (l : Landing) (p : Nat) (c : Credit) : (s.putCredit l p c).bal = s.bal := rfl
@[simp] theorem putCredit_newel (l : Landing) (p : Nat) (c : Credit) : (s.putCredit l p c).newel = s.newel := rfl
@[simp] theorem putCredit_hall (l : Landing) (p : Nat) (c : Credit) : (s.putCredit l p c).hall = s.hall := rfl
@[simp] theorem putCredit_can (l : Landing) (p : Nat) (c : Credit) : (s.putCredit l p c).can = s.can := rfl
@[simp] theorem putCredit_time (l : Landing) (p : Nat) (c : Credit) : (s.putCredit l p c).time = s.time := rfl
@[simp] theorem putCredit_eth (l : Landing) (p : Nat) (c : Credit) : (s.putCredit l p c).eth = s.eth := rfl
@[simp] theorem putCredit_pwr (l : Landing) (p : Nat) (c : Credit) : (s.putCredit l p c).pwr = s.pwr := rfl
@[simp] theorem putCredit_vol (l : Landing) (p : Nat) (c : Credit) : (s.putCredit l p c).vol = s.vol := rfl
@[simp] theorem putCredit_fio (l : Landing) (p : Nat) (c : Credit) : (s.putCredit l p c).fio = s.fio := rfl
@[simp] theorem putCredit_axis (l : Landing) (p : Nat) (c : Credit) : (s.putCredit l p c).axis = s.axis := rfl
@[simp] theorem putCredit_port (l : Landing) (p : Nat) (c : Credit) : (s.putCredit l p c).port = s.port := rfl
@[simp] theorem putCredit_fbFault (l : Landing) (p : Nat) (c : Credit) : (s.putCredit l p c).fbFault = s.fbFault := rfl
@[simp] theorem putCredit_sdm (l : Landing) (p : Nat) (c : Credit) : (s.putCredit l p c).sdm = s.sdm := rfl
@[simp] theorem putCredit_emu (l : Landing) (p : Nat) (c : Credit) : (s.putCredit l p c).emu = s.emu := rfl
@[simp] theorem putCredit_route (l : Landing) (p : Nat) (c : Credit) : (s.putCredit l p c).route = s.route := rfl
@[simp] theorem putCredit_trg (l : Landing) (p : Nat) (c : Credit) : (s.putCredit l p c).trg = s.trg := rfl
@[simp] theorem putCredit_grp (l : Landing) (p : Nat) (c : Credit) : (s.putCredit l p c).grp = s.grp := rfl
@[simp] theorem putCredit_recd (l : Landing) (p : Nat) (c : Credit) : (s.putCredit l p c).recd = s.recd := rfl
@[simp] theorem putCredit_nodes (l : Landing) (p : Nat) (c : Credit) : (s.putCredit l p c).nodes = s.nodes := rfl
@[simp] theorem putCredit_acqBytes (l : Landing) (p : Nat) (c : Credit) : (s.putCredit l p c).acqBytes = s.acqBytes := rfl
@[simp] theorem putCredit_maskStop (l : Landing) (p : Nat) (c : Credit) : (s.putCredit l p c).maskStop = s.maskStop := rfl
@[simp] theorem putCredit_commits (l : Landing) (p : Nat) (c : Credit) : (s.putCredit l p c).commits = s.commits := rfl
@[simp] theorem putCredit_nvm (l : Landing) (p : Nat) (c : Credit) : (s.putCredit l p c).nvm = s.nvm := rfl
@[simp] theorem putCredit_memOps (l : Landing) (p : Nat) (c : Credit) : (s.putCredit l p c).memOps = s.memOps := rfl
@[simp] theorem putCredit_pending (l : Landing) (p : Nat) (c : Credit) : (s.putCredit l p c).pending = s.pending := rfl

@[simp] theorem spend_variant (l : Landing) (p n : Nat) : (s.spend l p n).variant = s.variant := rfl
@[simp] theorem spend_regs (l : Landing) (p n : Nat) : (s.spend l p n).regs = s.regs := rfl
@[simp] theorem spend_mem (l : Landing) (p n : Nat) : (s.spend l p n).mem = s.mem := rfl
@[simp] theorem spend_ecc (l : Landing) (p n : Nat) : (s.spend l p n).ecc = s.ecc := rfl
@[simp] theorem spend_dramGen (l : Landing) (p n : Nat) : (s.spend l p n).dramGen = s.dramGen := rfl
@[simp] theorem spend_free (l : Landing) (p n : Nat) : (s.spend l p n).free = s.free := rfl
@[simp] theorem spend_booted (l : Landing) (p n : Nat) : (s.spend l p n).booted = s.booted := rfl
@[simp] theorem spend_host (l : Landing) (p n : Nat) : (s.spend l p n).host = s.host := rfl
@[simp] theorem spend_pastCompletion (l : Landing) (p n : Nat) : (s.spend l p n).pastCompletion = s.pastCompletion := rfl
@[simp] theorem spend_gal (l : Landing) (p n : Nat) : (s.spend l p n).gal = s.gal := rfl
@[simp] theorem spend_brg (l : Landing) (p n : Nat) : (s.spend l p n).brg = s.brg := rfl
@[simp] theorem spend_ring (l : Landing) (p n : Nat) : (s.spend l p n).ring = s.ring := rfl
@[simp] theorem spend_galFault (l : Landing) (p n : Nat) : (s.spend l p n).galFault = s.galFault := rfl
@[simp] theorem spend_mig (l : Landing) (p n : Nat) : (s.spend l p n).mig = s.mig := rfl
@[simp] theorem spend_stw (l : Landing) (p n : Nat) : (s.spend l p n).stw = s.stw := rfl
@[simp] theorem spend_bal (l : Landing) (p n : Nat) : (s.spend l p n).bal = s.bal := rfl
@[simp] theorem spend_newel (l : Landing) (p n : Nat) : (s.spend l p n).newel = s.newel := rfl
@[simp] theorem spend_hall (l : Landing) (p n : Nat) : (s.spend l p n).hall = s.hall := rfl
@[simp] theorem spend_can (l : Landing) (p n : Nat) : (s.spend l p n).can = s.can := rfl
@[simp] theorem spend_time (l : Landing) (p n : Nat) : (s.spend l p n).time = s.time := rfl
@[simp] theorem spend_eth (l : Landing) (p n : Nat) : (s.spend l p n).eth = s.eth := rfl
@[simp] theorem spend_pwr (l : Landing) (p n : Nat) : (s.spend l p n).pwr = s.pwr := rfl
@[simp] theorem spend_vol (l : Landing) (p n : Nat) : (s.spend l p n).vol = s.vol := rfl
@[simp] theorem spend_fio (l : Landing) (p n : Nat) : (s.spend l p n).fio = s.fio := rfl
@[simp] theorem spend_axis (l : Landing) (p n : Nat) : (s.spend l p n).axis = s.axis := rfl
@[simp] theorem spend_port (l : Landing) (p n : Nat) : (s.spend l p n).port = s.port := rfl
@[simp] theorem spend_fbFault (l : Landing) (p n : Nat) : (s.spend l p n).fbFault = s.fbFault := rfl
@[simp] theorem spend_sdm (l : Landing) (p n : Nat) : (s.spend l p n).sdm = s.sdm := rfl
@[simp] theorem spend_emu (l : Landing) (p n : Nat) : (s.spend l p n).emu = s.emu := rfl
@[simp] theorem spend_route (l : Landing) (p n : Nat) : (s.spend l p n).route = s.route := rfl
@[simp] theorem spend_trg (l : Landing) (p n : Nat) : (s.spend l p n).trg = s.trg := rfl
@[simp] theorem spend_grp (l : Landing) (p n : Nat) : (s.spend l p n).grp = s.grp := rfl
@[simp] theorem spend_recd (l : Landing) (p n : Nat) : (s.spend l p n).recd = s.recd := rfl
@[simp] theorem spend_nodes (l : Landing) (p n : Nat) : (s.spend l p n).nodes = s.nodes := rfl
@[simp] theorem spend_acqBytes (l : Landing) (p n : Nat) : (s.spend l p n).acqBytes = s.acqBytes := rfl
@[simp] theorem spend_maskStop (l : Landing) (p n : Nat) : (s.spend l p n).maskStop = s.maskStop := rfl
@[simp] theorem spend_commits (l : Landing) (p n : Nat) : (s.spend l p n).commits = s.commits := rfl
@[simp] theorem spend_nvm (l : Landing) (p n : Nat) : (s.spend l p n).nvm = s.nvm := rfl
@[simp] theorem spend_memOps (l : Landing) (p n : Nat) : (s.spend l p n).memOps = s.memOps := rfl
@[simp] theorem spend_pending (l : Landing) (p n : Nat) : (s.spend l p n).pending = s.pending := rfl

@[simp] theorem giveBack_variant (l : Landing) (p n : Nat) : (s.giveBack l p n).variant = s.variant := rfl
@[simp] theorem giveBack_regs (l : Landing) (p n : Nat) : (s.giveBack l p n).regs = s.regs := rfl
@[simp] theorem giveBack_mem (l : Landing) (p n : Nat) : (s.giveBack l p n).mem = s.mem := rfl
@[simp] theorem giveBack_ecc (l : Landing) (p n : Nat) : (s.giveBack l p n).ecc = s.ecc := rfl
@[simp] theorem giveBack_dramGen (l : Landing) (p n : Nat) : (s.giveBack l p n).dramGen = s.dramGen := rfl
@[simp] theorem giveBack_free (l : Landing) (p n : Nat) : (s.giveBack l p n).free = s.free := rfl
@[simp] theorem giveBack_booted (l : Landing) (p n : Nat) : (s.giveBack l p n).booted = s.booted := rfl
@[simp] theorem giveBack_host (l : Landing) (p n : Nat) : (s.giveBack l p n).host = s.host := rfl
@[simp] theorem giveBack_pastCompletion (l : Landing) (p n : Nat) : (s.giveBack l p n).pastCompletion = s.pastCompletion := rfl
@[simp] theorem giveBack_gal (l : Landing) (p n : Nat) : (s.giveBack l p n).gal = s.gal := rfl
@[simp] theorem giveBack_brg (l : Landing) (p n : Nat) : (s.giveBack l p n).brg = s.brg := rfl
@[simp] theorem giveBack_ring (l : Landing) (p n : Nat) : (s.giveBack l p n).ring = s.ring := rfl
@[simp] theorem giveBack_galFault (l : Landing) (p n : Nat) : (s.giveBack l p n).galFault = s.galFault := rfl
@[simp] theorem giveBack_mig (l : Landing) (p n : Nat) : (s.giveBack l p n).mig = s.mig := rfl
@[simp] theorem giveBack_stw (l : Landing) (p n : Nat) : (s.giveBack l p n).stw = s.stw := rfl
@[simp] theorem giveBack_bal (l : Landing) (p n : Nat) : (s.giveBack l p n).bal = s.bal := rfl
@[simp] theorem giveBack_newel (l : Landing) (p n : Nat) : (s.giveBack l p n).newel = s.newel := rfl
@[simp] theorem giveBack_hall (l : Landing) (p n : Nat) : (s.giveBack l p n).hall = s.hall := rfl
@[simp] theorem giveBack_can (l : Landing) (p n : Nat) : (s.giveBack l p n).can = s.can := rfl
@[simp] theorem giveBack_time (l : Landing) (p n : Nat) : (s.giveBack l p n).time = s.time := rfl
@[simp] theorem giveBack_eth (l : Landing) (p n : Nat) : (s.giveBack l p n).eth = s.eth := rfl
@[simp] theorem giveBack_pwr (l : Landing) (p n : Nat) : (s.giveBack l p n).pwr = s.pwr := rfl
@[simp] theorem giveBack_vol (l : Landing) (p n : Nat) : (s.giveBack l p n).vol = s.vol := rfl
@[simp] theorem giveBack_fio (l : Landing) (p n : Nat) : (s.giveBack l p n).fio = s.fio := rfl
@[simp] theorem giveBack_axis (l : Landing) (p n : Nat) : (s.giveBack l p n).axis = s.axis := rfl
@[simp] theorem giveBack_port (l : Landing) (p n : Nat) : (s.giveBack l p n).port = s.port := rfl
@[simp] theorem giveBack_fbFault (l : Landing) (p n : Nat) : (s.giveBack l p n).fbFault = s.fbFault := rfl
@[simp] theorem giveBack_sdm (l : Landing) (p n : Nat) : (s.giveBack l p n).sdm = s.sdm := rfl
@[simp] theorem giveBack_emu (l : Landing) (p n : Nat) : (s.giveBack l p n).emu = s.emu := rfl
@[simp] theorem giveBack_route (l : Landing) (p n : Nat) : (s.giveBack l p n).route = s.route := rfl
@[simp] theorem giveBack_trg (l : Landing) (p n : Nat) : (s.giveBack l p n).trg = s.trg := rfl
@[simp] theorem giveBack_grp (l : Landing) (p n : Nat) : (s.giveBack l p n).grp = s.grp := rfl
@[simp] theorem giveBack_recd (l : Landing) (p n : Nat) : (s.giveBack l p n).recd = s.recd := rfl
@[simp] theorem giveBack_nodes (l : Landing) (p n : Nat) : (s.giveBack l p n).nodes = s.nodes := rfl
@[simp] theorem giveBack_acqBytes (l : Landing) (p n : Nat) : (s.giveBack l p n).acqBytes = s.acqBytes := rfl
@[simp] theorem giveBack_maskStop (l : Landing) (p n : Nat) : (s.giveBack l p n).maskStop = s.maskStop := rfl
@[simp] theorem giveBack_commits (l : Landing) (p n : Nat) : (s.giveBack l p n).commits = s.commits := rfl
@[simp] theorem giveBack_nvm (l : Landing) (p n : Nat) : (s.giveBack l p n).nvm = s.nvm := rfl
@[simp] theorem giveBack_memOps (l : Landing) (p n : Nat) : (s.giveBack l p n).memOps = s.memOps := rfl
@[simp] theorem giveBack_pending (l : Landing) (p n : Nat) : (s.giveBack l p n).pending = s.pending := rfl

@[simp] theorem creditReset_variant (l : Landing) (p : Nat) : (s.creditReset l p).variant = s.variant := rfl
@[simp] theorem creditReset_regs (l : Landing) (p : Nat) : (s.creditReset l p).regs = s.regs := rfl
@[simp] theorem creditReset_mem (l : Landing) (p : Nat) : (s.creditReset l p).mem = s.mem := rfl
@[simp] theorem creditReset_ecc (l : Landing) (p : Nat) : (s.creditReset l p).ecc = s.ecc := rfl
@[simp] theorem creditReset_dramGen (l : Landing) (p : Nat) : (s.creditReset l p).dramGen = s.dramGen := rfl
@[simp] theorem creditReset_free (l : Landing) (p : Nat) : (s.creditReset l p).free = s.free := rfl
@[simp] theorem creditReset_booted (l : Landing) (p : Nat) : (s.creditReset l p).booted = s.booted := rfl
@[simp] theorem creditReset_host (l : Landing) (p : Nat) : (s.creditReset l p).host = s.host := rfl
@[simp] theorem creditReset_pastCompletion (l : Landing) (p : Nat) : (s.creditReset l p).pastCompletion = s.pastCompletion := rfl
@[simp] theorem creditReset_gal (l : Landing) (p : Nat) : (s.creditReset l p).gal = s.gal := rfl
@[simp] theorem creditReset_brg (l : Landing) (p : Nat) : (s.creditReset l p).brg = s.brg := rfl
@[simp] theorem creditReset_ring (l : Landing) (p : Nat) : (s.creditReset l p).ring = s.ring := rfl
@[simp] theorem creditReset_galFault (l : Landing) (p : Nat) : (s.creditReset l p).galFault = s.galFault := rfl
@[simp] theorem creditReset_mig (l : Landing) (p : Nat) : (s.creditReset l p).mig = s.mig := rfl
@[simp] theorem creditReset_stw (l : Landing) (p : Nat) : (s.creditReset l p).stw = s.stw := rfl
@[simp] theorem creditReset_bal (l : Landing) (p : Nat) : (s.creditReset l p).bal = s.bal := rfl
@[simp] theorem creditReset_newel (l : Landing) (p : Nat) : (s.creditReset l p).newel = s.newel := rfl
@[simp] theorem creditReset_hall (l : Landing) (p : Nat) : (s.creditReset l p).hall = s.hall := rfl
@[simp] theorem creditReset_can (l : Landing) (p : Nat) : (s.creditReset l p).can = s.can := rfl
@[simp] theorem creditReset_time (l : Landing) (p : Nat) : (s.creditReset l p).time = s.time := rfl
@[simp] theorem creditReset_eth (l : Landing) (p : Nat) : (s.creditReset l p).eth = s.eth := rfl
@[simp] theorem creditReset_pwr (l : Landing) (p : Nat) : (s.creditReset l p).pwr = s.pwr := rfl
@[simp] theorem creditReset_vol (l : Landing) (p : Nat) : (s.creditReset l p).vol = s.vol := rfl
@[simp] theorem creditReset_fio (l : Landing) (p : Nat) : (s.creditReset l p).fio = s.fio := rfl
@[simp] theorem creditReset_axis (l : Landing) (p : Nat) : (s.creditReset l p).axis = s.axis := rfl
@[simp] theorem creditReset_port (l : Landing) (p : Nat) : (s.creditReset l p).port = s.port := rfl
@[simp] theorem creditReset_fbFault (l : Landing) (p : Nat) : (s.creditReset l p).fbFault = s.fbFault := rfl
@[simp] theorem creditReset_sdm (l : Landing) (p : Nat) : (s.creditReset l p).sdm = s.sdm := rfl
@[simp] theorem creditReset_emu (l : Landing) (p : Nat) : (s.creditReset l p).emu = s.emu := rfl
@[simp] theorem creditReset_route (l : Landing) (p : Nat) : (s.creditReset l p).route = s.route := rfl
@[simp] theorem creditReset_trg (l : Landing) (p : Nat) : (s.creditReset l p).trg = s.trg := rfl
@[simp] theorem creditReset_grp (l : Landing) (p : Nat) : (s.creditReset l p).grp = s.grp := rfl
@[simp] theorem creditReset_recd (l : Landing) (p : Nat) : (s.creditReset l p).recd = s.recd := rfl
@[simp] theorem creditReset_nodes (l : Landing) (p : Nat) : (s.creditReset l p).nodes = s.nodes := rfl
@[simp] theorem creditReset_acqBytes (l : Landing) (p : Nat) : (s.creditReset l p).acqBytes = s.acqBytes := rfl
@[simp] theorem creditReset_maskStop (l : Landing) (p : Nat) : (s.creditReset l p).maskStop = s.maskStop := rfl
@[simp] theorem creditReset_commits (l : Landing) (p : Nat) : (s.creditReset l p).commits = s.commits := rfl
@[simp] theorem creditReset_nvm (l : Landing) (p : Nat) : (s.creditReset l p).nvm = s.nvm := rfl
@[simp] theorem creditReset_memOps (l : Landing) (p : Nat) : (s.creditReset l p).memOps = s.memOps := rfl
@[simp] theorem creditReset_pending (l : Landing) (p : Nat) : (s.creditReset l p).pending = s.pending := rfl

@[simp] theorem putTrg_variant (t : Nat) (x : Trg) : (s.putTrg t x).variant = s.variant := rfl
@[simp] theorem putTrg_regs (t : Nat) (x : Trg) : (s.putTrg t x).regs = s.regs := rfl
@[simp] theorem putTrg_mem (t : Nat) (x : Trg) : (s.putTrg t x).mem = s.mem := rfl
@[simp] theorem putTrg_ecc (t : Nat) (x : Trg) : (s.putTrg t x).ecc = s.ecc := rfl
@[simp] theorem putTrg_dramGen (t : Nat) (x : Trg) : (s.putTrg t x).dramGen = s.dramGen := rfl
@[simp] theorem putTrg_free (t : Nat) (x : Trg) : (s.putTrg t x).free = s.free := rfl
@[simp] theorem putTrg_booted (t : Nat) (x : Trg) : (s.putTrg t x).booted = s.booted := rfl
@[simp] theorem putTrg_host (t : Nat) (x : Trg) : (s.putTrg t x).host = s.host := rfl
@[simp] theorem putTrg_credits (t : Nat) (x : Trg) : (s.putTrg t x).credits = s.credits := rfl
@[simp] theorem putTrg_pastCompletion (t : Nat) (x : Trg) : (s.putTrg t x).pastCompletion = s.pastCompletion := rfl
@[simp] theorem putTrg_gal (t : Nat) (x : Trg) : (s.putTrg t x).gal = s.gal := rfl
@[simp] theorem putTrg_brg (t : Nat) (x : Trg) : (s.putTrg t x).brg = s.brg := rfl
@[simp] theorem putTrg_ring (t : Nat) (x : Trg) : (s.putTrg t x).ring = s.ring := rfl
@[simp] theorem putTrg_galFault (t : Nat) (x : Trg) : (s.putTrg t x).galFault = s.galFault := rfl
@[simp] theorem putTrg_mig (t : Nat) (x : Trg) : (s.putTrg t x).mig = s.mig := rfl
@[simp] theorem putTrg_stw (t : Nat) (x : Trg) : (s.putTrg t x).stw = s.stw := rfl
@[simp] theorem putTrg_bal (t : Nat) (x : Trg) : (s.putTrg t x).bal = s.bal := rfl
@[simp] theorem putTrg_newel (t : Nat) (x : Trg) : (s.putTrg t x).newel = s.newel := rfl
@[simp] theorem putTrg_hall (t : Nat) (x : Trg) : (s.putTrg t x).hall = s.hall := rfl
@[simp] theorem putTrg_can (t : Nat) (x : Trg) : (s.putTrg t x).can = s.can := rfl
@[simp] theorem putTrg_time (t : Nat) (x : Trg) : (s.putTrg t x).time = s.time := rfl
@[simp] theorem putTrg_eth (t : Nat) (x : Trg) : (s.putTrg t x).eth = s.eth := rfl
@[simp] theorem putTrg_pwr (t : Nat) (x : Trg) : (s.putTrg t x).pwr = s.pwr := rfl
@[simp] theorem putTrg_vol (t : Nat) (x : Trg) : (s.putTrg t x).vol = s.vol := rfl
@[simp] theorem putTrg_fio (t : Nat) (x : Trg) : (s.putTrg t x).fio = s.fio := rfl
@[simp] theorem putTrg_axis (t : Nat) (x : Trg) : (s.putTrg t x).axis = s.axis := rfl
@[simp] theorem putTrg_port (t : Nat) (x : Trg) : (s.putTrg t x).port = s.port := rfl
@[simp] theorem putTrg_fbFault (t : Nat) (x : Trg) : (s.putTrg t x).fbFault = s.fbFault := rfl
@[simp] theorem putTrg_sdm (t : Nat) (x : Trg) : (s.putTrg t x).sdm = s.sdm := rfl
@[simp] theorem putTrg_emu (t : Nat) (x : Trg) : (s.putTrg t x).emu = s.emu := rfl
@[simp] theorem putTrg_route (t : Nat) (x : Trg) : (s.putTrg t x).route = s.route := rfl
@[simp] theorem putTrg_grp (t : Nat) (x : Trg) : (s.putTrg t x).grp = s.grp := rfl
@[simp] theorem putTrg_recd (t : Nat) (x : Trg) : (s.putTrg t x).recd = s.recd := rfl
@[simp] theorem putTrg_nodes (t : Nat) (x : Trg) : (s.putTrg t x).nodes = s.nodes := rfl
@[simp] theorem putTrg_acqBytes (t : Nat) (x : Trg) : (s.putTrg t x).acqBytes = s.acqBytes := rfl
@[simp] theorem putTrg_maskStop (t : Nat) (x : Trg) : (s.putTrg t x).maskStop = s.maskStop := rfl
@[simp] theorem putTrg_commits (t : Nat) (x : Trg) : (s.putTrg t x).commits = s.commits := rfl
@[simp] theorem putTrg_nvm (t : Nat) (x : Trg) : (s.putTrg t x).nvm = s.nvm := rfl
@[simp] theorem putTrg_memOps (t : Nat) (x : Trg) : (s.putTrg t x).memOps = s.memOps := rfl
@[simp] theorem putTrg_pending (t : Nat) (x : Trg) : (s.putTrg t x).pending = s.pending := rfl

@[simp] theorem putGrp_variant (g : Nat) (x : Grp) : (s.putGrp g x).variant = s.variant := rfl
@[simp] theorem putGrp_regs (g : Nat) (x : Grp) : (s.putGrp g x).regs = s.regs := rfl
@[simp] theorem putGrp_mem (g : Nat) (x : Grp) : (s.putGrp g x).mem = s.mem := rfl
@[simp] theorem putGrp_ecc (g : Nat) (x : Grp) : (s.putGrp g x).ecc = s.ecc := rfl
@[simp] theorem putGrp_dramGen (g : Nat) (x : Grp) : (s.putGrp g x).dramGen = s.dramGen := rfl
@[simp] theorem putGrp_free (g : Nat) (x : Grp) : (s.putGrp g x).free = s.free := rfl
@[simp] theorem putGrp_booted (g : Nat) (x : Grp) : (s.putGrp g x).booted = s.booted := rfl
@[simp] theorem putGrp_host (g : Nat) (x : Grp) : (s.putGrp g x).host = s.host := rfl
@[simp] theorem putGrp_credits (g : Nat) (x : Grp) : (s.putGrp g x).credits = s.credits := rfl
@[simp] theorem putGrp_pastCompletion (g : Nat) (x : Grp) : (s.putGrp g x).pastCompletion = s.pastCompletion := rfl
@[simp] theorem putGrp_gal (g : Nat) (x : Grp) : (s.putGrp g x).gal = s.gal := rfl
@[simp] theorem putGrp_brg (g : Nat) (x : Grp) : (s.putGrp g x).brg = s.brg := rfl
@[simp] theorem putGrp_ring (g : Nat) (x : Grp) : (s.putGrp g x).ring = s.ring := rfl
@[simp] theorem putGrp_galFault (g : Nat) (x : Grp) : (s.putGrp g x).galFault = s.galFault := rfl
@[simp] theorem putGrp_mig (g : Nat) (x : Grp) : (s.putGrp g x).mig = s.mig := rfl
@[simp] theorem putGrp_stw (g : Nat) (x : Grp) : (s.putGrp g x).stw = s.stw := rfl
@[simp] theorem putGrp_bal (g : Nat) (x : Grp) : (s.putGrp g x).bal = s.bal := rfl
@[simp] theorem putGrp_newel (g : Nat) (x : Grp) : (s.putGrp g x).newel = s.newel := rfl
@[simp] theorem putGrp_hall (g : Nat) (x : Grp) : (s.putGrp g x).hall = s.hall := rfl
@[simp] theorem putGrp_can (g : Nat) (x : Grp) : (s.putGrp g x).can = s.can := rfl
@[simp] theorem putGrp_time (g : Nat) (x : Grp) : (s.putGrp g x).time = s.time := rfl
@[simp] theorem putGrp_eth (g : Nat) (x : Grp) : (s.putGrp g x).eth = s.eth := rfl
@[simp] theorem putGrp_pwr (g : Nat) (x : Grp) : (s.putGrp g x).pwr = s.pwr := rfl
@[simp] theorem putGrp_vol (g : Nat) (x : Grp) : (s.putGrp g x).vol = s.vol := rfl
@[simp] theorem putGrp_fio (g : Nat) (x : Grp) : (s.putGrp g x).fio = s.fio := rfl
@[simp] theorem putGrp_axis (g : Nat) (x : Grp) : (s.putGrp g x).axis = s.axis := rfl
@[simp] theorem putGrp_port (g : Nat) (x : Grp) : (s.putGrp g x).port = s.port := rfl
@[simp] theorem putGrp_fbFault (g : Nat) (x : Grp) : (s.putGrp g x).fbFault = s.fbFault := rfl
@[simp] theorem putGrp_sdm (g : Nat) (x : Grp) : (s.putGrp g x).sdm = s.sdm := rfl
@[simp] theorem putGrp_emu (g : Nat) (x : Grp) : (s.putGrp g x).emu = s.emu := rfl
@[simp] theorem putGrp_route (g : Nat) (x : Grp) : (s.putGrp g x).route = s.route := rfl
@[simp] theorem putGrp_trg (g : Nat) (x : Grp) : (s.putGrp g x).trg = s.trg := rfl
@[simp] theorem putGrp_recd (g : Nat) (x : Grp) : (s.putGrp g x).recd = s.recd := rfl
@[simp] theorem putGrp_nodes (g : Nat) (x : Grp) : (s.putGrp g x).nodes = s.nodes := rfl
@[simp] theorem putGrp_acqBytes (g : Nat) (x : Grp) : (s.putGrp g x).acqBytes = s.acqBytes := rfl
@[simp] theorem putGrp_maskStop (g : Nat) (x : Grp) : (s.putGrp g x).maskStop = s.maskStop := rfl
@[simp] theorem putGrp_commits (g : Nat) (x : Grp) : (s.putGrp g x).commits = s.commits := rfl
@[simp] theorem putGrp_nvm (g : Nat) (x : Grp) : (s.putGrp g x).nvm = s.nvm := rfl
@[simp] theorem putGrp_memOps (g : Nat) (x : Grp) : (s.putGrp g x).memOps = s.memOps := rfl
@[simp] theorem putGrp_pending (g : Nat) (x : Grp) : (s.putGrp g x).pending = s.pending := rfl

@[simp] theorem putGal_variant (g : Nat) (x : Gal) : (s.putGal g x).variant = s.variant := rfl
@[simp] theorem putGal_regs (g : Nat) (x : Gal) : (s.putGal g x).regs = s.regs := rfl
@[simp] theorem putGal_mem (g : Nat) (x : Gal) : (s.putGal g x).mem = s.mem := rfl
@[simp] theorem putGal_ecc (g : Nat) (x : Gal) : (s.putGal g x).ecc = s.ecc := rfl
@[simp] theorem putGal_dramGen (g : Nat) (x : Gal) : (s.putGal g x).dramGen = s.dramGen := rfl
@[simp] theorem putGal_free (g : Nat) (x : Gal) : (s.putGal g x).free = s.free := rfl
@[simp] theorem putGal_booted (g : Nat) (x : Gal) : (s.putGal g x).booted = s.booted := rfl
@[simp] theorem putGal_host (g : Nat) (x : Gal) : (s.putGal g x).host = s.host := rfl
@[simp] theorem putGal_credits (g : Nat) (x : Gal) : (s.putGal g x).credits = s.credits := rfl
@[simp] theorem putGal_pastCompletion (g : Nat) (x : Gal) : (s.putGal g x).pastCompletion = s.pastCompletion := rfl
@[simp] theorem putGal_brg (g : Nat) (x : Gal) : (s.putGal g x).brg = s.brg := rfl
@[simp] theorem putGal_ring (g : Nat) (x : Gal) : (s.putGal g x).ring = s.ring := rfl
@[simp] theorem putGal_galFault (g : Nat) (x : Gal) : (s.putGal g x).galFault = s.galFault := rfl
@[simp] theorem putGal_mig (g : Nat) (x : Gal) : (s.putGal g x).mig = s.mig := rfl
@[simp] theorem putGal_stw (g : Nat) (x : Gal) : (s.putGal g x).stw = s.stw := rfl
@[simp] theorem putGal_bal (g : Nat) (x : Gal) : (s.putGal g x).bal = s.bal := rfl
@[simp] theorem putGal_newel (g : Nat) (x : Gal) : (s.putGal g x).newel = s.newel := rfl
@[simp] theorem putGal_hall (g : Nat) (x : Gal) : (s.putGal g x).hall = s.hall := rfl
@[simp] theorem putGal_can (g : Nat) (x : Gal) : (s.putGal g x).can = s.can := rfl
@[simp] theorem putGal_time (g : Nat) (x : Gal) : (s.putGal g x).time = s.time := rfl
@[simp] theorem putGal_eth (g : Nat) (x : Gal) : (s.putGal g x).eth = s.eth := rfl
@[simp] theorem putGal_pwr (g : Nat) (x : Gal) : (s.putGal g x).pwr = s.pwr := rfl
@[simp] theorem putGal_vol (g : Nat) (x : Gal) : (s.putGal g x).vol = s.vol := rfl
@[simp] theorem putGal_fio (g : Nat) (x : Gal) : (s.putGal g x).fio = s.fio := rfl
@[simp] theorem putGal_axis (g : Nat) (x : Gal) : (s.putGal g x).axis = s.axis := rfl
@[simp] theorem putGal_port (g : Nat) (x : Gal) : (s.putGal g x).port = s.port := rfl
@[simp] theorem putGal_fbFault (g : Nat) (x : Gal) : (s.putGal g x).fbFault = s.fbFault := rfl
@[simp] theorem putGal_sdm (g : Nat) (x : Gal) : (s.putGal g x).sdm = s.sdm := rfl
@[simp] theorem putGal_emu (g : Nat) (x : Gal) : (s.putGal g x).emu = s.emu := rfl
@[simp] theorem putGal_route (g : Nat) (x : Gal) : (s.putGal g x).route = s.route := rfl
@[simp] theorem putGal_trg (g : Nat) (x : Gal) : (s.putGal g x).trg = s.trg := rfl
@[simp] theorem putGal_grp (g : Nat) (x : Gal) : (s.putGal g x).grp = s.grp := rfl
@[simp] theorem putGal_recd (g : Nat) (x : Gal) : (s.putGal g x).recd = s.recd := rfl
@[simp] theorem putGal_nodes (g : Nat) (x : Gal) : (s.putGal g x).nodes = s.nodes := rfl
@[simp] theorem putGal_acqBytes (g : Nat) (x : Gal) : (s.putGal g x).acqBytes = s.acqBytes := rfl
@[simp] theorem putGal_maskStop (g : Nat) (x : Gal) : (s.putGal g x).maskStop = s.maskStop := rfl
@[simp] theorem putGal_commits (g : Nat) (x : Gal) : (s.putGal g x).commits = s.commits := rfl
@[simp] theorem putGal_nvm (g : Nat) (x : Gal) : (s.putGal g x).nvm = s.nvm := rfl
@[simp] theorem putGal_memOps (g : Nat) (x : Gal) : (s.putGal g x).memOps = s.memOps := rfl
@[simp] theorem putGal_pending (g : Nat) (x : Gal) : (s.putGal g x).pending = s.pending := rfl

@[simp] theorem putCore_variant (g : Nat) (x : Core) : (s.putCore g x).variant = s.variant := rfl
@[simp] theorem putCore_regs (g : Nat) (x : Core) : (s.putCore g x).regs = s.regs := rfl
@[simp] theorem putCore_mem (g : Nat) (x : Core) : (s.putCore g x).mem = s.mem := rfl
@[simp] theorem putCore_ecc (g : Nat) (x : Core) : (s.putCore g x).ecc = s.ecc := rfl
@[simp] theorem putCore_dramGen (g : Nat) (x : Core) : (s.putCore g x).dramGen = s.dramGen := rfl
@[simp] theorem putCore_free (g : Nat) (x : Core) : (s.putCore g x).free = s.free := rfl
@[simp] theorem putCore_booted (g : Nat) (x : Core) : (s.putCore g x).booted = s.booted := rfl
@[simp] theorem putCore_host (g : Nat) (x : Core) : (s.putCore g x).host = s.host := rfl
@[simp] theorem putCore_credits (g : Nat) (x : Core) : (s.putCore g x).credits = s.credits := rfl
@[simp] theorem putCore_pastCompletion (g : Nat) (x : Core) : (s.putCore g x).pastCompletion = s.pastCompletion := rfl
@[simp] theorem putCore_brg (g : Nat) (x : Core) : (s.putCore g x).brg = s.brg := rfl
@[simp] theorem putCore_ring (g : Nat) (x : Core) : (s.putCore g x).ring = s.ring := rfl
@[simp] theorem putCore_galFault (g : Nat) (x : Core) : (s.putCore g x).galFault = s.galFault := rfl
@[simp] theorem putCore_mig (g : Nat) (x : Core) : (s.putCore g x).mig = s.mig := rfl
@[simp] theorem putCore_stw (g : Nat) (x : Core) : (s.putCore g x).stw = s.stw := rfl
@[simp] theorem putCore_bal (g : Nat) (x : Core) : (s.putCore g x).bal = s.bal := rfl
@[simp] theorem putCore_newel (g : Nat) (x : Core) : (s.putCore g x).newel = s.newel := rfl
@[simp] theorem putCore_hall (g : Nat) (x : Core) : (s.putCore g x).hall = s.hall := rfl
@[simp] theorem putCore_can (g : Nat) (x : Core) : (s.putCore g x).can = s.can := rfl
@[simp] theorem putCore_time (g : Nat) (x : Core) : (s.putCore g x).time = s.time := rfl
@[simp] theorem putCore_eth (g : Nat) (x : Core) : (s.putCore g x).eth = s.eth := rfl
@[simp] theorem putCore_pwr (g : Nat) (x : Core) : (s.putCore g x).pwr = s.pwr := rfl
@[simp] theorem putCore_vol (g : Nat) (x : Core) : (s.putCore g x).vol = s.vol := rfl
@[simp] theorem putCore_fio (g : Nat) (x : Core) : (s.putCore g x).fio = s.fio := rfl
@[simp] theorem putCore_axis (g : Nat) (x : Core) : (s.putCore g x).axis = s.axis := rfl
@[simp] theorem putCore_port (g : Nat) (x : Core) : (s.putCore g x).port = s.port := rfl
@[simp] theorem putCore_fbFault (g : Nat) (x : Core) : (s.putCore g x).fbFault = s.fbFault := rfl
@[simp] theorem putCore_sdm (g : Nat) (x : Core) : (s.putCore g x).sdm = s.sdm := rfl
@[simp] theorem putCore_emu (g : Nat) (x : Core) : (s.putCore g x).emu = s.emu := rfl
@[simp] theorem putCore_route (g : Nat) (x : Core) : (s.putCore g x).route = s.route := rfl
@[simp] theorem putCore_trg (g : Nat) (x : Core) : (s.putCore g x).trg = s.trg := rfl
@[simp] theorem putCore_grp (g : Nat) (x : Core) : (s.putCore g x).grp = s.grp := rfl
@[simp] theorem putCore_recd (g : Nat) (x : Core) : (s.putCore g x).recd = s.recd := rfl
@[simp] theorem putCore_nodes (g : Nat) (x : Core) : (s.putCore g x).nodes = s.nodes := rfl
@[simp] theorem putCore_acqBytes (g : Nat) (x : Core) : (s.putCore g x).acqBytes = s.acqBytes := rfl
@[simp] theorem putCore_maskStop (g : Nat) (x : Core) : (s.putCore g x).maskStop = s.maskStop := rfl
@[simp] theorem putCore_commits (g : Nat) (x : Core) : (s.putCore g x).commits = s.commits := rfl
@[simp] theorem putCore_nvm (g : Nat) (x : Core) : (s.putCore g x).nvm = s.nvm := rfl
@[simp] theorem putCore_memOps (g : Nat) (x : Core) : (s.putCore g x).memOps = s.memOps := rfl
@[simp] theorem putCore_pending (g : Nat) (x : Core) : (s.putCore g x).pending = s.pending := rfl

@[simp] theorem putSlotRun_variant (g n : Nat) (x : SlotRun) : (s.putSlotRun g n x).variant = s.variant := rfl
@[simp] theorem putSlotRun_regs (g n : Nat) (x : SlotRun) : (s.putSlotRun g n x).regs = s.regs := rfl
@[simp] theorem putSlotRun_mem (g n : Nat) (x : SlotRun) : (s.putSlotRun g n x).mem = s.mem := rfl
@[simp] theorem putSlotRun_ecc (g n : Nat) (x : SlotRun) : (s.putSlotRun g n x).ecc = s.ecc := rfl
@[simp] theorem putSlotRun_dramGen (g n : Nat) (x : SlotRun) : (s.putSlotRun g n x).dramGen = s.dramGen := rfl
@[simp] theorem putSlotRun_free (g n : Nat) (x : SlotRun) : (s.putSlotRun g n x).free = s.free := rfl
@[simp] theorem putSlotRun_booted (g n : Nat) (x : SlotRun) : (s.putSlotRun g n x).booted = s.booted := rfl
@[simp] theorem putSlotRun_host (g n : Nat) (x : SlotRun) : (s.putSlotRun g n x).host = s.host := rfl
@[simp] theorem putSlotRun_credits (g n : Nat) (x : SlotRun) : (s.putSlotRun g n x).credits = s.credits := rfl
@[simp] theorem putSlotRun_pastCompletion (g n : Nat) (x : SlotRun) : (s.putSlotRun g n x).pastCompletion = s.pastCompletion := rfl
@[simp] theorem putSlotRun_brg (g n : Nat) (x : SlotRun) : (s.putSlotRun g n x).brg = s.brg := rfl
@[simp] theorem putSlotRun_ring (g n : Nat) (x : SlotRun) : (s.putSlotRun g n x).ring = s.ring := rfl
@[simp] theorem putSlotRun_galFault (g n : Nat) (x : SlotRun) : (s.putSlotRun g n x).galFault = s.galFault := rfl
@[simp] theorem putSlotRun_mig (g n : Nat) (x : SlotRun) : (s.putSlotRun g n x).mig = s.mig := rfl
@[simp] theorem putSlotRun_stw (g n : Nat) (x : SlotRun) : (s.putSlotRun g n x).stw = s.stw := rfl
@[simp] theorem putSlotRun_bal (g n : Nat) (x : SlotRun) : (s.putSlotRun g n x).bal = s.bal := rfl
@[simp] theorem putSlotRun_newel (g n : Nat) (x : SlotRun) : (s.putSlotRun g n x).newel = s.newel := rfl
@[simp] theorem putSlotRun_hall (g n : Nat) (x : SlotRun) : (s.putSlotRun g n x).hall = s.hall := rfl
@[simp] theorem putSlotRun_can (g n : Nat) (x : SlotRun) : (s.putSlotRun g n x).can = s.can := rfl
@[simp] theorem putSlotRun_time (g n : Nat) (x : SlotRun) : (s.putSlotRun g n x).time = s.time := rfl
@[simp] theorem putSlotRun_eth (g n : Nat) (x : SlotRun) : (s.putSlotRun g n x).eth = s.eth := rfl
@[simp] theorem putSlotRun_pwr (g n : Nat) (x : SlotRun) : (s.putSlotRun g n x).pwr = s.pwr := rfl
@[simp] theorem putSlotRun_vol (g n : Nat) (x : SlotRun) : (s.putSlotRun g n x).vol = s.vol := rfl
@[simp] theorem putSlotRun_fio (g n : Nat) (x : SlotRun) : (s.putSlotRun g n x).fio = s.fio := rfl
@[simp] theorem putSlotRun_axis (g n : Nat) (x : SlotRun) : (s.putSlotRun g n x).axis = s.axis := rfl
@[simp] theorem putSlotRun_port (g n : Nat) (x : SlotRun) : (s.putSlotRun g n x).port = s.port := rfl
@[simp] theorem putSlotRun_fbFault (g n : Nat) (x : SlotRun) : (s.putSlotRun g n x).fbFault = s.fbFault := rfl
@[simp] theorem putSlotRun_sdm (g n : Nat) (x : SlotRun) : (s.putSlotRun g n x).sdm = s.sdm := rfl
@[simp] theorem putSlotRun_emu (g n : Nat) (x : SlotRun) : (s.putSlotRun g n x).emu = s.emu := rfl
@[simp] theorem putSlotRun_route (g n : Nat) (x : SlotRun) : (s.putSlotRun g n x).route = s.route := rfl
@[simp] theorem putSlotRun_trg (g n : Nat) (x : SlotRun) : (s.putSlotRun g n x).trg = s.trg := rfl
@[simp] theorem putSlotRun_grp (g n : Nat) (x : SlotRun) : (s.putSlotRun g n x).grp = s.grp := rfl
@[simp] theorem putSlotRun_recd (g n : Nat) (x : SlotRun) : (s.putSlotRun g n x).recd = s.recd := rfl
@[simp] theorem putSlotRun_nodes (g n : Nat) (x : SlotRun) : (s.putSlotRun g n x).nodes = s.nodes := rfl
@[simp] theorem putSlotRun_acqBytes (g n : Nat) (x : SlotRun) : (s.putSlotRun g n x).acqBytes = s.acqBytes := rfl
@[simp] theorem putSlotRun_maskStop (g n : Nat) (x : SlotRun) : (s.putSlotRun g n x).maskStop = s.maskStop := rfl
@[simp] theorem putSlotRun_commits (g n : Nat) (x : SlotRun) : (s.putSlotRun g n x).commits = s.commits := rfl
@[simp] theorem putSlotRun_nvm (g n : Nat) (x : SlotRun) : (s.putSlotRun g n x).nvm = s.nvm := rfl
@[simp] theorem putSlotRun_memOps (g n : Nat) (x : SlotRun) : (s.putSlotRun g n x).memOps = s.memOps := rfl
@[simp] theorem putSlotRun_pending (g n : Nat) (x : SlotRun) : (s.putSlotRun g n x).pending = s.pending := rfl

@[simp] theorem putBrg_variant (b : Nat) (x : Brg) : (s.putBrg b x).variant = s.variant := rfl
@[simp] theorem putBrg_regs (b : Nat) (x : Brg) : (s.putBrg b x).regs = s.regs := rfl
@[simp] theorem putBrg_mem (b : Nat) (x : Brg) : (s.putBrg b x).mem = s.mem := rfl
@[simp] theorem putBrg_ecc (b : Nat) (x : Brg) : (s.putBrg b x).ecc = s.ecc := rfl
@[simp] theorem putBrg_dramGen (b : Nat) (x : Brg) : (s.putBrg b x).dramGen = s.dramGen := rfl
@[simp] theorem putBrg_free (b : Nat) (x : Brg) : (s.putBrg b x).free = s.free := rfl
@[simp] theorem putBrg_booted (b : Nat) (x : Brg) : (s.putBrg b x).booted = s.booted := rfl
@[simp] theorem putBrg_host (b : Nat) (x : Brg) : (s.putBrg b x).host = s.host := rfl
@[simp] theorem putBrg_credits (b : Nat) (x : Brg) : (s.putBrg b x).credits = s.credits := rfl
@[simp] theorem putBrg_pastCompletion (b : Nat) (x : Brg) : (s.putBrg b x).pastCompletion = s.pastCompletion := rfl
@[simp] theorem putBrg_gal (b : Nat) (x : Brg) : (s.putBrg b x).gal = s.gal := rfl
@[simp] theorem putBrg_ring (b : Nat) (x : Brg) : (s.putBrg b x).ring = s.ring := rfl
@[simp] theorem putBrg_galFault (b : Nat) (x : Brg) : (s.putBrg b x).galFault = s.galFault := rfl
@[simp] theorem putBrg_mig (b : Nat) (x : Brg) : (s.putBrg b x).mig = s.mig := rfl
@[simp] theorem putBrg_stw (b : Nat) (x : Brg) : (s.putBrg b x).stw = s.stw := rfl
@[simp] theorem putBrg_bal (b : Nat) (x : Brg) : (s.putBrg b x).bal = s.bal := rfl
@[simp] theorem putBrg_newel (b : Nat) (x : Brg) : (s.putBrg b x).newel = s.newel := rfl
@[simp] theorem putBrg_hall (b : Nat) (x : Brg) : (s.putBrg b x).hall = s.hall := rfl
@[simp] theorem putBrg_can (b : Nat) (x : Brg) : (s.putBrg b x).can = s.can := rfl
@[simp] theorem putBrg_time (b : Nat) (x : Brg) : (s.putBrg b x).time = s.time := rfl
@[simp] theorem putBrg_eth (b : Nat) (x : Brg) : (s.putBrg b x).eth = s.eth := rfl
@[simp] theorem putBrg_pwr (b : Nat) (x : Brg) : (s.putBrg b x).pwr = s.pwr := rfl
@[simp] theorem putBrg_vol (b : Nat) (x : Brg) : (s.putBrg b x).vol = s.vol := rfl
@[simp] theorem putBrg_fio (b : Nat) (x : Brg) : (s.putBrg b x).fio = s.fio := rfl
@[simp] theorem putBrg_axis (b : Nat) (x : Brg) : (s.putBrg b x).axis = s.axis := rfl
@[simp] theorem putBrg_port (b : Nat) (x : Brg) : (s.putBrg b x).port = s.port := rfl
@[simp] theorem putBrg_fbFault (b : Nat) (x : Brg) : (s.putBrg b x).fbFault = s.fbFault := rfl
@[simp] theorem putBrg_sdm (b : Nat) (x : Brg) : (s.putBrg b x).sdm = s.sdm := rfl
@[simp] theorem putBrg_emu (b : Nat) (x : Brg) : (s.putBrg b x).emu = s.emu := rfl
@[simp] theorem putBrg_route (b : Nat) (x : Brg) : (s.putBrg b x).route = s.route := rfl
@[simp] theorem putBrg_trg (b : Nat) (x : Brg) : (s.putBrg b x).trg = s.trg := rfl
@[simp] theorem putBrg_grp (b : Nat) (x : Brg) : (s.putBrg b x).grp = s.grp := rfl
@[simp] theorem putBrg_recd (b : Nat) (x : Brg) : (s.putBrg b x).recd = s.recd := rfl
@[simp] theorem putBrg_nodes (b : Nat) (x : Brg) : (s.putBrg b x).nodes = s.nodes := rfl
@[simp] theorem putBrg_acqBytes (b : Nat) (x : Brg) : (s.putBrg b x).acqBytes = s.acqBytes := rfl
@[simp] theorem putBrg_maskStop (b : Nat) (x : Brg) : (s.putBrg b x).maskStop = s.maskStop := rfl
@[simp] theorem putBrg_commits (b : Nat) (x : Brg) : (s.putBrg b x).commits = s.commits := rfl
@[simp] theorem putBrg_nvm (b : Nat) (x : Brg) : (s.putBrg b x).nvm = s.nvm := rfl
@[simp] theorem putBrg_memOps (b : Nat) (x : Brg) : (s.putBrg b x).memOps = s.memOps := rfl
@[simp] theorem putBrg_pending (b : Nat) (x : Brg) : (s.putBrg b x).pending = s.pending := rfl

@[simp] theorem putRing_variant (r : Nat) (x : Ring) : (s.putRing r x).variant = s.variant := rfl
@[simp] theorem putRing_regs (r : Nat) (x : Ring) : (s.putRing r x).regs = s.regs := rfl
@[simp] theorem putRing_mem (r : Nat) (x : Ring) : (s.putRing r x).mem = s.mem := rfl
@[simp] theorem putRing_ecc (r : Nat) (x : Ring) : (s.putRing r x).ecc = s.ecc := rfl
@[simp] theorem putRing_dramGen (r : Nat) (x : Ring) : (s.putRing r x).dramGen = s.dramGen := rfl
@[simp] theorem putRing_free (r : Nat) (x : Ring) : (s.putRing r x).free = s.free := rfl
@[simp] theorem putRing_booted (r : Nat) (x : Ring) : (s.putRing r x).booted = s.booted := rfl
@[simp] theorem putRing_host (r : Nat) (x : Ring) : (s.putRing r x).host = s.host := rfl
@[simp] theorem putRing_credits (r : Nat) (x : Ring) : (s.putRing r x).credits = s.credits := rfl
@[simp] theorem putRing_pastCompletion (r : Nat) (x : Ring) : (s.putRing r x).pastCompletion = s.pastCompletion := rfl
@[simp] theorem putRing_gal (r : Nat) (x : Ring) : (s.putRing r x).gal = s.gal := rfl
@[simp] theorem putRing_brg (r : Nat) (x : Ring) : (s.putRing r x).brg = s.brg := rfl
@[simp] theorem putRing_galFault (r : Nat) (x : Ring) : (s.putRing r x).galFault = s.galFault := rfl
@[simp] theorem putRing_mig (r : Nat) (x : Ring) : (s.putRing r x).mig = s.mig := rfl
@[simp] theorem putRing_stw (r : Nat) (x : Ring) : (s.putRing r x).stw = s.stw := rfl
@[simp] theorem putRing_bal (r : Nat) (x : Ring) : (s.putRing r x).bal = s.bal := rfl
@[simp] theorem putRing_newel (r : Nat) (x : Ring) : (s.putRing r x).newel = s.newel := rfl
@[simp] theorem putRing_hall (r : Nat) (x : Ring) : (s.putRing r x).hall = s.hall := rfl
@[simp] theorem putRing_can (r : Nat) (x : Ring) : (s.putRing r x).can = s.can := rfl
@[simp] theorem putRing_time (r : Nat) (x : Ring) : (s.putRing r x).time = s.time := rfl
@[simp] theorem putRing_eth (r : Nat) (x : Ring) : (s.putRing r x).eth = s.eth := rfl
@[simp] theorem putRing_pwr (r : Nat) (x : Ring) : (s.putRing r x).pwr = s.pwr := rfl
@[simp] theorem putRing_vol (r : Nat) (x : Ring) : (s.putRing r x).vol = s.vol := rfl
@[simp] theorem putRing_fio (r : Nat) (x : Ring) : (s.putRing r x).fio = s.fio := rfl
@[simp] theorem putRing_axis (r : Nat) (x : Ring) : (s.putRing r x).axis = s.axis := rfl
@[simp] theorem putRing_port (r : Nat) (x : Ring) : (s.putRing r x).port = s.port := rfl
@[simp] theorem putRing_fbFault (r : Nat) (x : Ring) : (s.putRing r x).fbFault = s.fbFault := rfl
@[simp] theorem putRing_sdm (r : Nat) (x : Ring) : (s.putRing r x).sdm = s.sdm := rfl
@[simp] theorem putRing_emu (r : Nat) (x : Ring) : (s.putRing r x).emu = s.emu := rfl
@[simp] theorem putRing_route (r : Nat) (x : Ring) : (s.putRing r x).route = s.route := rfl
@[simp] theorem putRing_trg (r : Nat) (x : Ring) : (s.putRing r x).trg = s.trg := rfl
@[simp] theorem putRing_grp (r : Nat) (x : Ring) : (s.putRing r x).grp = s.grp := rfl
@[simp] theorem putRing_recd (r : Nat) (x : Ring) : (s.putRing r x).recd = s.recd := rfl
@[simp] theorem putRing_nodes (r : Nat) (x : Ring) : (s.putRing r x).nodes = s.nodes := rfl
@[simp] theorem putRing_acqBytes (r : Nat) (x : Ring) : (s.putRing r x).acqBytes = s.acqBytes := rfl
@[simp] theorem putRing_maskStop (r : Nat) (x : Ring) : (s.putRing r x).maskStop = s.maskStop := rfl
@[simp] theorem putRing_commits (r : Nat) (x : Ring) : (s.putRing r x).commits = s.commits := rfl
@[simp] theorem putRing_nvm (r : Nat) (x : Ring) : (s.putRing r x).nvm = s.nvm := rfl
@[simp] theorem putRing_memOps (r : Nat) (x : Ring) : (s.putRing r x).memOps = s.memOps := rfl
@[simp] theorem putRing_pending (r : Nat) (x : Ring) : (s.putRing r x).pending = s.pending := rfl

@[simp] theorem putComp_variant (r k : Nat) (x : Companion) : (s.putComp r k x).variant = s.variant := rfl
@[simp] theorem putComp_regs (r k : Nat) (x : Companion) : (s.putComp r k x).regs = s.regs := rfl
@[simp] theorem putComp_mem (r k : Nat) (x : Companion) : (s.putComp r k x).mem = s.mem := rfl
@[simp] theorem putComp_ecc (r k : Nat) (x : Companion) : (s.putComp r k x).ecc = s.ecc := rfl
@[simp] theorem putComp_dramGen (r k : Nat) (x : Companion) : (s.putComp r k x).dramGen = s.dramGen := rfl
@[simp] theorem putComp_free (r k : Nat) (x : Companion) : (s.putComp r k x).free = s.free := rfl
@[simp] theorem putComp_booted (r k : Nat) (x : Companion) : (s.putComp r k x).booted = s.booted := rfl
@[simp] theorem putComp_host (r k : Nat) (x : Companion) : (s.putComp r k x).host = s.host := rfl
@[simp] theorem putComp_credits (r k : Nat) (x : Companion) : (s.putComp r k x).credits = s.credits := rfl
@[simp] theorem putComp_pastCompletion (r k : Nat) (x : Companion) : (s.putComp r k x).pastCompletion = s.pastCompletion := rfl
@[simp] theorem putComp_gal (r k : Nat) (x : Companion) : (s.putComp r k x).gal = s.gal := rfl
@[simp] theorem putComp_brg (r k : Nat) (x : Companion) : (s.putComp r k x).brg = s.brg := rfl
@[simp] theorem putComp_galFault (r k : Nat) (x : Companion) : (s.putComp r k x).galFault = s.galFault := rfl
@[simp] theorem putComp_mig (r k : Nat) (x : Companion) : (s.putComp r k x).mig = s.mig := rfl
@[simp] theorem putComp_stw (r k : Nat) (x : Companion) : (s.putComp r k x).stw = s.stw := rfl
@[simp] theorem putComp_bal (r k : Nat) (x : Companion) : (s.putComp r k x).bal = s.bal := rfl
@[simp] theorem putComp_newel (r k : Nat) (x : Companion) : (s.putComp r k x).newel = s.newel := rfl
@[simp] theorem putComp_hall (r k : Nat) (x : Companion) : (s.putComp r k x).hall = s.hall := rfl
@[simp] theorem putComp_can (r k : Nat) (x : Companion) : (s.putComp r k x).can = s.can := rfl
@[simp] theorem putComp_time (r k : Nat) (x : Companion) : (s.putComp r k x).time = s.time := rfl
@[simp] theorem putComp_eth (r k : Nat) (x : Companion) : (s.putComp r k x).eth = s.eth := rfl
@[simp] theorem putComp_pwr (r k : Nat) (x : Companion) : (s.putComp r k x).pwr = s.pwr := rfl
@[simp] theorem putComp_vol (r k : Nat) (x : Companion) : (s.putComp r k x).vol = s.vol := rfl
@[simp] theorem putComp_fio (r k : Nat) (x : Companion) : (s.putComp r k x).fio = s.fio := rfl
@[simp] theorem putComp_axis (r k : Nat) (x : Companion) : (s.putComp r k x).axis = s.axis := rfl
@[simp] theorem putComp_port (r k : Nat) (x : Companion) : (s.putComp r k x).port = s.port := rfl
@[simp] theorem putComp_fbFault (r k : Nat) (x : Companion) : (s.putComp r k x).fbFault = s.fbFault := rfl
@[simp] theorem putComp_sdm (r k : Nat) (x : Companion) : (s.putComp r k x).sdm = s.sdm := rfl
@[simp] theorem putComp_emu (r k : Nat) (x : Companion) : (s.putComp r k x).emu = s.emu := rfl
@[simp] theorem putComp_route (r k : Nat) (x : Companion) : (s.putComp r k x).route = s.route := rfl
@[simp] theorem putComp_trg (r k : Nat) (x : Companion) : (s.putComp r k x).trg = s.trg := rfl
@[simp] theorem putComp_grp (r k : Nat) (x : Companion) : (s.putComp r k x).grp = s.grp := rfl
@[simp] theorem putComp_recd (r k : Nat) (x : Companion) : (s.putComp r k x).recd = s.recd := rfl
@[simp] theorem putComp_nodes (r k : Nat) (x : Companion) : (s.putComp r k x).nodes = s.nodes := rfl
@[simp] theorem putComp_acqBytes (r k : Nat) (x : Companion) : (s.putComp r k x).acqBytes = s.acqBytes := rfl
@[simp] theorem putComp_maskStop (r k : Nat) (x : Companion) : (s.putComp r k x).maskStop = s.maskStop := rfl
@[simp] theorem putComp_commits (r k : Nat) (x : Companion) : (s.putComp r k x).commits = s.commits := rfl
@[simp] theorem putComp_nvm (r k : Nat) (x : Companion) : (s.putComp r k x).nvm = s.nvm := rfl
@[simp] theorem putComp_memOps (r k : Nat) (x : Companion) : (s.putComp r k x).memOps = s.memOps := rfl
@[simp] theorem putComp_pending (r k : Nat) (x : Companion) : (s.putComp r k x).pending = s.pending := rfl

@[simp] theorem setComp_variant (r k : Nat) (x : Companion) : (s.setComp r k x).variant = s.variant := rfl
@[simp] theorem setComp_regs (r k : Nat) (x : Companion) : (s.setComp r k x).regs = s.regs := rfl
@[simp] theorem setComp_mem (r k : Nat) (x : Companion) : (s.setComp r k x).mem = s.mem := rfl
@[simp] theorem setComp_ecc (r k : Nat) (x : Companion) : (s.setComp r k x).ecc = s.ecc := rfl
@[simp] theorem setComp_dramGen (r k : Nat) (x : Companion) : (s.setComp r k x).dramGen = s.dramGen := rfl
@[simp] theorem setComp_free (r k : Nat) (x : Companion) : (s.setComp r k x).free = s.free := rfl
@[simp] theorem setComp_booted (r k : Nat) (x : Companion) : (s.setComp r k x).booted = s.booted := rfl
@[simp] theorem setComp_host (r k : Nat) (x : Companion) : (s.setComp r k x).host = s.host := rfl
@[simp] theorem setComp_credits (r k : Nat) (x : Companion) : (s.setComp r k x).credits = s.credits := rfl
@[simp] theorem setComp_pastCompletion (r k : Nat) (x : Companion) : (s.setComp r k x).pastCompletion = s.pastCompletion := rfl
@[simp] theorem setComp_gal (r k : Nat) (x : Companion) : (s.setComp r k x).gal = s.gal := rfl
@[simp] theorem setComp_brg (r k : Nat) (x : Companion) : (s.setComp r k x).brg = s.brg := rfl
@[simp] theorem setComp_galFault (r k : Nat) (x : Companion) : (s.setComp r k x).galFault = s.galFault := rfl
@[simp] theorem setComp_mig (r k : Nat) (x : Companion) : (s.setComp r k x).mig = s.mig := rfl
@[simp] theorem setComp_stw (r k : Nat) (x : Companion) : (s.setComp r k x).stw = s.stw := rfl
@[simp] theorem setComp_bal (r k : Nat) (x : Companion) : (s.setComp r k x).bal = s.bal := rfl
@[simp] theorem setComp_newel (r k : Nat) (x : Companion) : (s.setComp r k x).newel = s.newel := rfl
@[simp] theorem setComp_hall (r k : Nat) (x : Companion) : (s.setComp r k x).hall = s.hall := rfl
@[simp] theorem setComp_can (r k : Nat) (x : Companion) : (s.setComp r k x).can = s.can := rfl
@[simp] theorem setComp_time (r k : Nat) (x : Companion) : (s.setComp r k x).time = s.time := rfl
@[simp] theorem setComp_eth (r k : Nat) (x : Companion) : (s.setComp r k x).eth = s.eth := rfl
@[simp] theorem setComp_pwr (r k : Nat) (x : Companion) : (s.setComp r k x).pwr = s.pwr := rfl
@[simp] theorem setComp_vol (r k : Nat) (x : Companion) : (s.setComp r k x).vol = s.vol := rfl
@[simp] theorem setComp_fio (r k : Nat) (x : Companion) : (s.setComp r k x).fio = s.fio := rfl
@[simp] theorem setComp_axis (r k : Nat) (x : Companion) : (s.setComp r k x).axis = s.axis := rfl
@[simp] theorem setComp_port (r k : Nat) (x : Companion) : (s.setComp r k x).port = s.port := rfl
@[simp] theorem setComp_fbFault (r k : Nat) (x : Companion) : (s.setComp r k x).fbFault = s.fbFault := rfl
@[simp] theorem setComp_sdm (r k : Nat) (x : Companion) : (s.setComp r k x).sdm = s.sdm := rfl
@[simp] theorem setComp_emu (r k : Nat) (x : Companion) : (s.setComp r k x).emu = s.emu := rfl
@[simp] theorem setComp_route (r k : Nat) (x : Companion) : (s.setComp r k x).route = s.route := rfl
@[simp] theorem setComp_trg (r k : Nat) (x : Companion) : (s.setComp r k x).trg = s.trg := rfl
@[simp] theorem setComp_grp (r k : Nat) (x : Companion) : (s.setComp r k x).grp = s.grp := rfl
@[simp] theorem setComp_recd (r k : Nat) (x : Companion) : (s.setComp r k x).recd = s.recd := rfl
@[simp] theorem setComp_nodes (r k : Nat) (x : Companion) : (s.setComp r k x).nodes = s.nodes := rfl
@[simp] theorem setComp_acqBytes (r k : Nat) (x : Companion) : (s.setComp r k x).acqBytes = s.acqBytes := rfl
@[simp] theorem setComp_maskStop (r k : Nat) (x : Companion) : (s.setComp r k x).maskStop = s.maskStop := rfl
@[simp] theorem setComp_commits (r k : Nat) (x : Companion) : (s.setComp r k x).commits = s.commits := rfl
@[simp] theorem setComp_nvm (r k : Nat) (x : Companion) : (s.setComp r k x).nvm = s.nvm := rfl
@[simp] theorem setComp_memOps (r k : Nat) (x : Companion) : (s.setComp r k x).memOps = s.memOps := rfl
@[simp] theorem setComp_pending (r k : Nat) (x : Companion) : (s.setComp r k x).pending = s.pending := rfl

@[simp] theorem putAxis_variant (a : Nat) (x : AxisRun) : (s.putAxis a x).variant = s.variant := rfl
@[simp] theorem putAxis_regs (a : Nat) (x : AxisRun) : (s.putAxis a x).regs = s.regs := rfl
@[simp] theorem putAxis_mem (a : Nat) (x : AxisRun) : (s.putAxis a x).mem = s.mem := rfl
@[simp] theorem putAxis_ecc (a : Nat) (x : AxisRun) : (s.putAxis a x).ecc = s.ecc := rfl
@[simp] theorem putAxis_dramGen (a : Nat) (x : AxisRun) : (s.putAxis a x).dramGen = s.dramGen := rfl
@[simp] theorem putAxis_free (a : Nat) (x : AxisRun) : (s.putAxis a x).free = s.free := rfl
@[simp] theorem putAxis_booted (a : Nat) (x : AxisRun) : (s.putAxis a x).booted = s.booted := rfl
@[simp] theorem putAxis_host (a : Nat) (x : AxisRun) : (s.putAxis a x).host = s.host := rfl
@[simp] theorem putAxis_credits (a : Nat) (x : AxisRun) : (s.putAxis a x).credits = s.credits := rfl
@[simp] theorem putAxis_pastCompletion (a : Nat) (x : AxisRun) : (s.putAxis a x).pastCompletion = s.pastCompletion := rfl
@[simp] theorem putAxis_gal (a : Nat) (x : AxisRun) : (s.putAxis a x).gal = s.gal := rfl
@[simp] theorem putAxis_brg (a : Nat) (x : AxisRun) : (s.putAxis a x).brg = s.brg := rfl
@[simp] theorem putAxis_ring (a : Nat) (x : AxisRun) : (s.putAxis a x).ring = s.ring := rfl
@[simp] theorem putAxis_galFault (a : Nat) (x : AxisRun) : (s.putAxis a x).galFault = s.galFault := rfl
@[simp] theorem putAxis_mig (a : Nat) (x : AxisRun) : (s.putAxis a x).mig = s.mig := rfl
@[simp] theorem putAxis_stw (a : Nat) (x : AxisRun) : (s.putAxis a x).stw = s.stw := rfl
@[simp] theorem putAxis_bal (a : Nat) (x : AxisRun) : (s.putAxis a x).bal = s.bal := rfl
@[simp] theorem putAxis_newel (a : Nat) (x : AxisRun) : (s.putAxis a x).newel = s.newel := rfl
@[simp] theorem putAxis_hall (a : Nat) (x : AxisRun) : (s.putAxis a x).hall = s.hall := rfl
@[simp] theorem putAxis_can (a : Nat) (x : AxisRun) : (s.putAxis a x).can = s.can := rfl
@[simp] theorem putAxis_time (a : Nat) (x : AxisRun) : (s.putAxis a x).time = s.time := rfl
@[simp] theorem putAxis_eth (a : Nat) (x : AxisRun) : (s.putAxis a x).eth = s.eth := rfl
@[simp] theorem putAxis_pwr (a : Nat) (x : AxisRun) : (s.putAxis a x).pwr = s.pwr := rfl
@[simp] theorem putAxis_vol (a : Nat) (x : AxisRun) : (s.putAxis a x).vol = s.vol := rfl
@[simp] theorem putAxis_fio (a : Nat) (x : AxisRun) : (s.putAxis a x).fio = s.fio := rfl
@[simp] theorem putAxis_port (a : Nat) (x : AxisRun) : (s.putAxis a x).port = s.port := rfl
@[simp] theorem putAxis_fbFault (a : Nat) (x : AxisRun) : (s.putAxis a x).fbFault = s.fbFault := rfl
@[simp] theorem putAxis_sdm (a : Nat) (x : AxisRun) : (s.putAxis a x).sdm = s.sdm := rfl
@[simp] theorem putAxis_emu (a : Nat) (x : AxisRun) : (s.putAxis a x).emu = s.emu := rfl
@[simp] theorem putAxis_route (a : Nat) (x : AxisRun) : (s.putAxis a x).route = s.route := rfl
@[simp] theorem putAxis_trg (a : Nat) (x : AxisRun) : (s.putAxis a x).trg = s.trg := rfl
@[simp] theorem putAxis_grp (a : Nat) (x : AxisRun) : (s.putAxis a x).grp = s.grp := rfl
@[simp] theorem putAxis_recd (a : Nat) (x : AxisRun) : (s.putAxis a x).recd = s.recd := rfl
@[simp] theorem putAxis_nodes (a : Nat) (x : AxisRun) : (s.putAxis a x).nodes = s.nodes := rfl
@[simp] theorem putAxis_acqBytes (a : Nat) (x : AxisRun) : (s.putAxis a x).acqBytes = s.acqBytes := rfl
@[simp] theorem putAxis_maskStop (a : Nat) (x : AxisRun) : (s.putAxis a x).maskStop = s.maskStop := rfl
@[simp] theorem putAxis_commits (a : Nat) (x : AxisRun) : (s.putAxis a x).commits = s.commits := rfl
@[simp] theorem putAxis_nvm (a : Nat) (x : AxisRun) : (s.putAxis a x).nvm = s.nvm := rfl
@[simp] theorem putAxis_memOps (a : Nat) (x : AxisRun) : (s.putAxis a x).memOps = s.memOps := rfl
@[simp] theorem putAxis_pending (a : Nat) (x : AxisRun) : (s.putAxis a x).pending = s.pending := rfl

@[simp] theorem putPort_variant (n : Nat) (x : Port) : (s.putPort n x).variant = s.variant := rfl
@[simp] theorem putPort_regs (n : Nat) (x : Port) : (s.putPort n x).regs = s.regs := rfl
@[simp] theorem putPort_mem (n : Nat) (x : Port) : (s.putPort n x).mem = s.mem := rfl
@[simp] theorem putPort_ecc (n : Nat) (x : Port) : (s.putPort n x).ecc = s.ecc := rfl
@[simp] theorem putPort_dramGen (n : Nat) (x : Port) : (s.putPort n x).dramGen = s.dramGen := rfl
@[simp] theorem putPort_free (n : Nat) (x : Port) : (s.putPort n x).free = s.free := rfl
@[simp] theorem putPort_booted (n : Nat) (x : Port) : (s.putPort n x).booted = s.booted := rfl
@[simp] theorem putPort_host (n : Nat) (x : Port) : (s.putPort n x).host = s.host := rfl
@[simp] theorem putPort_credits (n : Nat) (x : Port) : (s.putPort n x).credits = s.credits := rfl
@[simp] theorem putPort_pastCompletion (n : Nat) (x : Port) : (s.putPort n x).pastCompletion = s.pastCompletion := rfl
@[simp] theorem putPort_gal (n : Nat) (x : Port) : (s.putPort n x).gal = s.gal := rfl
@[simp] theorem putPort_brg (n : Nat) (x : Port) : (s.putPort n x).brg = s.brg := rfl
@[simp] theorem putPort_ring (n : Nat) (x : Port) : (s.putPort n x).ring = s.ring := rfl
@[simp] theorem putPort_galFault (n : Nat) (x : Port) : (s.putPort n x).galFault = s.galFault := rfl
@[simp] theorem putPort_mig (n : Nat) (x : Port) : (s.putPort n x).mig = s.mig := rfl
@[simp] theorem putPort_stw (n : Nat) (x : Port) : (s.putPort n x).stw = s.stw := rfl
@[simp] theorem putPort_bal (n : Nat) (x : Port) : (s.putPort n x).bal = s.bal := rfl
@[simp] theorem putPort_newel (n : Nat) (x : Port) : (s.putPort n x).newel = s.newel := rfl
@[simp] theorem putPort_hall (n : Nat) (x : Port) : (s.putPort n x).hall = s.hall := rfl
@[simp] theorem putPort_can (n : Nat) (x : Port) : (s.putPort n x).can = s.can := rfl
@[simp] theorem putPort_time (n : Nat) (x : Port) : (s.putPort n x).time = s.time := rfl
@[simp] theorem putPort_eth (n : Nat) (x : Port) : (s.putPort n x).eth = s.eth := rfl
@[simp] theorem putPort_pwr (n : Nat) (x : Port) : (s.putPort n x).pwr = s.pwr := rfl
@[simp] theorem putPort_vol (n : Nat) (x : Port) : (s.putPort n x).vol = s.vol := rfl
@[simp] theorem putPort_fio (n : Nat) (x : Port) : (s.putPort n x).fio = s.fio := rfl
@[simp] theorem putPort_axis (n : Nat) (x : Port) : (s.putPort n x).axis = s.axis := rfl
@[simp] theorem putPort_fbFault (n : Nat) (x : Port) : (s.putPort n x).fbFault = s.fbFault := rfl
@[simp] theorem putPort_sdm (n : Nat) (x : Port) : (s.putPort n x).sdm = s.sdm := rfl
@[simp] theorem putPort_emu (n : Nat) (x : Port) : (s.putPort n x).emu = s.emu := rfl
@[simp] theorem putPort_route (n : Nat) (x : Port) : (s.putPort n x).route = s.route := rfl
@[simp] theorem putPort_trg (n : Nat) (x : Port) : (s.putPort n x).trg = s.trg := rfl
@[simp] theorem putPort_grp (n : Nat) (x : Port) : (s.putPort n x).grp = s.grp := rfl
@[simp] theorem putPort_recd (n : Nat) (x : Port) : (s.putPort n x).recd = s.recd := rfl
@[simp] theorem putPort_nodes (n : Nat) (x : Port) : (s.putPort n x).nodes = s.nodes := rfl
@[simp] theorem putPort_acqBytes (n : Nat) (x : Port) : (s.putPort n x).acqBytes = s.acqBytes := rfl
@[simp] theorem putPort_maskStop (n : Nat) (x : Port) : (s.putPort n x).maskStop = s.maskStop := rfl
@[simp] theorem putPort_commits (n : Nat) (x : Port) : (s.putPort n x).commits = s.commits := rfl
@[simp] theorem putPort_nvm (n : Nat) (x : Port) : (s.putPort n x).nvm = s.nvm := rfl
@[simp] theorem putPort_memOps (n : Nat) (x : Port) : (s.putPort n x).memOps = s.memOps := rfl
@[simp] theorem putPort_pending (n : Nat) (x : Port) : (s.putPort n x).pending = s.pending := rfl

@[simp] theorem putHall_variant (k : Nat) (x : HallCore) : (s.putHall k x).variant = s.variant := rfl
@[simp] theorem putHall_regs (k : Nat) (x : HallCore) : (s.putHall k x).regs = s.regs := rfl
@[simp] theorem putHall_mem (k : Nat) (x : HallCore) : (s.putHall k x).mem = s.mem := rfl
@[simp] theorem putHall_ecc (k : Nat) (x : HallCore) : (s.putHall k x).ecc = s.ecc := rfl
@[simp] theorem putHall_dramGen (k : Nat) (x : HallCore) : (s.putHall k x).dramGen = s.dramGen := rfl
@[simp] theorem putHall_free (k : Nat) (x : HallCore) : (s.putHall k x).free = s.free := rfl
@[simp] theorem putHall_booted (k : Nat) (x : HallCore) : (s.putHall k x).booted = s.booted := rfl
@[simp] theorem putHall_host (k : Nat) (x : HallCore) : (s.putHall k x).host = s.host := rfl
@[simp] theorem putHall_credits (k : Nat) (x : HallCore) : (s.putHall k x).credits = s.credits := rfl
@[simp] theorem putHall_pastCompletion (k : Nat) (x : HallCore) : (s.putHall k x).pastCompletion = s.pastCompletion := rfl
@[simp] theorem putHall_gal (k : Nat) (x : HallCore) : (s.putHall k x).gal = s.gal := rfl
@[simp] theorem putHall_brg (k : Nat) (x : HallCore) : (s.putHall k x).brg = s.brg := rfl
@[simp] theorem putHall_ring (k : Nat) (x : HallCore) : (s.putHall k x).ring = s.ring := rfl
@[simp] theorem putHall_galFault (k : Nat) (x : HallCore) : (s.putHall k x).galFault = s.galFault := rfl
@[simp] theorem putHall_mig (k : Nat) (x : HallCore) : (s.putHall k x).mig = s.mig := rfl
@[simp] theorem putHall_stw (k : Nat) (x : HallCore) : (s.putHall k x).stw = s.stw := rfl
@[simp] theorem putHall_bal (k : Nat) (x : HallCore) : (s.putHall k x).bal = s.bal := rfl
@[simp] theorem putHall_newel (k : Nat) (x : HallCore) : (s.putHall k x).newel = s.newel := rfl
@[simp] theorem putHall_can (k : Nat) (x : HallCore) : (s.putHall k x).can = s.can := rfl
@[simp] theorem putHall_time (k : Nat) (x : HallCore) : (s.putHall k x).time = s.time := rfl
@[simp] theorem putHall_eth (k : Nat) (x : HallCore) : (s.putHall k x).eth = s.eth := rfl
@[simp] theorem putHall_pwr (k : Nat) (x : HallCore) : (s.putHall k x).pwr = s.pwr := rfl
@[simp] theorem putHall_vol (k : Nat) (x : HallCore) : (s.putHall k x).vol = s.vol := rfl
@[simp] theorem putHall_fio (k : Nat) (x : HallCore) : (s.putHall k x).fio = s.fio := rfl
@[simp] theorem putHall_axis (k : Nat) (x : HallCore) : (s.putHall k x).axis = s.axis := rfl
@[simp] theorem putHall_port (k : Nat) (x : HallCore) : (s.putHall k x).port = s.port := rfl
@[simp] theorem putHall_fbFault (k : Nat) (x : HallCore) : (s.putHall k x).fbFault = s.fbFault := rfl
@[simp] theorem putHall_sdm (k : Nat) (x : HallCore) : (s.putHall k x).sdm = s.sdm := rfl
@[simp] theorem putHall_emu (k : Nat) (x : HallCore) : (s.putHall k x).emu = s.emu := rfl
@[simp] theorem putHall_route (k : Nat) (x : HallCore) : (s.putHall k x).route = s.route := rfl
@[simp] theorem putHall_trg (k : Nat) (x : HallCore) : (s.putHall k x).trg = s.trg := rfl
@[simp] theorem putHall_grp (k : Nat) (x : HallCore) : (s.putHall k x).grp = s.grp := rfl
@[simp] theorem putHall_recd (k : Nat) (x : HallCore) : (s.putHall k x).recd = s.recd := rfl
@[simp] theorem putHall_nodes (k : Nat) (x : HallCore) : (s.putHall k x).nodes = s.nodes := rfl
@[simp] theorem putHall_acqBytes (k : Nat) (x : HallCore) : (s.putHall k x).acqBytes = s.acqBytes := rfl
@[simp] theorem putHall_maskStop (k : Nat) (x : HallCore) : (s.putHall k x).maskStop = s.maskStop := rfl
@[simp] theorem putHall_commits (k : Nat) (x : HallCore) : (s.putHall k x).commits = s.commits := rfl
@[simp] theorem putHall_nvm (k : Nat) (x : HallCore) : (s.putHall k x).nvm = s.nvm := rfl
@[simp] theorem putHall_memOps (k : Nat) (x : HallCore) : (s.putHall k x).memOps = s.memOps := rfl
@[simp] theorem putHall_pending (k : Nat) (x : HallCore) : (s.putHall k x).pending = s.pending := rfl

@[simp] theorem putDma_variant (c : Nat) (x : DmaCh) : (s.putDma c x).variant = s.variant := rfl
@[simp] theorem putDma_regs (c : Nat) (x : DmaCh) : (s.putDma c x).regs = s.regs := rfl
@[simp] theorem putDma_mem (c : Nat) (x : DmaCh) : (s.putDma c x).mem = s.mem := rfl
@[simp] theorem putDma_ecc (c : Nat) (x : DmaCh) : (s.putDma c x).ecc = s.ecc := rfl
@[simp] theorem putDma_dramGen (c : Nat) (x : DmaCh) : (s.putDma c x).dramGen = s.dramGen := rfl
@[simp] theorem putDma_free (c : Nat) (x : DmaCh) : (s.putDma c x).free = s.free := rfl
@[simp] theorem putDma_booted (c : Nat) (x : DmaCh) : (s.putDma c x).booted = s.booted := rfl
@[simp] theorem putDma_credits (c : Nat) (x : DmaCh) : (s.putDma c x).credits = s.credits := rfl
@[simp] theorem putDma_pastCompletion (c : Nat) (x : DmaCh) : (s.putDma c x).pastCompletion = s.pastCompletion := rfl
@[simp] theorem putDma_gal (c : Nat) (x : DmaCh) : (s.putDma c x).gal = s.gal := rfl
@[simp] theorem putDma_brg (c : Nat) (x : DmaCh) : (s.putDma c x).brg = s.brg := rfl
@[simp] theorem putDma_ring (c : Nat) (x : DmaCh) : (s.putDma c x).ring = s.ring := rfl
@[simp] theorem putDma_galFault (c : Nat) (x : DmaCh) : (s.putDma c x).galFault = s.galFault := rfl
@[simp] theorem putDma_mig (c : Nat) (x : DmaCh) : (s.putDma c x).mig = s.mig := rfl
@[simp] theorem putDma_stw (c : Nat) (x : DmaCh) : (s.putDma c x).stw = s.stw := rfl
@[simp] theorem putDma_bal (c : Nat) (x : DmaCh) : (s.putDma c x).bal = s.bal := rfl
@[simp] theorem putDma_newel (c : Nat) (x : DmaCh) : (s.putDma c x).newel = s.newel := rfl
@[simp] theorem putDma_hall (c : Nat) (x : DmaCh) : (s.putDma c x).hall = s.hall := rfl
@[simp] theorem putDma_can (c : Nat) (x : DmaCh) : (s.putDma c x).can = s.can := rfl
@[simp] theorem putDma_time (c : Nat) (x : DmaCh) : (s.putDma c x).time = s.time := rfl
@[simp] theorem putDma_eth (c : Nat) (x : DmaCh) : (s.putDma c x).eth = s.eth := rfl
@[simp] theorem putDma_pwr (c : Nat) (x : DmaCh) : (s.putDma c x).pwr = s.pwr := rfl
@[simp] theorem putDma_vol (c : Nat) (x : DmaCh) : (s.putDma c x).vol = s.vol := rfl
@[simp] theorem putDma_fio (c : Nat) (x : DmaCh) : (s.putDma c x).fio = s.fio := rfl
@[simp] theorem putDma_axis (c : Nat) (x : DmaCh) : (s.putDma c x).axis = s.axis := rfl
@[simp] theorem putDma_port (c : Nat) (x : DmaCh) : (s.putDma c x).port = s.port := rfl
@[simp] theorem putDma_fbFault (c : Nat) (x : DmaCh) : (s.putDma c x).fbFault = s.fbFault := rfl
@[simp] theorem putDma_sdm (c : Nat) (x : DmaCh) : (s.putDma c x).sdm = s.sdm := rfl
@[simp] theorem putDma_emu (c : Nat) (x : DmaCh) : (s.putDma c x).emu = s.emu := rfl
@[simp] theorem putDma_route (c : Nat) (x : DmaCh) : (s.putDma c x).route = s.route := rfl
@[simp] theorem putDma_trg (c : Nat) (x : DmaCh) : (s.putDma c x).trg = s.trg := rfl
@[simp] theorem putDma_grp (c : Nat) (x : DmaCh) : (s.putDma c x).grp = s.grp := rfl
@[simp] theorem putDma_recd (c : Nat) (x : DmaCh) : (s.putDma c x).recd = s.recd := rfl
@[simp] theorem putDma_nodes (c : Nat) (x : DmaCh) : (s.putDma c x).nodes = s.nodes := rfl
@[simp] theorem putDma_acqBytes (c : Nat) (x : DmaCh) : (s.putDma c x).acqBytes = s.acqBytes := rfl
@[simp] theorem putDma_maskStop (c : Nat) (x : DmaCh) : (s.putDma c x).maskStop = s.maskStop := rfl
@[simp] theorem putDma_commits (c : Nat) (x : DmaCh) : (s.putDma c x).commits = s.commits := rfl
@[simp] theorem putDma_nvm (c : Nat) (x : DmaCh) : (s.putDma c x).nvm = s.nvm := rfl
@[simp] theorem putDma_memOps (c : Nat) (x : DmaCh) : (s.putDma c x).memOps = s.memOps := rfl
@[simp] theorem putDma_pending (c : Nat) (x : DmaCh) : (s.putDma c x).pending = s.pending := rfl

@[simp] theorem putRoute_variant (x : RouteRun) : (State.putRoute x s).variant = s.variant := rfl
@[simp] theorem putRoute_regs (x : RouteRun) : (State.putRoute x s).regs = s.regs := rfl
@[simp] theorem putRoute_mem (x : RouteRun) : (State.putRoute x s).mem = s.mem := rfl
@[simp] theorem putRoute_ecc (x : RouteRun) : (State.putRoute x s).ecc = s.ecc := rfl
@[simp] theorem putRoute_dramGen (x : RouteRun) : (State.putRoute x s).dramGen = s.dramGen := rfl
@[simp] theorem putRoute_free (x : RouteRun) : (State.putRoute x s).free = s.free := rfl
@[simp] theorem putRoute_booted (x : RouteRun) : (State.putRoute x s).booted = s.booted := rfl
@[simp] theorem putRoute_host (x : RouteRun) : (State.putRoute x s).host = s.host := rfl
@[simp] theorem putRoute_credits (x : RouteRun) : (State.putRoute x s).credits = s.credits := rfl
@[simp] theorem putRoute_pastCompletion (x : RouteRun) : (State.putRoute x s).pastCompletion = s.pastCompletion := rfl
@[simp] theorem putRoute_gal (x : RouteRun) : (State.putRoute x s).gal = s.gal := rfl
@[simp] theorem putRoute_brg (x : RouteRun) : (State.putRoute x s).brg = s.brg := rfl
@[simp] theorem putRoute_ring (x : RouteRun) : (State.putRoute x s).ring = s.ring := rfl
@[simp] theorem putRoute_galFault (x : RouteRun) : (State.putRoute x s).galFault = s.galFault := rfl
@[simp] theorem putRoute_mig (x : RouteRun) : (State.putRoute x s).mig = s.mig := rfl
@[simp] theorem putRoute_stw (x : RouteRun) : (State.putRoute x s).stw = s.stw := rfl
@[simp] theorem putRoute_bal (x : RouteRun) : (State.putRoute x s).bal = s.bal := rfl
@[simp] theorem putRoute_newel (x : RouteRun) : (State.putRoute x s).newel = s.newel := rfl
@[simp] theorem putRoute_hall (x : RouteRun) : (State.putRoute x s).hall = s.hall := rfl
@[simp] theorem putRoute_can (x : RouteRun) : (State.putRoute x s).can = s.can := rfl
@[simp] theorem putRoute_time (x : RouteRun) : (State.putRoute x s).time = s.time := rfl
@[simp] theorem putRoute_eth (x : RouteRun) : (State.putRoute x s).eth = s.eth := rfl
@[simp] theorem putRoute_pwr (x : RouteRun) : (State.putRoute x s).pwr = s.pwr := rfl
@[simp] theorem putRoute_vol (x : RouteRun) : (State.putRoute x s).vol = s.vol := rfl
@[simp] theorem putRoute_fio (x : RouteRun) : (State.putRoute x s).fio = s.fio := rfl
@[simp] theorem putRoute_axis (x : RouteRun) : (State.putRoute x s).axis = s.axis := rfl
@[simp] theorem putRoute_port (x : RouteRun) : (State.putRoute x s).port = s.port := rfl
@[simp] theorem putRoute_fbFault (x : RouteRun) : (State.putRoute x s).fbFault = s.fbFault := rfl
@[simp] theorem putRoute_sdm (x : RouteRun) : (State.putRoute x s).sdm = s.sdm := rfl
@[simp] theorem putRoute_emu (x : RouteRun) : (State.putRoute x s).emu = s.emu := rfl
@[simp] theorem putRoute_trg (x : RouteRun) : (State.putRoute x s).trg = s.trg := rfl
@[simp] theorem putRoute_grp (x : RouteRun) : (State.putRoute x s).grp = s.grp := rfl
@[simp] theorem putRoute_recd (x : RouteRun) : (State.putRoute x s).recd = s.recd := rfl
@[simp] theorem putRoute_nodes (x : RouteRun) : (State.putRoute x s).nodes = s.nodes := rfl
@[simp] theorem putRoute_acqBytes (x : RouteRun) : (State.putRoute x s).acqBytes = s.acqBytes := rfl
@[simp] theorem putRoute_maskStop (x : RouteRun) : (State.putRoute x s).maskStop = s.maskStop := rfl
@[simp] theorem putRoute_commits (x : RouteRun) : (State.putRoute x s).commits = s.commits := rfl
@[simp] theorem putRoute_nvm (x : RouteRun) : (State.putRoute x s).nvm = s.nvm := rfl
@[simp] theorem putRoute_memOps (x : RouteRun) : (State.putRoute x s).memOps = s.memOps := rfl
@[simp] theorem putRoute_pending (x : RouteRun) : (State.putRoute x s).pending = s.pending := rfl

@[simp] theorem putCan_variant (c : Nat) (x : CanSt) : (State.putCan c x s).variant = s.variant := rfl
@[simp] theorem putCan_regs (c : Nat) (x : CanSt) : (State.putCan c x s).regs = s.regs := rfl
@[simp] theorem putCan_mem (c : Nat) (x : CanSt) : (State.putCan c x s).mem = s.mem := rfl
@[simp] theorem putCan_ecc (c : Nat) (x : CanSt) : (State.putCan c x s).ecc = s.ecc := rfl
@[simp] theorem putCan_dramGen (c : Nat) (x : CanSt) : (State.putCan c x s).dramGen = s.dramGen := rfl
@[simp] theorem putCan_free (c : Nat) (x : CanSt) : (State.putCan c x s).free = s.free := rfl
@[simp] theorem putCan_booted (c : Nat) (x : CanSt) : (State.putCan c x s).booted = s.booted := rfl
@[simp] theorem putCan_host (c : Nat) (x : CanSt) : (State.putCan c x s).host = s.host := rfl
@[simp] theorem putCan_credits (c : Nat) (x : CanSt) : (State.putCan c x s).credits = s.credits := rfl
@[simp] theorem putCan_pastCompletion (c : Nat) (x : CanSt) : (State.putCan c x s).pastCompletion = s.pastCompletion := rfl
@[simp] theorem putCan_gal (c : Nat) (x : CanSt) : (State.putCan c x s).gal = s.gal := rfl
@[simp] theorem putCan_brg (c : Nat) (x : CanSt) : (State.putCan c x s).brg = s.brg := rfl
@[simp] theorem putCan_ring (c : Nat) (x : CanSt) : (State.putCan c x s).ring = s.ring := rfl
@[simp] theorem putCan_galFault (c : Nat) (x : CanSt) : (State.putCan c x s).galFault = s.galFault := rfl
@[simp] theorem putCan_mig (c : Nat) (x : CanSt) : (State.putCan c x s).mig = s.mig := rfl
@[simp] theorem putCan_stw (c : Nat) (x : CanSt) : (State.putCan c x s).stw = s.stw := rfl
@[simp] theorem putCan_bal (c : Nat) (x : CanSt) : (State.putCan c x s).bal = s.bal := rfl
@[simp] theorem putCan_newel (c : Nat) (x : CanSt) : (State.putCan c x s).newel = s.newel := rfl
@[simp] theorem putCan_hall (c : Nat) (x : CanSt) : (State.putCan c x s).hall = s.hall := rfl
@[simp] theorem putCan_time (c : Nat) (x : CanSt) : (State.putCan c x s).time = s.time := rfl
@[simp] theorem putCan_eth (c : Nat) (x : CanSt) : (State.putCan c x s).eth = s.eth := rfl
@[simp] theorem putCan_pwr (c : Nat) (x : CanSt) : (State.putCan c x s).pwr = s.pwr := rfl
@[simp] theorem putCan_vol (c : Nat) (x : CanSt) : (State.putCan c x s).vol = s.vol := rfl
@[simp] theorem putCan_fio (c : Nat) (x : CanSt) : (State.putCan c x s).fio = s.fio := rfl
@[simp] theorem putCan_axis (c : Nat) (x : CanSt) : (State.putCan c x s).axis = s.axis := rfl
@[simp] theorem putCan_port (c : Nat) (x : CanSt) : (State.putCan c x s).port = s.port := rfl
@[simp] theorem putCan_fbFault (c : Nat) (x : CanSt) : (State.putCan c x s).fbFault = s.fbFault := rfl
@[simp] theorem putCan_sdm (c : Nat) (x : CanSt) : (State.putCan c x s).sdm = s.sdm := rfl
@[simp] theorem putCan_emu (c : Nat) (x : CanSt) : (State.putCan c x s).emu = s.emu := rfl
@[simp] theorem putCan_route (c : Nat) (x : CanSt) : (State.putCan c x s).route = s.route := rfl
@[simp] theorem putCan_trg (c : Nat) (x : CanSt) : (State.putCan c x s).trg = s.trg := rfl
@[simp] theorem putCan_grp (c : Nat) (x : CanSt) : (State.putCan c x s).grp = s.grp := rfl
@[simp] theorem putCan_recd (c : Nat) (x : CanSt) : (State.putCan c x s).recd = s.recd := rfl
@[simp] theorem putCan_nodes (c : Nat) (x : CanSt) : (State.putCan c x s).nodes = s.nodes := rfl
@[simp] theorem putCan_acqBytes (c : Nat) (x : CanSt) : (State.putCan c x s).acqBytes = s.acqBytes := rfl
@[simp] theorem putCan_maskStop (c : Nat) (x : CanSt) : (State.putCan c x s).maskStop = s.maskStop := rfl
@[simp] theorem putCan_commits (c : Nat) (x : CanSt) : (State.putCan c x s).commits = s.commits := rfl
@[simp] theorem putCan_nvm (c : Nat) (x : CanSt) : (State.putCan c x s).nvm = s.nvm := rfl
@[simp] theorem putCan_memOps (c : Nat) (x : CanSt) : (State.putCan c x s).memOps = s.memOps := rfl
@[simp] theorem putCan_pending (c : Nat) (x : CanSt) : (State.putCan c x s).pending = s.pending := rfl

@[simp] theorem putFio_variant (r : Nat) (x : FioRing) : (s.putFio r x).variant = s.variant := rfl
@[simp] theorem putFio_regs (r : Nat) (x : FioRing) : (s.putFio r x).regs = s.regs := rfl
@[simp] theorem putFio_mem (r : Nat) (x : FioRing) : (s.putFio r x).mem = s.mem := rfl
@[simp] theorem putFio_ecc (r : Nat) (x : FioRing) : (s.putFio r x).ecc = s.ecc := rfl
@[simp] theorem putFio_dramGen (r : Nat) (x : FioRing) : (s.putFio r x).dramGen = s.dramGen := rfl
@[simp] theorem putFio_free (r : Nat) (x : FioRing) : (s.putFio r x).free = s.free := rfl
@[simp] theorem putFio_booted (r : Nat) (x : FioRing) : (s.putFio r x).booted = s.booted := rfl
@[simp] theorem putFio_host (r : Nat) (x : FioRing) : (s.putFio r x).host = s.host := rfl
@[simp] theorem putFio_credits (r : Nat) (x : FioRing) : (s.putFio r x).credits = s.credits := rfl
@[simp] theorem putFio_pastCompletion (r : Nat) (x : FioRing) : (s.putFio r x).pastCompletion = s.pastCompletion := rfl
@[simp] theorem putFio_gal (r : Nat) (x : FioRing) : (s.putFio r x).gal = s.gal := rfl
@[simp] theorem putFio_brg (r : Nat) (x : FioRing) : (s.putFio r x).brg = s.brg := rfl
@[simp] theorem putFio_ring (r : Nat) (x : FioRing) : (s.putFio r x).ring = s.ring := rfl
@[simp] theorem putFio_galFault (r : Nat) (x : FioRing) : (s.putFio r x).galFault = s.galFault := rfl
@[simp] theorem putFio_mig (r : Nat) (x : FioRing) : (s.putFio r x).mig = s.mig := rfl
@[simp] theorem putFio_stw (r : Nat) (x : FioRing) : (s.putFio r x).stw = s.stw := rfl
@[simp] theorem putFio_bal (r : Nat) (x : FioRing) : (s.putFio r x).bal = s.bal := rfl
@[simp] theorem putFio_newel (r : Nat) (x : FioRing) : (s.putFio r x).newel = s.newel := rfl
@[simp] theorem putFio_hall (r : Nat) (x : FioRing) : (s.putFio r x).hall = s.hall := rfl
@[simp] theorem putFio_can (r : Nat) (x : FioRing) : (s.putFio r x).can = s.can := rfl
@[simp] theorem putFio_time (r : Nat) (x : FioRing) : (s.putFio r x).time = s.time := rfl
@[simp] theorem putFio_eth (r : Nat) (x : FioRing) : (s.putFio r x).eth = s.eth := rfl
@[simp] theorem putFio_pwr (r : Nat) (x : FioRing) : (s.putFio r x).pwr = s.pwr := rfl
@[simp] theorem putFio_vol (r : Nat) (x : FioRing) : (s.putFio r x).vol = s.vol := rfl
@[simp] theorem putFio_axis (r : Nat) (x : FioRing) : (s.putFio r x).axis = s.axis := rfl
@[simp] theorem putFio_port (r : Nat) (x : FioRing) : (s.putFio r x).port = s.port := rfl
@[simp] theorem putFio_fbFault (r : Nat) (x : FioRing) : (s.putFio r x).fbFault = s.fbFault := rfl
@[simp] theorem putFio_sdm (r : Nat) (x : FioRing) : (s.putFio r x).sdm = s.sdm := rfl
@[simp] theorem putFio_emu (r : Nat) (x : FioRing) : (s.putFio r x).emu = s.emu := rfl
@[simp] theorem putFio_route (r : Nat) (x : FioRing) : (s.putFio r x).route = s.route := rfl
@[simp] theorem putFio_trg (r : Nat) (x : FioRing) : (s.putFio r x).trg = s.trg := rfl
@[simp] theorem putFio_grp (r : Nat) (x : FioRing) : (s.putFio r x).grp = s.grp := rfl
@[simp] theorem putFio_recd (r : Nat) (x : FioRing) : (s.putFio r x).recd = s.recd := rfl
@[simp] theorem putFio_nodes (r : Nat) (x : FioRing) : (s.putFio r x).nodes = s.nodes := rfl
@[simp] theorem putFio_acqBytes (r : Nat) (x : FioRing) : (s.putFio r x).acqBytes = s.acqBytes := rfl
@[simp] theorem putFio_maskStop (r : Nat) (x : FioRing) : (s.putFio r x).maskStop = s.maskStop := rfl
@[simp] theorem putFio_commits (r : Nat) (x : FioRing) : (s.putFio r x).commits = s.commits := rfl
@[simp] theorem putFio_nvm (r : Nat) (x : FioRing) : (s.putFio r x).nvm = s.nvm := rfl
@[simp] theorem putFio_memOps (r : Nat) (x : FioRing) : (s.putFio r x).memOps = s.memOps := rfl
@[simp] theorem putFio_pending (r : Nat) (x : FioRing) : (s.putFio r x).pending = s.pending := rfl

@[simp] theorem putDom_variant (d : Nat) (x : DomSt) : (State.putDom d x s).variant = s.variant := rfl
@[simp] theorem putDom_regs (d : Nat) (x : DomSt) : (State.putDom d x s).regs = s.regs := rfl
@[simp] theorem putDom_mem (d : Nat) (x : DomSt) : (State.putDom d x s).mem = s.mem := rfl
@[simp] theorem putDom_ecc (d : Nat) (x : DomSt) : (State.putDom d x s).ecc = s.ecc := rfl
@[simp] theorem putDom_dramGen (d : Nat) (x : DomSt) : (State.putDom d x s).dramGen = s.dramGen := rfl
@[simp] theorem putDom_free (d : Nat) (x : DomSt) : (State.putDom d x s).free = s.free := rfl
@[simp] theorem putDom_booted (d : Nat) (x : DomSt) : (State.putDom d x s).booted = s.booted := rfl
@[simp] theorem putDom_host (d : Nat) (x : DomSt) : (State.putDom d x s).host = s.host := rfl
@[simp] theorem putDom_credits (d : Nat) (x : DomSt) : (State.putDom d x s).credits = s.credits := rfl
@[simp] theorem putDom_pastCompletion (d : Nat) (x : DomSt) : (State.putDom d x s).pastCompletion = s.pastCompletion := rfl
@[simp] theorem putDom_gal (d : Nat) (x : DomSt) : (State.putDom d x s).gal = s.gal := rfl
@[simp] theorem putDom_brg (d : Nat) (x : DomSt) : (State.putDom d x s).brg = s.brg := rfl
@[simp] theorem putDom_ring (d : Nat) (x : DomSt) : (State.putDom d x s).ring = s.ring := rfl
@[simp] theorem putDom_galFault (d : Nat) (x : DomSt) : (State.putDom d x s).galFault = s.galFault := rfl
@[simp] theorem putDom_mig (d : Nat) (x : DomSt) : (State.putDom d x s).mig = s.mig := rfl
@[simp] theorem putDom_stw (d : Nat) (x : DomSt) : (State.putDom d x s).stw = s.stw := rfl
@[simp] theorem putDom_bal (d : Nat) (x : DomSt) : (State.putDom d x s).bal = s.bal := rfl
@[simp] theorem putDom_newel (d : Nat) (x : DomSt) : (State.putDom d x s).newel = s.newel := rfl
@[simp] theorem putDom_hall (d : Nat) (x : DomSt) : (State.putDom d x s).hall = s.hall := rfl
@[simp] theorem putDom_can (d : Nat) (x : DomSt) : (State.putDom d x s).can = s.can := rfl
@[simp] theorem putDom_eth (d : Nat) (x : DomSt) : (State.putDom d x s).eth = s.eth := rfl
@[simp] theorem putDom_pwr (d : Nat) (x : DomSt) : (State.putDom d x s).pwr = s.pwr := rfl
@[simp] theorem putDom_vol (d : Nat) (x : DomSt) : (State.putDom d x s).vol = s.vol := rfl
@[simp] theorem putDom_fio (d : Nat) (x : DomSt) : (State.putDom d x s).fio = s.fio := rfl
@[simp] theorem putDom_axis (d : Nat) (x : DomSt) : (State.putDom d x s).axis = s.axis := rfl
@[simp] theorem putDom_port (d : Nat) (x : DomSt) : (State.putDom d x s).port = s.port := rfl
@[simp] theorem putDom_fbFault (d : Nat) (x : DomSt) : (State.putDom d x s).fbFault = s.fbFault := rfl
@[simp] theorem putDom_sdm (d : Nat) (x : DomSt) : (State.putDom d x s).sdm = s.sdm := rfl
@[simp] theorem putDom_emu (d : Nat) (x : DomSt) : (State.putDom d x s).emu = s.emu := rfl
@[simp] theorem putDom_route (d : Nat) (x : DomSt) : (State.putDom d x s).route = s.route := rfl
@[simp] theorem putDom_trg (d : Nat) (x : DomSt) : (State.putDom d x s).trg = s.trg := rfl
@[simp] theorem putDom_grp (d : Nat) (x : DomSt) : (State.putDom d x s).grp = s.grp := rfl
@[simp] theorem putDom_recd (d : Nat) (x : DomSt) : (State.putDom d x s).recd = s.recd := rfl
@[simp] theorem putDom_nodes (d : Nat) (x : DomSt) : (State.putDom d x s).nodes = s.nodes := rfl
@[simp] theorem putDom_acqBytes (d : Nat) (x : DomSt) : (State.putDom d x s).acqBytes = s.acqBytes := rfl
@[simp] theorem putDom_maskStop (d : Nat) (x : DomSt) : (State.putDom d x s).maskStop = s.maskStop := rfl
@[simp] theorem putDom_commits (d : Nat) (x : DomSt) : (State.putDom d x s).commits = s.commits := rfl
@[simp] theorem putDom_nvm (d : Nat) (x : DomSt) : (State.putDom d x s).nvm = s.nvm := rfl
@[simp] theorem putDom_memOps (d : Nat) (x : DomSt) : (State.putDom d x s).memOps = s.memOps := rfl
@[simp] theorem putDom_pending (d : Nat) (x : DomSt) : (State.putDom d x s).pending = s.pending := rfl

@[simp] theorem putEth_variant (e : Nat) (x : EthSt) : (State.putEth e x s).variant = s.variant := rfl
@[simp] theorem putEth_regs (e : Nat) (x : EthSt) : (State.putEth e x s).regs = s.regs := rfl
@[simp] theorem putEth_mem (e : Nat) (x : EthSt) : (State.putEth e x s).mem = s.mem := rfl
@[simp] theorem putEth_ecc (e : Nat) (x : EthSt) : (State.putEth e x s).ecc = s.ecc := rfl
@[simp] theorem putEth_dramGen (e : Nat) (x : EthSt) : (State.putEth e x s).dramGen = s.dramGen := rfl
@[simp] theorem putEth_free (e : Nat) (x : EthSt) : (State.putEth e x s).free = s.free := rfl
@[simp] theorem putEth_booted (e : Nat) (x : EthSt) : (State.putEth e x s).booted = s.booted := rfl
@[simp] theorem putEth_host (e : Nat) (x : EthSt) : (State.putEth e x s).host = s.host := rfl
@[simp] theorem putEth_credits (e : Nat) (x : EthSt) : (State.putEth e x s).credits = s.credits := rfl
@[simp] theorem putEth_pastCompletion (e : Nat) (x : EthSt) : (State.putEth e x s).pastCompletion = s.pastCompletion := rfl
@[simp] theorem putEth_gal (e : Nat) (x : EthSt) : (State.putEth e x s).gal = s.gal := rfl
@[simp] theorem putEth_brg (e : Nat) (x : EthSt) : (State.putEth e x s).brg = s.brg := rfl
@[simp] theorem putEth_ring (e : Nat) (x : EthSt) : (State.putEth e x s).ring = s.ring := rfl
@[simp] theorem putEth_galFault (e : Nat) (x : EthSt) : (State.putEth e x s).galFault = s.galFault := rfl
@[simp] theorem putEth_mig (e : Nat) (x : EthSt) : (State.putEth e x s).mig = s.mig := rfl
@[simp] theorem putEth_stw (e : Nat) (x : EthSt) : (State.putEth e x s).stw = s.stw := rfl
@[simp] theorem putEth_bal (e : Nat) (x : EthSt) : (State.putEth e x s).bal = s.bal := rfl
@[simp] theorem putEth_newel (e : Nat) (x : EthSt) : (State.putEth e x s).newel = s.newel := rfl
@[simp] theorem putEth_hall (e : Nat) (x : EthSt) : (State.putEth e x s).hall = s.hall := rfl
@[simp] theorem putEth_can (e : Nat) (x : EthSt) : (State.putEth e x s).can = s.can := rfl
@[simp] theorem putEth_time (e : Nat) (x : EthSt) : (State.putEth e x s).time = s.time := rfl
@[simp] theorem putEth_pwr (e : Nat) (x : EthSt) : (State.putEth e x s).pwr = s.pwr := rfl
@[simp] theorem putEth_vol (e : Nat) (x : EthSt) : (State.putEth e x s).vol = s.vol := rfl
@[simp] theorem putEth_fio (e : Nat) (x : EthSt) : (State.putEth e x s).fio = s.fio := rfl
@[simp] theorem putEth_axis (e : Nat) (x : EthSt) : (State.putEth e x s).axis = s.axis := rfl
@[simp] theorem putEth_port (e : Nat) (x : EthSt) : (State.putEth e x s).port = s.port := rfl
@[simp] theorem putEth_fbFault (e : Nat) (x : EthSt) : (State.putEth e x s).fbFault = s.fbFault := rfl
@[simp] theorem putEth_sdm (e : Nat) (x : EthSt) : (State.putEth e x s).sdm = s.sdm := rfl
@[simp] theorem putEth_emu (e : Nat) (x : EthSt) : (State.putEth e x s).emu = s.emu := rfl
@[simp] theorem putEth_route (e : Nat) (x : EthSt) : (State.putEth e x s).route = s.route := rfl
@[simp] theorem putEth_trg (e : Nat) (x : EthSt) : (State.putEth e x s).trg = s.trg := rfl
@[simp] theorem putEth_grp (e : Nat) (x : EthSt) : (State.putEth e x s).grp = s.grp := rfl
@[simp] theorem putEth_recd (e : Nat) (x : EthSt) : (State.putEth e x s).recd = s.recd := rfl
@[simp] theorem putEth_nodes (e : Nat) (x : EthSt) : (State.putEth e x s).nodes = s.nodes := rfl
@[simp] theorem putEth_acqBytes (e : Nat) (x : EthSt) : (State.putEth e x s).acqBytes = s.acqBytes := rfl
@[simp] theorem putEth_maskStop (e : Nat) (x : EthSt) : (State.putEth e x s).maskStop = s.maskStop := rfl
@[simp] theorem putEth_commits (e : Nat) (x : EthSt) : (State.putEth e x s).commits = s.commits := rfl
@[simp] theorem putEth_nvm (e : Nat) (x : EthSt) : (State.putEth e x s).nvm = s.nvm := rfl
@[simp] theorem putEth_memOps (e : Nat) (x : EthSt) : (State.putEth e x s).memOps = s.memOps := rfl
@[simp] theorem putEth_pending (e : Nat) (x : EthSt) : (State.putEth e x s).pending = s.pending := rfl

@[simp] theorem putStream_variant (q : Nat) (x : StreamSt) : (State.putStream q x s).variant = s.variant := rfl
@[simp] theorem putStream_regs (q : Nat) (x : StreamSt) : (State.putStream q x s).regs = s.regs := rfl
@[simp] theorem putStream_mem (q : Nat) (x : StreamSt) : (State.putStream q x s).mem = s.mem := rfl
@[simp] theorem putStream_ecc (q : Nat) (x : StreamSt) : (State.putStream q x s).ecc = s.ecc := rfl
@[simp] theorem putStream_dramGen (q : Nat) (x : StreamSt) : (State.putStream q x s).dramGen = s.dramGen := rfl
@[simp] theorem putStream_free (q : Nat) (x : StreamSt) : (State.putStream q x s).free = s.free := rfl
@[simp] theorem putStream_booted (q : Nat) (x : StreamSt) : (State.putStream q x s).booted = s.booted := rfl
@[simp] theorem putStream_host (q : Nat) (x : StreamSt) : (State.putStream q x s).host = s.host := rfl
@[simp] theorem putStream_credits (q : Nat) (x : StreamSt) : (State.putStream q x s).credits = s.credits := rfl
@[simp] theorem putStream_pastCompletion (q : Nat) (x : StreamSt) : (State.putStream q x s).pastCompletion = s.pastCompletion := rfl
@[simp] theorem putStream_gal (q : Nat) (x : StreamSt) : (State.putStream q x s).gal = s.gal := rfl
@[simp] theorem putStream_brg (q : Nat) (x : StreamSt) : (State.putStream q x s).brg = s.brg := rfl
@[simp] theorem putStream_ring (q : Nat) (x : StreamSt) : (State.putStream q x s).ring = s.ring := rfl
@[simp] theorem putStream_galFault (q : Nat) (x : StreamSt) : (State.putStream q x s).galFault = s.galFault := rfl
@[simp] theorem putStream_mig (q : Nat) (x : StreamSt) : (State.putStream q x s).mig = s.mig := rfl
@[simp] theorem putStream_stw (q : Nat) (x : StreamSt) : (State.putStream q x s).stw = s.stw := rfl
@[simp] theorem putStream_bal (q : Nat) (x : StreamSt) : (State.putStream q x s).bal = s.bal := rfl
@[simp] theorem putStream_newel (q : Nat) (x : StreamSt) : (State.putStream q x s).newel = s.newel := rfl
@[simp] theorem putStream_hall (q : Nat) (x : StreamSt) : (State.putStream q x s).hall = s.hall := rfl
@[simp] theorem putStream_can (q : Nat) (x : StreamSt) : (State.putStream q x s).can = s.can := rfl
@[simp] theorem putStream_time (q : Nat) (x : StreamSt) : (State.putStream q x s).time = s.time := rfl
@[simp] theorem putStream_eth (q : Nat) (x : StreamSt) : (State.putStream q x s).eth = s.eth := rfl
@[simp] theorem putStream_pwr (q : Nat) (x : StreamSt) : (State.putStream q x s).pwr = s.pwr := rfl
@[simp] theorem putStream_fio (q : Nat) (x : StreamSt) : (State.putStream q x s).fio = s.fio := rfl
@[simp] theorem putStream_axis (q : Nat) (x : StreamSt) : (State.putStream q x s).axis = s.axis := rfl
@[simp] theorem putStream_port (q : Nat) (x : StreamSt) : (State.putStream q x s).port = s.port := rfl
@[simp] theorem putStream_fbFault (q : Nat) (x : StreamSt) : (State.putStream q x s).fbFault = s.fbFault := rfl
@[simp] theorem putStream_sdm (q : Nat) (x : StreamSt) : (State.putStream q x s).sdm = s.sdm := rfl
@[simp] theorem putStream_emu (q : Nat) (x : StreamSt) : (State.putStream q x s).emu = s.emu := rfl
@[simp] theorem putStream_route (q : Nat) (x : StreamSt) : (State.putStream q x s).route = s.route := rfl
@[simp] theorem putStream_trg (q : Nat) (x : StreamSt) : (State.putStream q x s).trg = s.trg := rfl
@[simp] theorem putStream_grp (q : Nat) (x : StreamSt) : (State.putStream q x s).grp = s.grp := rfl
@[simp] theorem putStream_recd (q : Nat) (x : StreamSt) : (State.putStream q x s).recd = s.recd := rfl
@[simp] theorem putStream_nodes (q : Nat) (x : StreamSt) : (State.putStream q x s).nodes = s.nodes := rfl
@[simp] theorem putStream_acqBytes (q : Nat) (x : StreamSt) : (State.putStream q x s).acqBytes = s.acqBytes := rfl
@[simp] theorem putStream_maskStop (q : Nat) (x : StreamSt) : (State.putStream q x s).maskStop = s.maskStop := rfl
@[simp] theorem putStream_commits (q : Nat) (x : StreamSt) : (State.putStream q x s).commits = s.commits := rfl
@[simp] theorem putStream_nvm (q : Nat) (x : StreamSt) : (State.putStream q x s).nvm = s.nvm := rfl
@[simp] theorem putStream_memOps (q : Nat) (x : StreamSt) : (State.putStream q x s).memOps = s.memOps := rfl
@[simp] theorem putStream_pending (q : Nat) (x : StreamSt) : (State.putStream q x s).pending = s.pending := rfl

@[simp] theorem putBalAxis_variant (a : Nat) (x : BalAxis) : (State.putBalAxis a x s).variant = s.variant := rfl
@[simp] theorem putBalAxis_regs (a : Nat) (x : BalAxis) : (State.putBalAxis a x s).regs = s.regs := rfl
@[simp] theorem putBalAxis_mem (a : Nat) (x : BalAxis) : (State.putBalAxis a x s).mem = s.mem := rfl
@[simp] theorem putBalAxis_ecc (a : Nat) (x : BalAxis) : (State.putBalAxis a x s).ecc = s.ecc := rfl
@[simp] theorem putBalAxis_dramGen (a : Nat) (x : BalAxis) : (State.putBalAxis a x s).dramGen = s.dramGen := rfl
@[simp] theorem putBalAxis_free (a : Nat) (x : BalAxis) : (State.putBalAxis a x s).free = s.free := rfl
@[simp] theorem putBalAxis_booted (a : Nat) (x : BalAxis) : (State.putBalAxis a x s).booted = s.booted := rfl
@[simp] theorem putBalAxis_host (a : Nat) (x : BalAxis) : (State.putBalAxis a x s).host = s.host := rfl
@[simp] theorem putBalAxis_credits (a : Nat) (x : BalAxis) : (State.putBalAxis a x s).credits = s.credits := rfl
@[simp] theorem putBalAxis_pastCompletion (a : Nat) (x : BalAxis) : (State.putBalAxis a x s).pastCompletion = s.pastCompletion := rfl
@[simp] theorem putBalAxis_gal (a : Nat) (x : BalAxis) : (State.putBalAxis a x s).gal = s.gal := rfl
@[simp] theorem putBalAxis_brg (a : Nat) (x : BalAxis) : (State.putBalAxis a x s).brg = s.brg := rfl
@[simp] theorem putBalAxis_ring (a : Nat) (x : BalAxis) : (State.putBalAxis a x s).ring = s.ring := rfl
@[simp] theorem putBalAxis_galFault (a : Nat) (x : BalAxis) : (State.putBalAxis a x s).galFault = s.galFault := rfl
@[simp] theorem putBalAxis_mig (a : Nat) (x : BalAxis) : (State.putBalAxis a x s).mig = s.mig := rfl
@[simp] theorem putBalAxis_stw (a : Nat) (x : BalAxis) : (State.putBalAxis a x s).stw = s.stw := rfl
@[simp] theorem putBalAxis_newel (a : Nat) (x : BalAxis) : (State.putBalAxis a x s).newel = s.newel := rfl
@[simp] theorem putBalAxis_hall (a : Nat) (x : BalAxis) : (State.putBalAxis a x s).hall = s.hall := rfl
@[simp] theorem putBalAxis_can (a : Nat) (x : BalAxis) : (State.putBalAxis a x s).can = s.can := rfl
@[simp] theorem putBalAxis_time (a : Nat) (x : BalAxis) : (State.putBalAxis a x s).time = s.time := rfl
@[simp] theorem putBalAxis_eth (a : Nat) (x : BalAxis) : (State.putBalAxis a x s).eth = s.eth := rfl
@[simp] theorem putBalAxis_pwr (a : Nat) (x : BalAxis) : (State.putBalAxis a x s).pwr = s.pwr := rfl
@[simp] theorem putBalAxis_vol (a : Nat) (x : BalAxis) : (State.putBalAxis a x s).vol = s.vol := rfl
@[simp] theorem putBalAxis_fio (a : Nat) (x : BalAxis) : (State.putBalAxis a x s).fio = s.fio := rfl
@[simp] theorem putBalAxis_axis (a : Nat) (x : BalAxis) : (State.putBalAxis a x s).axis = s.axis := rfl
@[simp] theorem putBalAxis_port (a : Nat) (x : BalAxis) : (State.putBalAxis a x s).port = s.port := rfl
@[simp] theorem putBalAxis_fbFault (a : Nat) (x : BalAxis) : (State.putBalAxis a x s).fbFault = s.fbFault := rfl
@[simp] theorem putBalAxis_sdm (a : Nat) (x : BalAxis) : (State.putBalAxis a x s).sdm = s.sdm := rfl
@[simp] theorem putBalAxis_emu (a : Nat) (x : BalAxis) : (State.putBalAxis a x s).emu = s.emu := rfl
@[simp] theorem putBalAxis_route (a : Nat) (x : BalAxis) : (State.putBalAxis a x s).route = s.route := rfl
@[simp] theorem putBalAxis_trg (a : Nat) (x : BalAxis) : (State.putBalAxis a x s).trg = s.trg := rfl
@[simp] theorem putBalAxis_grp (a : Nat) (x : BalAxis) : (State.putBalAxis a x s).grp = s.grp := rfl
@[simp] theorem putBalAxis_recd (a : Nat) (x : BalAxis) : (State.putBalAxis a x s).recd = s.recd := rfl
@[simp] theorem putBalAxis_nodes (a : Nat) (x : BalAxis) : (State.putBalAxis a x s).nodes = s.nodes := rfl
@[simp] theorem putBalAxis_acqBytes (a : Nat) (x : BalAxis) : (State.putBalAxis a x s).acqBytes = s.acqBytes := rfl
@[simp] theorem putBalAxis_maskStop (a : Nat) (x : BalAxis) : (State.putBalAxis a x s).maskStop = s.maskStop := rfl
@[simp] theorem putBalAxis_commits (a : Nat) (x : BalAxis) : (State.putBalAxis a x s).commits = s.commits := rfl
@[simp] theorem putBalAxis_nvm (a : Nat) (x : BalAxis) : (State.putBalAxis a x s).nvm = s.nvm := rfl
@[simp] theorem putBalAxis_memOps (a : Nat) (x : BalAxis) : (State.putBalAxis a x s).memOps = s.memOps := rfl
@[simp] theorem putBalAxis_pending (a : Nat) (x : BalAxis) : (State.putBalAxis a x s).pending = s.pending := rfl

@[simp] theorem putChan_variant (c : Nat) (x : SafeChan) : (State.putChan c x s).variant = s.variant := rfl
@[simp] theorem putChan_regs (c : Nat) (x : SafeChan) : (State.putChan c x s).regs = s.regs := rfl
@[simp] theorem putChan_mem (c : Nat) (x : SafeChan) : (State.putChan c x s).mem = s.mem := rfl
@[simp] theorem putChan_ecc (c : Nat) (x : SafeChan) : (State.putChan c x s).ecc = s.ecc := rfl
@[simp] theorem putChan_dramGen (c : Nat) (x : SafeChan) : (State.putChan c x s).dramGen = s.dramGen := rfl
@[simp] theorem putChan_free (c : Nat) (x : SafeChan) : (State.putChan c x s).free = s.free := rfl
@[simp] theorem putChan_booted (c : Nat) (x : SafeChan) : (State.putChan c x s).booted = s.booted := rfl
@[simp] theorem putChan_host (c : Nat) (x : SafeChan) : (State.putChan c x s).host = s.host := rfl
@[simp] theorem putChan_credits (c : Nat) (x : SafeChan) : (State.putChan c x s).credits = s.credits := rfl
@[simp] theorem putChan_pastCompletion (c : Nat) (x : SafeChan) : (State.putChan c x s).pastCompletion = s.pastCompletion := rfl
@[simp] theorem putChan_gal (c : Nat) (x : SafeChan) : (State.putChan c x s).gal = s.gal := rfl
@[simp] theorem putChan_brg (c : Nat) (x : SafeChan) : (State.putChan c x s).brg = s.brg := rfl
@[simp] theorem putChan_ring (c : Nat) (x : SafeChan) : (State.putChan c x s).ring = s.ring := rfl
@[simp] theorem putChan_galFault (c : Nat) (x : SafeChan) : (State.putChan c x s).galFault = s.galFault := rfl
@[simp] theorem putChan_mig (c : Nat) (x : SafeChan) : (State.putChan c x s).mig = s.mig := rfl
@[simp] theorem putChan_stw (c : Nat) (x : SafeChan) : (State.putChan c x s).stw = s.stw := rfl
@[simp] theorem putChan_newel (c : Nat) (x : SafeChan) : (State.putChan c x s).newel = s.newel := rfl
@[simp] theorem putChan_hall (c : Nat) (x : SafeChan) : (State.putChan c x s).hall = s.hall := rfl
@[simp] theorem putChan_can (c : Nat) (x : SafeChan) : (State.putChan c x s).can = s.can := rfl
@[simp] theorem putChan_time (c : Nat) (x : SafeChan) : (State.putChan c x s).time = s.time := rfl
@[simp] theorem putChan_eth (c : Nat) (x : SafeChan) : (State.putChan c x s).eth = s.eth := rfl
@[simp] theorem putChan_pwr (c : Nat) (x : SafeChan) : (State.putChan c x s).pwr = s.pwr := rfl
@[simp] theorem putChan_vol (c : Nat) (x : SafeChan) : (State.putChan c x s).vol = s.vol := rfl
@[simp] theorem putChan_fio (c : Nat) (x : SafeChan) : (State.putChan c x s).fio = s.fio := rfl
@[simp] theorem putChan_axis (c : Nat) (x : SafeChan) : (State.putChan c x s).axis = s.axis := rfl
@[simp] theorem putChan_port (c : Nat) (x : SafeChan) : (State.putChan c x s).port = s.port := rfl
@[simp] theorem putChan_fbFault (c : Nat) (x : SafeChan) : (State.putChan c x s).fbFault = s.fbFault := rfl
@[simp] theorem putChan_sdm (c : Nat) (x : SafeChan) : (State.putChan c x s).sdm = s.sdm := rfl
@[simp] theorem putChan_emu (c : Nat) (x : SafeChan) : (State.putChan c x s).emu = s.emu := rfl
@[simp] theorem putChan_route (c : Nat) (x : SafeChan) : (State.putChan c x s).route = s.route := rfl
@[simp] theorem putChan_trg (c : Nat) (x : SafeChan) : (State.putChan c x s).trg = s.trg := rfl
@[simp] theorem putChan_grp (c : Nat) (x : SafeChan) : (State.putChan c x s).grp = s.grp := rfl
@[simp] theorem putChan_recd (c : Nat) (x : SafeChan) : (State.putChan c x s).recd = s.recd := rfl
@[simp] theorem putChan_nodes (c : Nat) (x : SafeChan) : (State.putChan c x s).nodes = s.nodes := rfl
@[simp] theorem putChan_acqBytes (c : Nat) (x : SafeChan) : (State.putChan c x s).acqBytes = s.acqBytes := rfl
@[simp] theorem putChan_maskStop (c : Nat) (x : SafeChan) : (State.putChan c x s).maskStop = s.maskStop := rfl
@[simp] theorem putChan_commits (c : Nat) (x : SafeChan) : (State.putChan c x s).commits = s.commits := rfl
@[simp] theorem putChan_nvm (c : Nat) (x : SafeChan) : (State.putChan c x s).nvm = s.nvm := rfl
@[simp] theorem putChan_memOps (c : Nat) (x : SafeChan) : (State.putChan c x s).memOps = s.memOps := rfl
@[simp] theorem putChan_pending (c : Nat) (x : SafeChan) : (State.putChan c x s).pending = s.pending := rfl

@[simp] theorem answer_variant (req : Nat) (v : Word64) : (State.answer req v s).variant = s.variant := rfl
@[simp] theorem answer_regs (req : Nat) (v : Word64) : (State.answer req v s).regs = s.regs := rfl
@[simp] theorem answer_mem (req : Nat) (v : Word64) : (State.answer req v s).mem = s.mem := rfl
@[simp] theorem answer_ecc (req : Nat) (v : Word64) : (State.answer req v s).ecc = s.ecc := rfl
@[simp] theorem answer_dramGen (req : Nat) (v : Word64) : (State.answer req v s).dramGen = s.dramGen := rfl
@[simp] theorem answer_free (req : Nat) (v : Word64) : (State.answer req v s).free = s.free := rfl
@[simp] theorem answer_booted (req : Nat) (v : Word64) : (State.answer req v s).booted = s.booted := rfl
@[simp] theorem answer_credits (req : Nat) (v : Word64) : (State.answer req v s).credits = s.credits := rfl
@[simp] theorem answer_pastCompletion (req : Nat) (v : Word64) : (State.answer req v s).pastCompletion = s.pastCompletion := rfl
@[simp] theorem answer_gal (req : Nat) (v : Word64) : (State.answer req v s).gal = s.gal := rfl
@[simp] theorem answer_brg (req : Nat) (v : Word64) : (State.answer req v s).brg = s.brg := rfl
@[simp] theorem answer_ring (req : Nat) (v : Word64) : (State.answer req v s).ring = s.ring := rfl
@[simp] theorem answer_galFault (req : Nat) (v : Word64) : (State.answer req v s).galFault = s.galFault := rfl
@[simp] theorem answer_mig (req : Nat) (v : Word64) : (State.answer req v s).mig = s.mig := rfl
@[simp] theorem answer_stw (req : Nat) (v : Word64) : (State.answer req v s).stw = s.stw := rfl
@[simp] theorem answer_bal (req : Nat) (v : Word64) : (State.answer req v s).bal = s.bal := rfl
@[simp] theorem answer_newel (req : Nat) (v : Word64) : (State.answer req v s).newel = s.newel := rfl
@[simp] theorem answer_hall (req : Nat) (v : Word64) : (State.answer req v s).hall = s.hall := rfl
@[simp] theorem answer_can (req : Nat) (v : Word64) : (State.answer req v s).can = s.can := rfl
@[simp] theorem answer_time (req : Nat) (v : Word64) : (State.answer req v s).time = s.time := rfl
@[simp] theorem answer_eth (req : Nat) (v : Word64) : (State.answer req v s).eth = s.eth := rfl
@[simp] theorem answer_pwr (req : Nat) (v : Word64) : (State.answer req v s).pwr = s.pwr := rfl
@[simp] theorem answer_vol (req : Nat) (v : Word64) : (State.answer req v s).vol = s.vol := rfl
@[simp] theorem answer_fio (req : Nat) (v : Word64) : (State.answer req v s).fio = s.fio := rfl
@[simp] theorem answer_axis (req : Nat) (v : Word64) : (State.answer req v s).axis = s.axis := rfl
@[simp] theorem answer_port (req : Nat) (v : Word64) : (State.answer req v s).port = s.port := rfl
@[simp] theorem answer_fbFault (req : Nat) (v : Word64) : (State.answer req v s).fbFault = s.fbFault := rfl
@[simp] theorem answer_sdm (req : Nat) (v : Word64) : (State.answer req v s).sdm = s.sdm := rfl
@[simp] theorem answer_emu (req : Nat) (v : Word64) : (State.answer req v s).emu = s.emu := rfl
@[simp] theorem answer_route (req : Nat) (v : Word64) : (State.answer req v s).route = s.route := rfl
@[simp] theorem answer_trg (req : Nat) (v : Word64) : (State.answer req v s).trg = s.trg := rfl
@[simp] theorem answer_grp (req : Nat) (v : Word64) : (State.answer req v s).grp = s.grp := rfl
@[simp] theorem answer_recd (req : Nat) (v : Word64) : (State.answer req v s).recd = s.recd := rfl
@[simp] theorem answer_nodes (req : Nat) (v : Word64) : (State.answer req v s).nodes = s.nodes := rfl
@[simp] theorem answer_acqBytes (req : Nat) (v : Word64) : (State.answer req v s).acqBytes = s.acqBytes := rfl
@[simp] theorem answer_maskStop (req : Nat) (v : Word64) : (State.answer req v s).maskStop = s.maskStop := rfl
@[simp] theorem answer_commits (req : Nat) (v : Word64) : (State.answer req v s).commits = s.commits := rfl
@[simp] theorem answer_nvm (req : Nat) (v : Word64) : (State.answer req v s).nvm = s.nvm := rfl
@[simp] theorem answer_memOps (req : Nat) (v : Word64) : (State.answer req v s).memOps = s.memOps := rfl
@[simp] theorem answer_pending (req : Nat) (v : Word64) : (State.answer req v s).pending = s.pending := rfl

@[simp] theorem dropSnaps_variant (req : Nat) : (State.dropSnaps req s).variant = s.variant := rfl
@[simp] theorem dropSnaps_regs (req : Nat) : (State.dropSnaps req s).regs = s.regs := rfl
@[simp] theorem dropSnaps_mem (req : Nat) : (State.dropSnaps req s).mem = s.mem := rfl
@[simp] theorem dropSnaps_ecc (req : Nat) : (State.dropSnaps req s).ecc = s.ecc := rfl
@[simp] theorem dropSnaps_dramGen (req : Nat) : (State.dropSnaps req s).dramGen = s.dramGen := rfl
@[simp] theorem dropSnaps_free (req : Nat) : (State.dropSnaps req s).free = s.free := rfl
@[simp] theorem dropSnaps_booted (req : Nat) : (State.dropSnaps req s).booted = s.booted := rfl
@[simp] theorem dropSnaps_credits (req : Nat) : (State.dropSnaps req s).credits = s.credits := rfl
@[simp] theorem dropSnaps_pastCompletion (req : Nat) : (State.dropSnaps req s).pastCompletion = s.pastCompletion := rfl
@[simp] theorem dropSnaps_gal (req : Nat) : (State.dropSnaps req s).gal = s.gal := rfl
@[simp] theorem dropSnaps_brg (req : Nat) : (State.dropSnaps req s).brg = s.brg := rfl
@[simp] theorem dropSnaps_ring (req : Nat) : (State.dropSnaps req s).ring = s.ring := rfl
@[simp] theorem dropSnaps_galFault (req : Nat) : (State.dropSnaps req s).galFault = s.galFault := rfl
@[simp] theorem dropSnaps_mig (req : Nat) : (State.dropSnaps req s).mig = s.mig := rfl
@[simp] theorem dropSnaps_stw (req : Nat) : (State.dropSnaps req s).stw = s.stw := rfl
@[simp] theorem dropSnaps_bal (req : Nat) : (State.dropSnaps req s).bal = s.bal := rfl
@[simp] theorem dropSnaps_newel (req : Nat) : (State.dropSnaps req s).newel = s.newel := rfl
@[simp] theorem dropSnaps_hall (req : Nat) : (State.dropSnaps req s).hall = s.hall := rfl
@[simp] theorem dropSnaps_can (req : Nat) : (State.dropSnaps req s).can = s.can := rfl
@[simp] theorem dropSnaps_time (req : Nat) : (State.dropSnaps req s).time = s.time := rfl
@[simp] theorem dropSnaps_eth (req : Nat) : (State.dropSnaps req s).eth = s.eth := rfl
@[simp] theorem dropSnaps_pwr (req : Nat) : (State.dropSnaps req s).pwr = s.pwr := rfl
@[simp] theorem dropSnaps_vol (req : Nat) : (State.dropSnaps req s).vol = s.vol := rfl
@[simp] theorem dropSnaps_fio (req : Nat) : (State.dropSnaps req s).fio = s.fio := rfl
@[simp] theorem dropSnaps_axis (req : Nat) : (State.dropSnaps req s).axis = s.axis := rfl
@[simp] theorem dropSnaps_port (req : Nat) : (State.dropSnaps req s).port = s.port := rfl
@[simp] theorem dropSnaps_fbFault (req : Nat) : (State.dropSnaps req s).fbFault = s.fbFault := rfl
@[simp] theorem dropSnaps_sdm (req : Nat) : (State.dropSnaps req s).sdm = s.sdm := rfl
@[simp] theorem dropSnaps_emu (req : Nat) : (State.dropSnaps req s).emu = s.emu := rfl
@[simp] theorem dropSnaps_route (req : Nat) : (State.dropSnaps req s).route = s.route := rfl
@[simp] theorem dropSnaps_trg (req : Nat) : (State.dropSnaps req s).trg = s.trg := rfl
@[simp] theorem dropSnaps_grp (req : Nat) : (State.dropSnaps req s).grp = s.grp := rfl
@[simp] theorem dropSnaps_recd (req : Nat) : (State.dropSnaps req s).recd = s.recd := rfl
@[simp] theorem dropSnaps_nodes (req : Nat) : (State.dropSnaps req s).nodes = s.nodes := rfl
@[simp] theorem dropSnaps_acqBytes (req : Nat) : (State.dropSnaps req s).acqBytes = s.acqBytes := rfl
@[simp] theorem dropSnaps_maskStop (req : Nat) : (State.dropSnaps req s).maskStop = s.maskStop := rfl
@[simp] theorem dropSnaps_commits (req : Nat) : (State.dropSnaps req s).commits = s.commits := rfl
@[simp] theorem dropSnaps_nvm (req : Nat) : (State.dropSnaps req s).nvm = s.nvm := rfl
@[simp] theorem dropSnaps_memOps (req : Nat) : (State.dropSnaps req s).memOps = s.memOps := rfl
@[simp] theorem dropSnaps_pending (req : Nat) : (State.dropSnaps req s).pending = s.pending := rfl

@[simp] theorem wr_byte (a : Nat) (v : Word) (j : Nat) : (s.wr a v).byte j = s.byte j := rfl
@[simp] theorem wr64_byte (a : Nat) (v : Word64) (j : Nat) : (s.wr64 a v).byte j = s.byte j := rfl
@[simp] theorem setFld_byte (a hi lo v : Nat) (j : Nat) : (s.setFld a hi lo v).byte j = s.byte j := rfl
@[simp] theorem setBit_byte (a i : Nat) (b : Bool) (j : Nat) : (s.setBit a i b).byte j = s.byte j := rfl
@[simp] theorem count_byte (a hi lo d : Nat) (j : Nat) : (s.count a hi lo d).byte j = s.byte j := rfl
@[simp] theorem keepMax_byte (a hi lo v : Nat) (j : Nat) : (s.keepMax a hi lo v).byte j = s.byte j := rfl
@[simp] theorem putByte_rd (a : Nat) (v : Byte) (j : Nat) : (s.putByte a v).rd j = s.rd j := rfl
@[simp] theorem putSyn_rd (w : Nat) (v : Byte) (j : Nat) : (s.putSyn w v).rd j = s.rd j := rfl
@[simp] theorem putSyn_byte (w : Nat) (v : Byte) (j : Nat) : (s.putSyn w v).byte j = s.byte j := rfl
@[simp] theorem putCredit_rd (l : Landing) (p : Nat) (c : Credit) (j : Nat) : (s.putCredit l p c).rd j = s.rd j := rfl
@[simp] theorem putCredit_byte (l : Landing) (p : Nat) (c : Credit) (j : Nat) : (s.putCredit l p c).byte j = s.byte j := rfl
@[simp] theorem spend_rd (l : Landing) (p n : Nat) (j : Nat) : (s.spend l p n).rd j = s.rd j := rfl
@[simp] theorem spend_byte (l : Landing) (p n : Nat) (j : Nat) : (s.spend l p n).byte j = s.byte j := rfl
@[simp] theorem giveBack_rd (l : Landing) (p n : Nat) (j : Nat) : (s.giveBack l p n).rd j = s.rd j := rfl
@[simp] theorem giveBack_byte (l : Landing) (p n : Nat) (j : Nat) : (s.giveBack l p n).byte j = s.byte j := rfl
@[simp] theorem creditReset_rd (l : Landing) (p : Nat) (j : Nat) : (s.creditReset l p).rd j = s.rd j := rfl
@[simp] theorem creditReset_byte (l : Landing) (p : Nat) (j : Nat) : (s.creditReset l p).byte j = s.byte j := rfl
@[simp] theorem putTrg_rd (t : Nat) (x : Trg) (j : Nat) : (s.putTrg t x).rd j = s.rd j := rfl
@[simp] theorem putTrg_byte (t : Nat) (x : Trg) (j : Nat) : (s.putTrg t x).byte j = s.byte j := rfl
@[simp] theorem putGrp_rd (g : Nat) (x : Grp) (j : Nat) : (s.putGrp g x).rd j = s.rd j := rfl
@[simp] theorem putGrp_byte (g : Nat) (x : Grp) (j : Nat) : (s.putGrp g x).byte j = s.byte j := rfl
@[simp] theorem putGal_rd (g : Nat) (x : Gal) (j : Nat) : (s.putGal g x).rd j = s.rd j := rfl
@[simp] theorem putGal_byte (g : Nat) (x : Gal) (j : Nat) : (s.putGal g x).byte j = s.byte j := rfl
@[simp] theorem putCore_rd (g : Nat) (x : Core) (j : Nat) : (s.putCore g x).rd j = s.rd j := rfl
@[simp] theorem putCore_byte (g : Nat) (x : Core) (j : Nat) : (s.putCore g x).byte j = s.byte j := rfl
@[simp] theorem putSlotRun_rd (g n : Nat) (x : SlotRun) (j : Nat) : (s.putSlotRun g n x).rd j = s.rd j := rfl
@[simp] theorem putSlotRun_byte (g n : Nat) (x : SlotRun) (j : Nat) : (s.putSlotRun g n x).byte j = s.byte j := rfl
@[simp] theorem putBrg_rd (b : Nat) (x : Brg) (j : Nat) : (s.putBrg b x).rd j = s.rd j := rfl
@[simp] theorem putBrg_byte (b : Nat) (x : Brg) (j : Nat) : (s.putBrg b x).byte j = s.byte j := rfl
@[simp] theorem putRing_rd (r : Nat) (x : Ring) (j : Nat) : (s.putRing r x).rd j = s.rd j := rfl
@[simp] theorem putRing_byte (r : Nat) (x : Ring) (j : Nat) : (s.putRing r x).byte j = s.byte j := rfl
@[simp] theorem putComp_rd (r k : Nat) (x : Companion) (j : Nat) : (s.putComp r k x).rd j = s.rd j := rfl
@[simp] theorem putComp_byte (r k : Nat) (x : Companion) (j : Nat) : (s.putComp r k x).byte j = s.byte j := rfl
@[simp] theorem setComp_rd (r k : Nat) (x : Companion) (j : Nat) : (s.setComp r k x).rd j = s.rd j := rfl
@[simp] theorem setComp_byte (r k : Nat) (x : Companion) (j : Nat) : (s.setComp r k x).byte j = s.byte j := rfl
@[simp] theorem putAxis_rd (a : Nat) (x : AxisRun) (j : Nat) : (s.putAxis a x).rd j = s.rd j := rfl
@[simp] theorem putAxis_byte (a : Nat) (x : AxisRun) (j : Nat) : (s.putAxis a x).byte j = s.byte j := rfl
@[simp] theorem putPort_rd (n : Nat) (x : Port) (j : Nat) : (s.putPort n x).rd j = s.rd j := rfl
@[simp] theorem putPort_byte (n : Nat) (x : Port) (j : Nat) : (s.putPort n x).byte j = s.byte j := rfl
@[simp] theorem putHall_rd (k : Nat) (x : HallCore) (j : Nat) : (s.putHall k x).rd j = s.rd j := rfl
@[simp] theorem putHall_byte (k : Nat) (x : HallCore) (j : Nat) : (s.putHall k x).byte j = s.byte j := rfl
@[simp] theorem putDma_rd (c : Nat) (x : DmaCh) (j : Nat) : (s.putDma c x).rd j = s.rd j := rfl
@[simp] theorem putDma_byte (c : Nat) (x : DmaCh) (j : Nat) : (s.putDma c x).byte j = s.byte j := rfl
@[simp] theorem putRoute_rd (x : RouteRun) (j : Nat) : (State.putRoute x s).rd j = s.rd j := rfl
@[simp] theorem putRoute_byte (x : RouteRun) (j : Nat) : (State.putRoute x s).byte j = s.byte j := rfl
@[simp] theorem putCan_rd (c : Nat) (x : CanSt) (j : Nat) : (State.putCan c x s).rd j = s.rd j := rfl
@[simp] theorem putCan_byte (c : Nat) (x : CanSt) (j : Nat) : (State.putCan c x s).byte j = s.byte j := rfl
@[simp] theorem putFio_rd (r : Nat) (x : FioRing) (j : Nat) : (s.putFio r x).rd j = s.rd j := rfl
@[simp] theorem putFio_byte (r : Nat) (x : FioRing) (j : Nat) : (s.putFio r x).byte j = s.byte j := rfl
@[simp] theorem putDom_rd (d : Nat) (x : DomSt) (j : Nat) : (State.putDom d x s).rd j = s.rd j := rfl
@[simp] theorem putDom_byte (d : Nat) (x : DomSt) (j : Nat) : (State.putDom d x s).byte j = s.byte j := rfl
@[simp] theorem putEth_rd (e : Nat) (x : EthSt) (j : Nat) : (State.putEth e x s).rd j = s.rd j := rfl
@[simp] theorem putEth_byte (e : Nat) (x : EthSt) (j : Nat) : (State.putEth e x s).byte j = s.byte j := rfl
@[simp] theorem putStream_rd (q : Nat) (x : StreamSt) (j : Nat) : (State.putStream q x s).rd j = s.rd j := rfl
@[simp] theorem putStream_byte (q : Nat) (x : StreamSt) (j : Nat) : (State.putStream q x s).byte j = s.byte j := rfl
@[simp] theorem putBalAxis_rd (a : Nat) (x : BalAxis) (j : Nat) : (State.putBalAxis a x s).rd j = s.rd j := rfl
@[simp] theorem putBalAxis_byte (a : Nat) (x : BalAxis) (j : Nat) : (State.putBalAxis a x s).byte j = s.byte j := rfl
@[simp] theorem putChan_rd (c : Nat) (x : SafeChan) (j : Nat) : (State.putChan c x s).rd j = s.rd j := rfl
@[simp] theorem putChan_byte (c : Nat) (x : SafeChan) (j : Nat) : (State.putChan c x s).byte j = s.byte j := rfl
@[simp] theorem answer_rd (req : Nat) (v : Word64) (j : Nat) : (State.answer req v s).rd j = s.rd j := rfl
@[simp] theorem answer_byte (req : Nat) (v : Word64) (j : Nat) : (State.answer req v s).byte j = s.byte j := rfl
@[simp] theorem dropSnaps_rd (req : Nat) (j : Nat) : (State.dropSnaps req s).rd j = s.rd j := rfl
@[simp] theorem dropSnaps_byte (req : Nat) (j : Nat) : (State.dropSnaps req s).byte j = s.byte j := rfl

/-! ### Registers -/

@[simp] theorem rd_wr_same (a : Nat) (v : Word) : (s.wr a v).rd a = v := by
  simp only [rd, wr, Tab.find_set_same]
  split
  · rename_i h; simpa using h
  · rfl

theorem rd_wr_ne {a j : Nat} (v : Word) (h : j ≠ a) : (s.wr a v).rd j = s.rd j := by
  simp only [rd, wr, Tab.find_set_ne _ _ _ h]

theorem rd_wr (a j : Nat) (v : Word) : (s.wr a v).rd j = if j = a then v else s.rd j := by
  split
  · subst_vars; simp
  · exact s.rd_wr_ne v (by assumption)

@[simp] theorem rd_setFld_same (a hi lo v : Nat) : (s.setFld a hi lo v).rd a = wset (s.rd a) hi lo v := by simp [setFld]
theorem rd_setFld_ne {a j : Nat} (hi lo v : Nat) (h : j ≠ a) : (s.setFld a hi lo v).rd j = s.rd j := by
  simp [setFld, rd_wr_ne s _ h]
@[simp] theorem rd_setBit_same (a i : Nat) (b : Bool) : (s.setBit a i b).rd a = wsetBit (s.rd a) i b := by simp [setBit]
theorem rd_setBit_ne {a j : Nat} (i : Nat) (b : Bool) (h : j ≠ a) : (s.setBit a i b).rd j = s.rd j := by
  simp [setBit, rd_wr_ne s _ h]
theorem rd_count_ne {a j : Nat} (hi lo d : Nat) (h : j ≠ a) : (s.count a hi lo d).rd j = s.rd j := by
  simp [count, rd_setFld_ne s _ _ _ h]

@[simp] theorem rd64_wr64_same (a : Nat) (v : Word64) : (s.wr64 a v).rd64 a = v := by
  have h : a ≠ a + 4 := by omega
  simp only [rd64, wr64, rd_wr_same, rd_wr_ne _ _ h]
  simp only [wide, hiWord, loWord]
  ext i hi
  simp only [BitVec.getElem_append]
  split
  · simp only [BitVec.getElem_setWidth]; exact BitVec.getLsbD_eq_getElem (by omega)
  · simp only [BitVec.getElem_setWidth, BitVec.getLsbD_ushiftRight]
    rw [← BitVec.getLsbD_eq_getElem]
    congr 1; omega

/-- Registers in canonical form stay so. -/
theorem regsWf_wr (h : s.regsWf = true) (a : Nat) (v : Word) : (s.wr a v).regsWf = true := by
  unfold regsWf at *
  exact Tab.wf_set h a v

/-! ### Memory -/

theorem byte_putByte_ne {a j : Nat} (v : Byte) (h : j ≠ a) : (s.putByte a v).byte j = s.byte j := by
  simp only [byte, putByte, Tab.find_set_ne _ _ _ h]

@[simp] theorem byte_putByte_same (a : Nat) (v : Byte) : (s.putByte a v).byte a = v := by
  simp only [byte, putByte, Tab.find_set_same, byteDefault]
  by_cases hd : isDram a = true
  · simp [hd]
  · by_cases hv : (0 : Byte) = v
    · subst hv; simp [hd]
    · rw [if_neg hd, if_neg (by simpa using hv)]

/-- Memory in canonical form stays so. -/
theorem wf_putByte (h : Memory.wf s.mem = true) (a : Nat) (v : Byte) : Memory.wf (s.putByte a v).mem = true :=
  Tab.wf_set h a v

theorem wf_putBytes (l : List Byte) (a : Nat) (h : Memory.wf s.mem = true) : Memory.wf (s.putBytes a l).mem = true := by
  induction l generalizing s a with
  | nil => exact h
  | cons b t ih => exact ih _ _ (wf_putByte s h a b)

theorem byte_putBytes_out (l : List Byte) (a j : Nat) (h : j < a ∨ a + l.length ≤ j) :
    (s.putBytes a l).byte j = s.byte j := by
  induction l generalizing s a with
  | nil => rfl
  | cons b t ih =>
    simp only [List.length_cons] at h
    rw [putBytes, ih _ _ (by omega), byte_putByte_ne _ _ (by omega)]

theorem eccWf_putSyn (h : Memory.eccWf s.ecc = true) (w : Nat) (v : Byte) : Memory.eccWf (s.putSyn w v).ecc = true :=
  Tab.wf_set h w v

@[simp] theorem putBytes_ecc (l : List Byte) (a : Nat) : (s.putBytes a l).ecc = s.ecc := by
  induction l generalizing s a with
  | nil => rfl
  | cons b t ih => rw [putBytes, ih]; rfl

theorem wf_clearRange (h : Memory.wf s.mem = true) (lo hi : Nat) : Memory.wf (s.clearRange lo hi).mem = true :=
  Tab.wf_filter h _

theorem eccWf_clearRange (h : Memory.eccWf s.ecc = true) (lo hi : Nat) : Memory.eccWf (s.clearRange lo hi).ecc = true :=
  Tab.wf_filter h _

/-! ### Units -/

@[simp] theorem galOf_putGal (g : Nat) (x : Gal) : (s.putGal g x).galOf g = x := by simp [galOf, putGal]
@[simp] theorem brgOf_putBrg (b : Nat) (x : Brg) : (s.putBrg b x).brgOf b = x := by simp [brgOf, putBrg]
@[simp] theorem ringOf_putRing (r : Nat) (x : Ring) : (s.putRing r x).ringOf r = x := by simp [ringOf, putRing]
@[simp] theorem axisOf_putAxis (a : Nat) (x : AxisRun) : (s.putAxis a x).axisOf a = x := by simp [axisOf, putAxis]
@[simp] theorem portOf_putPort (n : Nat) (x : Port) : (s.putPort n x).portOf n = x := by simp [portOf, putPort]
@[simp] theorem hallOf_putHall (k : Nat) (x : HallCore) : (s.putHall k x).hallOf k = x := by simp [hallOf, putHall]
@[simp] theorem dmaOf_putDma (c : Nat) (x : DmaCh) : (s.putDma c x).dmaOf c = x := by simp [dmaOf, putDma]
@[simp] theorem coreOf_putCore (g : Nat) (x : Core) : (s.putCore g x).coreOf g = x := by simp [coreOf, putCore]

end State

end Sys2Proof.Machine
end

