-- ==== Sys2Proof/Laws/Gallery.lean ====
section
/-!
SUPPORT. The gallery's issue of one instruction, said once: what a gallery that is ready to issue does with a body.
-/
namespace Sys2Proof.Machine

@[simp] theorem Tab.put_put {α : Type} (t : Tab α) (k : Nat) (v w : α) : Tab.put (Tab.put t k v) k w = Tab.put t k w := by
  induction t with
  | nil => simp [Tab.put]
  | cons e t ih =>
    obtain ⟨k', v'⟩ := e
    simp only [Tab.put]
    split
    · simp [Tab.put]
    · split
      · simp [Tab.put]
      · simp [Tab.put, *]

namespace State

@[simp] theorem putGal_putGal (s : State) (g : Nat) (x y : Gal) : (s.putGal g x).putGal g y = s.putGal g y := by
  simp [putGal]

@[simp] theorem putCore_putCore (s : State) (g : Nat) (c d : Core) : (s.putCore g c).putCore g d = s.putCore g d := by
  simp [putCore]

/-- With nothing in flight, settling is writing the core back. -/
theorem settle_nil {s : State} {g : Nat} (h : (s.coreOf g).flights = []) : s.settle g = s.putCore g (s.coreOf g) := by
  simp only [settle, h, List.filter_nil, List.foldl_nil]
  rw [show ({ s.coreOf g with flights := [] } : Core) = s.coreOf g from by rw [← h]]

theorem takeDeferred_nil {s : State} {g : Nat} (h : (s.coreOf g).deferred = []) : s.takeDeferred g = s := by
  unfold takeDeferred
  rw [h]
  split <;> rfl

theorem issueCycle_nil (c : Core) (reads : List (BitVec 5)) (div : Bool) (h : c.flights = []) (hd : c.divBusy ≤ c.cyc) :
    issueCycle c reads div = c.cyc := by
  unfold issueCycle
  rw [h]
  cases div
  · simp
  · simpa using hd

/-- A ready gallery runs the body of an instruction that may stand where it stands. -/
theorem issue_ready {s : State} {g : Nat} (h : s.GalReady g) (control : Bool) (reads : List (BitVec 5)) (div : Bool)
    (body : State → State × Next) (hc : control = true → (s.coreOf g).slotOf = none) :
    s.issue g control reads div body =
      endCycle g (follow g (body (s.putCore g (s.coreOf g))).2 (body (s.putCore g (s.coreOf g))).1) := by
  obtain ⟨-, hi, hf, -, hd, hp, hp4⟩ := h
  unfold issue
  simp only [hi, if_true]
  rw [issueCycle_nil _ _ _ hf hd]
  have e : ({ s.coreOf g with cyc := (s.coreOf g).cyc } : Core) = s.coreOf g := rfl
  rw [e, settle_nil (by simpa using hf)]
  simp only [coreOf_putCore, putCore_putCore]
  rw [if_neg (by omega)]
  cases control with
  | false => simp
  | true => simp [hc rfl]

/-- An instruction that only writes its core and goes on in order, outside a loop, with no result landing. -/
theorem issue_core {s : State} {g : Nat} (h : s.GalQuiet g) (control : Bool) (reads : List (BitVec 5)) (div : Bool)
    (body : State → State × Next) (d : Core) (hb : body (s.putCore g (s.coreOf g)) = (s.putCore g d, .seq))
    (hl : loopNext d = { d with pc := d.pc + 4 }) (hs : d.slotOf = none) (hdef : d.deferred = [])
    (hfl : ∀ f ∈ d.flights, d.cyc + 1 < f.due) :
    s.issue g control reads div body = s.putCore g { d with pc := d.pc + 4, cyc := d.cyc + 1, seq := d.seq + 1 } := by
  rw [issue_ready h.1 control reads div body (fun _ => h.2.1), hb]
  simp only [follow, goOn, coreOf_putCore, hs, putCore_putCore, hl, endCycle]
  have hfilt : d.flights.filter (fun f => decide (f.due ≤ d.cyc + 1)) = [] := by
    simp only [List.filter_eq_nil_iff, decide_eq_true_eq]
    intro f hf
    have := hfl f hf
    omega
  have hfilt2 : d.flights.filter (fun f => !decide (f.due ≤ d.cyc + 1)) = d.flights := by
    rw [List.filter_eq_self]
    intro f hf
    have := hfl f hf
    simp
    omega
  rw [takeDeferred_nil]
  · simp [settle, hfilt, hfilt2]
  · simp [settle, hfilt, hfilt2, hdef]

end State

end Sys2Proof.Machine
end

