-- ==== Sys2Proof/WellFormed.lean ====
section
/-!
DEFINITION. Well-formed commands: every instance that a command names lies within the numbering of the largest variant
(R2, R7, R42, R302).
-/
namespace Sys2Proof

/-- The instances that a command names, each with the count of its kind in the MBM-2418. -/
def Instr.units : Instr → List (Nat × Nat)
  | .registerWrite req _ _ _ => [(req, 25)]
  | .rcRead req _ => [(req, 25)]
  | .snapshotLowRead req _ => [(req, 25)]
  | .snapshotLowWrite req _ _ => [(req, 25)]
  | .snapshotHighWrite req _ _ => [(req, 25)]
  | .holeAccess req _ _ => [(req, 25)]
  | .absentPageAccess req _ _ => [(req, 25)]
  | .misalignedAccess req _ _ _ => [(req, 25)]
  | .readTimeout req _ => [(req, 25)]
  | .ctlFreset req page => [(req, 25), (page, 171)]
  | .fresetComplete page => [(page, 171)]
  | .verActiveWrite req page _ => [(req, 25), (page, 171)]
  | .lockWrite req page _ => [(req, 25), (page, 171)]
  | .functionLevelReset => []
  | .hotReset => []
  | .linkDownReset => []
  | .spiReadBar0 _ _ _ => []
  | .spiReadBar2 _ _ _ => []
  | .spiWriteBar0 _ _ _ _ => []
  | .spiWriteBar2 _ _ _ _ => []
  | .spiStatus => []
  | .spiWordTimeout => []
  | .cctlRun req ch _ => [(req, 25), (ch, 16)]
  | .cctlAbort req ch _ => [(req, 25), (ch, 16)]
  | .descriptorDone ch _ => [(ch, 16)]
  | .hostCompletionTimeout ch => [(ch, 16)]
  | .wakeCause cause _ => [(cause, 8)]
  | .wakecauseRead => []
  | .warmReset _ => []
  | .powerCycle => []
  | .creditReturn _ _ => []
  | .sampleUnitArrival g _ _ => [(g, 18)]
  | .setpointUnitArrival g core _ => [(g, 18), (core, 8)]
  | .fastClockRequest g => [(g, 18)]
  | .treadDispatch g slot _ => [(g, 18), (slot, 6)]
  | .interruptEntry g => [(g, 18)]
  | .trapEntry g _ _ => [(g, 18)]
  | .budgetExpiry g => [(g, 18)]
  | .fetchUe g => [(g, 18)]
  | .sampleDeadline g => [(g, 18)]
  | .doorbell g => [(g, 18)]
  | .localTimer g => [(g, 18)]
  | .schctlCommit g => [(g, 18)]
  | .schctlAbort g => [(g, 18)]
  | .scheduleCommitDone g => [(g, 18)]
  | .coefwWrite g _ => [(g, 18)]
  | .trctlArm g => [(g, 18)]
  | .trctlStop g => [(g, 18)]
  | .suptripClear g => [(g, 18)]
  | .supervisorTrip g slot => [(g, 18), (slot, 6)]
  | .nop g => [(g, 18)]
  | .b g _ _ _ => [(g, 18)]
  | .call g _ => [(g, 18)]
  | .ret g => [(g, 18)]
  | .reti g => [(g, 18)]
  | .retx g => [(g, 18)]
  | .loop g _ _ _ => [(g, 18)]
  | .loopi g _ _ _ => [(g, 18)]
  | .lexit g _ => [(g, 18)]
  | .endt g => [(g, 18)]
  | .waiti g _ => [(g, 18)]
  | .sync g => [(g, 18)]
  | .trap g _ => [(g, 18)]
  | .sevt g => [(g, 18)]
  | .add g _ _ _ => [(g, 18)]
  | .sub g _ _ _ => [(g, 18)]
  | .adds g _ _ _ => [(g, 18)]
  | .subs g _ _ _ => [(g, 18)]
  | .and g _ _ _ => [(g, 18)]
  | .or g _ _ _ => [(g, 18)]
  | .xor g _ _ _ => [(g, 18)]
  | .shl g _ _ _ => [(g, 18)]
  | .shr g _ _ _ => [(g, 18)]
  | .sar g _ _ _ => [(g, 18)]
  | .mul g _ _ _ => [(g, 18)]
  | .min g _ _ _ => [(g, 18)]
  | .max g _ _ _ => [(g, 18)]
  | .abss g _ _ _ => [(g, 18)]
  | .slt g _ _ _ => [(g, 18)]
  | .sltu g _ _ _ => [(g, 18)]
  | .lui g _ _ => [(g, 18)]
  | .lw g _ _ _ => [(g, 18)]
  | .sw g _ _ _ => [(g, 18)]
  | .lf g _ _ _ => [(g, 18)]
  | .sf g _ _ _ => [(g, 18)]
  | .mlw g _ _ _ _ => [(g, 18)]
  | .msw g _ _ _ => [(g, 18)]
  | .vld g _ _ _ => [(g, 18)]
  | .vst g _ _ _ => [(g, 18)]
  | .vbc g _ _ => [(g, 18)]
  | .vins g _ _ _ => [(g, 18)]
  | .vext g _ _ _ => [(g, 18)]
  | .smac g _ _ _ _ => [(g, 18)]
  | .smsu g _ _ _ _ => [(g, 18)]
  | .vdot g _ _ _ _ _ => [(g, 18)]
  | .vdotn g _ _ _ _ _ => [(g, 18)]
  | .azero g _ => [(g, 18)]
  | .ald g _ _ _ => [(g, 18)]
  | .asat g _ _ _ => [(g, 18)]
  | .asatt g _ _ _ => [(g, 18)]
  | .agetl g _ _ => [(g, 18)]
  | .agetm g _ _ => [(g, 18)]
  | .ageth g _ _ => [(g, 18)]
  | .aputl g _ _ => [(g, 18)]
  | .aputm g _ _ => [(g, 18)]
  | .aputh g _ _ => [(g, 18)]
  | .fadd g _ _ _ => [(g, 18)]
  | .fsub g _ _ _ => [(g, 18)]
  | .fmul g _ _ _ => [(g, 18)]
  | .fma g _ _ _ => [(g, 18)]
  | .fdiv g _ _ _ => [(g, 18)]
  | .fsqrt g _ _ => [(g, 18)]
  | .fmin g _ _ _ => [(g, 18)]
  | .fmax g _ _ _ => [(g, 18)]
  | .fabs g _ _ => [(g, 18)]
  | .fneg g _ _ => [(g, 18)]
  | .fcmplt g _ _ _ => [(g, 18)]
  | .ftoq g _ _ => [(g, 18)]
  | .qtof g _ _ => [(g, 18)]
  | .ftoi g _ _ => [(g, 18)]
  | .itof g _ _ => [(g, 18)]
  | .fmvg g _ _ => [(g, 18)]
  | .gmvf g _ _ => [(g, 18)]
  | .sinitmax g _ => [(g, 18)]
  | .sinitmin g _ => [(g, 18)]
  | .sstep g _ _ => [(g, 18)]
  | .sget g _ => [(g, 18)]
  | .sgeti g _ => [(g, 18)]
  | .swait g _ _ => [(g, 18)]
  | .ldsp g _ _ => [(g, 18)]
  | .pcommit g _ _ => [(g, 18)]
  | .obsr g _ _ => [(g, 18)]
  | .trcap g => [(g, 18)]
  | .mfs g _ _ => [(g, 18)]
  | .mts g _ _ => [(g, 18)]
  | .bridgeTread bb => [(bb, 48)]
  | .carrierStart bb => [(bb, 48)]
  | .shadowWrite bb _ => [(bb, 48)]
  | .forceWrite bb _ => [(bb, 48)]
  | .forceApply bb => [(bb, 48)]
  | .xferctlArm bb => [(bb, 48)]
  | .xferctlAbort bb => [(bb, 48)]
  | .xferBoundary bb => [(bb, 48)]
  | .standstillEngage bb => [(bb, 48)]
  | .planProcess r _ => [(r, 8)]
  | .rctlStart r => [(r, 8)]
  | .rctlStop r => [(r, 8)]
  | .rctlAbort r => [(r, 8)]
  | .rctlCalnow r => [(r, 8)]
  | .rctlResume r k => [(r, 8), (k, 8)]
  | .ringStartTimeout r => [(r, 8)]
  | .vnegOfferRepeat r => [(r, 8)]
  | .edgeFrame r k _ _ => [(r, 8), (k, 8)]
  | .sampleFrame r k _ => [(r, 8), (k, 8)]
  | .senseFrame r k _ _ => [(r, 8), (k, 8)]
  | .leaseRenew r k _ _ => [(r, 8), (k, 8)]
  | .leaseHandover r k _ => [(r, 8), (k, 8)]
  | .leaseClaim r k _ => [(r, 8), (k, 8)]
  | .leaseRelease r k _ _ => [(r, 8), (k, 8)]
  | .protFrame r k _ => [(r, 8), (k, 8)]
  | .protPeriodic r k => [(r, 8), (k, 8)]
  | .pcmdClear r k _ _ => [(r, 8), (k, 8)]
  | .pcmdSelftest r k _ _ _ _ => [(r, 8), (k, 8)]
  | .forceFrame r k _ => [(r, 8), (k, 8)]
  | .calMark r k _ _ _ => [(r, 8), (k, 8)]
  | .calResult r k _ => [(r, 8), (k, 8)]
  | .vnegOffer r k _ _ => [(r, 8), (k, 8)]
  | .vnegReply r k _ _ _ _ => [(r, 8), (k, 8)]
  | .vnegSelect r k _ => [(r, 8), (k, 8)]
  | .cfgFrame r k _ _ _ => [(r, 8), (k, 8)]
  | .rejectFrame r k _ => [(r, 8), (k, 8)]
  | .companionMiss r k => [(r, 8), (k, 8)]
  | .leaseExpiry r k => [(r, 8), (k, 8)]
  | .renewDue r k => [(r, 8), (k, 8)]
  | .partnerClaim a => [(a, 24)]
  | .scTrip r k _ => [(r, 8), (k, 8)]
  | .scwaitEnd r k => [(r, 8), (k, 8)]
  | .scquietEnd r k => [(r, 8), (k, 8)]
  | .calRound r _ _ _ => [(r, 8)]
  | .ptctlStart r => [(r, 8)]
  | .ptctlAbort r => [(r, 8)]
  | .selftestTimeout r => [(r, 8)]
  | .laneLockLost r port => [(r, 8), (port, 2)]
  | .ownFramesLost r _ => [(r, 8)]
  | .fbcfgEnWrite n _ => [(n, 24)]
  | .quadEdge n _ => [(n, 24)]
  | .zEdge n => [(n, 24)]
  | .hallCodeChange n _ => [(n, 24)]
  | .hallTimeout n => [(n, 24)]
  | .ssiRequest n => [(n, 24)]
  | .ssiWord n _ _ => [(n, 24)]
  | .ssiHoldExceeded n => [(n, 24)]
  | .resolverPair n _ _ _ _ _ => [(n, 24)]
  | .ampcntExceeded n => [(n, 24)]
  | .auxFault n => [(n, 24)]
  | .lostClear n => [(n, 24)]
  | .fbCapture n => [(n, 24)]
  | .zerotoExpiry n => [(n, 24)]
  | .fbPossetWrite n _ => [(n, 24)]
  | .sdmOutput k j _ => [(k, 4), (j, 8)]
  | .sdmStuck k j => [(k, 4), (j, 8)]
  | .latchEdge l _ => [(l, 16)]
  | .larmWrite _ => []
  | .emuUpdate e => [(e, 8)]
  | .setpointIssue a => [(a, 24)]
  | .underrunStop a => [(a, 24)]
  | .cmodeWrite a _ => [(a, 24)]
  | .mvctlStart a => [(a, 24)]
  | .mvctlAbort a => [(a, 24)]
  | .mvctlRetarget a => [(a, 24)]
  | .mvctlResume a => [(a, 24)]
  | .mvctlInterp a => [(a, 24)]
  | .mvctlStop a => [(a, 24)]
  | .mvctlGear a => [(a, 24)]
  | .mvctlUngear a => [(a, 24)]
  | .mvctlClrstop a => [(a, 24)]
  | .moveTerminal a => [(a, 24)]
  | .gearEngage a => [(a, 24)]
  | .gearRatioWrite a _ _ => [(a, 24)]
  | .targetWrite a _ => [(a, 24)]
  | .stopAtRest a => [(a, 24)]
  | .stallDetect a => [(a, 24)]
  | .slipDetect a => [(a, 24)]
  | .sensorlessTimeout a => [(a, 24)]
  | .estimateLeave a => [(a, 24)]
  | .routeRctlRun => []
  | .routeRctlStop => []
  | .routeRctlClear => []
  | .fcctlCommit _ => []
  | .fcctlAbort => []
  | .flightMapWrite => []
  | .routeTick => []
  | .routePossetWrite _ => []
  | .mctlStart => []
  | .mctlAbort => []
  | .migrationCopy => []
  | .migrationRelease => []
  | .galleryDead g => [(g, 18)]
  | .emergencyMigration g => [(g, 18)]
  | .migTctlStart => []
  | .migTctlAbort => []
  | .galleryTestDone _ _ _ => []
  | .sctlStart _ _ => []
  | .sctlStop => []
  | .sctlHandover => []
  | .sctlAbort => []
  | .sctlResync => []
  | .stateCopyDone => []
  | .heartbeat _ _ _ _ _ => []
  | .heartbeatSend => []
  | .mirrorSp _ => []
  | .mirrorReg _ a _ _ => [(a, 24)]
  | .stateFrame bb _ _ _ _ => [(bb, 48)]
  | .epochFrame _ => []
  | .hoReq _ _ => []
  | .hoAck _ _ _ => []
  | .stairwellDown _ => []
  | .partnerSilent => []
  | .driftResync bb => [(bb, 48)]
  | .newelRelease _ => []
  | .configCopyRewrite => []
  | .newelRecov _ _ => []
  | .unknownCall core _ _ => [(core, 8)]
  | .fwOpen core _ _ _ => [(core, 8)]
  | .fwClose core _ _ _ => [(core, 8)]
  | .dmaAssign core _ _ _ _ => [(core, 8)]
  | .imgWrite core _ _ _ _ _ _ => [(core, 8)]
  | .imgVerify core _ _ _ _ _ => [(core, 8)]
  | .imgActivate core _ _ _ _ => [(core, 8)]
  | .imgConfirm core _ _ => [(core, 8)]
  | .hallLoad core _ _ _ _ => [(core, 8)]
  | .hallRestart core _ _ _ _ => [(core, 8)]
  | .tchLoad core _ _ _ _ _ _ => [(core, 8)]
  | .safeOpen core _ _ _ _ => [(core, 8)]
  | .safeClose core _ _ => [(core, 8)]
  | .safeCommit core _ _ _ _ => [(core, 8)]
  | .safePwset core _ _ _ _ _ => [(core, 8)]
  | .safeLogread core _ _ _ _ => [(core, 8)]
  | .safeSig core _ _ => [(core, 8)]
  | .mabort core => [(core, 8)]
  | .callTimeout core => [(core, 8)]
  | .hallTrapEntry k _ _ => [(k, 8)]
  | .hallInterrupt k n => [(k, 8), (n, 32)]
  | .wcall k _ => [(k, 8)]
  | .wret k => [(k, 8)]
  | .spillw k _ => [(k, 8)]
  | .fillw k _ => [(k, 8)]
  | .tret k => [(k, 8)]
  | .isync k => [(k, 8)]
  | .hallFence k => [(k, 8)]
  | .sysc k => [(k, 8)]
  | .brk k => [(k, 8)]
  | .pxctlStart k _ => [(k, 8)]
  | .pxctlAbort k => [(k, 8)]
  | .pxExchange k => [(k, 8)]
  | .tchioraScan k _ _ _ => [(k, 8)]
  | .scanOverrun k => [(k, 8)]
  | .codeSigFail => []
  | .scrctlStart => []
  | .scrctlAbort => []
  | .scrubPassEnd => []
  | .retctlStart => []
  | .retctlAbort => []
  | .bankMapWrite => []
  | .autoRetirement p => [(p, 26)]
  | .injcfgArm _ => []
  | .unitComplete _ _ _ => []
  | .balCycle _ => []
  | .discrepancyTimeout k => [(k, 8)]
  | .ss1Timeout a => [(a, 24)]
  | .safetyViolation a _ => [(a, 24)]
  | .plausibilityViolation a => [(a, 24)]
  | .brakeApply a => [(a, 24)]
  | .darkPulse _ _ => []
  | .thermalShutdown sensor => [(sensor, 14)]
  | .gateTimeout => []
  | .lockoutEnd => []
  | .safeDataRx c _ _ => [(c, 8)]
  | .sdwinExpiry c => [(c, 8)]
  | .sdtoExpiry c => [(c, 8)]
  | .safeDataTx c => [(c, 8)]
  | .canCtlEn c _ => [(c, 8)]
  | .canFrameRx c _ => [(c, 8)]
  | .bufferLockRead req c bb => [(req, 25), (c, 8), (bb, 128)]
  | .bufferReleaseRead req c bb => [(req, 25), (c, 8), (bb, 128)]
  | .lockTimeout c bb => [(c, 8), (bb, 128)]
  | .bctlReq c bb => [(c, 8), (bb, 128)]
  | .bctlAbort c bb => [(c, 8), (bb, 128)]
  | .canAttemptEnd c _ => [(c, 8)]
  | .busctlRecover c => [(c, 8)]
  | .busRecoveryDone c => [(c, 8)]
  | .statusMessage c => [(c, 8)]
  | .referenceMessageRx c _ => [(c, 8)]
  | .referenceSend c => [(c, 8)]
  | .backupMasterTimeout c => [(c, 8)]
  | .ttSyncLoss c => [(c, 8)]
  | .windowStart c _ => [(c, 8)]
  | .canTctlStart c => [(c, 8)]
  | .canTctlAbort c => [(c, 8)]
  | .canSelftestDone c _ => [(c, 8)]
  | .canWake c => [(c, 8)]
  | .timeTctlSet => []
  | .timeTctlAbort => []
  | .timeFirstWordRead req page _ => [(req, 25), (page, 171)]
  | .ptpSync d _ => [(d, 2)]
  | .ptpSyncSend d => [(d, 2)]
  | .syncTimeout d => [(d, 2)]
  | .holdmaxExpiry => []
  | .ringSourceTimeout => []
  | .ethFrameRx e _ => [(e, 2)]
  | .ethTxwrWrite e _ => [(e, 2)]
  | .ethTxDone e => [(e, 2)]
  | .ethLinkChange e _ => [(e, 2)]
  | .mdioStart e _ _ => [(e, 2)]
  | .actlArm => []
  | .actlStop => []
  | .acqInstant grp => [(grp, 4)]
  | .trgTctlForce t => [(t, 4)]
  | .fwrecSubmit core _ => [(core, 8)]
  | .fctlFreeze => []
  | .fctlUnfreeze => []
  | .freezeTimeout => []
  | .fctlFlush => []
  | .flrdctlStart => []
  | .flrdctlAbort => []
  | .storeSctlStart p _ => [(p, 2)]
  | .storeSctlStop p => [(p, 2)]
  | .storeSctlAbort p => [(p, 2)]
  | .storeSctlFormat p _ _ => [(p, 2)]
  | .storeSctlCkpt p => [(p, 2)]
  | .checkpointTimer => []
  | .memberFail p m => [(p, 2), (m, 16)]
  | .smartWarning p m _ => [(p, 2), (m, 16)]
  | .healthPoll p m _ => [(p, 2), (m, 16)]
  | .fioRctlStart r => [(r, 2)]
  | .fioRctlStop r => [(r, 2)]
  | .fioRctlAbort r => [(r, 2)]
  | .fioRctlResume r k => [(r, 2), (k, 8)]
  | .fioStartTimeout r => [(r, 2)]
  | .fioParamWrite r k _ _ => [(r, 2), (k, 8)]
  | .fioCycleFrame r => [(r, 2)]
  | .fioFrameReturn r _ _ => [(r, 2)]
  | .fioFrameLost r => [(r, 2)]
  | .fioStale r k => [(r, 2), (k, 8)]
  | .fioBroken r => [(r, 2)]
  | .fioCompanionFrame r k _ _ => [(r, 2), (k, 8)]
  | .fioSafetoExpiry r k => [(r, 2), (k, 8)]
  | .fioOvercurrent r k c => [(r, 2), (k, 8), (c, 32)]
  | .fioSupplyChange r k _ _ => [(r, 2), (k, 8)]
  | .fioLatchEdge r k c _ _ => [(r, 2), (k, 8), (c, 32)]
  | .modereqGo _ => []
  | .modereqAbort => []
  | .modeChangeDone => []
  | .limpStep4Timer => []
  | .waketmrExpiry => []
  | .ignWake => []
  | .idleEntry page => [(page, 171)]
  | .mainExcursion rail => [(rail, 4)]
  | .mainReturn _ => []
  | .backupExcursion rail => [(rail, 4)]
  | .swctlTest => []
  | .swctlAbort => []
  | .switchTestHoldEnd _ => []
  | .powerCycleRestore _ => []
  | .referenceLoss _ => []
  | .bothReferencesLost => []
  | .referenceCompare _ _ _ => []
  | .referenceRevert => []
  | .housekeepingRead ch _ => [(ch, 64)]
  | .deratingUpdate => []
  | .ddrVddqLoss => []
  | .porstNFall => []
  | .powerUp _ _ _ _ => []
  | .pciePerstRise => []
  | .rzlBlockLockGained r port => [(r, 8), (port, 2)]
  | .stwLaneLockChange lane _ => [(lane, 4)]
  | .bothSupplySetsLost => []
  | .referenceReturn _ => []
  | .pcieLinkStateChange _ _ _ => []
  | .canRxError c _ => [(c, 8)]
  | .slewEnd => []
  | .nvmeCompletion p m _ => [(p, 2), (m, 16)]
  | .flushReadDone => []
  | .pciePerstFall => []

/-- A command is well formed. -/
def Instr.wf (i : Instr) : Bool := i.units.all fun e => decide (e.1 < e.2)

end Sys2Proof
end

