-- ==== Sys2Proof/Tests/Slice0.lean ====
section
/-!
SUPPORT. Tests: ill-formed commands that the check refuses, instruction words written out from R86's layout, witnesses for
the hypotheses of the statements, and small runs whose results the spec's rules give.
-/
namespace Sys2Proof.Tests
set_option Elab.async false
open Sys2Proof Sys2Proof.Machine

/-! ### Ill-formed commands -/

theorem test_wf_bridge : (Instr.bridgeTread 48).wf = false ∧ (Instr.bridgeTread 47).wf = true := by decide
theorem test_wf_gallery : (Instr.nop 18).wf = false ∧ (Instr.nop 17).wf = true := by decide
theorem test_wf_axis : (Instr.mvctlStart 24).wf = false ∧ (Instr.mvctlStart 23).wf = true := by decide
theorem test_wf_requester : (Instr.rcRead 25 0).wf = false ∧ (Instr.rcRead 24 0).wf = true := by decide
theorem test_wf_page : (Instr.fresetComplete 171).wf = false ∧ (Instr.fresetComplete 170).wf = true := by decide
theorem test_wf_slot : (Instr.supervisorTrip 0 6).wf = false ∧ (Instr.supervisorTrip 0 5).wf = true := by decide
theorem test_wf_buffer : (Instr.bctlReq 0 128).wf = false ∧ (Instr.bctlReq 7 127).wf = true := by decide

/-! ### The machine -/

/-- A state that meets the hypotheses of StepRunsFront. -/
theorem test_witness_StepRunsFront : ∃ s : State, s.pending = .hotReset :: [] :=
  ⟨{ State.reset with pending := [.hotReset] }, rfl⟩

/-- The device powered, not yet booted, with an empty queue. -/
theorem test_witness_IdleTick : State.reset.pending = [] ∧ State.reset.powered = true ∧
    ¬ (State.reset.booted = true ∧ State.reset.sysMode = 0) ∧ State.reset.num (TIME.NOW 2) + 4 < 1000000000 ∧
    State.reset.t16 < 2 ^ 90 := by decide +kernel

theorem test_witness_ResetRegisters : pageOf 31 = some (.gal, 17) ∧ State.reset.variant.present 31 = true := by decide

theorem test_witness_StepKeepsCanon : Memory.wf State.reset.mem = true ∧ Memory.eccWf State.reset.ecc = true ∧
    State.reset.regsWf = true := by decide

theorem test_witness_QueueOrder : ∃ t, step State.reset = .next t := ⟨_, rfl⟩

theorem test_witness_AbsentUnits : State.reset.variant.bridges ≤ 48 ∧ State.reset.variant.galleries ≤ 18 ∧
    State.reset.variant.rings ≤ 8 ∧ State.reset.variant.axes ≤ 24 ∧ State.reset.variant.cans ≤ 8 ∧
    State.reset.variant.halls ≤ 8 := by decide

/-! ### A small state: booted, the firewall open to every requester -/

/-- Region `j` of the firewall, open to everyone for everything in a space. -/
def open_ (j space : Nat) (s : State) : State :=
  ((s.wr64 (NEWEL.FWR_MASK j) 0xFFFFFFFFFFFFFFFF).wr (NEWEL.FWR_SIZE j) 0xF0000000).wr (NEWEL.FWR_ATTR j)
    (BitVec.ofNat 32 (0x80000007 + space * 16))

/-- The device after its boot, powered, with all spaces open. -/
def up : State := open_ 0 2 (open_ 1 1 (open_ 2 0 (open_ 3 3 { State.reset with booted := true })))

/-- A page's block in RETAIN. -/
def kept (p : Nat) (s : State) : State := s.wr (HDR.STA p) 0x100

theorem test_witness_HoleAccess : up.variant.requester 0 = true ∧ bar0Page 0x80000 = none := by decide

theorem test_witness_AbsentPage : (({ up with variant := .mbm1210 } : State).variant.requester 0 = true ∧
    bar0Page 0x20000 = some 30 ∧ Variant.mbm1210.present 30 = false) := by decide

theorem test_witness_WrongWidth : State.bar2Of 0x2 = none ∧ up.Opened 0 0x2 .read 0 ∧ up.Opened 1 0x10041 .write 14 := by
  unfold State.Opened; decide +kernel

theorem test_witness_RegisterWrites : up.Opened 0 (bar0Of 32 + 0x18) .write 32 ∧ up.Opened 0 (bar0Of 32 + 0x28) .read 32 := by
  unfold State.Opened; decide +kernel

theorem test_witness_Snapshots : up.Opened 0 0xF8100 .read pgDMA ∧ up.Opened 0 0xF84C4 .write pgDMA ∧ (up.dmaOf 15).owner = 0 := by
  unfold State.Opened; decide +kernel

/-- R49 on the numbers: a low write is held, a high write commits both words. -/
theorem test_snapshot_commit : (match execSnapshotLowWrite 0 0xF8100 0x40 up with
    | .next t => match execSnapshotHighWrite 0 0xF8104 0x1 t with
      | .next u => u.rd64 (DMA.HEAD 0) == 0x100000040
      | _ => false
    | _ => false) = true := by decide +kernel

theorem test_witness_HeaderCommands : up.Opened 0 (bar0Of 141 + 0x0C) .write 141 ∧ up.Opened 0 (bar0Of 141 + 0x04) .write 141 ∧
    up.Opened 0 (bar0Of 148 + 0x20) .write 148 ∧ (up.setBit (HDR.CTL 141) 1 true).bit (HDR.CTL 141) 1 = true := by
  unfold State.Opened; decide +kernel

/-- The key of BAL[1] that R58 writes out. -/
theorem test_lock_key : State.lockKey 148 = 0xA5050010 := by decide

theorem test_witness_EndpointResets : up.regsWf = true := by decide +kernel

theorem test_witness_SpiFrames : up.powered = true ∧ up.spiCrc = false ∧ (up.wr HOST.SPICFG 1).spiCrc = true ∧
    (0 : BitVec 16) ≠ crc16 (State.spiCovered false 0 []) := by decide +kernel

theorem test_witness_Credits : State.hasLanding up.variant (.sample 3) = true ∧
    0 < (((up.spend (.sample 3) 2 1).giveBack (.sample 3) 2 1).credit (.sample 3) 2).back := by decide

/-- A descriptor at mezzanine 0x100: 16 bytes from 0x1000 to 0x2000, LAST, both in the mezzanine. -/
def dmaUp : State :=
  (((kept pgDMA up).putBytes 0x100 ([0x00, 0x10, 0, 0, 0, 0, 0, 0, 0x00, 0x20, 0, 0, 0, 0, 0, 0] ++ List.replicate 8 0
    ++ [16, 0, 0, 0, 0xA4, 0, 0, 0])).wr64 (DMA.HEAD 2) 0x110).wr (DMA.CCTL 2) 0x20

theorem test_witness_DmaRun : dmaUp.offView pgDMA = false ∧ dmaUp.Opened 0 (0xF8108 + 0x40 * 2) .write pgDMA ∧ (dmaUp.dmaOf 2).owner = 0 ∧
    dmaUp.dmaState 2 ≠ 1 ∧ dmaUp.fld (DMA.CCTL 2) 5 4 = 2 ∧ (State.descAddr (dmaUp.rd64 (DMA.HEAD 2))).toNat = 0x100 ∧
    dmaUp.fwAdmits 11 1 0x100 32 .read = true ∧ dmaUp.fwAdmits 11 1 0x1000 16 .read = true ∧
    dmaUp.fwAdmits 11 1 0x2000 16 .write = true ∧
    (BitVec.ofNat 32 (ofLeBytes (((dmaUp.bytes 0x100 32).drop 28).take 4))).extractLsb' 4 4 = 0xA#4 ∧
    ofLeBytes (((dmaUp.bytes 0x100 32).drop 24).take 4) = 16 := by
  unfold State.Opened; decide +kernel

/-- R73 to R76 on the numbers: the chain runs, its descriptor is carried out, and it ends. -/
theorem test_dma_copy : (match execCctlRun 0 2 [] (dmaUp.putByte 0x1003 7) with
    | .next t => match execDescriptorDone 2 [] t with
      | .next u => u.byte 0x2003 == 7 && u.fld (DMA.CSTA 2) 11 0 == 0xB00 && u.rd (DMA.BYTES 2) == 16 && u.byte 0x11E == 0x80
      | _ => false
    | _ => false) = true := by decide +kernel

/-- A channel with an empty descriptor of register space in hand. -/
def dmaHeld : State :=
  ((up.wr (DMA.CCTL 0) 0x30).wr (DMA.CSTA 0) 0x600).putDma 0 { ctl := 0x5, fetched := true }

theorem test_witness_DmaEnds : dmaHeld.dmaRuns 0 = true ∧ (dmaHeld.dmaOf 0).len = 0 ∧ (dmaHeld.dmaOf 0).ctl.getLsbD 2 = true ∧
    dmaHeld.fld (DMA.CCTL 0) 5 4 = 3 ∧ dmaHeld.dmaOnHost 0 = true ∧ dmaHeld.dmaState 0 = 1 ∧
    dmaHeld.Opened 0 0xF8108 .write pgDMA ∧ dmaHeld.phase (DMA.CSTA 0) = 2 ∧
    (dmaHeld.wr (DMA.CSTA 0) 0xB00).phase (DMA.CSTA 0) = 3 ∧ (dmaHeld.wr (DMA.CSTA 0) 0xB00).Opened 0 0xF8108 .write pgDMA := by
  unfold State.Opened; decide +kernel

/-! ### Galleries -/

/-- Gallery 2 of the booted device in QUIET, running with its clock on, with a core. -/
def galUp (c : Core) : State :=
  (((up.wr SYS.MODE 2).wr (HDR.STA (pgGAL 2)) 0x303).wr (GAL.CLKSTA 2) 1000).putGal 2 { core := c }

/-- With no syndrome listed, words outside LPDDR5 hold good codes. -/
theorem goodCode_of_sram {s : State} {a n : Nat} (he : s.ecc = []) (ha : a + n + 7 ≤ dramBase) : s.GoodCode a n := by
  intro w _ hw
  have h : isDram (w * 8) = false := by simp only [isDram, decide_eq_false_iff_not]; omega
  simp [State.syn, he, Tab.find, h]

theorem test_witness_GalQuiet : (galUp { pc := 0x100 }).GalQuiet 2 := by
  unfold State.GalQuiet State.GalReady; decide +kernel

theorem test_witness_GalReady : (galUp { pc := 0xFFFC, slotOf := some (.to 0x40, 0xFFF8), act := 1 }).GalReady 2 := by
  unfold State.GalReady; decide +kernel

/-- ADD of 0xFFFFFFFF and 2 wraps, ADDS of 0x7FFFFFFF and 1 saturates (R87). -/
theorem test_add_wraps : (match execAdd 2 3 1 (.imm 2) (galUp { pc := 0x100, gpr := [(1, 0xFFFFFFFF)] }) with
    | .next t => (t.coreOf 2).g 3 == 1 && (t.coreOf 2).pc == 0x104
    | _ => false) = true := by decide +kernel
theorem test_adds_saturates : (match execAdds 2 3 1 (.imm 1) (galUp { pc := 0x100, gpr := [(1, 0x7FFFFFFF)] }) with
    | .next t => (t.coreOf 2).g 3 == 0x7FFFFFFF
    | _ => false) = true := by decide +kernel

/-- A scalar result in flight, its cycle the next one or a later one. -/
theorem test_witness_GalResultsLand : let f : Flight := { due := 3, seq := 0, dest := .g (gIndex .background 7), words := [9] }
    let s := galUp { pc := 0x100, cyc := 1, flights := [f] }
    (s.putCore 2 { s.coreOf 2 with flights := [] }).GalQuiet 2 ∧ (s.coreOf 2).cyc + 1 < f.due ∧ f.due = 2 + 1 := by
  unfold State.GalQuiet State.GalReady; decide +kernel

/-- Addresses at both ends of the data memory, the coefficients and the mezzanine window. -/
theorem test_witness_GalLoads : let s := galUp { pc := 0x100, gpr := [(4, 0x10000), (5, 0x47FFC), (6, 0x12FFFFFC)] }
    s.GalQuiet 2 ∧ ((s.coreOf 2).g 4).toNat = 0x10000 ∧ ((s.coreOf 2).g 5).toNat + 4 = 0x48000 ∧
    ((s.coreOf 2).g 6).toNat % 4 = 0 ∧ s.fwAdmits 27 1 0x2FFFFFC 4 .read = true ∧ s.fwAdmits 27 1 0x2FFFFFC 4 .write = true := by
  unfold State.GalQuiet State.GalReady; decide +kernel
theorem test_witness_GalLoads_code : (galUp {}).GoodCode (galBase 2 + 0x47FE0) 32 ∧ (galUp {}).GoodCode 0x2FFFFFC 4 :=
  ⟨goodCode_of_sram rfl (by decide), goodCode_of_sram rfl (by decide)⟩
theorem test_witness_GalStores : (galUp { pc := 0x100, gpr := [(4, 0x3EFFC)] }).bit MEM.INJCFG 16 = false ∧
    (galUp {}).GoodCode (galBase 2 + 0x3EFFC) 4 :=
  ⟨by decide +kernel, goodCode_of_sram rfl (by decide)⟩

/-- SW stores little-endian (R84), and LW of a misaligned address traps with cause 2 (R99). -/
theorem test_store_bytes : (match execSw 2 1 4 0 (galUp { pc := 0x100, gpr := [(1, 0x11223344), (4, 0x10000)] }) with
    | .next t => t.byte (galBase 2 + 0x10000) == 0x44 && t.byte (galBase 2 + 0x10003) == 0x11
    | _ => false) = true := by decide +kernel
theorem test_load_traps : (match execLw 2 1 4 1 (galUp { pc := 0x100, gpr := [(4, 0x10000)] }) with
    | .next t => t.rd (GAL.XPC 2) == 0x100 && t.fld (GAL.XINFO 2) 7 0 == 2 && t.rd (GAL.XADDR 2) == 0x10001
    | _ => false) = true := by decide +kernel

theorem test_witness_GalAccessTrap : let c : Core := { pc := 0x100, gpr := [(4, 0x3F000), (5, 0x48000)] }
    (galUp c).GalQuiet 2 ∧ ((galUp c).coreOf 2).ctx ≠ .trap ∧
    ¬ (0x3F000 % 4 = 0 ∧ 0x10000 ≤ 0x3F000 ∧ 0x3F000 + 4 ≤ 0x3F000) ∧ (c.g 4).toNat = 0x3F000 ∧ (c.g 5).toNat = 0x48000 := by
  unfold State.GalQuiet State.GalReady; decide +kernel

theorem test_witness_GalVectors : (galUp { pc := 0x100, cyc := 5, searchAt := some 3 }).GalQuiet 2 ∧
    (∀ k, (some 3 : Option Nat) = some k → k + 1 < 5) :=
  ⟨by unfold State.GalQuiet State.GalReady; decide +kernel, by intro k h; cases h; decide⟩

/-- The search takes the lower index on a tie (R109). -/
theorem test_search_tie : (match execSstep 2 1 7 (galUp { vr := [(8, 4), (9, 9), (10, 9)], search := { idx := 0xFFFFFFFF } }) with
    | .next t => (t.coreOf 2).search.best == 9 && (t.coreOf 2).search.idx == 1 && (t.coreOf 2).search.base == 8
    | _ => false) = true := by decide +kernel

theorem test_witness_GalMultiplyAdd : (galUp { pc := 0x100, acc := [(0, 1)] }).GalQuiet 2 ∧
    ((galUp { pc := 0x100, acc := [(0, 1)] }).coreOf 2).chain = [] := by
  unfold State.GalQuiet State.GalReady; decide +kernel

/-- FR's product of the two most negative words (R107). -/
theorem test_fractional_limit : (match execSmac 2 true 0 1 1 (galUp { gpr := [(1, 0x80000000)] }) with
    | .next t => (t.coreOf 2).flights.map (fun f => f.acc.v) == [0x7FFFFFFFFFFFFFFF]
    | _ => false) = true := by decide +kernel

/-- R88's corners: 1 + 2 = 3, a NaN, a subnormal operand. -/
theorem test_witness_GalFloat : (f32Add 0x3F800000 0x40000000).1 = 0x40400000 ∧
    ((0x7FC00001 : Word).extractLsb' 23 8 = 0xFF ∧ (0x7FC00001 : Word).extractLsb' 0 23 ≠ 0) ∧
    ((0x80000001 : Word).extractLsb' 23 8 = 0 ∧ (0x80000001 : Word).extractLsb' 0 23 ≠ 0) := by decide +kernel

theorem test_witness_GalControlFlow : (galUp { pc := 0x100 }).irqReady 2 = false ∧
    (∀ n < 6, ((galUp { pc := 0x100 }).slotRun 2 n).ready = false) ∧ ((galUp {}).coreOf 2).imask.getLsbD 4 = false := by
  decide +kernel

/-- Each clause about a delay slot has a core: after B, after RETI in the interrupt context, after RETX in the trap one. -/
theorem test_witness_GalDelaySlots : (galUp { pc := 0x104, slotOf := some (.reti, 0x100), ctx := .interrupt }).GalReady 2 ∧
    (galUp { pc := 0x104, slotOf := some (.retx, 0x100), ctx := .trap }).GalReady 2 ∧
    (galUp { pc := 0x100, ctx := .interrupt }).GalReady 2 ∧ (galUp { pc := 0x100, ctx := .trap }).GalReady 2 := by
  unfold State.GalReady; decide +kernel

theorem test_witness_GalLoops : (galUp { pc := 0x100, gpr := [(1, 0xFFFE), (2, 0xFFFF)] }).GalReady 2 ∧
    isControlWord ((galUp { pc := 0x100 }).codeWord 2 0x104) = false ∧
    isDelayedWord ((galUp { pc := 0x100 }).codeWord 2 0x100) = false ∧
    (galUp { pc := 0x100, act := 1, ls0 := 0x100, le0 := 0x100, lc0 := 2 }).GalReady 2 ∧
    (galUp { pc := 0x100, act := 1, ls0 := 0x104, le0 := 0x108 }).GalReady 2 := by
  unfold State.GalReady; decide +kernel

theorem test_witness_GalSystemRegisters : (galUp { pc := 0x100, le0 := 0x200, le1 := 0x200 }).GalQuiet 2 ∧
    ((galUp { pc := 0x100, le0 := 0x200, le1 := 0x200 }).coreOf 2).searchAt = none := by
  unfold State.GalQuiet State.GalReady; decide +kernel

/-- Gallery 2 in a tread of slot 1, which serves bridge 5. -/
def galTread (x : Gal) : State :=
  (galUp {}).putGal 2 { x with core := { pc := 0x100, ctx := .tread, stack := [.background], slotno := 1, gpr := [(1, 0x10000), (2, 0)] },
                               sched := [(1, { sbr := 0x85 })] }

/-- A unit of a sample of bridge 5. -/
def unit5 : List Word := [0, 0, 0, 0, 5] ++ List.replicate 11 0

theorem test_witness_GalLandingInstrs : let s := galTread { samples := [(3, unit5)], setpoints := [(0, List.replicate 16 0)] }
    let m := galTread { slots := [(1, { sdlPassed := true, lastSample := List.replicate 16 0, lastSetpoint := List.replicate 16 0 })] }
    s.GalQuiet 2 ∧ (s.coreOf 2).ctx = .tread ∧ localStoreOk ((s.coreOf 2).g 1).toNat 64 = true ∧
    s.sampleFor 2 (s.slotBridge 2 1) = some (3, unit5) ∧ s.brgAxis 5 = 0 ∧
    m.sampleFor 2 (m.slotBridge 2 1) = none ∧ (m.slotRun 2 1).sdlPassed = true ∧ (m.slotRun 2 1).lastSample.length = 16 ∧
    (galTread {}).sampleFor 2 5 = none ∧ ((galTread {}).slotRun 2 1).sdlPassed = false ∧
    s.galState 2 = 3 ∧ (s.slotRun 2 1).shadow = false ∧ s.busyOp MIG.MSTA = false ∧ localLoadOk 0x10000 64 = true ∧
    s.hasCredit (.edge (s.brgRing 5)) (s.brgPos 5) 1 = true ∧
    ((s.spend (.edge (s.brgRing 5)) (s.brgPos 5) 8).hasCredit (.edge (s.brgRing 5)) (s.brgPos 5) 1) = false := by
  unfold State.GalQuiet State.GalReady; decide +kernel

/-- SWAIT with a sample, and with none after its deadline (R101). -/
theorem test_swait : (match execSwait 2 1 2 (galTread { samples := [(3, unit5)] }) with
    | .next t => (t.coreOf 2).g 2 == 0 && t.byte (galBase 2 + 0x10010) == 5
    | _ => false) = true := by decide +kernel
theorem test_swait_missing : (match execSwait 2 1 2 (galTread { slots := [(1, { sdlPassed := true, lastSample := unit5 })] }) with
    | .next t => (t.coreOf 2).g 2 == 1 && t.bit (HDR.FLT (pgGAL 2)) 16 && t.fld (GAL.MISSCNT 2) 15 0 == 1
    | _ => false) = true := by decide +kernel

theorem test_witness_GalTreads : let s := (galUp {}).putGal 2 { core := { pc := 0x100 }, sched := [(5, { sbr := 0x85, entry := 0x200 })] }
    let t := galTread { slots := [(1, { ready := true })] }
    s.slotOn 2 5 = true ∧ s.galState 2 = 3 ∧ s.holdMode = false ∧ s.interruptible 2 = true ∧
    (∀ m < 6, m ≠ 5 → (s.slotRun 2 m).ready = false) ∧ (galTread {}).GalQuiet 2 ∧ ((galTread {}).coreOf 2).ctx = .tread ∧
    t.nextSlot 2 = some 1 ∧ t.GalQuiet 2 := by
  unfold State.GalQuiet State.GalReady; decide +kernel

theorem test_witness_GalEntries : let s := galUp { pc := 0x100, ipend := 0x82, imask := 0x82 }
    (s.coreOf 2).ipend &&& (s.coreOf 2).imask = 0x82 ∧ s.galState 2 = 3 ∧ s.interruptible 2 = true ∧ s.galIssues 2 = true ∧
    (galUp { ctx := .trap }).galIssues 2 = true ∧ (galTread {}).galIssues 2 = true ∧
    ((galTread {}).coreOf 2).budgetGone = false ∧ ((galTread {}).coreOf 2).swait = none ∧
    ((galTread {}).putCore 2 { (galTread {}).coreOf 2 with swait := none }).GalQuiet 2 ∧ localStoreOk 0x3EFC0 64 = true := by
  unfold State.GalQuiet State.GalReady; decide +kernel

theorem test_witness_GalLandings : (galUp {}).hasCredit (.sample 2) 47 = true ∧
    ((galUp {}).spend (.sample 2) 47 4).hasCredit (.sample 2) 47 = false ∧ (galUp {}).hasCredit (.setpoint 2) 7 = true ∧
    ((galUp {}).spend (.setpoint 2) 7 2).hasCredit (.setpoint 2) 7 = false ∧
    (galTread {}).ownedCoef 2 0x328 = true ∧ (galTread {}).ownedCoef 2 0x350 = false ∧ (galTread {}).anySlot 2 = true ∧
    (galUp {}).anySlot 2 = false := by decide +kernel

theorem test_witness_GalScheduleTrace : let s := galUp { pc := 0x100 }
    s.offView (pgGAL 2) = false ∧ s.busyOp (GAL.SCHSTA 2) = false ∧ (s.wr (GAL.SCHSTA 2) 0x100).busyOp (GAL.SCHSTA 2) = true ∧
    (∀ n < 6, s.bit (GAL.SLOT_SBR 2 n) 7 = false) ∧
    s.scheduleCheck 2 ((List.range 6).map fun n => (n, s.stagedSlot 2 n)) = none ∧
    s.num (GAL.TRPOST 2) ≤ s.traceCap 2 ∧ (s.wr (GAL.TRTRIG 2) 0x10).fld (GAL.TRTRIG 2) 6 4 ≠ 0 ∧
    ((s.wr (GAL.TRTRIG 2) 0x30).wr (GAL.TRSTA 2) 0x100).phase (GAL.TRSTA 2) = 1 ∧ s.bit (GAL.TRCFG 2) 0 = false ∧
    ((s.wr (GAL.SUPCFG 2 0) 0x101).wr (GAL.SUPCNT 2 0) 1).fld (GAL.SUPCNT 2 0) 7 0 = 1 := by decide +kernel

/-! ### Words of R86, at least one for each class -/

theorem test_words_control : decodeGal 2 9 0 (0x0#4 ++ 0xA#4 ++ 0#24) = some (.waiti 2 9) ∧
    decodeGal 2 0 0 (0x0#4 ++ 0x2#4 ++ 0#9 ++ 0x7FFF#15) = some (.call 2 0x7FFF) ∧
    decodeGal 2 0 0 (0x0#4 ++ 0x6#4 ++ 1#1 ++ 4#5 ++ 0#6 ++ 0xABC#12) = some (.loop 2 true 4 0xABC) ∧
    decodeGal 2 0 0 (0x0#4 ++ 0x7#4 ++ 0#1 ++ 0x7FF#11 ++ 0x001#12) = some (.loopi 2 false 0x7FF 1) ∧
    decodeGal 2 0 0 (0x0#4 ++ 0x8#4 ++ 1#1 ++ 0#23) = some (.lexit 2 true) := by decide
theorem test_words_alu : decodeGal 2 0 0 (0x1#4 ++ 0x01#6 ++ 3#5 ++ 1#5 ++ 2#5 ++ 0#7) = some (.sub 2 3 1 (.reg 2)) ∧
    decodeGal 2 0 0 (0x2#4 ++ 0x0F#6 ++ 3#5 ++ 1#5 ++ 0xFFF#12) = some (.sltu 2 3 1 (.imm 0xFFF)) ∧
    decodeGal 2 0 0 (0xC#4 ++ 31#5 ++ 0x80001#20 ++ 0#3) = some (.lui 2 31 0x80001) := by decide
theorem test_words_memory : decodeGal 2 0 0 (0x3#4 ++ 0x3#4 ++ 0#1 ++ 7#4 ++ 6#5 ++ 0x3FFC#14) = some (.sf 2 7 6 0x3FFC) ∧
    decodeGal 2 0 4 (0x4#4 ++ 0x0#4 ++ 5#5 ++ 6#5 ++ 0x0004#14) = some (.mlw 2 5 6 4 4) ∧
    decodeGal 2 0 0 (0x5#4 ++ 0x4#4 ++ 3#4 ++ 9#5 ++ 0#12 ++ 6#3) = some (.vext 2 3 9 6) := by decide
theorem test_words_mac : decodeGal 2 0 0 (0x6#4 ++ 0x2#4 ++ 0#1 ++ 3#3 ++ 0#1 ++ 4#4 ++ 0#1 ++ 5#4 ++ 0#2 ++ 0xF0#8) = some (.vdot 2 false 3 4 5 0xF0) ∧
    decodeGal 2 0 0 (0x7#4 ++ 0x2#4 ++ 6#3 ++ 20#5 ++ 33#6 ++ 0#10) = some (.asat 2 6 20 33) ∧
    decodeGal 2 0 0 (0x8#4 ++ 0x03#6 ++ 1#4 ++ 2#4 ++ 3#4 ++ 0#10) = some (.fma 2 1 2 3) := by decide
theorem test_words_rest : decodeGal 2 0 0 (0x9#4 ++ 0x2#4 ++ 8#4 ++ 0#5 ++ 7#3 ++ 0#12) = some (.sstep 2 8 7) ∧
    decodeGal 2 0 0 (0xA#4 ++ 0x0#4 ++ 1#5 ++ 2#5 ++ 0#14) = some (.swait 2 1 2) ∧
    decodeGal 2 0 0 (0xB#4 ++ 0x1#4 ++ 30#5 ++ 0x034#11 ++ 0#8) = some (.mts 2 30 0x034) ∧
    decodeGal 2 0 0 (0xB#4 ++ 0x1#4 ++ 30#5 ++ 0x034#11 ++ 1#8) = none := by decide

/-! ### Bridges, rings and companions -/

/-- Bridge 5 leads axis 0 on ring 0 in position 3; slot 1 of gallery 2 serves it. -/
def brgUp : State := ((kept (pgBRG 5) up).wr SYS.MODE 2).wr (BRG.ASSIGN 5) (BitVec.ofNat 32 (128 + 2 * 256 + 1 * 8192 + 3 * 2 ^ 19))
  |>.putGal 2 { sched := [(1, { sbr := 0x85 })] }

theorem test_witness_Bridges : brgUp.offView (pgBRG 5) = false ∧ brgUp.bridgeSlot 5 = some (2, 1) ∧ brgUp.leadOf 5 = 5 ∧ (brgUp.brgOf 5).running = false ∧
    up.bridgeSlot 5 = none ∧ brgUp.sysMode ≠ 6 ∧ brgUp.phase (BRG.XFERSTA 5) ≠ 1 ∧
    (brgUp.wr (BRG.XFERSTA 5) 0x100).phase (BRG.XFERSTA 5) = 1 ∧ brgUp.bit (BRG.FORCESTA 5) 8 = false ∧
    (brgUp.brgOf 5).modeHold = false ∧
    (let s := ((brgUp.wr (regAt (pgBRG 5) 0x080) 160000).wr (regAt (pgBRG 5) 0x088) 800)
     ((s.mates 5).all fun c => (s.xferCheck (s.leadOf 5) c).isNone) = true) := by decide +kernel

/-- A bridge of mode 3 at rest on its estimate, with a hold threshold. -/
theorem test_witness_Bridges_standstill : (((((brgUp.wr (BRG.REGSTA 5) 3).wr (AXIS.AXSTA 0) 0x60).wr (BRG.ACT_SSTHR 5) 1).wr
    (BRG.ACT_HOLD 5) 1).putBrg 5 { kind := 3 }).standstillOk 5 = true := by decide +kernel

theorem test_shadow_limit : (match execShadowWrite 47 0x0000_8000_0001_8000 up, execShadowWrite 47 0x0000_8001_0000_0000 up with
    | .next t, .next u => t.rd64 (BRG.SHADOW 47) == 0x0000_8000_0001_8000 && u.rd64 (BRG.SHADOW 47) == 0 && u.bit (HDR.FLT (pgBRG 47)) 21
    | _, _ => false) = true := by decide +kernel

/-- A plan of one edge for bridge 5, in epoch 0. -/
def plan5 : Plan := { bridge := 5, gal := 2, slot := 1, nedge := 1, edges := [0x02000100] }

theorem test_witness_Plans : let s := ((brgUp.wr (BRG.PERACT 5) 160000).putRing 0 { edge := [plan5] })
    (s.ringOf 0).edge = [plan5] ∧ (s.ringOf 0).force = [] ∧ s.bit (BRG.FORCESTA 5) 8 = false ∧ s.epochOk plan5 = true ∧
    State.planForm plan5 (s.servedInterval 5) = true ∧
    s.minPulse 5 (s.nextTread 5) (plan5.edges.map edgeOf) = (plan5.edges.map edgeOf, 0) ∧
    deadOk 0 0 [] (plan5.edges.map edgeOf) = true ∧ s.fld (BRG.ACT_REFRESH 5) 15 0 = 0 := by decide +kernel

theorem test_witness_Rings : let s := ((kept (pgRZL 7) brgUp).wr (RZL.LEASETO 7) 20)
    let run := ((((kept (pgRZL 7) brgUp).wr (RZL.RSTA 7) 0xA00).wr (RZL.SLOT_SSTA 7 7) 0x9).wr STW.SHADOW 0x800000).wr SYS.MODE 6
    s.offView (pgRZL 7) = false ∧ run.offView (pgRZL 7) = false ∧ s.busyOp (RZL.RSTA 7) = false ∧ s.ringState 7 = 0 ∧ s.longestInterval 7 * 2 ≤ s.fld (RZL.LEASETO 7) 15 0 * 16000 ∧
    run.busyOp (RZL.RSTA 7) = true ∧ run.isPast (RZL.RSTA 7) = false ∧ run.ringState 7 = 2 ∧ run.deviceBit 7 = false ∧
    run.slotState 7 7 = 1 ∧ run.leaseOurs 7 7 = true ∧ run.sysMode = 6 ∧ run.bridgeAt 7 7 = none ∧
    (run.wr (RZL.PTCTL 7) 0x70).fld (RZL.PTCTL 7) 6 4 = 7 ∧ run.busyOp (RZL.PTSTA 7) = false ∧
    (run.wr (RZL.PTSTA 7) 0x200).busyOp (RZL.PTSTA 7) = true ∧ run.bit STW.SHADOW 23 = true := by decide +kernel

theorem test_witness_RingFrames : brgUp.bridgeAt 0 3 = some 5 ∧ (0x21 : Byte).getLsbD 0 = true ∧ (0x21 : Byte) &&& 0x58 = 0 ∧
    (brgUp.wr (RZL.PTSTA 0) 0x200).busyOp (RZL.PTSTA 0) = true ∧ (brgUp.wr (RZL.PTCTL 0) 0x30).fld (RZL.PTCTL 0) 6 4 = 3 := by
  decide +kernel

/-- Companion 3 of ring 0 under a lease of sender 2, in epoch 4. -/
def leased : State := brgUp.putComp 0 3 { lease := true, owner := 2, epoch := 4, version := 3 }

theorem test_witness_CompanionPorts : leased.LeaseOk 0 3 2 4 ∧ leased.LeaseOk 0 3 5 0xFFFFFFFF ∧ (0x22 : Byte).getLsbD 5 ≠ (2 : Byte).getLsbD 5 ∧
    (brgUp.compOf 0 3).lease = false ∧ (brgUp.compOf 0 3).rejected = [] ∧ (leased.compOf 0 3).handover = none := by
  unfold State.LeaseOk; decide +kernel

/-- An EDGE frame of sender 2 in epoch 4 with a lead in 1/16 ns. -/
def edge4 (lead : Nat) : EdgeFrame :=
  { src := 2, epoch := 4, tread := 9, tref := 0, intv := 160000, resume := false, edges := [], samples := [], lead := lead }

/-- R178: 300 units of lead suffice, 299 do not. -/
theorem test_edge_lead : (match execEdgeFrame 0 3 (edge4 300) .both leased, execEdgeFrame 0 3 (edge4 299) .both leased with
    | .next t, .next u => (t.compOf 0 3).last.isSome && (u.compOf 0 3).last.isNone && (u.compOf 0 3).latePlans == 1
    | _, _ => false) = true := by decide +kernel

theorem test_witness_CompanionState : (leased.compOf 0 3).safeMiss = false ∧ (leased.compOf 0 3).safeLease = false ∧
    (leased.compOf 0 3).tripActive = false ∧ (leased.compOf 0 3).misses < 7 ∧ (leased.compOf 0 3).version = 3 ∧
    (leased.commonVersion 0).1 ≤ (leased.commonVersion 0).2 ∧ (0x1F : Byte).toNat % 32 = 31 ∧
    (leased.wr (RZL.RSTA 0) 0x200).busyOp (RZL.RSTA 0) = true := by decide +kernel

/-! ### Feedback -/

/-- Feedback port 7 of axis 0, enabled in a mode, valid, with a state. -/
def port7 (mode : Nat) (x : Port) : State :=
  (((brgUp.wr (FB.FBCFG 7) (BitVec.ofNat 32 mode)).wr (HDR.CTL (pgFB 7)) 1).wr (FB.FBSTA 7) 0xB).putPort 7 x

theorem test_witness_FeedbackInputs : (port7 1 {}).fbOn 7 = true ∧ (port7 1 {}).fbMode 7 = 1 ∧
    (port7 1 {}).fbBadField 7 = none ∧
    ((port7 1 {}).wr (FB.LPR 7) 0).fbBadField 7 = some 0x44 ∧ (port7 2 { sector := some 5 }).hallSector 7 1 = some 0 ∧
    (port7 2 {}).hallSector 7 7 = none ∧
    ((port7 3 {}).wr (FB.SSICFG 7) 4).ssiJudge 7 [true, false, true, true] false = none ∧
    ((port7 3 {}).wr (FB.SSICFG 7) 0x1011004).ssiJudge 7 [true, false, true, true, true] false = some .crc ∧
    (port7 3 {}).fbLost 7 = false ∧ (port7 4 {}).fbMode 7 = 4 := by decide +kernel

/-- R199: a step forward counts up, with the direction inverted down. -/
theorem test_quadrature : (match execQuadEdge 7 .forward (port7 1 {}), execQuadEdge 7 .forward (port7 9 {}) with
    | .next t, .next u => t.sint64 (FB.COUNT 7) == 1 && u.sint64 (FB.COUNT 7) == -1
    | _, _ => false) = true := by decide +kernel

theorem test_witness_FeedbackStates : ((port7 2 {}).wr (FB.FBSTA 7) 0x70B).fld (FB.FBSTA 7) 10 8 = 7 ∧
    (port7 3 { fails := 16 }).fld (FB.SSITIM 7) 11 8 < 16 ∧ (port7 4 { bad := 255 }).fld (FB.RESTRK 7) 23 16 ≤ 255 ∧
    (port7 0x11 {}).bit (FB.FBCFG 7) 4 = true ∧ ((port7 1 { clean := 16 }).wr (FB.FBSTA 7) 4).fbLost 7 = true ∧
    (port7 1 {}).axisLead 0 = some 5 ∧ ((port7 1 {}).putBrg 5 { running := true }).hasCredit (.sample 2) 48 = true ∧
    (port7 1 {}).primaryPort 0 = some 7 ∧ (port7 1 {}).sint64 (FB.SOFTLO 7) ≤ (port7 1 {}).sint64 (FB.SOFTHI 7) := by decide +kernel

theorem test_witness_Channels : let s : State := ((((up.wr (SDM.CH_CFG 0 7) 0x220).wr (SDM.SDMCLK 0) 0x100).wr (LATCH.LCFG 15) 0x101).wr
        LATCH.LARMSTA 0x8000).wr (LATCH.EMU_CFG 7) 0x27
    s.bit (SDM.CH_CFG 0 7) 9 = true ∧ s.bit (SDM.SDMCLK 0) 8 = true ∧ s.fld (SDM.CH_CFG 0 7) 8 0 = 0x20 ∧
    s.latchTakes 15 false = true ∧ s.latchTakes 15 true = false ∧ s.bit (LATCH.EMU_CFG 7) 5 = true ∧ s.fbLost 7 = false ∧
    ((s.emuOf 7).sent = 0) ∧ up.bit (LATCH.EMU_CFG 7) 5 = false := by decide +kernel

/-! ### Motion -/

/-- Axis 0, led by bridge 5, in POSITION mode, enabled, with limits, and with an AXSTA word. -/
def axis0 (sta : Word) (x : AxisRun) : State :=
  ((((((brgUp.wr (AXIS.AXCFG 0) 2).wr (AXIS.AXSTA 0) sta).wr (AXIS.VMAX 0) 0x10000).wr (AXIS.AMAX 0) 0x10000).wr
    (AXIS.DMAX 0) 0x10000).wr (HDR.CTL (pgAXIS 0)) 1).putAxis 0 x

/-- With a move, or another operation, running. -/
def moving0 (op : Word) (sta : Word) (x : AxisRun) : State := (axis0 sta x).wr (AXIS.MVSTA 0) (0x200 ||| op <<< 10)

theorem test_witness_MotionCommands : let s := axis0 1 {}
    s.busyOp (AXIS.MVSTA 0) = false ∧ s.motionBlocked 0 = false ∧ s.unverified 0 = false ∧ s.zeroLimit 0 = false ∧
    s.sint64 (AXIS.TARGET 0) - s.sint64 (AXIS.CMDPOS 0) = 0 ∧ (s.wr (AXIS.TARGET 0 + 4) 1).sint64 (AXIS.TARGET 0) ≠ 0 ∧
    State.tooFar (2 ^ 63) = true ∧ State.tooFar (2 ^ 63 - 1) = false ∧ (axis0 0x11 {}).unverified 0 = true ∧
    (axis0 0x81 {}).resumable 0 = true ∧ (axis0 3 {}).mstate 0 = 3 ∧ (axis0 7 {}).causePresent 0 = false ∧
    ((s.wr (AXIS.AXCFG 0) 0x82).wr (AXIS.AXCFG 23) 0x82).groupOf 0 = [0, 23] ∧
    (s.wr (AXIS.GEARSRC 0) 3).masterGone 0 = true ∧
    ((s.wr (AXIS.GEARSRC 0) 0x1E).wr (HDR.CTL (pgFB 7)) 1).masterGone 0 = false ∧
    (moving0 0 2 { leader := some 0, arrived := true }).busyOp (AXIS.MVSTA 0) = true ∧
    (moving0 0 2 { leader := some 0, arrived := true }).partyOf 0 = [0] ∧
    (moving0 2 2 {}).fld (AXIS.MVSTA 0) 11 10 = 2 ∧ s.motionBlocked 1 = true := by decide +kernel

/-- A moving axis whose counts of underruns, deviations and slips have reached their limits. -/
def counted0 : State := ((axis0 2 { under := 3, devs := 4, slips := 5 }).wr (AXIS.DEVCFG 0) 0x30104).wr (AXIS.SLIPCFG 0) 0x1050000

theorem test_witness_MotionRuns : let s := axis0 2 {}
    s.axisLead 0 = some 5 ∧ s.axisOn 0 = true ∧ (s.unitTread 0 5).isSome = true ∧ s.hasCredit (.setpoint (s.brgGal 5)) 0 = true ∧
    s.hallStalls 0 = false ∧ (s.axisOf 0).leader = none ∧
    counted0.fld (AXIS.DEVCFG 0) 23 16 = 3 ∧ counted0.fld (AXIS.DEVCFG 0) 7 0 = 4 ∧ counted0.bit (AXIS.DEVCFG 0) 8 = true ∧
    counted0.fld (AXIS.SLIPCFG 0) 23 16 = 5 ∧ counted0.bit (AXIS.SLIPCFG 0) 24 = true ∧ (s.setBit (AXIS.AXCFG 0) 2 true).sensorless 0 = true ∧
    (axis0 0x805 { arrived := true }).mstate 0 = 5 ∧ (axis0 0x805 {}).fld (AXIS.AXSTA 0) 11 10 = 2 ∧
    (axis0 0x41 { back := 16 }).onEstimate 0 = true := by decide +kernel

/-- R237: a STOP without STOPDEC is category 0. -/
theorem test_stop_category : (match execMvctlStop 0 (axis0 2 {}) with
    | .next t => t.mstate 0 == 5 && t.fld (AXIS.AXSTA 0) 11 10 == (if (axis0 2 {}).num (AXIS.STOPDEC 0) = 0 then 0 else (axis0 2 {}).causeCat 0 1)
    | _ => false) = true := by decide +kernel

/-! ### The route store -/

/-- The route service with its map's first flight in frame 0x2000, in a state. -/
def routed (st : Word) (pos : Word64) : State :=
  { (((kept pgROUTE up).wr ROUTE.RSTATE st).wr64 ROUTE.POS pos).wr ROUTE.SPACING 1000 with route := { map := [(0, (0x2000, true))], pairs := [(0, 0x2001)] } }

theorem test_witness_Routes : (routed 1 0).offView pgROUTE = false ∧ (routed 1 0).routeState = 1 ∧ ((routed 1 0).mapEntry 0).2 = true ∧ ((routed 1 0).mapEntry 1).2 = false ∧
    (routed 1 (-1)).sint64 ROUTE.POS < 0 ∧ (routed 0 0).routeState < 2 ∧ 2 ≤ (routed 3 0).routeState ∧ (routed 2 0).odoAxes = [] ∧
    (routed 1 0).busyOp ROUTE.FCSTA = false ∧ ((routed 1 0).wr ROUTE.FCSTA 0x200).busyOp ROUTE.FCSTA = true ∧
    ((routed 2 0).wr ROUTE.FCARG0 0x10000000).pairOk 0 0x1000 = false := by decide +kernel

/-- A good node of flight 0: zeros and their CRC. -/
def goodNode : List Byte := List.replicate 30 0 ++ [BitVec.ofNat 8 ((crc16 (List.replicate 30 0)).toNat % 256),
  BitVec.ofNat 8 ((crc16 (List.replicate 30 0)).toNat / 256)]

/-- Frame 0x2000 full of good nodes of flight 0 in LPDDR5. -/
def goodFrame : State :=
  { (kept pgROUTE up).wr ROUTE.FCARG0 0x20000000 with
    mem := (List.range 0x20000).map fun i => (dramBase + 0x40000000 + i, goodNode.getD (i % 32) 0),
    ecc := (List.range 0x4000).map fun i => ((dramBase + 0x40000000) / 8 + i, 0) }

theorem find_range {α : Type} (f : Nat → α) (b n s k : Nat) (h1 : s ≤ k) (h2 : k < s + n) :
    Tab.find ((List.range' s n).map fun i => (b + i, f i)) (b + k) = some (f k) := by
  induction n generalizing s with
  | zero => omega
  | succ n ih =>
    rw [List.range'_succ, List.map_cons, Tab.find]
    by_cases hk : k = s
    · simp [hk]
    · rw [if_neg (by omega)]
      exact ih (s + 1) (by omega) (by omega)

theorem bytes_eq (s : State) (a n : Nat) : s.bytes a n = (List.range n).map fun j => s.byte (a + j) := by
  induction n generalizing a with
  | zero => rfl
  | succ n ih =>
    rw [State.bytes, ih, List.range_succ_eq_map, List.map_cons, List.map_map]
    simp [Function.comp_def, Nat.add_comm, Nat.add_left_comm]

theorem goodFrame_byte {k : Nat} (h : k < 0x20000) : goodFrame.byte (dramBase + 0x40000000 + k) = goodNode.getD (k % 32) 0 := by
  have e := find_range (fun i => goodNode.getD (i % 32) 0) (dramBase + 0x40000000) 0x20000 0 k (by omega) (by omega)
  rw [← List.range_eq_range'] at e
  simp only [State.byte, goodFrame, e]

theorem goodFrame_node {i : Nat} (h : i < 4096) : goodFrame.bytes (dramBase + 0x40000000 + i * 32) 32 = goodNode := by
  rw [bytes_eq]
  have e : ∀ j ∈ List.range 32, goodFrame.byte (dramBase + 0x40000000 + i * 32 + j) = goodNode.getD j 0 := by
    intro j hj
    have hj := List.mem_range.mp hj
    rw [Nat.add_assoc, goodFrame_byte (by omega)]
    congr 1
    omega
  rw [List.map_congr_left e]
  decide +kernel

/-- A commit of one good pair: every node of the frame passes R257, the words are good, and the firewall opens the frame. -/
theorem test_witness_Routes_frame : (∀ i < 4096, nodeFault 0 (goodFrame.bytes (dramBase + 0x40000000 + i * 32) 32) = none) ∧
    goodFrame.GoodCode (dramBase + 0x40000000) 0x20000 ∧ goodFrame.pairOk 0 0x2000 = true := by
  refine ⟨fun i hi => ?_, fun w h1 h2 => ?_, by decide +kernel⟩
  · rw [goodFrame_node hi]; decide +kernel
  · obtain ⟨k, rfl⟩ := Nat.exists_eq_add_of_le h1
    have hb : dramBase = 0x1000000000 := rfl
    have hk : k < 0 + 0x4000 := by rw [hb] at h2; omega
    have e := find_range (fun _ => (0 : Byte)) ((dramBase + 0x40000000) / 8) 0x4000 0 k (Nat.zero_le k) hk
    rw [← List.range_eq_range'] at e
    simp only [State.syn, goodFrame, e]

theorem test_witness_Routes_firewall : goodFrame.offView pgROUTE = false ∧ goodFrame.fwAdmits 2 0 0x40000000 32 .read = true ∧
    goodFrame.fwAdmits 2 0 (0x40000000 + 4095 * 32) 32 .read = true := by decide +kernel

/-! ### Migrations and the duplex pair -/

/-- Gallery 2's slot 1 is to move to spare 17, which holds image 3. -/
def migUp : State :=
  { (((((((kept pgMIG brgUp).putGal 2 { sched := [(1, { sbr := 0x85, budget := 100, sdl := 100, cdl := 50000 })] }).wr (BRG.ACT_PERIOD 5) 160000).wr MIG.MARGS
      (BitVec.ofNat 32 (2 + 17 * 256 + 2 * 65536 + 3 * 2 ^ 24))).wr (HDR.STA (pgGAL 17)) 0x108).wr MIG.MCMP 2).wr
      MIG.EPOCHNEXT 1).wr (HDR.STA (pgGAL 2)) 0x303 with
    mig := { held := [(2, 3), (17, 3)], source := 2, target := 17, testing := 17 } }

theorem test_witness_Migrations : migUp.offView pgMIG = false ∧ migUp.busyOp MIG.MSTA = false ∧ migUp.galState 17 = 8 ∧ migUp.slotOn 2 1 = true ∧
    (∀ n ∈ bitsOf 6 2, migUp.slotOn 2 n = true ∧ migUp.phase (BRG.XFERSTA (migUp.slotBridge 2 n)) ≠ 1) ∧
    migUp.num (GAL.STATELEN 2) ≤ migUp.stateCap 2 ∧ migUp.copyFails 2 1200 = none ∧
    migUp.scheduleFails 1200 0 (migUp.movedTable 2 2) = none ∧ migUp.namedImage 2 = some 3 ∧ migUp.holds 17 3 = true ∧
    migUp.chooseSpare none (some 3) = some 17 ∧ Tab.find migUp.mig.held 2 = some 3 ∧ migUp.galState 16 ≠ 8 ∧
    (migUp.wr MIG.MSTA 0x1600).busyOp MIG.MSTA = true ∧ (migUp.wr MIG.MSTA 0x1600).fld MIG.MSTA 12 10 = 5 ∧
    (migUp.wr MIG.TSEL 17).fld MIG.TSEL 4 0 = 17 ∧ (migUp.wr MIG.DEADCFG 1).fld MIG.DEADCFG 3 0 ≠ 0 := by decide +kernel

/-- A pair in a state: axis 0 owned, axis 1 a shadow, with bridge 5 on ring 0 and its hits counted. -/
def paired (st : Word) : State :=
  { ((((kept pgSTW brgUp).wr STW.STATE st).wr STW.OWN 1).wr STW.SHADOW 2).wr MIG.EPOCHNEXT 7 with stw := { handAxes := 1, hits := [(5, 255)] } }

theorem test_witness_DuplexPair : (paired 0).offView pgSTW = false ∧ (paired 2).offView pgSTW = false ∧ (paired 2).pairState = 2 ∧ (paired 2).hasCredit .stairwell 0 = true ∧
    (paired 2).bridgesOf 1 = [5] ∧ (paired 0).busyOp STW.HOSTA = false ∧ ((paired 2).wr STW.HOSTA 0x200).busyOp STW.HOSTA = true ∧
    ((paired 2).wr STW.HOSEL 1).rd STW.HOSEL &&& 0xFFFFFF ≠ 0 ∧ (paired 2).bit STW.OWN 0 = true ∧ (paired 2).bit STW.SHADOW 1 = true ∧
    (((paired 2).wr STW.SHADOW 1).axisLead 0 = some 5) ∧
    (((paired 2).putSlotRun 2 1 { shadow := true }).slotRun 2 1).shadow = true ∧ (paired 2).num MIG.EPOCHNEXT ≠ 0 := by decide +kernel

/-! ### The newel -/

/-- An image set that passes, empty of images, and a board whose LPDDR5 trains at once. -/
def goodSet : ImageSet := { cause := 0, version := 5, svn := 1, newNewel := false, images := [], regions := [], policy := [] }
def goodEnv : BootEnv :=
  { assign := [(5, 0x80)], setA := goodSet, setB := goodSet, keys := 1, installed := 0x100000000, ranks := 1, ch0Up := true, ch1Up := true,
    trainUs := 500, trainTries := 1, cfgCopies := 3, safeCopies := 3, newelCopies := 3 }

theorem test_witness_NewelBoot : State.reset.newel.waiting = some 1 ∧ State.reset.powered = true ∧ State.reset.pwr.waitRef = false ∧
    State.reset.BootGood goodEnv ∧ (up.wr NEWEL.BOOTSTA 0x20000).bit NEWEL.BOOTSTA 17 = true ∧ up.bit NEWEL.BOOTSTA 17 = false ∧
    ({ up with pwr := { dead := true } } : State).powered = false := by
  unfold State.BootGood State.pick; decide +kernel

/-- A device in SERVICE whose galleries' sets are verified and loaded, the gate open with the password set. -/
def served : State :=
  { (((up.wr SYS.MODE 6).wr BAL1.GATE 5).wr BAL0.BSTA 1).wr BAL0.STOAX 0xFFFFFF with
    newel := { up.newel with verified := 2, loaded := 1, waiting := none }, nvm := { up.nvm with salt := [], hash := sha256 [0x61] } }

theorem test_witness_MailboxCalls : served.callRuns 7 = false ∧ State.knownCall 4 = false ∧ 0x3000 = served.spacePages 1 ∧
    served.policyOk 0 1 0x3000 = true ∧ served.policyOk 1 1 1 = false ∧ served.runningSet = 0 ∧
    served.newel.verified.getLsbD 1 = true ∧ served.newel.verified.getLsbD 0 = false ∧ served.newel.loaded.getLsbD 0 = true ∧
    served.newel.loaded.getLsbD 1 = false ∧ (∀ j < 8, ¬ (served.fld (HDR.STA (pgHALL j)) 3 0 = 3 ∧ served.fld (HALL.IMGSLOT j) 0 0 = 1)) ∧
    served.gateOpen = true ∧ served.bal.committing = none ∧ served.bit BAL1.GATE 2 = true ∧
    (served.wr BAL1.GATE 4).gateOpen = false ∧ (∀ a < 24, served.bit BAL0.STOAX a = true) ∧ served.balState = 1 ∧
    (served.putMbx 7 8 0x200).callRuns 7 = true ∧ (served.putMbx 7 8 0x300).callPhase 7 = 3 := by decide +kernel
theorem test_witness_MailboxCalls_password : served.passwordOk [0x61] = true ∧ served.passwordOk [0x62] = false := by decide +kernel
theorem test_witness_MailboxCalls_commit : served.commitChecks.all (·.2) = true ∧
    (served.wr (BAL1.SDCFG 0) 1).commitChecks.all (·.2) = false := by decide +kernel

/-! ### The hall cores -/

/-- Hall core 0 runs in window `c` with occupancy `o`, landing flag `l` and spill depth `d`; LPDDR5 of 256 MB is usable. -/
def hallUp (c o l d : Nat) : State :=
  (((up.wr (HDR.STA (pgHALL 0)) 3).wr (HALL.WINSTA 0) (BitVec.ofNat 32 (c + l * 8 + o * 16 + d * 65536))).wr64 DRAM.USABLE 0x10000000).putHall
    0 { win := [(16, 1), (39, 2)], glob := [(6, 0x2000)], pc := 0x100, links := [(0x44, true)], landPc := 0x80, landUser := true }

theorem test_witness_HallWindows : (hallUp 0 1 0 0).hallRuns 0 = true ∧ (hallUp 6 0x40 0 0).cwp 0 = 6 ∧ (hallUp 6 0x40 0 0).occ 0 0 = false ∧
    (hallUp 0 0x41 0 0).occ 0 6 = true ∧ (hallUp 0 3 0 0).occ 0 1 = true ∧ (hallUp 0 3 0 0).inLanding 0 = false ∧
    (hallUp 0 1 0 2).occ 0 6 = false ∧ (hallUp 0 1 0 2).spillDepth 0 = 2 ∧ (hallUp 0 1 1 0).inLanding 0 = true ∧
    ((hallUp 0 1 1 0).hallOf 0).pend = none ∧ ((hallUp 0 1 1 0).hallOf 0).irqs = [] ∧
    ((hallUp 0 1 0 0).hallOf 0).links.head? = some (0x44, true) ∧ up.hallRuns 0 = false := by decide +kernel
theorem test_witness_HallWindows_spill : let s := hallUp 0 1 1 2
    s.bit MEM.INJCFG 16 = false ∧ 0x2000 + 192 ≤ (s.rd64 DRAM.USABLE).toNat ∧ dramBase + 0x2000 + 192 ≤ hostBase ∧
    s.fwAdmits 1 0 0x2000 192 .write = true ∧ s.fwAdmits 1 0 0x20C0 192 .read = true ∧
    ((Tab.get 0 (s.hallOf 0).glob 6) + 192).toNat = 0x20C0 := by decide +kernel
/-- Words of LPDDR5 whose syndromes are stored as good. -/
theorem test_witness_HallWindows_fill :
    ∃ s : State, s.GoodCode (dramBase + 0x20C0) 192 ∧ s.hallRuns 0 = true := by
  refine ⟨{ hallUp 0 1 1 2 with ecc := (List.range 24).map fun j => ((dramBase + 0x20C0) / 8 + j, 0) }, ?_, by decide +kernel⟩
  intro w h1 h2
  have e : ∃ j < 24, w = (dramBase + 0x20C0) / 8 + j := ⟨w - (dramBase + 0x20C0) / 8, by simp only [dramBase] at *; omega, by
    simp only [dramBase] at *; omega⟩
  obtain ⟨j, hj, rfl⟩ := e
  revert j; decide +kernel

/-- Core 0 with a program in force, one that waits, and an exchange that runs. -/
def pxUp (len sta : Word) : State :=
  ((hallUp 0 1 0 0).wr (HALL.PXLEN 0) len).wr (HALL.PXSTA 0) sta |>.putHall 0
    { program := some [{ obj := { name := 7, type := 1, version := 1 }, value := 5, running := true }],
      next := some { version := 2, scanMs := 10, sigOk := true, axes := 0, objects := [{ name := 7, type := 1, version := 1 }] } }

theorem test_witness_Tchiora : (pxUp 0 0).busyOp (HALL.PXSTA 0) = false ∧ ((pxUp 0 0).rd (HALL.PXLEN 0)).toNat = 0 ∧
    ((pxUp 0x1000000 0).rd (HALL.PXLEN 0)).toNat = 0x1000000 ∧ (pxUp 64 0x200).busyOp (HALL.PXSTA 0) = true ∧
    (pxUp 64 0x200).isPast (HALL.PXSTA 0) = false ∧ ((pxUp 64 0).hallOf 0).overrun = false ∧
    ((pxUp 64 0).hallOf 0).next.isSome = true ∧ ((pxUp 64 0).hallOf 0).program.isSome = true ∧
    State.repeats [{ name := 7, type := 1, version := 1 }, { name := 7, type := 1, version := 1 }] = true ∧
    State.repeats [{ name := 7, type := 1, version := 1 }] = false := by decide +kernel

/-! ### The coded memories and the eMRAM -/

/-- The booted device with the scrubber's space, line and length set, and operation words `scr` and `ret`. -/
def scrubUp (len scr ret : Word) : State :=
  { (((((kept pgMEM up).wr64 MEM.SCRBASE 0x1000).wr64 MEM.SCRLEN (len.zeroExtend 64)).wr MEM.SCRSTA scr).wr MEM.RETSTA ret) with
    memOps := { up.memOps with found := [(0x1000, false), (0x2008, true)], scrubAt := 0 } }

/-- A retirement of logical bank 3 to the physical bank 25 runs. -/
def retiring : State :=
  { scrubUp 64 0 0x200 with memOps := { up.memOps with retire := some (3, 25) } }

theorem test_witness_Scrubbing : (scrubUp 64 0 0).offView pgMEM = false ∧ (scrubUp 64 0x200 0).busyOp MEM.SCRSTA = true ∧ (scrubUp 64 0x200 0).isPast MEM.SCRSTA = false ∧
    (scrubUp 0 0 0).busyOp MEM.SCRSTA = false ∧ (scrubUp 64 0 0).fld MEM.SCRCFG 2 0 = 0 ∧ (scrubUp 64 0x300 0).phase MEM.SCRSTA = 3 ∧
    0x1000 + 64 ≤ (scrubUp 64 0 0).spaceSize 0 ∧ (scrubUp 64 0 0).bit MEM.INJCFG 16 = false ∧
    classify ((({ scrubUp 64 0 0 with ecc := [(0x200, 3)] } : State)).syn (0x1000 / 8)) = .uncorrectable ∧
    (scrubUp 64 0 0).memOps.retire = none ∧ (scrubUp 64 0 0).spareBank = some 24 ∧ retiring.busyOp MEM.RETSTA = true ∧
    retiring.isPast MEM.RETSTA = false ∧ 0 < retiring.fld MEM.BANKSTA 29 28 ∧ retiring.fld (MEM.BANKMAP 3) 4 0 = 3 ∧
    (up.wr SYS.MODE 6).sysMode = 6 := by decide +kernel
theorem test_witness_Scrubbing_spares : ((scrubUp 64 0 0).wr MEM.BANKSTA 0x3FFFFFF).spareBank = none ∧
    ((up.wr MEM.RETCFG 0x301).wr (MEM.BANKCE 3) 3).fld MEM.RETCFG 15 8 ≤ ((up.wr MEM.RETCFG 0x301).wr (MEM.BANKCE 3) 3).fld (MEM.BANKCE 3) 15 0 ∧
    (up.wr MEM.INJCFG 0x10003).injWord = some 0 := by decide +kernel
theorem test_witness_Scrubbing_code : (scrubUp 64 0 0).GoodCode 0x1000 64 ∧ retiring.GoodCode (3 * 0x200000) 0x200000 :=
  ⟨goodCode_of_sram rfl (by decide), goodCode_of_sram rfl (by decide)⟩

/-- The call `seq` of core 7 waits for a commit of two units; `n` spare sectors are used. -/
def committing (act : CommitAct) (done n : Nat) (stopping : Option Nat) : State :=
  { (served.putMbx 7 8 0x200).setBit NEWEL.MBXSTA 7 true with
    commits := [{ kind := 4, units := 2, done := done, core := some 7, act := act, stopping := stopping }],
    nvm := { served.nvm with spares := n } }

theorem test_witness_EmramCommits : (committing .confirm 0 0 none).commits.isEmpty = false ∧ 7 < up.variant.halls ∧
    (committing (.activate true 3) 1 0 none).CallGoesOn 7 0 ∧ (committing (.activate true 3) 1 0 none).bit MEM.INJCFG 16 = false ∧
    (committing .confirm 0 128 none).nvm.spares = 128 ∧ (up.wr NVM.NSTA 0x45).bit NVM.NSTA 6 = true := by
  unfold State.CallGoesOn; decide +kernel

/-! ### The balustrade -/

/-- The balustrade in RUN with both pairs and every brake output up, axis 0 at 1 rev/s on port 3; `sta` is AFSTA[0]. -/
def balUp (sta : Word) : State :=
  ((((((up.wr SYS.MODE 2).wr BAL0.BSTA 1).wr BAL0.OUTSTA 0xFF03).wr (BAL0.AFSTA 0) sta).wr (HDR.CTL (pgFB 3)) 1).wr (FB.SPD 3) 0x10000).wr
    (BRG.ASSIGN 5) 0x40

def quietIn : BalInputs :=
  { chanA := 1, chanB := 1, cycle10ns := 2500, failsafe := none, readbackOk := true, partnerForce := 0 }

theorem test_witness_BalustradeCycle : (balUp 0).balRuns = true ∧ (balUp 0).balState = 1 ∧ (balUp 0).bit BAL0.OUTSTA 2 = false ∧
    up.balRuns = false ∧ (balUp 0).bal.committed = false ∧ ({ quietIn with failsafe := some 4 }).failsafe.map BitVec.toNat = some 4 ∧
    (({ balUp 0 with bal := { up.bal with level := 0x101 } } : State).wr (BAL1.INCFG 0) 1).bal.level.getLsbD 8 = true ∧
    ((balUp 0).wr (BAL1.INCFG 0) 1).fld (BAL1.INCFG 0) 3 0 % 2 = 1 ∧ ((balUp 0).wr BAL0.INSTA 0x100).bit BAL0.INSTA 8 = true ∧
    ((balUp 0).wr (BAL1.SRCA 0) 0x09).source (((balUp 0).wr (BAL1.SRCA 0) 0x09).fld (BAL1.SRCA 0) 5 0) = false ∧
    (balUp 0).balFn 0 = 0 ∧ (balUp 1).balFn 0 = 1 ∧ (balUp 4).balFn 0 = 4 ∧ (balUp 4).bit (BAL0.AFSTA 0) 5 = false ∧
    (∀ c ∈ (balUp 1).sources 0, c = 0) ∧ (balUp 1).bit BAL1.GENERAL 16 = false ∧ (balUp 0).safeSpeed 0 = 0x10000 := by decide +kernel

theorem test_witness_BalustradeEvents : let fails := fun (s : State) => s.putBalAxis 0 { t := 100000, fails := [(2, 3)], plFails := 3 }
    (fails (balUp 0x10)).violationDue 0 2 = true ∧ (balUp 0).violationDue 0 2 = false ∧
    ((balUp 0).wr (BAL1.SRCA 0) 0x09000000).sourced 0 = true ∧
    Nat.max 1 ((fails (balUp 0)).fld (BAL1.PLCFG 0) 15 8) ≤ ((fails (balUp 0)).balAxis 0).plFails ∧
    (fails (balUp 3)).fld (BAL1.SS1CFG 0) 15 0 * 100000 ≤ ((fails (balUp 3)).balAxis 0).t ∧
    (balUp 3).sspd 0 < ((balUp 3).safeSpeed 0).natAbs ∧ (((balUp 3).wr (BAL1.SOSCFG 0) 0x01000000).safeSpeed 0).natAbs ≤
      ((balUp 3).wr (BAL1.SOSCFG 0) 0x01000000).sspd 0 ∧ ((balUp 1).wr (BAL1.MISC 0) 0x0A000000).bit (BAL1.MISC 0) 27 = true ∧
    (({ balUp 0 with bal := { up.bal with level := 1 } } : State).wr (BAL1.INCFG 0) 1).disagree 0 = true ∧
    (balUp 0).bit BAL0.OUTSTA 1 = true ∧ (balUp 0).sysMode ≠ 0 ∧ ((balUp 0).wr BAL1.GATE 1).gateOpen = true ∧
    (balUp 0).bal.committing = none ∧ ((balUp 0).wr BAL1.GATE 2).bit BAL1.GATE 1 = true := by decide +kernel

/-- A container of channel 2 with identity 0x1234 and sequence number `q`, and data byte `d`. -/
def container (q : Nat) (d : Byte) : List Byte :=
  let body := leBytes 2 0x1234 ++ leBytes 2 q ++ List.replicate 6 0 ++ [d] ++ List.replicate 17 0
  body ++ leBytes 4 (State.sdCrc 7 body).toNat

/-- Channel 2 receives on CAN 0 and CAN 1, or transmits, with its copies held as given. -/
def safeUp (tx : Nat) (copy : Option (Bool × List Byte × Nat)) (good : Nat) : State :=
  ((((((balUp 0).wr (BAL1.SDCFG 2) (BitVec.ofNat 32 (0x12340081 + 2 * tx))).wr (BAL1.SDSALT 2) 7).wr (BAL1.SDTIM 2) 0x0A0A14).wr
    (BAL1.SDSTA 2) 0x50000).putChan 2 { copy := copy, good := good, started := decide (0 < good) })

theorem test_witness_SafeData : (safeUp 0 none 0).sdOn 2 false = true ∧ (safeUp 0 none 0).balRuns = true ∧
    (safeUp 0 none 0).hasCredit .safeData ((safeUp 0 none 0).sdNet 2 false) = true ∧
    ((safeUp 0 none 0).spend .safeData ((safeUp 0 none 0).sdNet 2 false)).hasCredit .safeData ((safeUp 0 none 0).sdNet 2 false) = false ∧ ((safeUp 0 none 0).chanOf 2).copy = none ∧
    (safeUp 1 none 0).sdOn 2 true = true ∧ (safeUp 1 none 0).sdOn 2 false = false ∧
    ((safeUp 0 (some (true, container 6 3, 0)) 1).chanOf 2).copy = some (!false, container 6 3, 0) := by decide +kernel
theorem test_witness_SafeData_copies : (safeUp 0 none 0).sdGood 2 (container 6 3) = true ∧ (safeUp 0 none 0).sdGood 2 [] = false ∧
    State.sdSeq (container 6 4) = State.sdSeq (container 6 3) ∧ (container 6 4).take 28 ≠ (container 6 3).take 28 ∧
    (safeUp 0 none 0).t16 ≤ (safeUp 0 none 0).expandLt (BitVec.ofNat 48 (ofLeBytes (((container 6 3).drop 4).take 6))) := by decide +kernel

/-! ### CAN controllers -/

/-- Controller 1 enabled, buffer 2 a receive buffer for identifier 0x123, buffer 5 with control word `ctl` and status `sta`. -/
def canUp (ctl sta : Word) (x : CanSt) : State :=
  let s := (((up.wr (HDR.CTL (pgCAN 1)) 1).wr (CAN.CFG 1) 1).putBufWord 1 2 0 0x048C0000).putBufWord 1 2 4 0x3FFFFFFF
  (((s.putBufWord 1 2 8 1).putBufWord 1 5 8 ctl).putBufWord 1 5 12 sta).putCan 1 x

def frame123 : CanFrame :=
  { ident := 0x048C0000, xtd := false, rtr := false, fdf := true, brs := true, esi := false, dlc := 2, data := [0xAA, 0xBB], age := 0 }

theorem test_witness_CanFrames : 1 < up.variant.cans ∧ (canUp 2 0 {}).canOn 1 = true ∧ up.canOn 1 = false ∧
    (canUp 2 0 {}).safeChannel 1 frame123 = none ∧ (canUp 2 0 {}).isReference 1 frame123 = false ∧
    (canUp 2 0 {}).accepts 1 2 frame123 = true ∧ (∀ j < 2, (canUp 2 0 {}).accepts 1 j frame123 = false) ∧
    (canUp 2 0x100 {}).bufPends 1 5 = true ∧ (canUp 2 0x300 {}).bsta 1 5 9 8 = 3 ∧ (canUp 2 0 {}).bufPends 1 5 = false ∧
    (canUp 2 0 {}).bctl 1 5 1 0 = 2 ∧ (canUp 2 0 {}).bctl 1 5 3 2 = 0 ∧ (canUp 2 0 {}).bctl 1 5 12 12 = 0 ∧
    (canUp 1 0 {}).bctl 1 5 1 0 ≠ 2 ∧ (canUp 2 0 {}).ttOn 1 = false := by decide +kernel
theorem test_witness_CanFrames_none : (∀ b < 128, (canUp 2 0 {}).accepts 1 b { frame123 with ident := 7 } = false) ∧
    (∀ j < 128, (canUp 2 0 {}).bufPends 1 j = false) := by decide +kernel
theorem test_witness_CanFrames_locks : Tab.find ((canUp 2 0 { locks := [(2, 4)] }).canOf 1).locks 2 = some 4 ∧
    Tab.find ((canUp 2 0 { locks := [(2, 4)], shadows := [(2, (frame123, 9))] }).canOf 1).shadows 2 = some (frame123, 9) ∧
    ((canUp 2 0x200 { attempt := some (.buffer 5, 4) }).canOf 1).attempt = some (.buffer 5, 4) ∧
    (canUp 2 0x200 { attempt := some (.buffer 5, 4) }).bsta 1 5 9 8 = 2 ∧
    0 + 1 ≤ Nat.min 15 ((canUp 2 0x200 {}).bsta 1 5 19 16 + 1) := by decide +kernel

/-- The schedule of controller 1: TTCFG and TTSTA as given, reference identifier 0x123. -/
def ttUp (cfg sta ecsta : Word) : State :=
  ((((canUp 0x1002 0x100 { row := [0, 0x15] }).wr (CAN.TTCFG 1) cfg).wr (CAN.TTSTA 1) sta).wr (CAN.ECSTA 1) ecsta).wr (CAN.REFID 1) 0x048C0000

theorem test_witness_CanNetworks : (kept (pgCAN 1) up).offView (pgCAN 1) = false ∧ (kept (pgCAN 1) up).bit (HDR.CTL (pgCAN 1)) 0 = false ∧
    (kept (pgCAN 1) up).busyOp (CAN.TSTA 1) = false ∧ (ttUp 0 0 0x20000).fld (CAN.ECSTA 1) 17 16 = 2 ∧ (ttUp 0 0 0x60000).bit (CAN.ECSTA 1) 18 = true ∧
    ((ttUp 0 0 0).wr (CAN.STATCFG 1) 0x80000000).bit (CAN.STATCFG 1) 31 = true ∧ (ttUp 0 0 0).bit (HDR.CTL (pgCAN 1)) 0 = true ∧
    (ttUp 2 0x200 0).canOn 1 = true ∧ (ttUp 2 0x200 0).isReference 1 frame123 = true ∧ (ttUp 2 0x200 0).ttMode 1 = 2 ∧
    (ttUp 2 0x300 0).fld (CAN.TTSTA 1) 9 8 = 3 ∧ (ttUp 2 0x700 0).ttOn 1 = true ∧ (ttUp 0x202 0x700 0).fld (CAN.TTCFG 1) 11 8 = 2 ∧
    wfld ((ttUp 0x202 0x10700 0).winEntry 1) 1 0 = 1 ∧ wfld ((ttUp 0x202 0x10700 0).winEntry 1) 8 2 = 5 ∧
    (ttUp 0x202 0x10700 0).bufPends 1 5 = true ∧ (ttUp 0x202 0x10700 0).bctl 1 5 12 12 = 1 ∧
    ((ttUp 0 0 0).wr (CAN.TSTA 1) 0x200).busyOp (CAN.TSTA 1) = true ∧
    ((ttUp 0 0 0).wr (CAN.TSTA 1) 0x200).isPast (CAN.TSTA 1) = false ∧
    (ttUp 0 0 0).busyOp (CAN.TSTA 1) = false := by decide +kernel

/-! ### Time and Ethernet -/

/-- Domain 0 on port 0 in the state of DOMSTA, with DOMCFG `cfg`; it locks after 3 Syncs within 100 ns. -/
def ptpUp (cfg sta : Word) : State :=
  (((up.wr (TIME.DOMCFG 0) cfg).wr (TIME.DOMSTA 0) sta).wr (TIME.DOMLOCK 0) 0x30064).wr64 (TIME.DOMGM 0) 7

def sync7 : PtpSync :=
  { gm := 7, offset := -50, delay := 200, rate := 0, priority1 := 100, clockClass := 6, utcOffset := 37, utcValid := true }

theorem test_witness_TimeBase : (up.wr TIME.SETSTA 0x200).busyOp TIME.SETSTA = true ∧ up.busyOp TIME.SETSTA = false ∧
    up.stepOk = true ∧
    (up.wr (TIME.SETVAL 3) 15).num (TIME.SETVAL 3) < 16 ∧ ¬ (up.wr (TIME.SETVAL 3) 16).num (TIME.SETVAL 3) < 16 ∧
    (up.wr STW.STATE 1).stepOk = false ∧ (up.wr TIME.SETSTA 0x200).isPast TIME.SETSTA = false ∧ up.phase TIME.SETSTA = 0 ∧
    State.isTimeReg (TIME.NOW 0) = true ∧ State.isTimeReg (TIME.NOW 1) = false ∧ (ptpUp 0x800 0x202).masterBeaten 0 sync7 = true ∧
    (ptpUp 0x321800 5).masterBeaten 0 sync7 = false ∧ (ptpUp 0x800 0x202).domState 0 = 2 ∧
    (ptpUp 0x800 0x202).rd64 (TIME.DOMGM 0) = sync7.gm ∧
    (sync7.offset - ((ptpUp 0x800 0x202).domOf 0).last).natAbs ≤ (ptpUp 0x800 0x202).fld (TIME.DOMLOCK 0) 15 0 ∧
    ((ptpUp 0x800 3).wr64 (TIME.DOMGM 0) 9).rd64 (TIME.DOMGM 0) ≠ sync7.gm ∧ (up.wr TIME.TSTA 0xC).timeSource = 4 ∧
    (up.wr TIME.TSTA 0xC).timeValid = true ∧ ({ up with time := { up.time with ofs := 320 } } : State).time.ofs ≠ 0 := by decide +kernel

/-- MAC 1 enabled with its link up, its rings of four slots at 0x10000 and 0x20000 of the mezzanine. -/
def ethUp (rxrd txwr : Word) (x : EthSt) : State :=
  (((((((up.wr (HDR.CTL (pgETH 1)) 1).wr (ETH.LINK 1) 0x27).wr (ETH.RXBASE 1) 0x10000).wr (ETH.RXSIZE 1) 0x2000).wr (ETH.TXBASE 1) 0x20000).wr
    (ETH.TXSIZE 1) 0x2000).wr (ETH.RXRD 1) rxrd).wr (ETH.TXWR 1) txwr |>.putEth 1 x

theorem test_witness_EthernetMacs : (ethUp 0 0 {}).bit (HDR.CTL (pgETH 1)) 0 = true ∧ (ethUp 0 0 {}).bit (ETH.LINK 1) 1 = true ∧
    up.bit (ETH.LINK 1) 1 = false ∧ (ethUp 0x800 0 {}).num (ETH.RXRD 1) = (0 + 2048) % (ethUp 0x800 0 {}).num (ETH.RXSIZE 1) ∧
    (mezzBase + (ethUp 0 0 {}).num (ETH.RXBASE 1)) % 8 = 0 ∧ (ethUp 0 0x800 {}).num (ETH.TXRD 1) ≠ (ethUp 0 0x800 {}).num (ETH.TXWR 1) ∧
    (ethUp 0 0 { safe := [(2, [1])] }).ethOf 1 = { safe := [(2, [1])] } ∧ (ethUp 0 0 {}).bit MEM.INJCFG 16 = false ∧
    ((ethUp 0 0 {}).wr (BAL1.SDCFG 2) 0xD).ethNet 1 2 = some false := by decide +kernel
theorem test_witness_EthernetMacs_code : (ethUp 0 0x800 {}).GoodCode (mezzBase + 0x20000) 2080 := goodCode_of_sram rfl (by decide)

/-! ### Acquisition, recorder and record store -/

/-- The store runs; group 1 samples node 0x100 every 10 µs with its engine in the operation word `sta`. -/
def acqUp (gcfg nseg sta : Word) (g : Grp) : State :=
  ((((((((kept pgACQ up).wr (STORE.SSTA 0) 0x800).wr (ACQ.GRP_GCFG 1) gcfg).wr (ACQ.GRP_GPER 1) 10000).wr (ACQ.SIG 1 0) 0x8100).wr ACQ.MSIZE 0x100000).wr
    (ACQ.GRP_NSEG 1) nseg).wr ACQ.ASTA sta).putGrp 1 g

theorem test_witness_Acquisition : (acqUp 1 1 0 {}).offView pgACQ = false ∧ up.variant.acq = true ∧ (acqUp 1 1 0x200 {}).busyOp ACQ.ASTA = true ∧
    (acqUp 1 1 0 {}).armLength = none ∧ (acqUp 1 1 0 {}).armState = none ∧ (acqUp 1 0x1001 0 {}).armLength = some 0x150 ∧
    ((acqUp 1 1 0 {}).wr (ACQ.SIG 1 0) 0).armState = some 0x140 ∧ (acqUp 1 1 0 {}).grpOn 1 = true ∧ (acqUp 1 1 0 {}).grpCont 1 = false ∧
    (acqUp 1 0 0 {}).fld (ACQ.GRP_NSEG 1) 12 0 = 0 ∧ (acqUp 1 1 0x300 {}).phase ACQ.ASTA = 3 ∧
    ((acqUp 1 1 0x200 { running := true, decim := 1 }).wr (TIME.NOW 2) 25000).instantNow 1 = some 160000 ∧
    ((acqUp 1 1 0x200 { running := true, decim := 1, fire := some (0, 9) }).wr (ACQ.GRP_POST 1) 4).fld (ACQ.GRP_POST 1) 23 0 = 4 ∧
    (acqUp 3 1 0x200 {}).grpCont 1 = true ∧ (acqUp 1 1 0 {}).maskStop = false ∧
    (∀ m < 8, (acqUp 1 1 0 {}).bit (ACQ.MASK_CFG m) 8 = false) := by decide +kernel

/-- The recorder on with a ring of 1 KB at 0x8000, its page's operation words as given. -/
def recUp (rsta fsta flsta cnt : Word) (r : RecUnit) : State :=
  { ((((((((kept pgREC up).wr REC.RCFG 0x41).wr REC.RBASE 0x8000).wr REC.RSIZE 0x400).wr REC.RSTA rsta).wr REC.FSTA fsta).wr REC.FLRDSTA flsta).wr
    REC.FLRDCNT cnt).wr REC.FLRDDST 0x20000 with recd := r }

theorem test_witness_Acquisition_recorder : (recUp 0 0 0 3020 {}).offView pgREC = false ∧ (recUp 0 0 0 0 {}).bit REC.RCFG 0 = true ∧ (recUp 0 0 0 0 {}).hasCredit .recorder 2 = true ∧
    ((recUp 0 0 0 0 {}).spend .recorder 2 8).hasCredit .recorder 2 = false ∧ (recUp 1 0 0 0 {}).bit REC.RSTA 0 = true ∧
    (recUp 0 0x200 0 0 {}).busyOp REC.FSTA = true ∧ (recUp 0 0 0 0 {}).unflushedCount = 0 ∧
    (recUp 0 0 0 0 { unflushed := 64 }).unflushedCount = 64 ∧ (recUp 0 0 0x200 1 {}).busyOp REC.FLRDSTA = true ∧
    (recUp 0 0 0 3020 {}).num REC.FLRDDST + 3020 * 4096 ≤ mezzSize ∧ (recUp 0 0 0 0xBCD {}).fld REC.FLRDCNT 11 0 = 3021 := by
  decide +kernel
theorem test_witness_Acquisition_code : (recUp 0 0 0x200 1 {}).GoodCode ((recUp 0 0 0x200 1 {}).sectAddr 0 0) 4096 :=
  goodCode_of_sram rfl (by decide +kernel)

def label (i : Nat) (valid : Bool) : MemberLabel :=
  { port := 0, slot := i, present := true, formatOk := true, labelValid := valid, volumeId := 77, nmem := 2, index := i,
    capacity := 0x40000000, ckGen := 3, ckNext := 9, bus := 1 }
def twoLabels : LabelScan := { members := [label 0 true, label 1 true], newVolumeId := 5 }

/-- The volume of two members on port 0 in state `st`, its operation word `sta`, the given commands outstanding. -/
def volUp (st sta : Word) (q : List (Nat × List NvmeCmd)) (op : Option (Bool × LabelScan)) : State :=
  { (((kept (pgSTORE 0) up).wr (STORE.SSTA 0) (sta ||| (st <<< 10))).wr (STORE.SSTA 1) (st <<< 10)).wr (STORE.VOLCFG 0) 2 with
    vol := { members := [{ port := 0, slot := 0, slots := 1024 }, { port := 0, slot := 1, slots := 1024 }], queue := q, op := op } }

theorem test_witness_RecordStore : (volUp 0 0 [] none).offView (pgSTORE 0) = false ∧ 0 < up.variant.stores ∧ (volUp 0 0 [] none).volState = 0 ∧ State.usable twoLabels ≠ [] ∧
    (∀ m ∈ twoLabels.members, m.port < 2 ∧ m.slot < 16) ∧ (volUp 0 0 [] none).volNmem = 2 ∧ 2 ≤ (State.usable twoLabels).length ∧
    (volUp 2 0 [] none).volState = 2 ∧ (volUp 2 0 [] none).nvmeIdle = true ∧ (volUp 2 0 [(0, [.ckpt])] none).nvmeIdle = false ∧
    (volUp 2 0x200 [] none).busyOp (STORE.SSTA 0) = true ∧ (volUp 2 0x200 [] none).isPast (STORE.SSTA 0) = false ∧
    ((volUp 2 0 [] none).member 1).failed = false ∧ (volUp 2 0 [(1, [.block 3])] none).nvmeQueue 0 1 = [.block 3] ∧
    (volUp 1 0x200 [(1, [.readLabel])] (some (false, twoLabels))).volState = 1 ∧
    ((volUp 1 0x200 [(1, [.readLabel])] (some (false, twoLabels))).putQueue 0 1 []).nvmeIdle = true ∧
    (volUp 1 0x200 [(1, [.readLabel])] none).bit REC.RCFG 1 = false ∧ (∀ g < 4, ((volUp 1 0 [] none).grpOf g).out = []) := by
  decide +kernel

/-! ### Field I/O -/

/-- Field ring 1 in the state of `rsta`, with slots 0 and 2 present of a topology of 3, and its record. -/
def fioUp (rsta : Word) (x : FioRing) : State := ((((kept (pgFIO 1) up).wr (FIO.RSTA 1) rsta).wr (FIO.TOPO 1) 0x503).wr (FIO.SSTA 1 0) 2).putFio 1 x
def upPart (status : BitVec 16) (ok : Bool) : UpPart := { crcOk := ok, inputs := 0x10000, ovc := 0, status := status, latch := none }

theorem test_witness_FieldIo : (fioUp 0 {}).offView (pgFIO 1) = false ∧ (fioUp 0x200 {}).busyOp (FIO.RSTA 1) = true ∧ (fioUp 0 {}).fioState 1 = 0 ∧ (fioUp 0x400 {}).fioState 1 = 1 ∧
    (fioUp 0x800 {}).fioState 1 = 2 ∧ (fioUp 0x200 {}).isPast (FIO.RSTA 1) = false ∧ (fioUp 0x800 {}).fioPresent 1 2 = true ∧
    (fioUp 0x800 {}).fioPresent 1 1 = false ∧ ((fioUp 0x400 { counted := true }).fioOf 1).counted = true ∧
    wfld (upPart 0 true).inputs 23 16 = 1 ∧ (fioUp 0x400 {}).fioOther 1 < 8 ∧
    (fioUp 0x800 {}).staleCnt 1 ≤ Tab.get 0 (({ misses := [(2, 15)] } : FioRing).misses) 2 ∧ (fioUp 0x800 {}).fioSlot 1 2 ≠ 4 ∧
    (fioUp 0x800 {}).staleCnt 1 ≤ ((fioUp 0x800 { lost := 15 }).fioOf 1).lost ∧ wfld (0x080000C8 : Word) 15 0 = 200 ∧
    wfld (0x00000105 : Word) 7 0 ≠ 0 := by decide +kernel

/-- A companion with channel 3 an input that latches rising edges and channel 9 an output, safe value high. -/
def fieldComp : FioComp := { params := [(3, 0x11), (9, 0x6)], out := 0x200, driven := 0x200, safe := true }

theorem test_witness_FieldIo_companion :
    let s := fioUp 0x800 { comps := [(2, fieldComp)], down := [(2, { out := 0, rel := true })] }
    Tab.find (s.fioOf 1).down 2 = some { out := 0, rel := true } ∧ Tab.find (s.fioOf 1).down 0 = none ∧ s.fioComp 1 2 = fieldComp ∧
    fieldComp.driven.getLsbD 9 = true ∧ fieldComp.driven.getLsbD 3 = false ∧ State.chMode fieldComp 9 = 2 ∧
    wfld (State.fioParam fieldComp 9) 3 2 = 1 ∧ wfld (State.fioParam fieldComp 3) 1 0 = 1 ∧
    (State.fioParam fieldComp 3).getLsbD 4 = true ∧ fieldComp.latch = none := by decide +kernel

/-! ### Modes, power, references, heat -/

/-- Mode `m`, with a mode change towards `t` in the operation word `sta`. -/
def modeUp (m sta : Word) (t : Nat) : State :=
  { (up.wr SYS.MODE m).wr SYS.MODESTA sta with pwr := { up.pwr with target := t }, newel := { up.newel with waiting := none } }

theorem test_witness_ModesAndWake : (modeUp 2 0x200 1).busyOp SYS.MODESTA = true ∧ (modeUp 2 0 0).busyOp SYS.MODESTA = false ∧
    (modeUp 2 0 0).modeCond 2 = none ∧ (modeUp 2 0 0).modeCond 1 = some true ∧ ((modeUp 1 0 0).wr STW.STATE 1).modeCond 0 = some false ∧
    (modeUp 2 0x200 1).isPast SYS.MODESTA = false ∧ ((modeUp 2 0x200 7).wr REC.FSTA 0x200).busyOp REC.FSTA = true ∧
    ((modeUp 2 0 0).wr THM.TSTEP 4).fld THM.TSTEP 2 0 = 4 ∧ ((modeUp 2 0 0).wr SYS.LIMPCFG 0x100000).bit SYS.LIMPCFG 20 = true ∧
    up.variant.present pgDMA = true ∧ 3 ≤ (up.wr (HDR.STA pgDMA) 0x300).fld (HDR.STA pgDMA) 10 8 ∧
    ((modeUp 0 0 0).wr HOST.WAKEEN 0x15).bit HOST.WAKEEN 4 = true ∧ State.wakes 4 = true ∧ (modeUp 0 0 0).newel.waiting = none ∧
    (modeUp 0 0 0).regsWf = true ∧ ((modeUp 0 0 0).wr PWR.WAKETMR 9).rd PWR.WAKETMR ≠ 0 ∧
    ((modeUp 0 0 0).wr (CAN.CFG 1) 8).bit (CAN.CFG 1) 3 = true ∧ up.host.perst = State.reset.host.perst ∧ 0 < up.variant.rings := by
  decide +kernel

/-- A device whose blocks are all OFF. -/
def offUp : State := { State.reset with booted := true }

theorem test_witness_ModesAndWake_off : offUp.offView (pgGAL 17) = true ∧ offUp.offView (pgBRG 47) = true ∧
    offUp.offView (pgRZL 7) = true ∧ offUp.offView pgROUTE = true ∧ offUp.offView pgMIG = true ∧ offUp.offView pgSTW = true ∧
    offUp.offView pgMEM = true ∧ offUp.offView (pgCAN 7) = true ∧ offUp.offView pgACQ = true ∧ offUp.offView pgREC = true ∧
    offUp.offView (pgSTORE 0) = true ∧ offUp.offView (pgFIO 1) = true ∧ offUp.offView pgDMA = true ∧
    ([GAL.SCHSTA 17, GAL.TRSTA 17, BRG.XFERSTA 47, RZL.RSTA 7, RZL.PTSTA 7, ROUTE.FCSTA, MIG.MSTA, MIG.TSTA, STW.HOSTA, MEM.SCRSTA,
      MEM.RETSTA, CAN.TSTA 7, ACQ.ASTA, REC.FLRDSTA, STORE.SSTA 0, FIO.RSTA 1, DMA.CSTA 15].all fun x => !offUp.busyOp x) = true ∧
    offUp.memOps.retire = none ∧ (offUp.dmaOf 15).owner = 0 ∧ offUp.dmaState 15 ≠ 1 := by decide +kernel

/-- Supplies: SELSTA, SUPSTA and REFSTA as given. -/
def powUp (sel sup ref : Word) : State := (((up.wr PWR.SELSTA sel).wr PWR.SUPSTA sup).wr CLK.REFSTA ref).wr SYS.MODE 2

theorem test_witness_Supplies : (powUp 0 0xFF 3).powered = true ∧ (powUp 0 0xFF 3).pwr.testing = false ∧ (powUp 0 0xFF 3).rd PWR.SELSTA = 0 ∧
    (powUp 0 0xFF 3).fld PWR.SUPSTA 7 4 = 15 ∧ (powUp 0 0x7F 3).fld PWR.SUPSTA 7 4 ≠ 15 ∧ (powUp 0xFF 0xFF 3).rd PWR.SELSTA ≠ 0 ∧
    ((powUp 0 0xFF 3).wr PWR.SWSTA 0x200).busyOp PWR.SWSTA = true ∧ (powUp 0 0xFF 3).busyOp PWR.SWSTA = false ∧
    ({ powUp 0 0xFF 3 with pwr := { testing := true } } : State).powered = true ∧
    ({ powUp 0 0xFF 3 with pwr := { cycling := true } } : State).powered = false ∧ (powUp 0 0xFF 3).regsWf = true ∧
    (powUp 0 0xFF 3).refHere false = true ∧ (powUp 0 0xFF 3).refHere true = true ∧ (powUp 0 0xFF 7).refB = true ∧
    (powUp 0 0xFF 0xB).refBad false = true ∧ (powUp 0 0xFF 2).refHere false = false ∧ (powUp 0 0xFF 0).fld CLK.REFSTA 1 0 = 0 ∧
    State.sensorOf 0 = some 0 ∧ State.sensorOf 63 = none := by decide +kernel

end Sys2Proof.Tests
end

namespace Sys2Proof.Machine

/-! ### Bit fields after a write -/

theorem getLsbD_fldMask (n hi lo i : Nat) :
    (fldMask n hi lo).getLsbD i = decide (i < n ∧ lo ≤ i ∧ i < hi + 1) := by
  simp only [fldMask, BitVec.getLsbD_ofNat, Nat.testBit_shiftLeft, Nat.testBit_two_pow_sub_one]
  by_cases h1 : i < n <;> by_cases h2 : lo ≤ i <;> simp [h1, h2]
  omega

/-- What a bit of a word reads as after a field is written. -/
theorem getLsbD_wset {n : Nat} (w : BitVec n) (hi lo v i : Nat) :
    (wset w hi lo v).getLsbD i = if i < n ∧ lo ≤ i ∧ i < hi + 1 then v.testBit (i - lo) else w.getLsbD i := by
  simp only [wset, BitVec.getLsbD_or, BitVec.getLsbD_and, BitVec.getLsbD_not, getLsbD_fldMask,
    BitVec.getLsbD_ofNat, Nat.testBit_shiftLeft, Nat.testBit_mod_two_pow]
  by_cases h1 : i < n
  · by_cases h2 : lo ≤ i ∧ i < hi + 1
    · have h3 : i - lo < hi + 1 - lo := by omega
      simp [h1, h2, h3]
    · have h3 : ¬ (lo ≤ i ∧ i - lo < hi + 1 - lo) := by omega
      rw [if_neg (by tauto)]
      by_cases h4 : lo ≤ i
      · have h5 : ¬ i - lo < hi + 1 - lo := by omega
        have h6 : hi < i := by omega
        simp [h1, h4, h5, h6]
      · simp [h1, h4]
  · simp [h1, BitVec.getLsbD_of_ge w i (by omega)]

theorem getLsbD_wsetBit {n : Nat} (w : BitVec n) (i j : Nat) (b : Bool) :
    (wsetBit w i b).getLsbD j = if j < n ∧ j = i then b else w.getLsbD j := by
  rw [wsetBit, getLsbD_wset]
  by_cases h : j = i
  · subst h
    cases b <;> simp
  · rw [if_neg (by omega), if_neg (by tauto)]

theorem testBit_wfld {n : Nat} (w : BitVec n) (hi lo i : Nat) :
    (wfld w hi lo).testBit i = (decide (i < hi + 1 - lo) && w.getLsbD (lo + i)) := by
  simp [wfld, Nat.testBit_mod_two_pow, Nat.testBit_shiftRight, BitVec.getLsbD]

/-- A field reads what was written into it. -/
theorem wfld_wset_same {n : Nat} (w : BitVec n) {hi lo : Nat} (v : Nat) (h : hi < n) :
    wfld (wset w hi lo v) hi lo = v % 2 ^ (hi + 1 - lo) := by
  apply Nat.eq_of_testBit_eq
  intro i
  rw [testBit_wfld, getLsbD_wset, Nat.testBit_mod_two_pow]
  by_cases hi' : i < hi + 1 - lo
  · rw [if_pos (by omega)]; simp [hi']
  · simp [hi']

/-- A field keeps its value when another one is written. -/
theorem wfld_wset_ne {n : Nat} (w : BitVec n) {hi lo hi' lo' : Nat} (v : Nat) (h : hi < lo' ∨ hi' < lo) :
    wfld (wset w hi lo v) hi' lo' = wfld w hi' lo' := by
  apply Nat.eq_of_testBit_eq
  intro i
  rw [testBit_wfld, testBit_wfld, getLsbD_wset]
  by_cases hi' : i < hi' + 1 - lo'
  · rw [if_neg (by omega)]
  · simp [hi']

theorem wfld_wsetBit_ne {n : Nat} (w : BitVec n) {i hi lo : Nat} (b : Bool) (h : i < lo ∨ hi < i) :
    wfld (wsetBit w i b) hi lo = wfld w hi lo := wfld_wset_ne w _ h

theorem wfld_ofNat (n v hi lo : Nat) (h : v < 2 ^ n) : wfld (BitVec.ofNat n v) hi lo = (v >>> lo) % 2 ^ (hi + 1 - lo) := by
  rw [wfld, BitVec.toNat_ofNat, Nat.mod_eq_of_lt h]

/-! ### Bytes of numbers -/

@[simp] theorem leBytes_length (k v : Nat) : (leBytes k v).length = k := by
  induction k generalizing v with
  | zero => rfl
  | succ k ih => simp [leBytes, ih]

theorem ofLeBytes_lt (bs : List Byte) : ofLeBytes bs < 256 ^ bs.length := by
  induction bs with
  | nil => simp [ofLeBytes]
  | cons b t ih =>
    simp only [ofLeBytes, List.length_cons, Nat.pow_succ]
    have := b.isLt
    omega

theorem leBytes_ofLeBytes (bs : List Byte) : leBytes bs.length (ofLeBytes bs) = bs := by
  induction bs with
  | nil => rfl
  | cons b t ih =>
    have hb := b.isLt
    have h1 : (b.toNat + 256 * ofLeBytes t) / 256 = ofLeBytes t := by omega
    simp only [ofLeBytes, List.length_cons, leBytes, h1, ih, List.cons.injEq, and_true]
    apply BitVec.eq_of_toNat_eq
    simp only [BitVec.toNat_ofNat]
    omega

/-- The eight bytes of the storage word that eight bytes spell are these bytes. -/
theorem leBytes_word64 (bs : List Byte) (h : bs.length = 8) :
    leBytes 8 (BitVec.ofNat 64 (ofLeBytes bs)).toNat = bs := by
  have h1 := ofLeBytes_lt bs
  rw [h] at h1
  rw [BitVec.toNat_ofNat, Nat.mod_eq_of_lt (by simpa using h1), ← h, leBytes_ofLeBytes]

@[simp] theorem bytesOf_length (ws : List Word) : (bytesOf ws).length = 4 * ws.length := by
  induction ws with
  | nil => rfl
  | cons w t ih =>
    simp only [bytesOf, List.flatMap_cons, List.length_append, leBytes_length, List.length_cons] at ih ⊢
    omega

end Sys2Proof.Machine

namespace Sys2Proof.Machine
namespace State
variable (s : State)

/-! ### Fields and bits of registers -/

theorem rd_setFld (a j hi lo v : Nat) : (s.setFld a hi lo v).rd j = if j = a then wset (s.rd a) hi lo v else s.rd j :=
  s.rd_wr a j _

theorem rd_setBit (a j i : Nat) (b : Bool) : (s.setBit a i b).rd j = if j = a then wsetBit (s.rd a) i b else s.rd j :=
  s.rd_wr a j _

theorem fld_congr {s t : State} {a : Nat} (h : t.rd a = s.rd a) (hi lo : Nat) : t.fld a hi lo = s.fld a hi lo := by
  rw [fld, h, fld]

theorem bit_congr {s t : State} {a : Nat} (h : t.rd a = s.rd a) (i : Nat) : t.bit a i = s.bit a i := by
  rw [bit, h, bit]

theorem num_congr {s t : State} {a : Nat} (h : t.rd a = s.rd a) : t.num a = s.num a := by rw [num, h, num]

theorem fld_setFld_same {a hi lo : Nat} (v : Nat) (h : hi < 32) :
    (s.setFld a hi lo v).fld a hi lo = v % 2 ^ (hi + 1 - lo) := by
  rw [fld, rd_setFld_same, wfld_wset_same _ _ h]

theorem fld_setFld_ne {a hi lo hi' lo' : Nat} (v : Nat) (h : hi < lo' ∨ hi' < lo) :
    (s.setFld a hi lo v).fld a hi' lo' = s.fld a hi' lo' := by
  rw [fld, rd_setFld_same, wfld_wset_ne _ _ h, fld]

/-- A counter reads one step more, up to its all-ones value. -/
theorem fld_count_same {a hi lo : Nat} (d : Nat) (h : hi < 32) :
    (s.count a hi lo d).fld a hi lo = Nat.min (2 ^ (hi + 1 - lo) - 1) (s.fld a hi lo + d) := by
  have hp := Nat.two_pow_pos (hi + 1 - lo)
  have hle : Nat.min (s.fld a hi lo + d) (2 ^ (hi + 1 - lo) - 1) ≤ 2 ^ (hi + 1 - lo) - 1 := Nat.min_le_right _ _
  rw [count, fld_setFld_same _ _ h, satAdd, Nat.mod_eq_of_lt (by omega)]
  exact Nat.min_comm _ _

theorem fld_count_ne {a hi lo hi' lo' : Nat} (d : Nat) (h : hi < lo' ∨ hi' < lo) :
    (s.count a hi lo d).fld a hi' lo' = s.fld a hi' lo' := s.fld_setFld_ne _ h

theorem fld_setBit_ne {a i hi lo : Nat} (b : Bool) (h : i < lo ∨ hi < i) :
    (s.setBit a i b).fld a hi lo = s.fld a hi lo := by
  rw [fld, rd_setBit_same, wfld_wsetBit_ne _ _ h, fld]

theorem bit_setBit_same {a i : Nat} (b : Bool) (h : i < 32) : (s.setBit a i b).bit a i = b := by
  rw [bit, rd_setBit_same, getLsbD_wsetBit, if_pos ⟨h, rfl⟩]

theorem bit_setBit_ne {a i j : Nat} (b : Bool) (h : j ≠ i) : (s.setBit a i b).bit a j = s.bit a j := by
  rw [bit, rd_setBit_same, getLsbD_wsetBit, if_neg (by tauto), bit]

theorem bit_setFld_ne {a hi lo j : Nat} (v : Nat) (h : j < lo ∨ hi < j) : (s.setFld a hi lo v).bit a j = s.bit a j := by
  rw [bit, rd_setFld_same, getLsbD_wset, if_neg (by omega), bit]

/-! ### Bytes -/

theorem byte_putBytes (l : List Byte) (a j : Nat) :
    (s.putBytes a l).byte j = if a ≤ j ∧ j < a + l.length then l.getD (j - a) 0 else s.byte j := by
  induction l generalizing s a with
  | nil =>
    have h : ¬ (a ≤ j ∧ j < a + ([] : List Byte).length) := by simp
    rw [if_neg h, putBytes]
  | cons b t ih =>
    rw [putBytes, ih]
    by_cases h : j = a
    · subst h
      simp
    · rw [byte_putByte_ne _ _ h]
      by_cases h1 : a + 1 ≤ j ∧ j < a + 1 + t.length
      · obtain ⟨k, rfl⟩ : ∃ k, j = a + 1 + k := ⟨j - (a + 1), by omega⟩
        rw [if_pos h1, if_pos (by simp only [List.length_cons]; omega), show a + 1 + k - a = k + 1 from by omega,
          Nat.add_sub_cancel_left, List.getD_cons_succ]
      · rw [if_neg h1, if_neg (by simp only [List.length_cons]; omega)]

@[simp] theorem bytes_length (a n : Nat) : (s.bytes a n).length = n := by
  induction n generalizing a with
  | zero => rfl
  | succ n ih => simp [bytes, ih]

theorem getD_bytes (a n k : Nat) (h : k < n) : (s.bytes a n).getD k 0 = s.byte (a + k) := by
  induction n generalizing a k with
  | zero => omega
  | succ n ih =>
    cases k with
    | zero => rfl
    | succ k =>
      rw [bytes, List.getD_cons_succ, ih _ _ (by omega)]
      congr 1
      omega

theorem bytes_congr {s t : State} {a n : Nat} (h : ∀ k < n, t.byte (a + k) = s.byte (a + k)) : t.bytes a n = s.bytes a n := by
  induction n generalizing a with
  | zero => rfl
  | succ n ih =>
    have h0 : t.byte a = s.byte a := h 0 (by omega)
    have h1 : ∀ k < n, t.byte (a + 1 + k) = s.byte (a + 1 + k) := fun k hk => by
      have := h (k + 1) (by omega)
      rwa [show a + (k + 1) = a + 1 + k from by omega] at this
    rw [bytes, bytes, h0, ih h1]

theorem byte_storeWord (w : Nat) (d : Word64) (j : Nat) (h : j < w * 8 ∨ w * 8 + 8 ≤ j) :
    (s.storeWord w d).byte j = s.byte j := by
  unfold storeWord
  split
  · rw [setBit_byte, putSyn_byte, byte_putBytes_out _ _ _ _ (by simpa using h)]
  · rw [putSyn_byte, byte_putBytes_out _ _ _ _ (by simpa using h)]

end State
end Sys2Proof.Machine

namespace Sys2Proof.Machine
namespace State

/-! ### What a report may change (R56, R57, R432, R438-R442) -/

/-- `t` comes from `s` by reports on page `p`: only registers, memory, recorder, trigger units, acquisition groups, credits
and commits may differ; registers only where a report may write, flags of any page only rise, bytes only in the recorder's
ring, whose place stays and whose write position stays inside it. -/
structure Reported (p : Nat) (s t : State) : Prop where
  frame : ∃ regs mem ecc credits trg grp recd commits, t = { s with
    regs := regs, mem := mem, ecc := ecc, credits := credits, trg := trg, grp := grp, recd := recd, commits := commits }
  rd : ∀ a, ¬ reports p a → t.rd a = s.rd a
  flt : ∀ q i, s.bit (HDR.FLT q) i = true → t.bit (HDR.FLT q) i = true
  evt : ∀ q i, s.bit (HDR.EVT q) i = true → t.bit (HDR.EVT q) i = true
  byte : ∀ a, ¬ s.recRing a → t.byte a = s.byte a
  base : t.num REC.RBASE = s.num REC.RBASE
  size : t.num REC.RSIZE = s.num REC.RSIZE
  top : Nat.max (t.num REC.RSIZE) (t.num REC.RWR + 64) ≤ Nat.max (s.num REC.RSIZE) (s.num REC.RWR + 64)

namespace Reported
variable {p : Nat} {s t u : State}

theorem refl (p : Nat) (s : State) : Reported p s s where
  frame := ⟨s.regs, s.mem, s.ecc, s.credits, s.trg, s.grp, s.recd, s.commits, rfl⟩
  rd _ _ := rfl
  flt _ _ h := h
  evt _ _ h := h
  byte _ _ := rfl
  base := rfl
  size := rfl
  top := Nat.le_refl _

/-- The ring does not grow under reports. -/
theorem recRing_of (h : Reported p s t) {a : Nat} (ha : t.recRing a) : s.recRing a := by
  have := h.top
  have := h.base
  simp only [recRing] at *
  omega

theorem trans (h : Reported p s t) (k : Reported p t u) : Reported p s u where
  frame := by
    obtain ⟨_, _, _, _, _, _, _, _, rfl⟩ := h.frame
    obtain ⟨r, m, e, c, tr, g, d, cm, rfl⟩ := k.frame
    exact ⟨r, m, e, c, tr, g, d, cm, rfl⟩
  rd a ha := (k.rd a ha).trans (h.rd a ha)
  flt q i hi := k.flt q i (h.flt q i hi)
  evt q i hi := k.evt q i (h.evt q i hi)
  byte a ha := (k.byte a fun ht => ha (h.recRing_of ht)).trans (h.byte a ha)
  base := k.base.trans h.base
  size := k.size.trans h.size
  top := Nat.le_trans k.top h.top

/-- Recorder, triggers, credits and commits are beside the registers and bytes. -/
theorem side (p : Nat) (s : State) (credits : List (Nat × Credit)) (trg : List (Nat × Trg)) (grp : List (Nat × Grp))
    (recd : RecUnit) (commits : List Commit) :
    Reported p s { s with credits := credits, trg := trg, grp := grp, recd := recd, commits := commits } :=
  { refl p s with frame := ⟨_, _, _, _, _, _, _, _, rfl⟩ }

theorem header_ne (q : Nat) {a : Nat} (h : 0x40 ≤ a % 0x1000) : HDR.FLT q ≠ a ∧ HDR.EVT q ≠ a := by
  simp only [HDR.FLT, HDR.EVT, regAt]
  omega

/-- A write of a register that any report may change, of the body of its page, apart from the ring's own three. -/
theorem wr {a : Nat} (p : Nat) (s : State) (v : Word) (ha : reportWord a) (hb : 0x40 ≤ a % 0x1000)
    (hr : a ≠ REC.RBASE ∧ a ≠ REC.RSIZE ∧ a ≠ REC.RWR) : Reported p s (s.wr a v) where
  frame := ⟨_, _, _, _, _, _, _, _, rfl⟩
  rd j hj := s.rd_wr_ne v fun e => hj (e ▸ .inr (.inr ha))
  flt q i h := by rwa [bit_congr (s.rd_wr_ne v (header_ne q hb).1)]
  evt q i h := by rwa [bit_congr (s.rd_wr_ne v (header_ne q hb).2)]
  byte _ _ := rfl
  base := num_congr (s.rd_wr_ne v hr.1.symm)
  size := num_congr (s.rd_wr_ne v hr.2.1.symm)
  top := by
    rw [num_congr (s.rd_wr_ne v hr.2.1.symm), num_congr (s.rd_wr_ne v hr.2.2.symm)]

theorem bit_setBit_mono {a b j i : Nat} (h : s.bit j i = true) : (s.setBit a b true).bit j i = true := by
  rw [bit, rd_setBit]
  split
  · subst_vars
    rw [getLsbD_wsetBit]
    split
    · rfl
    · exact h
  · exact h

theorem ring_ne_header (q : Nat) : REC.RBASE ≠ HDR.FLT q ∧ REC.RSIZE ≠ HDR.FLT q ∧ REC.RWR ≠ HDR.FLT q ∧
    REC.RBASE ≠ HDR.EVT q ∧ REC.RSIZE ≠ HDR.EVT q ∧ REC.RWR ≠ HDR.EVT q := by
  simp only [HDR.FLT, HDR.EVT, REC.RBASE, REC.RSIZE, REC.RWR, pgREC, regAt]
  omega

/-- A bit of the page's FLT or EVT word rises. -/
theorem flag {a : Nat} (s : State) (b : Nat) (ha : a = HDR.FLT p ∨ a = HDR.EVT p) : Reported p s (s.setBit a b true) := by
  have hn : REC.RBASE ≠ a ∧ REC.RSIZE ≠ a ∧ REC.RWR ≠ a := by
    obtain ⟨h1, h2, h3, h4, h5, h6⟩ := ring_ne_header p
    rcases ha with rfl | rfl
    · exact ⟨h1, h2, h3⟩
    · exact ⟨h4, h5, h6⟩
  exact {
    frame := ⟨_, _, _, _, _, _, _, _, rfl⟩
    rd := fun j hj => rd_setBit_ne s _ _ fun e => hj (e ▸ ha.elim .inl fun h => .inr (.inl h))
    flt := fun _ _ h => bit_setBit_mono h
    evt := fun _ _ h => bit_setBit_mono h
    byte := fun _ _ => rfl
    base := num_congr (rd_setBit_ne s _ _ hn.1)
    size := num_congr (rd_setBit_ne s _ _ hn.2.1)
    top := by rw [num_congr (rd_setBit_ne s _ _ hn.2.1), num_congr (rd_setBit_ne s _ _ hn.2.2)] }

theorem foldl {α : Type} {f : State → α → State} (hf : ∀ s x, Reported p s (f s x)) (l : List α) (s : State) :
    Reported p s (l.foldl f s) := by
  induction l generalizing s with
  | nil => exact refl p s
  | cons x l ih => exact (hf s x).trans (ih _)

theorem foldl_mem {α : Type} {f : State → α → State} (l : List α) (hf : ∀ x ∈ l, ∀ s, Reported p s (f s x)) (s : State) :
    Reported p s (l.foldl f s) := by
  induction l generalizing s with
  | nil => exact refl p s
  | cons x l ih => exact (hf x (by simp) s).trans (ih (fun y hy => hf y (by simp [hy])) _)

/-! The recorder's, trigger units' and acquisition groups' own words. -/

theorem wr_rec {a : Nat} (p : Nat) (s : State) (v : Word) (ha : a / 0x1000 = pgREC) (hb : 0x40 ≤ a % 0x1000)
    (hr : a ≠ REC.RBASE ∧ a ≠ REC.RSIZE ∧ a ≠ REC.RWR) : Reported p s (s.wr a v) := wr p s v (.inl ha) hb hr

theorem wr_other {a : Nat} (p : Nat) (s : State) (v : Word) (ha : reportWord a) (hb : 0x40 ≤ a % 0x1000)
    (hr : a / 0x1000 ≠ pgREC) : Reported p s (s.wr a v) :=
  wr p s v ha hb ⟨fun e => hr (e ▸ rfl), fun e => hr (e ▸ rfl), fun e => hr (e ▸ rfl)⟩

end Reported

variable (p : Nat) (s : State)

/-- What a group counts or takes at a fire. -/
theorem fireGroup_reported (t stamp g : Nat) (hg : g < 4) : Reported p s (fireGroup t stamp s g) := by
  have hp : ACQ.GRP_GSTA g / 0x1000 = 160 ∧ 0x40 ≤ ACQ.GRP_GSTA g % 0x1000 := by
    simp only [ACQ.GRP_GSTA, regAt, pgACQ]; omega
  unfold fireGroup
  dsimp only
  split
  · split
    · exact .side p s _ _ _ _ _
    · exact .wr_other p s _ (.inr (.inr (.inl hp.1))) hp.2 (by simp only [pgREC]; omega)
  · exact .refl p s

theorem chainArm_reported (t u : Nat) : Reported p s (chainArm t s u) := by
  unfold chainArm
  split
  · exact .side p s _ _ _ _ _
  · exact .refl p s

theorem wr_trg_reported {a : Nat} (v : Word) (ha : 161 ≤ a / 0x1000 ∧ a / 0x1000 ≤ 164) (hb : 0x40 ≤ a % 0x1000) :
    Reported p s (s.wr a v) :=
  .wr_other p s v (.inr (.inl ha)) hb (by simp only [pgREC]; omega)

theorem fire_reported (t stamp : Nat) (ht : t < 4) : Reported p s (s.fire t stamp) := by
  have hf : ∀ (s : State) (v : Word), Reported p s (s.wr (TRG.FIRES t) v) := fun s v => by
    apply wr_trg_reported <;> simp only [TRG.FIRES, pgTRG, regAt] <;> omega
  have hl : ∀ i ∈ List.range 4, ∀ (s : State), Reported p s (s.wr (TRG.TLAST t i) ((timeWords stamp).getD i 0)) := by
    intro i hi s
    have := List.mem_range.1 hi
    apply wr_trg_reported <;> simp only [TRG.TLAST, pgTRG, regAt] <;> omega
  unfold fire
  refine .trans (.trans (.trans (.trans (hf s _) (.foldl_mem _ hl _)) (.side p _ _ _ _ _ _)) (.foldl (fun s u => ?_) _ _))
    (.foldl_mem _ (fun g hg s => ?_) _)
  · exact chainArm_reported p s t u
  · exact fireGroup_reported p s t stamp g (List.mem_range.1 hg)

theorem trgPage_reported (q : Nat) (evt : Bool) (bit : Nat) : Reported p s (trgPage q evt bit s) := by
  refine .foldl_mem _ (fun t ht s => ?_) _
  split
  · exact fire_reported p s t _ (List.mem_range.1 ht)
  · exact .refl p s

theorem commitStart_reported (c : Commit) : Reported p s (s.commitStart c) := by
  unfold commitStart
  dsimp only
  split
  · refine .trans (.side p s _ _ _ _ (s.commits ++ [c])) (.wr_other p _ _ ?_ ?_ ?_)
    · exact .inr (.inr (.inr (.inl (by decide))))
    · simp [NVM.CSTA, pgNVM, regAt]
    · simp [NVM.CSTA, pgNVM, pgREC, regAt]
  · exact .side p s _ _ _ _ _

theorem flushStart_reported (cause limit : Nat) : Reported p s (s.flushStart cause limit) := by
  have hw : ∀ (s : State) (v : Word), Reported p s (s.wr REC.FSTA v) := fun s v =>
    .wr_rec p s v (by decide) (by decide) (by decide)
  have hr : ∀ (s : State) (v : Word), Reported p s (s.wr REC.RSTA v) := fun s v =>
    .wr_rec p s v (by decide) (by decide) (by decide)
  unfold flushStart
  dsimp only
  split
  · exact .side p s _ _ _ _ _
  · split
    · exact hw s _
    · exact .trans (.trans (.trans (.trans (.side p s _ _ _ _ _) (hw _ _)) (hr _ _)) (.side p _ _ _ _ _ _))
        (commitStart_reported p _ _)

end State
end Sys2Proof.Machine

namespace Sys2Proof.Machine
namespace State

/-! ### Records in the ring, and reports as wholes -/

/-- A store of one word changes memory, its code, and the injection that it disarms. -/
theorem storeWord_frame (s : State) (w : Nat) (d : Word64) : ∃ regs mem ecc,
    s.storeWord w d = { s with regs := regs, mem := mem, ecc := ecc } := by
  have h : ∀ (s : State) (l : List Byte) (a : Nat), ∃ mem, s.putBytes a l = { s with mem := mem } := by
    intro s l
    induction l generalizing s with
    | nil => exact fun _ => ⟨s.mem, rfl⟩
    | cons b l ih =>
      intro a
      obtain ⟨m, hm⟩ := ih (s.putByte a b) (a + 1)
      exact ⟨m, hm⟩
  unfold storeWord
  split
  · dsimp only
    obtain ⟨m, hm⟩ := h s (leBytes 8 (d ^^^ s.rd64 MEM.INJDATA).toNat) (w * 8)
    rw [hm]
    exact ⟨_, _, _, rfl⟩
  · obtain ⟨m, hm⟩ := h s (leBytes 8 d.toNat) (w * 8)
    rw [hm]
    exact ⟨_, _, _, rfl⟩

theorem rd_putBytes (s : State) (a : Nat) (l : List Byte) (j : Nat) : (s.putBytes a l).rd j = s.rd j := by
  induction l generalizing s a with
  | nil => rfl
  | cons b l ih => rw [putBytes, ih, putByte_rd]

theorem rd_storeWord (s : State) (w : Nat) (d : Word64) {j : Nat} (h : j ≠ MEM.INJCFG) :
    (s.storeWord w d).rd j = s.rd j := by
  unfold storeWord
  split
  · rw [rd_setBit_ne _ _ _ h, putSyn_rd, rd_putBytes]
  · rw [putSyn_rd, rd_putBytes]

theorem mem_injcfg : reportWord MEM.INJCFG := .inr (.inr (.inr (.inr rfl)))

/-- A storage word inside the recorder's ring. -/
theorem storeWord_reported (p : Nat) (s : State) (w : Nat) (d : Word64) (h : ∀ a, w * 8 ≤ a → a < w * 8 + 8 → s.recRing a) :
    Reported p s (s.storeWord w d) where
  frame := by
    obtain ⟨r, m, e, h⟩ := storeWord_frame s w d
    exact ⟨r, m, e, _, _, _, _, _, h⟩
  rd a ha := rd_storeWord s w d fun e => ha (e ▸ .inr (.inr mem_injcfg))
  flt q i hi := by rwa [bit_congr (rd_storeWord s w d (Reported.header_ne q (by decide)).1)]
  evt q i hi := by rwa [bit_congr (rd_storeWord s w d (Reported.header_ne q (by decide)).2)]
  byte a ha := s.byte_storeWord w d a (by
    by_cases h1 : w * 8 ≤ a
    · by_cases h2 : a < w * 8 + 8
      · exact absurd (h a h1 h2) ha
      · omega
    · omega)
  base := num_congr (rd_storeWord s w d (by decide))
  size := num_congr (rd_storeWord s w d (by decide))
  top := by
    rw [num_congr (rd_storeWord s w d (by decide : REC.RSIZE ≠ MEM.INJCFG)),
      num_congr (rd_storeWord s w d (by decide : REC.RWR ≠ MEM.INJCFG))]

theorem recRing_storeWord (s : State) (w : Nat) (d : Word64) (a : Nat) : (s.storeWord w d).recRing a ↔ s.recRing a := by
  unfold recRing
  rw [num_congr (rd_storeWord s w d (by decide : REC.RBASE ≠ MEM.INJCFG)),
    num_congr (rd_storeWord s w d (by decide : REC.RSIZE ≠ MEM.INJCFG)),
    num_congr (rd_storeWord s w d (by decide : REC.RWR ≠ MEM.INJCFG))]

/-- Words stored from an address up, inside the recorder's ring. -/
theorem storeWords_reported (p : Nat) : (ws : List Word) → (s : State) → (a : Nat) →
    (∀ x, a / 8 * 8 ≤ x → x < a / 8 * 8 + (4 * ws.length + 7) / 8 * 8 → s.recRing x) →
    Reported p s (s.storeWords a ws)
  | [], s, _, _ => .refl p s
  | [x], s, a, h => storeWord_reported p s (a / 8) _ fun y h1 h2 => h y h1 (by simp only [List.length_singleton]; omega)
  | x :: y :: t, s, a, h => by
    simp only [List.length_cons] at h
    refine .trans (storeWord_reported p s (a / 8) (wide x y) fun z h1 h2 => h z h1 (by omega))
      (storeWords_reported p t _ (a + 8) fun z h1 h2 => ?_)
    rw [recRing_storeWord]
    exact h z (by omega) (by omega)

theorem stampWords_length (s : State) : s.stampWords.length = 4 := by
  unfold stampWords timeWords
  split <;> rfl

theorem recordWords_length (s : State) (head : Word) (payload : List Word) : (s.recordWords head payload).length = 16 := by
  simp [recordWords, stampWords_length]

theorem rd_RWR_le (s : State) : s.num REC.RSIZE < 2 ^ 32 := (s.rd REC.RSIZE).isLt

/-- The write position moves to a place that still holds a whole record. -/
theorem wr_RWR_reported (p : Nat) (s : State) (n : Nat) (h : n + 64 ≤ s.num REC.RSIZE) :
    Reported p s (s.wr REC.RWR (BitVec.ofNat 32 n)) where
  frame := ⟨_, _, _, _, _, _, _, _, rfl⟩
  rd j hj := s.rd_wr_ne _ fun e => hj (e ▸ .inr (.inr (.inl (by decide))))
  flt q i hi := by rwa [bit_congr (s.rd_wr_ne _ (Reported.header_ne q (by decide)).1)]
  evt q i hi := by rwa [bit_congr (s.rd_wr_ne _ (Reported.header_ne q (by decide)).2)]
  byte _ _ := rfl
  base := num_congr (s.rd_wr_ne _ (by decide))
  size := num_congr (s.rd_wr_ne _ (by decide))
  top := by
    have hs := rd_RWR_le s
    have hn : (s.wr REC.RWR (BitVec.ofNat 32 n)).num REC.RWR = n := by
      rw [num, rd_wr_same, BitVec.toNat_ofNat, Nat.mod_eq_of_lt (by omega)]
    rw [num_congr (s.rd_wr_ne _ (by decide : REC.RSIZE ≠ REC.RWR)), hn]
    exact Nat.max_le.2 ⟨Nat.le_max_left _ _, Nat.le_trans h (Nat.le_max_left _ _)⟩

theorem count_LOST_reported (p : Nat) (s : State) : Reported p s (s.count REC.LOST 31 0) :=
  .wr_rec p s _ (by decide) (by decide) (by decide)

/-- A record that enters the ring. -/
theorem ringAppend_reported (p : Nat) (s : State) (ws : List Word) (hw : ws.length = 16) :
    Reported p s (s.ringAppend ws).1 := by
  unfold ringAppend
  dsimp only
  split
  · exact (count_LOST_reported p s).trans (.side p _ _ _ _ _ _)
  · rename_i hsize
    have hst : Reported p s (s.storeWords (mezzBase + s.num REC.RBASE + s.num REC.RWR) ws) := by
      refine storeWords_reported p ws s _ fun x h1 h2 => ?_
      have hr : s.num REC.RWR + 64 ≤ Nat.max (s.num REC.RSIZE) (s.num REC.RWR + 64) := Nat.le_max_right _ _
      simp only [hw, recRing] at *
      omega
    have hseq : ∀ (s : State) (v : Word), Reported p s (s.wr REC.RSEQ v) := fun s v =>
      .wr_rec p s v (by decide) (by decide) (by decide)
    refine .trans (.trans (.trans hst (wr_RWR_reported p _ _ ?_)) (hseq _ _)) (.side p _ _ _ _ _ _)
    rw [hst.size]
    split <;> omega

/-- The recorder keeps a record's words: in the ring, or in the holding area while frozen (R440, R441). -/
def keepRecord (ws : List Word) (s : State) : State × Bool :=
  if s.bit REC.RSTA 0 then
    if s.recd.held.length < 256 then
      let s := { s with recd := { s.recd with held := s.recd.held ++ [ws] } }
      (s.setFld REC.RSTA 16 8 s.recd.held.length, false)
    else ({ s.count REC.LOST 31 0 with recd := { s.recd with heldLost := s.recd.heldLost + 1 } }, true)
  else s.ringAppend ws

/-- The recorder numbers a record, keeps it, and starts a flush where it is severe. -/
theorem recAccept_fst (s : State) (head : Word) (payload : List Word) :
    let q := keepRecord (s.recordWords head payload) { s with recd := { s.recd with seq := s.recd.seq + 1 } }
    (s.recAccept head payload).1 =
      if q.2 = false ∧ wfld head 19 16 ≥ q.1.fld REC.RCFG 7 4 then q.1.flushStart 1 0x10000 else q.1 := rfl

theorem keepRecord_reported (p : Nat) (s : State) (ws : List Word) (hw : ws.length = 16) :
    Reported p s (s.keepRecord ws).1 := by
  unfold keepRecord
  split
  · split
    · exact .trans (.side p s _ _ _ _ _) (.wr_rec p _ _ (by decide) (by decide) (by decide))
    · exact (count_LOST_reported p s).trans (.side p _ _ _ _ _ _)
  · exact ringAppend_reported p s ws hw

theorem recAccept_reported (p : Nat) (s : State) (head : Word) (payload : List Word) :
    Reported p s (s.recAccept head payload).1 := by
  rw [recAccept_fst]
  have hq := Reported.trans (.side p s s.credits s.trg s.grp { s.recd with seq := s.recd.seq + 1 } s.commits)
    (keepRecord_reported p _ _ (s.recordWords_length head payload))
  split
  · exact hq.trans (flushStart_reported p _ _ _)
  · exact hq

theorem submit_reported (p : Nat) (s : State) (who page : Nat) (head : Word) (payload : List Word) :
    Reported p s (s.submit who page head payload).1 := by
  unfold submit
  split
  · exact .refl p s
  · split
    · refine .trans ?_ (recAccept_reported p _ head payload)
      exact .trans (.side p s _ _ _ _ _) (.side p _ _ _ _ _ _)
    · split
      · exact .side p s _ _ _ _ _
      · exact count_LOST_reported p s

/-- Reports on the recorder's own page are reports of any page. -/
theorem Reported.of_rec {p : Nat} {s t : State} (h : Reported pgREC s t) : Reported p s t :=
  { h with rd := fun a ha => h.rd a fun hr => ha (.inr (.inr (by
      rcases hr with rfl | rfl | hr
      · exact .inl (by decide)
      · exact .inl (by decide)
      · exact hr))) }

theorem fltRecord_reported (p : Nat) (s : State) (b : Nat) : Reported p s (s.fltRecord p b).1 := by
  unfold fltRecord
  split
  · exact .refl p s
  · exact ((Reported.flag s b (.inl rfl)).trans (trgPage_reported p _ p false b)).trans (submit_reported p _ _ _ _ _)

theorem evtRecord_reported (p : Nat) (s : State) (n : Nat) : Reported p s (s.evtRecord p n).1 := by
  unfold evtRecord
  split
  · exact .refl p s
  · have h := (Reported.flag (p := p) s n (.inr rfl)).trans (trgPage_reported p _ p true n)
    dsimp only
    split
    · exact h.trans (submit_reported p _ _ _ _ _)
    · exact h

theorem noteLost_reported (p : Nat) (s : State) : Reported p s s.noteLost :=
  ((fltRecord_reported pgREC s 17).trans (evtRecord_reported pgREC _ 2)).of_rec

/-- A FLT bit that becomes set reports on its page (R56). -/
theorem raiseFlt_reported (p : Nat) (s : State) (b : Nat) : Reported p s (s.raiseFlt p b) := by
  unfold raiseFlt
  dsimp only
  split
  · exact (fltRecord_reported p s b).trans (noteLost_reported p _)
  · exact fltRecord_reported p s b

/-- An EVT bit that becomes set reports on its page (R57). -/
theorem raiseEvt_reported (p : Nat) (s : State) (n : Nat) : Reported p s (s.raiseEvt p n) := by
  unfold raiseEvt
  dsimp only
  split
  · exact (evtRecord_reported p s n).trans (noteLost_reported p _)
  · exact evtRecord_reported p s n

theorem bit_fltRecord (p : Nat) (s : State) {b : Nat} (hb : b < 32) : (s.fltRecord p b).1.bit (HDR.FLT p) b = true := by
  unfold fltRecord
  split
  · assumption
  · have h := trgPage_reported p (s.setBit (HDR.FLT p) b true) p false b
    exact (h.trans (submit_reported p _ 0 p _ _)).flt p b (bit_setBit_same _ _ hb)

theorem bit_evtRecord (p : Nat) (s : State) {n : Nat} (hn : n < 32) : (s.evtRecord p n).1.bit (HDR.EVT p) n = true := by
  unfold evtRecord
  split
  · assumption
  · have h := trgPage_reported p (s.setBit (HDR.EVT p) n true) p true n
    have hs := bit_setBit_same s (a := HDR.EVT p) true hn
    dsimp only
    split
    · exact (h.trans (submit_reported p _ 0 p _ _)).evt p n hs
    · exact h.evt p n hs

/-- The raised FLT bit is set. -/
theorem bit_raiseFlt (p : Nat) (s : State) {b : Nat} (hb : b < 32) : (s.raiseFlt p b).bit (HDR.FLT p) b = true := by
  have h := bit_fltRecord p s hb
  unfold raiseFlt
  dsimp only
  split
  · exact (noteLost_reported p _).flt p b h
  · exact h

/-- The raised EVT bit is set. -/
theorem bit_raiseEvt (p : Nat) (s : State) {n : Nat} (hn : n < 32) : (s.raiseEvt p n).bit (HDR.EVT p) n = true := by
  have h := bit_evtRecord p s hn
  unfold raiseEvt
  dsimp only
  split
  · exact (noteLost_reported p _).evt p n h
  · exact h

namespace Reported
variable {p : Nat} {s t : State}

theorem gal_eq (h : Reported p s t) : t.gal = s.gal := by obtain ⟨_, _, _, _, _, _, _, _, rfl⟩ := h.frame; rfl
theorem ring_eq (h : Reported p s t) : t.ring = s.ring := by obtain ⟨_, _, _, _, _, _, _, _, rfl⟩ := h.frame; rfl
theorem bal_eq (h : Reported p s t) : t.bal = s.bal := by obtain ⟨_, _, _, _, _, _, _, _, rfl⟩ := h.frame; rfl
theorem fld_eq (h : Reported p s t) {a : Nat} (ha : ¬ reports p a) (hi lo : Nat) : t.fld a hi lo = s.fld a hi lo :=
  fld_congr (h.rd a ha) hi lo
theorem sameBytes (h : Reported p s t) : SameBytes s.recRing s t := h.byte

end Reported

@[simp] theorem raiseFlt_gal (p b : Nat) (s : State) : (s.raiseFlt p b).gal = s.gal := (raiseFlt_reported p s b).gal_eq
@[simp] theorem raiseEvt_gal (p n : Nat) (s : State) : (s.raiseEvt p n).gal = s.gal := (raiseEvt_reported p s n).gal_eq

theorem galOf_congr {s t : State} (h : t.gal = s.gal) (g : Nat) : t.galOf g = s.galOf g := by rw [galOf, h, galOf]
theorem coreOf_congr {s t : State} (h : t.gal = s.gal) (g : Nat) : t.coreOf g = s.coreOf g := by
  rw [coreOf, galOf_congr h, coreOf]

end State
end Sys2Proof.Machine

namespace Sys2Proof.Machine
namespace State

/-! ### Reads and writes of words with good codes (R328-R332) -/

theorem classify_zero : classify 0 = .good := rfl

theorem readWord_good {s : State} {w : Nat} (h : s.syn w = 0) (who : Nat) (back : Bool) :
    s.readWord w who back = (some (s.word64 w), s) := by
  rw [readWord, h, classify_zero]

theorem leBytes_word64_bytes (s : State) (w : Nat) : leBytes 8 (s.word64 w).toNat = s.bytes (w * 8) 8 :=
  leBytes_word64 _ (s.bytes_length _ _)

theorem bytes_append (s : State) (a m n : Nat) : s.bytes a m ++ s.bytes (a + m) n = s.bytes a (m + n) := by
  induction m generalizing a with
  | zero => simp [bytes]
  | succ m ih =>
    rw [Nat.add_right_comm, bytes, bytes, List.cons_append, show a + (m + 1) = a + 1 + m from by omega, ih]

theorem drop_bytes (s : State) (a m n : Nat) : (s.bytes a (m + n)).drop m = s.bytes (a + m) n := by
  rw [← bytes_append, List.drop_append_of_le_length (by simp), List.drop_of_length_le (by simp), List.nil_append]

theorem take_bytes (s : State) (a m n : Nat) : (s.bytes a (m + n)).take m = s.bytes a m := by
  rw [← bytes_append, List.take_append_of_le_length (by simp), List.take_of_length_le (by simp)]

theorem readSpan_good {s : State} (who : Nat) (back : Bool) (n w : Nat) (h : ∀ v, w ≤ v → v < w + n → s.syn v = 0) :
    s.readSpan who back n w = (some (s.bytes (w * 8) (8 * n)), s) := by
  induction n generalizing w with
  | zero => rfl
  | succ n ih =>
    simp only [readSpan, readWord_good (h w (Nat.le_refl _) (by omega)), ih (w + 1) fun v h1 h2 => h v (by omega) (by omega),
      leBytes_word64_bytes]
    rw [show (w + 1) * 8 = w * 8 + 8 from by omega, bytes_append, show 8 + 8 * n = 8 * (n + 1) from by omega]

/-- Reading bytes of good words answers them and changes nothing. -/
theorem readBytes_good {s : State} {a n : Nat} (hc : s.GoodCode a n) (who : Nat) (back : Bool) (hn : 0 < n) :
    s.readBytes a n who back = (some (s.bytes a n), s) := by
  unfold readBytes
  rw [if_neg (by omega)]
  dsimp only
  rw [readSpan_good who back _ _ fun v h1 h2 => hc v h1 (by omega)]
  obtain ⟨k, hk⟩ : ∃ k, 8 * ((a + n - 1) / 8 - a / 8 + 1) = a % 8 + (n + k) :=
    ⟨8 * ((a + n - 1) / 8 - a / 8 + 1) - a % 8 - n, by omega⟩
  have ha : a / 8 * 8 + a % 8 = a := by omega
  simp only [hk, drop_bytes, take_bytes, ha]

/-- The bytes from `a` up read `bs` in `t`, all others as in `s`; nothing but memory and its code differs. -/
structure Stored (a : Nat) (bs : List Byte) (s t : State) : Prop where
  frame : ∃ mem ecc, t = { s with mem := mem, ecc := ecc }
  byte : ∀ x, t.byte x = if a ≤ x ∧ x < a + bs.length then bs.getD (x - a) 0 else s.byte x
  syn : ∀ w, s.syn w = 0 → t.syn w = 0

namespace Stored
variable {a : Nat} {bs : List Byte} {s t : State}

theorem regs_eq (h : Stored a bs s t) : t.regs = s.regs := by obtain ⟨_, _, rfl⟩ := h.frame; rfl
theorem gal_eq (h : Stored a bs s t) : t.gal = s.gal := by obtain ⟨_, _, rfl⟩ := h.frame; rfl
theorem rd_eq (h : Stored a bs s t) (j : Nat) : t.rd j = s.rd j := by obtain ⟨_, _, rfl⟩ := h.frame; rfl
theorem credits_eq (h : Stored a bs s t) : t.credits = s.credits := by obtain ⟨_, _, rfl⟩ := h.frame; rfl

theorem sameBytes (h : Stored a bs s t) : SameBytes (fun x => a ≤ x ∧ x < a + bs.length) s t := fun x hx => by
  rw [h.byte, if_neg hx]

theorem byte_add (h : Stored a bs s t) {k : Nat} (hk : k < bs.length) : t.byte (a + k) = bs.getD k 0 := by
  rw [h.byte, if_pos ⟨by omega, by omega⟩, Nat.add_sub_cancel_left]

theorem nil (a : Nat) (s : State) : Stored a [] s s where
  frame := ⟨s.mem, s.ecc, rfl⟩
  byte x := by rw [if_neg (by simp)]
  syn _ h := h

theorem append {cs : List Byte} {u : State} (h : Stored a bs s t) (k : Stored (a + bs.length) cs t u) :
    Stored a (bs ++ cs) s u where
  frame := by
    obtain ⟨_, _, rfl⟩ := h.frame
    obtain ⟨m, e, rfl⟩ := k.frame
    exact ⟨m, e, rfl⟩
  byte x := by
    rw [k.byte, h.byte, List.length_append]
    by_cases h1 : a ≤ x ∧ x < a + bs.length
    · rw [if_neg (by omega), if_pos h1, if_pos (by omega), List.getD_append _ _ _ _ (by omega)]
    · rw [if_neg h1]
      by_cases h2 : a + bs.length ≤ x ∧ x < a + bs.length + cs.length
      · rw [if_pos h2, if_pos (by omega), List.getD_append_right _ _ _ _ (by omega)]
        congr 1
        omega
      · rw [if_neg h2, if_neg (by omega)]
  syn w hw := k.syn w (h.syn w hw)

end Stored

theorem syn_putSyn_zero (s : State) (w v : Nat) (h : v = w ∨ s.syn v = 0) : (s.putSyn w 0).syn v = 0 := by
  by_cases hv : v = w
  · subst hv
    simp only [syn, putSyn, Tab.find_set_same, synDefault]
    by_cases hd : isDram (v * 8) = true
    · simp [hd]
    · simp [hd]
  · simp only [syn, putSyn, Tab.find_set_ne _ _ _ hv]
    exact h.resolve_left hv

theorem syn_putBytes (s : State) (a : Nat) (l : List Byte) (w : Nat) : (s.putBytes a l).syn w = s.syn w := by
  induction l generalizing s a with
  | nil => rfl
  | cons b l ih => rw [putBytes, ih]; rfl

theorem putBytes_frame (s : State) (a : Nat) (l : List Byte) : ∃ mem, s.putBytes a l = { s with mem := mem } := by
  induction l generalizing s a with
  | nil => exact ⟨s.mem, rfl⟩
  | cons b l ih =>
    obtain ⟨m, hm⟩ := ih (s.putByte a b) (a + 1)
    exact ⟨m, hm⟩

theorem injWord_none {s : State} (h : s.bit MEM.INJCFG 16 = false) : s.injWord = none := by
  unfold injWord
  rw [h]
  rfl

theorem storeWord_plain {s : State} (h : s.bit MEM.INJCFG 16 = false) (w : Nat) (bs : List Byte) (hb : bs.length = 8) :
    Stored (w * 8) bs s (s.storeWord w (BitVec.ofNat 64 (ofLeBytes bs))) := by
  rw [storeWord, injWord_none h, if_neg (by simp), leBytes_word64 bs hb]
  exact {
    frame := by
      obtain ⟨m, hm⟩ := putBytes_frame s (w * 8) bs
      rw [hm]
      exact ⟨_, _, rfl⟩
    byte := fun x => by rw [putSyn_byte, byte_putBytes]
    syn := fun v hv => syn_putSyn_zero _ _ _ (.inr (by rwa [syn_putBytes])) }

/-- A storage word's bytes with some replaced from offset `o` up. -/
theorem getD_splice {old bs : List Byte} {o k : Nat} (ho : old.length = 8) (hb : o + bs.length ≤ 8) :
    (old.take o ++ bs ++ old.drop (o + bs.length)).getD k 0 =
      if o ≤ k ∧ k < o + bs.length then bs.getD (k - o) 0 else old.getD k 0 := by
  have ht : (old.take o).length = o := by rw [List.length_take]; omega
  by_cases h1 : k < o
  · rw [if_neg (by omega), List.getD_append _ _ _ _ (by simp [ht]; omega), List.getD_append _ _ _ _ (by omega)]
    simp [List.getD_eq_getElem?_getD, h1]
  · by_cases h2 : k < o + bs.length
    · rw [if_pos (by omega), List.getD_append _ _ _ _ (by simp [ht]; omega), List.getD_append_right _ _ _ _ (by omega), ht]
    · rw [if_neg (by omega), List.getD_append_right _ _ _ _ (by simp [ht]; omega)]
      simp only [List.getD_eq_getElem?_getD, List.getElem?_drop, List.length_append, ht]
      congr 2
      omega

theorem writePart_good {s : State} (hi : s.bit MEM.INJCFG 16 = false) {w o : Nat} (who : Nat) {bs : List Byte}
    (hs : s.syn w = 0) (hb : o + bs.length ≤ 8) :
    ∃ t, s.writePart w o who bs = (true, t) ∧ Stored (w * 8 + o) bs s t := by
  unfold writePart
  split
  · rename_i h
    refine ⟨_, rfl, ?_⟩
    rw [h.1]
    exact storeWord_plain hi w bs h.2
  · rw [readWord_good hs]
    dsimp only
    rw [leBytes_word64_bytes]
    set new := (s.bytes (w * 8) 8).take o ++ bs ++ (s.bytes (w * 8) 8).drop (o + bs.length) with hnew
    have hst := storeWord_plain hi w new (by
      simp only [hnew, List.length_append, List.length_take, List.length_drop, bytes_length]; omega)
    refine ⟨_, rfl, hst.frame, fun x => ?_, hst.syn⟩
    have hl : new.length = 8 := by
      simp only [hnew, List.length_append, List.length_take, List.length_drop, bytes_length]; omega
    rw [hst.byte, hl]
    by_cases h8 : w * 8 ≤ x ∧ x < w * 8 + 8
    · rw [if_pos h8, hnew, getD_splice (s.bytes_length _ _) hb]
      by_cases hx : w * 8 + o ≤ x ∧ x < w * 8 + o + bs.length
      · rw [if_pos (by omega), if_pos hx]
        congr 1
        omega
      · rw [if_neg (by omega), if_neg hx, getD_bytes _ _ _ _ (by omega)]
        congr 1
        omega
    · rw [if_neg h8, if_neg (by omega)]

theorem writeSpan_good (who : Nat) (n : Nat) {s : State} (hi : s.bit MEM.INJCFG 16 = false) {a : Nat} {bs : List Byte}
    (hc : s.GoodCode a bs.length) (hn : bs.length < n) :
    ∃ m t, s.writeSpan who n a bs = (true, m, t) ∧ Stored a bs s t := by
  induction n generalizing s a bs with
  | zero => omega
  | succ n ih =>
    unfold writeSpan
    by_cases hb : bs = []
    · rw [if_pos hb, hb]
      exact ⟨_, _, rfl, .nil a s⟩
    · have hpos : 0 < bs.length := List.length_pos_iff.2 hb
      have hlen : (bs.take (8 - a % 8)).length = Nat.min (8 - a % 8) bs.length := List.length_take
      have hmin : Nat.min (8 - a % 8) bs.length ≤ 8 - a % 8 := Nat.min_le_left _ _
      obtain ⟨t, ht, hst⟩ := writePart_good hi (w := a / 8) (o := a % 8) who (bs := bs.take (8 - a % 8))
        (hc _ (Nat.le_refl _) (by omega)) (by omega)
      have haddr : a / 8 * 8 + a % 8 = a := by omega
      rw [haddr] at hst
      have hi' : t.bit MEM.INJCFG 16 = false := by rwa [bit_congr (hst.rd_eq _)]
      have hc' : t.GoodCode (a + (8 - a % 8)) (bs.drop (8 - a % 8)).length := fun w h1 h2 =>
        hst.syn w (hc w (by omega) (by rw [List.length_drop] at h2; omega))
      obtain ⟨m, u, hu, hsu⟩ := ih hi' hc' (by rw [List.length_drop]; omega)
      rw [if_neg hb]
      dsimp only
      rw [ht]
      dsimp only
      rw [hu]
      refine ⟨_, _, rfl, ?_⟩
      by_cases hfit : bs.length ≤ 8 - a % 8
      · rw [List.take_of_length_le hfit] at hst
        rw [List.drop_of_length_le hfit] at hu
        have hut : m = 0 ∧ u = t := by
          cases n with
          | zero => simpa [writeSpan] using hu.symm
          | succ n => simpa [writeSpan] using hu.symm
        rwa [hut.2]
      · have h8 : (bs.take (8 - a % 8)).length = 8 - a % 8 := by rw [List.length_take]; omega
        have := hst.append (by rwa [h8])
        rwa [List.take_append_drop] at this

/-- Writing bytes over good words with no injection armed stores them. -/
theorem writeBytes_good {s : State} (hi : s.bit MEM.INJCFG 16 = false) (who : Nat) {a : Nat} {bs : List Byte}
    (hc : s.GoodCode a bs.length) : Stored a bs s (s.writeBytes a who bs).2 := by
  obtain ⟨m, t, ht, hst⟩ := writeSpan_good who (bs.length + 1) hi hc (by omega)
  unfold writeBytes
  rw [ht]
  exact hst

theorem storeUe_good {s : State} {a n : Nat} (hc : s.GoodCode a n) (hn : 0 < n) : s.storeUe a n = none := by
  have hg : ∀ w, s.syn w = 0 → decide (classify (s.syn w) = .uncorrectable) = false := fun w h => by
    rw [h]; rfl
  unfold storeUe
  rw [List.find?_eq_none]
  intro w hw
  rw [Bool.not_eq_true]
  apply hg
  simp only [List.mem_append] at hw
  rcases hw with hw | hw
  · split at hw
    · simp at hw
    · rw [List.mem_singleton.1 hw]
      exact hc _ (Nat.le_refl _) (by omega)
  · split at hw
    · simp at hw
    · rw [List.mem_singleton.1 hw]
      exact hc _ (by omega) (by omega)

/-! ### No access to memory touches a gallery -/

theorem noteCe_gal (w : Nat) (s : State) : (s.noteCe w).gal = s.gal := by
  unfold noteCe
  cases spaceOf (w * 8) with
  | none => rfl
  | some q =>
    obtain ⟨sp, g, rel⟩ := q
    dsimp only
    split
    · rw [count_gal, count_gal, raiseFlt_gal]
    · rw [count_gal, raiseFlt_gal]
    · rw [raiseFlt_gal]

theorem noteUe_gal (w who : Nat) (s : State) : (s.noteUe w who).gal = s.gal := by
  unfold noteUe
  cases spaceOf (w * 8) with
  | none => rfl
  | some q =>
    obtain ⟨sp, g, rel⟩ := q
    have h : ∀ t : State, (if t.bit (MEM.UELAST + 4) 31 then t
        else t.wr64 MEM.UELAST (BitVec.ofNat 64 (rel % 2 ^ 40 + sp * 2 ^ 40 + who * 2 ^ 43 + 2 ^ 63))).gal = t.gal := by
      intro t
      split
      · rfl
      · rw [wr64_gal]
    refine (h _).trans ?_
    rw [raiseEvt_gal]
    split
    · rw [count_gal, raiseFlt_gal, raiseFlt_gal]
    · rw [count_gal, raiseFlt_gal, raiseFlt_gal]
    · rw [raiseFlt_gal, raiseFlt_gal]

theorem storeWord_gal (s : State) (w : Nat) (d : Word64) : (s.storeWord w d).gal = s.gal := by
  obtain ⟨_, _, _, h⟩ := storeWord_frame s w d
  rw [h]

theorem fixWord_gal (s : State) (w : Nat) (d : Word64) : (s.fixWord w d).gal = s.gal := by
  obtain ⟨_, h⟩ := putBytes_frame s (w * 8) (leBytes 8 d.toNat)
  rw [fixWord, h, putSyn_gal]

theorem readWord_gal (w who : Nat) (back : Bool) (s : State) : (s.readWord w who back).2.gal = s.gal := by
  unfold readWord
  split
  · rfl
  · dsimp only
    split <;> simp [fixWord_gal, noteCe_gal]
  · exact noteUe_gal w who s

theorem writePart_gal (w o who : Nat) (bs : List Byte) (s : State) : (s.writePart w o who bs).2.gal = s.gal := by
  have h := readWord_gal w who false s
  unfold writePart
  split
  · exact storeWord_gal s _ _
  · split
    · rename_i heq
      rwa [heq] at h
    · rename_i heq
      rw [heq] at h
      rw [storeWord_gal, h]

theorem writeSpan_gal (who n a : Nat) (bs : List Byte) (s : State) : (s.writeSpan who n a bs).2.2.gal = s.gal := by
  induction n generalizing a bs s with
  | zero => rfl
  | succ n ih =>
    have h := writePart_gal (a / 8) (a % 8) who (bs.take (8 - a % 8)) s
    unfold writeSpan
    split
    · rfl
    · dsimp only
      split
      · rename_i heq
        rwa [heq] at h
      · rename_i heq
        rw [heq] at h
        exact (ih _ _ _).trans h

theorem writeBytes_gal (a who : Nat) (bs : List Byte) (s : State) : (s.writeBytes a who bs).2.gal = s.gal :=
  writeSpan_gal who (bs.length + 1) a bs s

end State
end Sys2Proof.Machine

namespace Sys2Proof.Machine

theorem gIndex_eq_zero {c : Ctx} {r : Nat} : gIndex c r = 0 ↔ r = 0 := by
  unfold gIndex
  split <;> omega

/-- Register `i` of the banked file takes a value; place 0 keeps zero (R82). -/
def Core.landG (c : Core) (i : Nat) (w : Word) : Core :=
  if i = 0 then c else { c with gpr := Tab.set (some 0) c.gpr i w }

theorem Core.landG_gIndex (c : Core) (r : BitVec 5) (w : Word) : c.landG (gIndex c.ctx r.toNat) w = c.setG r w := by
  unfold landG setG
  by_cases h : r = 0
  · subst h; rfl
  · rw [if_neg h, if_neg fun hi => h (BitVec.eq_of_toNat_eq (gIndex_eq_zero.1 hi))]

/-- Nothing is in flight, no trap deferred, no delay slot waits and no loop is active. -/
def Core.Still (c : Core) : Prop := c.flights = [] ∧ c.deferred = [] ∧ c.slotOf = none ∧ c.act = 0


namespace State

/-! ### A gallery's parts after a write of one of them -/

section
variable (s : State) (g n : Nat)

@[simp] theorem galOf_putCore (c : Core) : (s.putCore g c).galOf g = { s.galOf g with core := c } := galOf_putGal _ _ _
@[simp] theorem galOf_putSlotRun (x : SlotRun) :
    (s.putSlotRun g n x).galOf g = { s.galOf g with slots := Tab.put (s.galOf g).slots n x } := galOf_putGal _ _ _
@[simp] theorem coreOf_putGal (x : Gal) : (s.putGal g x).coreOf g = x.core := by rw [coreOf, galOf_putGal]
@[simp] theorem coreOf_putSlotRun (x : SlotRun) : (s.putSlotRun g n x).coreOf g = s.coreOf g := coreOf_putGal _ _ _
@[simp] theorem slotRun_putCore (c : Core) : (s.putCore g c).slotRun g n = s.slotRun g n := by simp [slotRun]
@[simp] theorem slotRun_putSlotRun (x : SlotRun) : (s.putSlotRun g n x).slotRun g n = x := by simp [slotRun]
@[simp] theorem slotCfg_putCore (c : Core) : (s.putCore g c).slotCfg g n = s.slotCfg g n := by simp [slotCfg]
@[simp] theorem slotBridge_putCore (c : Core) : (s.putCore g c).slotBridge g n = s.slotBridge g n := by simp [slotBridge]
@[simp] theorem sampleFor_putCore (c : Core) (b : Nat) : (s.putCore g c).sampleFor g b = s.sampleFor g b := by
  simp [sampleFor]

end

theorem slotRun_congr {s t : State} (h : t.gal = s.gal) (g n : Nat) : t.slotRun g n = s.slotRun g n := by
  rw [slotRun, galOf_congr h, slotRun]

theorem credit_congr {s t : State} (h : t.credits = s.credits) (l : Landing) (p : Nat) : t.credit l p = s.credit l p := by
  rw [credit, h, credit]

@[simp] theorem credit_putCredit_same (s : State) (l : Landing) (p : Nat) (c : Credit) :
    (s.putCredit l p c).credit l p = c := Tab.get_set_same _ _ _ _

theorem credit_spend_same (s : State) (l : Landing) (p n : Nat) :
    ((s.spend l p n).credit l p).spent = (s.credit l p).spent + n := by
  rw [spend, credit_putCredit_same]

theorem credit_giveBack_same (s : State) (l : Landing) (p n : Nat) :
    ((s.giveBack l p n).credit l p).back = Nat.min (s.credit l p).spent ((s.credit l p).back + n) := by
  rw [giveBack, credit_putCredit_same]

/-! ### The end of a cycle -/

/-- With nothing in flight and nothing deferred only the counts move. -/
theorem endCycle_still {s : State} {g : Nat} (hf : (s.coreOf g).flights = []) (hd : (s.coreOf g).deferred = []) :
    endCycle g s = s.putCore g { s.coreOf g with cyc := (s.coreOf g).cyc + 1, seq := (s.coreOf g).seq + 1 } := by
  unfold endCycle
  dsimp only
  rw [settle_nil (by simpa using hf), takeDeferred_nil (by simpa using hd)]
  simp

/-- The one result in flight that is due lands in its scalar register. -/
theorem endCycle_land {s : State} {g : Nat} {f : Flight} {i : Nat} {w : Word} (hf : (s.coreOf g).flights = [f])
    (hdue : f.due ≤ (s.coreOf g).cyc + 1) (hdest : f.dest = .g i) (hw : f.words = [w]) (hn : f.note = none)
    (hd : (s.coreOf g).deferred = []) :
    endCycle g s = s.putCore g (({ s.coreOf g with
      flights := [], cyc := (s.coreOf g).cyc + 1, seq := (s.coreOf g).seq + 1 } : Core).landG i w) := by
  have hland : ∀ t : State, landOne g t f = if i = 0 then t else t.putCore g ((t.coreOf g).landG i w) := by
    intro t
    unfold landOne Core.landG
    rw [hdest, hw, hn]
    dsimp only
    split <;> rfl
  unfold endCycle
  dsimp only
  have hs : settle g (s.putCore g { s.coreOf g with cyc := (s.coreOf g).cyc + 1, seq := (s.coreOf g).seq + 1 }) =
      s.putCore g (({ s.coreOf g with
        flights := [], cyc := (s.coreOf g).cyc + 1, seq := (s.coreOf g).seq + 1 } : Core).landG i w) := by
    simp only [settle, coreOf_putCore, hf, List.filter_cons, List.filter_nil, hdue, decide_true, Bool.not_true,
      if_true, List.foldl_cons, List.foldl_nil, putCore_putCore, Bool.false_eq_true, if_false, hland]
    unfold Core.landG
    split <;> rfl
  rw [hs, takeDeferred_nil]
  unfold Core.landG
  split <;> simpa using hd

/-- An instruction in order whose only result is a scalar one of the next cycle. -/
theorem endCycle_produce {s : State} {g : Nat} (hq : (s.coreOf g).Still) {f : Flight} {i : Nat} {w : Word}
    (hdest : f.dest = .g i) (hw : f.words = [w]) (hn : f.note = none) :
    endCycle g (follow g .seq (s.produce g 1 f)) = s.putCore g ((s.coreOf g).next.landG i w) := by
  obtain ⟨hf, hd, hs, ha⟩ := hq
  have hl : ∀ c : Core, c.act = 0 → loopNext c = { c with pc := c.pc + 4 } := fun c h => by simp [loopNext, h]
  have hgo : follow g .seq (s.produce g 1 f) = s.putCore g { s.coreOf g with
      pc := (s.coreOf g).pc + 4, flights := [{ f with due := (s.coreOf g).cyc + 1, seq := (s.coreOf g).seq }] } := by
    simp only [follow, goOn, produce, coreOf_putCore, hs, hf, insertFlight, putCore_putCore]
    rw [hl]
    exact ha
  rw [hgo, endCycle_land (f := { f with due := (s.coreOf g).cyc + 1, seq := (s.coreOf g).seq }) (i := i) (w := w)
    (by simp) (by simp) hdest hw hn (by simpa using hd)]
  simp [Core.next, hf]

theorem endCycle_status {s : State} {g : Nat} (hq : (s.coreOf g).Still) (i : Nat) (w : Word) :
    endCycle g (follow g .seq (s.status g i w)) = s.putCore g ((s.coreOf g).next.landG i w) :=
  endCycle_produce hq rfl rfl rfl

theorem GalQuiet.still {s : State} {g : Nat} (h : s.GalQuiet g) : (s.coreOf g).Still := by
  obtain ⟨⟨-, -, hf, hd, -⟩, hs, ha⟩ := h
  exact ⟨hf, hd, hs, ha⟩

end State
end Sys2Proof.Machine

namespace Sys2Proof.Machine
namespace State

/-! ### Traps (R98, R99) -/

/-- `t` comes from `s` by what gallery `g` reports and notices: its core may differ in pending interrupts and WAITI, its
registers in reports, TRSTA and STA. -/
structure Noticed (g : Nat) (s t : State) : Prop where
  core : ∃ p q w, t.coreOf g = { s.coreOf g with ipend := p, irqSince := q, waiti := w }
  rd : ∀ a, ¬ reports (pgGAL g) a → a ≠ GAL.TRSTA g → a ≠ HDR.STA (pgGAL g) → t.rd a = s.rd a
  flt : ∀ i, s.bit (HDR.FLT (pgGAL g)) i = true → t.bit (HDR.FLT (pgGAL g)) i = true

namespace Noticed
variable {g : Nat} {s t u : State}

theorem refl (g : Nat) (s : State) : Noticed g s s where
  core := ⟨_, _, _, rfl⟩
  rd _ _ _ _ := rfl
  flt _ h := h

theorem trans (h : Noticed g s t) (k : Noticed g t u) : Noticed g s u where
  core := by
    obtain ⟨_, _, _, h1⟩ := h.core
    obtain ⟨p, q, w, h2⟩ := k.core
    exact ⟨p, q, w, by rw [h2, h1]⟩
  rd a h1 h2 h3 := (k.rd a h1 h2 h3).trans (h.rd a h1 h2 h3)
  flt i hi := k.flt i (h.flt i hi)

theorem of_reported (h : Reported (pgGAL g) s t) : Noticed g s t where
  core := ⟨_, _, _, coreOf_congr h.gal_eq g⟩
  rd a h1 _ _ := h.rd a h1
  flt i hi := h.flt _ i hi

/-- A write of STA or TRSTA. -/
theorem wr {a : Nat} (v : Word) (ha : a = GAL.TRSTA g ∨ a = HDR.STA (pgGAL g)) : Noticed g s (s.wr a v) where
  core := ⟨_, _, _, rfl⟩
  rd j _ h2 h3 := s.rd_wr_ne v (by rintro rfl; exact ha.elim h2 h3)
  flt i hi := by
    have hn : HDR.FLT (pgGAL g) ≠ a := by
      rcases ha with rfl | rfl <;> simp only [HDR.FLT, GAL.TRSTA, HDR.STA, regAt] <;> omega
    rwa [bit_congr (s.rd_wr_ne v hn)]

theorem putGal_trace (x : Trace) : Noticed g s (s.putGal g { s.galOf g with trace := x }) where
  core := ⟨(s.coreOf g).ipend, (s.coreOf g).irqSince, (s.coreOf g).waiti, by rw [coreOf_putGal]; rfl⟩
  rd _ _ _ _ := rfl
  flt _ h := h

theorem putCore (p : Byte) (q : Option Nat) (w : Bool) :
    Noticed g s (s.putCore g { s.coreOf g with ipend := p, irqSince := q, waiti := w }) where
  core := ⟨p, q, w, coreOf_putCore _ _ _⟩
  rd _ _ _ _ := rfl
  flt _ h := h

end Noticed

theorem startClock_noticed (g : Nat) (s : State) : Noticed g s (s.startClock g) := by
  unfold startClock
  dsimp only
  refine .trans ?_ (.putCore _ _ false)
  split
  · exact .wr _ (.inr rfl)
  · exact .refl g s

theorem raiseIrq_noticed (g n : Nat) (s : State) : Noticed g s (s.raiseIrq g n) := by
  unfold raiseIrq
  have h := Noticed.putCore (g := g) (s := s) (wsetBit (s.coreOf g).ipend n true)
    (if (s.coreOf g).imask.getLsbD n = true ∧ (s.coreOf g).irqSince = none then some (s.coreOf g).cyc
      else (s.coreOf g).irqSince) (s.coreOf g).waiti
  dsimp only
  split
  · exact h.trans (startClock_noticed g _)
  · exact h

theorem traceTrigger_noticed (g idx left : Nat) (s : State) : Noticed g s (s.traceTrigger g idx left) := by
  unfold traceTrigger
  exact .trans (.trans (.trans (.trans (.wr _ (.inl rfl)) (.wr _ (.inl rfl))) (.putGal_trace _))
    (.of_reported (raiseEvt_reported _ _ 0))) (raiseIrq_noticed g 3 _)

theorem traceNotice_noticed (g cond : Nat) (s : State) : Noticed g s (s.traceNotice g cond) := by
  unfold traceNotice
  split
  · exact traceTrigger_noticed g _ _ s
  · exact .refl g s

theorem foldl_raiseFlt_reported (p : Nat) (l : List Nat) (s : State) :
    Reported p s (l.foldl (fun s b => s.raiseFlt p b) s) :=
  .foldl (fun s b => raiseFlt_reported p s b) l s

theorem bit_foldl_raiseFlt (p : Nat) (l : List Nat) (s : State) {b : Nat} (hb : b ∈ l) (h32 : b < 32) :
    (l.foldl (fun s b => s.raiseFlt p b) s).bit (HDR.FLT p) b = true := by
  induction l generalizing s with
  | nil => cases hb
  | cons c l ih =>
    rcases List.mem_cons.1 hb with rfl | hb
    · exact (foldl_raiseFlt_reported p l _).flt p b (bit_raiseFlt p s h32)
    · exact ih _ hb

/-- The words of a trap: XINFO, XPC, XADDR (R99). -/
def trapWords (g : Nat) (cause : TrapCause) (addr : Option Word) (pcv : Word) (dslot : Bool) (s : State) : State :=
  let c := s.coreOf g
  let s := s.wr (GAL.XINFO g) (BitVec.ofNat 32
    (trapCode cause + c.slotno % 8 * 256 + b01 (decide (c.ctx = .trap)) * 2048 + b01 dslot * 4096))
  let s := s.wr (GAL.XPC g) pcv
  match addr with
  | some a => s.wr (GAL.XADDR g) a
  | none => s

/-- What a trap reports, before it holds the gallery or enters its context. -/
def trapReport (g : Nat) (cause : TrapCause) (addr : Option Word) (pcv : Word) (dslot : Bool) (s : State) : State :=
  ((trapFlts cause).foldl (fun s b => s.raiseFlt (pgGAL g) b) (s.trapWords g cause addr pcv dslot)).traceNotice g 3

theorem takeTrap_eq (g : Nat) (cause : TrapCause) (addr : Option Word) (pcv : Word) (dslot : Bool) (s : State) :
    takeTrap g cause addr pcv dslot s =
      let r := s.trapReport g cause addr pcv dslot
      let r := if cause = .budget then
          let r := r.count (GAL.PLANCNT g) 31 16
          r.putSlotRun g (s.coreOf g).slotno { r.slotRun g (s.coreOf g).slotno with budgetTrap := true }
        else r
      if cause = .fetchUe then r.setFld (HDR.STA (pgGAL g)) 3 0 6
      else if decide ((s.coreOf g).ctx = .trap) then (r.setFld (HDR.STA (pgGAL g)) 3 0 6).raiseFlt (pgGAL g) 21
      else
        let r := r.enterCtx g .trap 0x40
        r.putCore g { r.coreOf g with waiti := false, swait := none } := by
  cases addr <;> rfl

/-- XINFO, XPC, XADDR and PLANCNT lie apart, and no report writes them. -/
theorem gal_words_ne (g : Nat) : GAL.XINFO g ≠ GAL.XPC g ∧ GAL.XINFO g ≠ GAL.XADDR g ∧ GAL.XPC g ≠ GAL.XADDR g := by
  simp only [GAL.XINFO, GAL.XPC, GAL.XADDR, regAt]
  omega

/-- A register of a gallery's body, other than a header word: no report writes it. -/
theorem gal_body_not_reports {g off : Nat} (hg : g < 18) (h1 : 0x20 ≤ off) (h2 : off < 0x1000) :
    ¬ reports (pgGAL g) (regAt (pgGAL g) off) := by
  simp only [reports, reportWord, HDR.FLT, HDR.EVT, MEM.INJCFG, pgGAL, pgREC, pgACQ, pgNVM, pgMEM, regAt]
  omega

section
variable (g : Nat) (cause : TrapCause) (addr : Option Word) (pcv : Word) (dslot : Bool) (s : State)

theorem coreOf_trapWords : (s.trapWords g cause addr pcv dslot).coreOf g = s.coreOf g := by cases addr <;> rfl

theorem rd_trapWords_XPC : (s.trapWords g cause addr pcv dslot).rd (GAL.XPC g) = pcv := by
  obtain ⟨-, -, h⟩ := gal_words_ne g
  cases addr with
  | none => exact rd_wr_same _ _ _
  | some a => exact (rd_wr_ne _ _ h).trans (rd_wr_same _ _ _)

theorem rd_trapWords_XINFO : (s.trapWords g cause addr pcv dslot).rd (GAL.XINFO g) = BitVec.ofNat 32
    (trapCode cause + (s.coreOf g).slotno % 8 * 256 + b01 (decide ((s.coreOf g).ctx = .trap)) * 2048 + b01 dslot * 4096) := by
  obtain ⟨h1, h2, -⟩ := gal_words_ne g
  cases addr with
  | none => exact (rd_wr_ne _ _ h1).trans (rd_wr_same _ _ _)
  | some a => exact (rd_wr_ne _ _ h2).trans ((rd_wr_ne _ _ h1).trans (rd_wr_same _ _ _))

theorem rd_trapWords_XADDR (a : Word) : (s.trapWords g cause (some a) pcv dslot).rd (GAL.XADDR g) = a :=
  rd_wr_same _ _ _

theorem rd_trapWords_ne {j : Nat} (h1 : j ≠ GAL.XINFO g) (h2 : j ≠ GAL.XPC g) (h3 : j ≠ GAL.XADDR g) :
    (s.trapWords g cause addr pcv dslot).rd j = s.rd j := by
  have h : ((s.wr (GAL.XINFO g) (BitVec.ofNat 32 (trapCode cause + (s.coreOf g).slotno % 8 * 256 +
      b01 (decide ((s.coreOf g).ctx = .trap)) * 2048 + b01 dslot * 4096))).wr (GAL.XPC g) pcv).rd j = s.rd j := by
    rw [rd_wr_ne _ _ h2, rd_wr_ne _ _ h1]
  cases addr with
  | none => exact h
  | some a => exact (rd_wr_ne _ _ h3).trans h

theorem trapReport_noticed : Noticed g (s.trapWords g cause addr pcv dslot) (s.trapReport g cause addr pcv dslot) :=
  .trans (.of_reported (foldl_raiseFlt_reported _ _ _)) (traceNotice_noticed g 3 _)

/-- What is in the trap words stays while the trap reports. -/
theorem rd_trapReport (hg : g < 18) {off : Nat} (h1 : 0x20 ≤ off) (h2 : off < 0x1000) (h3 : off ≠ 0x214) :
    (s.trapReport g cause addr pcv dslot).rd (regAt (pgGAL g) off) =
      (s.trapWords g cause addr pcv dslot).rd (regAt (pgGAL g) off) := by
  apply (trapReport_noticed g cause addr pcv dslot s).rd _ (gal_body_not_reports hg h1 h2)
  · simp only [GAL.TRSTA, regAt]; omega
  · simp only [HDR.STA, regAt]; omega

theorem bit_trapReport {b : Nat} (hb : b ∈ trapFlts cause) :
    (s.trapReport g cause addr pcv dslot).bit (HDR.FLT (pgGAL g)) b = true := by
  refine (traceNotice_noticed g 3 _).flt b (bit_foldl_raiseFlt _ _ _ hb ?_)
  cases cause <;> simp only [trapFlts, List.mem_cons, List.not_mem_nil, or_false] at hb <;> omega

theorem coreOf_trapReport : ∃ p q w, (s.trapReport g cause addr pcv dslot).coreOf g =
    { s.coreOf g with ipend := p, irqSince := q, waiti := w } := by
  obtain ⟨p, q, w, h⟩ := (trapReport_noticed g cause addr pcv dslot s).core
  exact ⟨p, q, w, by rw [h, coreOf_trapWords]⟩

end

/-- A trap that enters the trap context (R98, R99): the state it leaves. -/
structure Trapped (g : Nat) (cause : TrapCause) (addr : Option Word) (pcv : Word) (dslot : Bool) (s t : State) : Prop where
  xpc : t.rd (GAL.XPC g) = pcv
  xinfo : t.rd (GAL.XINFO g) = BitVec.ofNat 32 (trapCode cause + (s.coreOf g).slotno % 8 * 256 + b01 dslot * 4096)
  xaddr : ∀ a, addr = some a → t.rd (GAL.XADDR g) = a
  flt : ∀ b ∈ trapFlts cause, t.bit (HDR.FLT (pgGAL g)) b = true
  ctx : (t.coreOf g).ctx = .trap
  stack : (t.coreOf g).stack = (s.coreOf g).ctx :: (s.coreOf g).stack
  pc : (t.coreOf g).pc = 0x40
  gpr : (t.coreOf g).gpr = (s.coreOf g).gpr
  flights : (t.coreOf g).flights = (s.coreOf g).flights
  deferred : (t.coreOf g).deferred = (s.coreOf g).deferred
  plancnt : t.fld (GAL.PLANCNT g) 31 16 =
    if cause = .budget then Nat.min 0xFFFF (s.fld (GAL.PLANCNT g) 31 16 + 1) else s.fld (GAL.PLANCNT g) 31 16

/-- The trap context is entered from what has been reported. -/
theorem coreOf_enter_trap (g : Nat) (r : State) :
    ((r.enterCtx g .trap 0x40).putCore g { (r.enterCtx g .trap 0x40).coreOf g with waiti := false, swait := none }).coreOf g =
      { r.coreOf g with
        stack := (r.coreOf g).ctx :: (r.coreOf g).stack, ctx := .trap, pc := 0x40, slotOf := none,
        actSaved := wset (r.coreOf g).actSaved 5 4 (r.coreOf g).act.toNat, act := 0, waiti := false, swait := none } := by
  rw [coreOf_putCore, enterCtx, coreOf_putCore]
  rfl

theorem takeTrap_trapped {g : Nat} {cause : TrapCause} {addr : Option Word} {pcv : Word} {dslot : Bool} {s : State}
    (hg : g < 18) (hctx : (s.coreOf g).ctx ≠ .trap) (hc : cause ≠ .fetchUe) :
    Trapped g cause addr pcv dslot s (takeTrap g cause addr pcv dslot s) := by
  obtain ⟨p, q, w, hcore⟩ := coreOf_trapReport g cause addr pcv dslot s
  have hflt := fun b (hb : b ∈ trapFlts cause) => bit_trapReport g cause addr pcv dslot s hb
  have hxpc := (rd_trapReport g cause addr pcv dslot s hg (off := 0x4C) (by omega) (by omega) (by omega)).trans
    (rd_trapWords_XPC g cause addr pcv dslot s)
  have hxinfo := (rd_trapReport g cause addr pcv dslot s hg (off := 0x48) (by omega) (by omega) (by omega)).trans
    (rd_trapWords_XINFO g cause addr pcv dslot s)
  have hxaddr : ∀ a, addr = some a → (s.trapReport g cause addr pcv dslot).rd (GAL.XADDR g) = a := by
    rintro a rfl
    exact (rd_trapReport g cause _ pcv dslot s hg (off := 0x50) (by omega) (by omega) (by omega)).trans
      (rd_trapWords_XADDR g cause pcv dslot s a)
  have hplan : (s.trapReport g cause addr pcv dslot).fld (GAL.PLANCNT g) 31 16 = s.fld (GAL.PLANCNT g) 31 16 := by
    apply fld_congr
    refine (rd_trapReport g cause addr pcv dslot s hg (off := 0x7C) (by omega) (by omega) (by omega)).trans ?_
    apply rd_trapWords_ne <;> simp only [GAL.XINFO, GAL.XPC, GAL.XADDR, regAt] <;> omega
  rw [takeTrap_eq]
  simp only [hctx, hc, decide_false, Bool.false_eq_true, if_false, Nat.zero_mul, b01] at hxinfo ⊢
  by_cases hb : cause = .budget
  · have hne : ∀ off, off ≠ 0x7C → ∀ r : State, (r.count (GAL.PLANCNT g) 31 16).rd (regAt (pgGAL g) off) =
        r.rd (regAt (pgGAL g) off) := fun off h r => rd_count_ne _ _ _ _ (by simp only [GAL.PLANCNT, regAt]; omega)
    rw [if_pos hb]
    exact {
      xpc := (hne 0x4C (by omega) _).trans hxpc
      xinfo := (hne 0x48 (by omega) _).trans hxinfo
      xaddr := fun a ha => (hne 0x50 (by omega) _).trans (hxaddr a ha)
      flt := fun b h => (bit_congr (hne 0x14 (by omega) _) b).trans (hflt b h)
      ctx := by rw [coreOf_enter_trap]
      stack := by rw [coreOf_enter_trap, coreOf_putSlotRun, coreOf_congr (count_gal _ _ _ _ _), hcore]
      pc := by rw [coreOf_enter_trap]
      gpr := by rw [coreOf_enter_trap, coreOf_putSlotRun, coreOf_congr (count_gal _ _ _ _ _), hcore]
      flights := by rw [coreOf_enter_trap, coreOf_putSlotRun, coreOf_congr (count_gal _ _ _ _ _), hcore]
      deferred := by rw [coreOf_enter_trap, coreOf_putSlotRun, coreOf_congr (count_gal _ _ _ _ _), hcore]
      plancnt := by
        rw [if_pos hb, ← hplan]
        exact fld_count_same _ 1 (by omega) }
  · rw [if_neg hb]
    exact {
      xpc := hxpc
      xinfo := hxinfo
      xaddr := hxaddr
      flt := hflt
      ctx := by rw [coreOf_enter_trap]
      stack := by rw [coreOf_enter_trap, hcore]
      pc := by rw [coreOf_enter_trap]
      gpr := by rw [coreOf_enter_trap, hcore]
      flights := by rw [coreOf_enter_trap, hcore]
      deferred := by rw [coreOf_enter_trap, hcore]
      plancnt := by rw [if_neg hb]; exact hplan }

/-- A trap with TRAP in FLT is one that `TrapTaken` speaks of. -/
theorem Trapped.taken {g : Nat} {cause : TrapCause} {addr : Option Word} {pcv : Word} {s t : State}
    (h : Trapped g cause addr pcv false s t) (h20 : 20 ∈ trapFlts cause) : s.TrapTaken t g (trapCode cause) pcv :=
  ⟨h.xpc, by simpa [b01] using h.xinfo, h.ctx, h.stack, h.pc, h.gpr, h.flt 20 h20⟩

/-- The cycle's end and a core written back before the trap do not show in what the trap has done. -/
theorem TrapTaken.congr {s s' t t' : State} {g code : Nat} {pc : Word} (h : s.TrapTaken t g code pc)
    (hs : s'.coreOf g = s.coreOf g) (hr : t'.regs = t.regs) (hv : t'.variant = t.variant)
    (hc : ∃ cyc seq, t'.coreOf g = { t.coreOf g with cyc := cyc, seq := seq }) : s'.TrapTaken t' g code pc := by
  have hrd : ∀ a, t'.rd a = t.rd a := fun a => by rw [State.rd, hr, hv, State.rd]
  obtain ⟨h1, h2, h3, h4, h5, h6, h7⟩ := h
  obtain ⟨cyc, seq, hc⟩ := hc
  refine ⟨by rw [hrd, h1], by rw [hrd, h2, hs], by rw [hc, h3], by rw [hc, h4, hs], by rw [hc, h5], by rw [hc, h6, hs], ?_⟩
  rw [bit_congr (hrd _), h7]

end State
end Sys2Proof.Machine

namespace Sys2Proof.Machine
namespace State

/-! ### Landing instructions (R101) -/

section
variable {s : State} {g : Nat} (h : s.GalQuiet g)
include h

theorem GalQuiet.built : g < s.variant.galleries := h.1.1

theorem GalQuiet.lt : g < 18 := by
  have := h.built
  unfold Variant.galleries at this
  split at this <;> omega

/-- In a tread a landing instruction runs on its operand and its status register. -/
theorem landing_tread (ht : (s.coreOf g).ctx = .tread) (a b : BitVec 5) (f : Word → Nat → State → State × Next) :
    s.landing g a b f =
      (let r := f ((s.coreOf g).g a) (gIndex (s.coreOf g).ctx b.toNat) (s.putCore g (s.coreOf g))
       endCycle g (follow g r.2 r.1)) := by
  unfold landing
  rw [issue_ready h.1 _ _ _ _ (by simp), coreOf_putCore, if_pos ht]

/-- Outside a tread a landing instruction is an ILLEGAL trap. -/
theorem landing_illegal (ht : (s.coreOf g).ctx = .background ∨ (s.coreOf g).ctx = .interrupt) (a b : BitVec 5)
    (f : Word → Nat → State → State × Next) : s.TrapTaken (s.landing g a b f) g 1 (s.coreOf g).pc := by
  have hn : (s.coreOf g).ctx ≠ .tread ∧ (s.coreOf g).ctx ≠ .trap := by
    rcases ht with ht | ht <;> rw [ht] <;> decide
  obtain ⟨hf, hd, hs, -⟩ := h.still
  unfold landing
  rw [issue_ready h.1 _ _ _ _ (by simp), coreOf_putCore, if_neg hn.1]
  simp only [follow, trapHere, coreOf_putCore, hs]
  have ht := takeTrap_trapped (addr := none) (pcv := (s.coreOf g).pc) (dslot := false) (s := s.putCore g (s.coreOf g))
    (cause := .illegal) h.lt (by rw [coreOf_putCore]; exact hn.2) (by decide)
  rw [endCycle_still (by rw [ht.flights, coreOf_putCore, hf]) (by rw [ht.deferred, coreOf_putCore, hd])]
  exact (ht.taken (by decide)).congr (coreOf_putCore _ _ _).symm rfl rfl ⟨_, _, coreOf_putCore _ _ _⟩

end

/-- A posted store over good words stores the bytes of its words. -/
theorem galStore_good {s : State} {g a : Nat} {ea : Word} {ws : List Word} (hi : s.bit MEM.INJCFG 16 = false)
    (hc : s.GoodCode a (4 * ws.length)) (hw : ws ≠ []) :
    (s.galStore g a ea ws).2 = .seq ∧ Stored a (bytesOf ws) s (s.galStore g a ea ws).1 := by
  have hpos : 0 < ws.length := List.length_pos_iff.2 hw
  have hue : s.storeUe a (4 * ws.length) = none := storeUe_good hc (by omega)
  have hst := writeBytes_good hi (galRequester g) (bs := bytesOf ws) (by rwa [bytesOf_length])
  unfold galStore
  rw [hue]
  exact ⟨rfl, hst⟩

/-- A store to data memory over good words stores the bytes of its words. -/
theorem storeLocal_good {s : State} {g : Nat} {ea : Word} {ws : List Word} (hi : s.bit MEM.INJCFG 16 = false)
    (hok : localStoreOk ea.toNat (4 * ws.length) = true) (hc : s.GoodCode (galBase g + ea.toNat) (4 * ws.length))
    (hw : ws ≠ []) : (s.storeLocal g ea ws).2 = .seq ∧
      Stored (galBase g + ea.toNat) (bytesOf ws) s (s.storeLocal g ea ws).1 := by
  have h : s.storeLocal g ea ws = s.galStore g (galBase g + ea.toNat) ea ws := if_pos hok
  rw [h]
  exact galStore_good hi hc hw

theorem unitWords_of_length {u : List Word} (h : u.length = 16) : unitWords u = u := by
  unfold unitWords
  rw [List.take_append_of_le_length (by omega), List.take_of_length_le (by omega)]

@[simp] theorem unitWords_length (u : List Word) : (unitWords u).length = 16 := by
  simp [unitWords]

theorem unitWords_ne (u : List Word) : unitWords u ≠ [] := fun h => by
  have := unitWords_length u
  rw [h] at this
  cases this

/-- SWAIT's copy of a waiting sample: the unit stored, freed and kept as the slot's last, and the status. -/
theorem swaitCopy_sample {s : State} {g : Nat} {ea : Word} (reg : Nat) {p : Nat} {u : List Word}
    (hs : s.sampleFor g (s.slotBridge g (s.coreOf g).slotno) = some (p, u)) (hu : u.length = 16)
    (hi : s.bit MEM.INJCFG 16 = false) (hok : localStoreOk ea.toNat 64 = true) (hc : s.GoodCode (galBase g + ea.toNat) 64) :
    ∃ t x : State, s.swaitCopy g ea reg = (x.status g reg (if (s.slotRun g (s.coreOf g).slotno).overrun then 2 else 0), .seq) ∧
      Stored (galBase g + ea.toNat) (bytesOf u) s t ∧ x.mem = t.mem ∧ x.regs = s.regs ∧ x.dramGen = t.dramGen ∧
      x.coreOf g = s.coreOf g ∧ (x.galOf g).samples = (s.galOf g).samples.erase (p, u) ∧
      (x.slotRun g (s.coreOf g).slotno).lastSample = u ∧
      (x.credit (.sample g) p).back = Nat.min (s.credit (.sample g) p).spent ((s.credit (.sample g) p).back + 1) := by
  obtain ⟨hseq, hst⟩ := storeLocal_good (s := s) (g := g) (ea := ea) (ws := unitWords u) hi
    (by rwa [unitWords_length]) (by rwa [unitWords_length]) (unitWords_ne u)
  rw [unitWords_of_length hu] at hst
  have hw : ∀ o : Bool, BitVec.ofNat 32 (2 * b01 o) = if o then 2 else 0 := fun o => by cases o <;> rfl
  unfold swaitCopy
  simp only [hs, hseq, hw]
  rw [unitWords_of_length hu]
  have hgal := galOf_congr hst.gal_eq g
  refine ⟨_, _, rfl, hst, rfl, hst.regs_eq, rfl, ?_, ?_, ?_, ?_⟩
  · rw [coreOf_putSlotRun, coreOf_congr (giveBack_gal _ _ _ _), coreOf_putGal, hgal, coreOf]
  · rw [galOf_putSlotRun, galOf_congr (giveBack_gal _ _ _ _), galOf_putGal, hgal]
  · rw [slotRun_putSlotRun]
  · rw [credit_congr (putSlotRun_credits _ _ _ _), credit_giveBack_same, credit_congr (putGal_credits _ _ _),
      credit_congr hst.credits_eq]

/-- SWAIT's copy of the slot's previous sample: the unit stored, the miss counted and reported, and the status. -/
theorem swaitCopy_missing {s : State} {g : Nat} {ea : Word} (reg : Nat)
    (hs : s.sampleFor g (s.slotBridge g (s.coreOf g).slotno) = none)
    (hr : (s.storeLocal g ea (unitWords (s.slotRun g (s.coreOf g).slotno).lastSample)).2 = .seq) :
    s.swaitCopy g ea reg =
      (let run := s.slotRun g (s.coreOf g).slotno
       let t := (s.storeLocal g ea (unitWords run.lastSample)).1
       let t := t.putSlotRun g (s.coreOf g).slotno { run with missing := true, overrun := false }
       (((t.count (GAL.MISSCNT g) 15 0).raiseFlt (pgGAL g) 16).status g reg (if run.overrun then 3 else 1), .seq)) := by
  have hw : ∀ o : Bool, BitVec.ofNat 32 (1 + 2 * b01 o) = if o then 3 else 1 := fun o => by cases o <;> rfl
  unfold swaitCopy
  simp only [hs, hr, hw]

section
variable {s : State} {g : Nat} (h : s.GalQuiet g)
include h

/-- A landing instruction completes with what its body, run on its operand and its status register, leaves. -/
theorem completes_landing {i : Instr} {a b : BitVec 5} {f : Word → Nat → State → State × Next} {P : State → Prop}
    (he : exec i s = onGal g (State.landing g a b f) s) (hp : P (s.landing g a b f)) : Completes i s P :=
  ⟨_, by rw [he]; unfold onGal onUnit; rw [if_pos (decide_eq_true h.built)], hp⟩

/-- In a tread, a landing instruction whose body gives a status completes with the status in its register. -/
theorem completes_status (ht : (s.coreOf g).ctx = .tread) {i : Instr} {a b : BitVec 5}
    {f : Word → Nat → State → State × Next} {P : State → Prop} {x : State} {w : Word}
    (he : exec i s = onGal g (State.landing g a b f) s)
    (hf : f ((s.coreOf g).g a) (gIndex (s.coreOf g).ctx b.toNat) (s.putCore g (s.coreOf g)) =
      (x.status g (gIndex (s.coreOf g).ctx b.toNat) w, .seq))
    (hx : x.coreOf g = s.coreOf g) (hp : P (x.putCore g ((s.coreOf g).next.setG b w))) : Completes i s P := by
  apply completes_landing h he
  have hq : (x.coreOf g).Still := by rw [hx]; exact h.still
  rw [landing_tread h ht, hf]
  dsimp only
  rw [endCycle_status hq, hx]
  exact Core.landG_gIndex (s.coreOf g).next b w ▸ hp

end

end State
end Sys2Proof.Machine

namespace Sys2Proof.Machine
namespace State

/-- The 64 bytes of a unit lie at `a`, and all other bytes are as before, but for the recorder's ring. -/
def UnitCopied (s t : State) (a : Nat) (u : List Word) : Prop :=
  (∀ k < 64, ¬ s.recRing (a + k) → t.byte (a + k) = (bytesOf u).getD k 0) ∧
    SameBytes (fun x => (a ≤ x ∧ x < a + 64) ∨ s.recRing x) s t

/-- A unit stored, then reports: the unit is copied. -/
theorem UnitCopied.of_stored {s s1 t t' : State} {a : Nat} {u : List Word} (hst : Stored a (bytesOf u) s1 t)
    (hu : u.length = 16) (h1 : ∀ x, s1.byte x = s.byte x) (ht : ∀ x, ¬ s.recRing x → t'.byte x = t.byte x) :
    UnitCopied s t' a u := by
  have hl : (bytesOf u).length = 64 := by rw [bytesOf_length, hu]
  refine ⟨fun k hk hr => ?_, fun x hx => ?_⟩
  · rw [ht _ hr, hst.byte_add (by omega)]
  · rw [not_or] at hx
    rw [ht x hx.2, hst.sameBytes x (by rw [hl]; exact hx.1), h1]

theorem MISSCNT_not_reports {g : Nat} (hg : g < 18) : ¬ reports (pgGAL g) (GAL.MISSCNT g) :=
  gal_body_not_reports hg (by omega) (by omega)

theorem PLANCNT_not_reports {g : Nat} (hg : g < 18) : ¬ reports (pgGAL g) (GAL.PLANCNT g) :=
  gal_body_not_reports hg (by omega) (by omega)

/-- A counter on a gallery's page counts, and a FLT bit reports: memory outside the recorder's ring stays. -/
theorem byte_count_raiseFlt {s t : State} (p b a hi lo : Nat) (h : ∀ j, t.rd j = s.rd j) (ha : a / 0x1000 ≠ pgREC) {x : Nat}
    (hx : ¬ s.recRing x) : ((t.count a hi lo).raiseFlt p b).byte x = t.byte x := by
  have hc : ∀ j, j / 0x1000 = pgREC → (t.count a hi lo).rd j = s.rd j := fun j hj => by
    rw [rd_count_ne _ _ _ _ (by rintro rfl; exact ha hj), h]
  refine (raiseFlt_reported p _ b).byte x fun hr => hx ?_
  unfold recRing at *
  rwa [num_congr (hc REC.RBASE (by decide)), num_congr (hc REC.RSIZE (by decide)),
    num_congr (hc REC.RWR (by decide))] at hr

section
variable {s : State} {g : Nat} {a b : BitVec 5} (h : s.GalQuiet g) (ht : (s.coreOf g).ctx = .tread)
include h ht

/-- SWAIT with a sample of the slot's bridge waiting (R101). -/
theorem swait_sample (hi : s.bit MEM.INJCFG 16 = false) (hok : localStoreOk ((s.coreOf g).g a).toNat 64 = true)
    (hc : s.GoodCode (galBase g + ((s.coreOf g).g a).toNat) 64) {p : Nat} {u : List Word}
    (hs : s.sampleFor g (s.slotBridge g (s.coreOf g).slotno) = some (p, u)) (hu : u.length = 16) :
    Completes (.swait g a b) s fun t =>
      s.UnitCopied t (galBase g + ((s.coreOf g).g a).toNat) u ∧
      t.coreOf g = (s.coreOf g).next.setG b (if (s.slotRun g (s.coreOf g).slotno).overrun then 2 else 0) ∧ t.regs = s.regs ∧
      (t.galOf g).samples = (s.galOf g).samples.erase (p, u) ∧ (t.slotRun g (s.coreOf g).slotno).lastSample = u ∧
      (t.credit (.sample g) p).back = Nat.min (s.credit (.sample g) p).spent ((s.credit (.sample g) p).back + 1) := by
  have hsf : (s.putCore g (s.coreOf g)).sampleFor g ((s.putCore g (s.coreOf g)).slotBridge g
      ((s.putCore g (s.coreOf g)).coreOf g).slotno) = some (p, u) := by
    rw [coreOf_putCore, slotBridge_putCore, sampleFor_putCore, hs]
  obtain ⟨t, x, hx, hst, hmem, hregs, hgen, hcore, hsamp, hlast, hback⟩ :=
    swaitCopy_sample (s := s.putCore g (s.coreOf g)) (gIndex (s.coreOf g).ctx b.toNat) hsf hu hi hok hc
  rw [coreOf_putCore] at hcore hlast hx
  rw [slotRun_putCore] at hx
  have hbyte : ∀ y, x.byte y = t.byte y := fun y => by rw [byte, hmem, hgen, byte]
  refine completes_status h ht rfl (x := x) (w := if (s.slotRun g (s.coreOf g).slotno).overrun then 2 else 0) ?_ hcore
    ⟨.of_stored hst hu (fun _ => rfl) fun y _ => hbyte y, ?_, hregs, ?_, ?_, hback⟩
  · simp only [hsf, Option.isNone_some, Bool.false_eq_true, false_and, if_false]
    exact hx
  · rw [coreOf_putCore]
  · rw [galOf_putCore]
    exact hsamp.trans (by rw [galOf_putCore])
  · rw [slotRun_putCore, hlast]

/-- SWAIT with no sample after its deadline (R101): the previous sample, counted and reported missing. -/
theorem swait_missing (hi : s.bit MEM.INJCFG 16 = false) (hok : localStoreOk ((s.coreOf g).g a).toNat 64 = true)
    (hc : s.GoodCode (galBase g + ((s.coreOf g).g a).toNat) 64)
    (hs : s.sampleFor g (s.slotBridge g (s.coreOf g).slotno) = none)
    (hsdl : (s.slotRun g (s.coreOf g).slotno).sdlPassed = true)
    (hu : (s.slotRun g (s.coreOf g).slotno).lastSample.length = 16) :
    Completes (.swait g a b) s fun t =>
      s.UnitCopied t (galBase g + ((s.coreOf g).g a).toNat) (s.slotRun g (s.coreOf g).slotno).lastSample ∧
      t.coreOf g = (s.coreOf g).next.setG b (if (s.slotRun g (s.coreOf g).slotno).overrun then 3 else 1) ∧
      (t.slotRun g (s.coreOf g).slotno).missing = true ∧
      t.fld (GAL.MISSCNT g) 15 0 = Nat.min 0xFFFF (s.fld (GAL.MISSCNT g) 15 0 + 1) ∧ t.bit (HDR.FLT (pgGAL g)) 16 = true := by
  set s1 := s.putCore g (s.coreOf g) with hs1
  set run := s.slotRun g (s.coreOf g).slotno with hrun
  have hc1 : s1.coreOf g = s.coreOf g := coreOf_putCore _ _ _
  have hr1 : s1.slotRun g (s1.coreOf g).slotno = run := by rw [hc1, hs1, slotRun_putCore]
  have hsf : s1.sampleFor g (s1.slotBridge g (s1.coreOf g).slotno) = none := by
    rw [hc1, hs1, slotBridge_putCore, sampleFor_putCore, hs]
  obtain ⟨hseq, hst⟩ := storeLocal_good (s := s1) (g := g) (ea := (s.coreOf g).g a) (ws := unitWords run.lastSample) hi
    (by rwa [unitWords_length]) (by rwa [unitWords_length]) (unitWords_ne _)
  have hx := swaitCopy_missing (gIndex (s.coreOf g).ctx b.toNat) hsf (by rw [hr1]; exact hseq)
  rw [hr1, hc1] at hx
  dsimp only at hx
  generalize (s1.storeLocal g ((s.coreOf g).g a) (unitWords run.lastSample)).1 = t at hx hst
  set t2 := t.putSlotRun g (s.coreOf g).slotno { run with missing := true, overrun := false } with ht2
  have hrep := raiseFlt_reported (pgGAL g) (t2.count (GAL.MISSCNT g) 15 0) 16
  have hgal : ((t2.count (GAL.MISSCNT g) 15 0).raiseFlt (pgGAL g) 16).gal = t2.gal := by rw [raiseFlt_gal, count_gal]
  rw [unitWords_of_length hu] at hst
  refine completes_status h ht rfl (x := (t2.count (GAL.MISSCNT g) 15 0).raiseFlt (pgGAL g) 16)
    (w := if run.overrun then 3 else 1) ?_ ?_ ⟨.of_stored hst hu (fun _ => rfl) fun y hy => ?_, ?_, ?_, ?_, ?_⟩
  · rw [← hs1]
    simp only [hsf, hr1, hsdl, Option.isNone_none, reduceCtorEq, and_false, if_false]
    exact hx
  · rw [coreOf_congr hgal, ht2, coreOf_putSlotRun, coreOf_congr hst.gal_eq, hc1]
  · exact byte_count_raiseFlt (s := s) (t := t2) _ _ _ _ _ hst.rd_eq
      (by simp only [GAL.MISSCNT, pgGAL, pgREC, regAt]; have := h.lt; omega) hy
  · rw [coreOf_putCore]
  · rw [slotRun_putCore, slotRun_congr hgal, ht2, slotRun_putSlotRun]
  · have hfld : t2.fld (GAL.MISSCNT g) 15 0 = s.fld (GAL.MISSCNT g) 15 0 := fld_congr (hst.rd_eq _) 15 0
    rw [← hfld]
    exact (hrep.fld_eq (MISSCNT_not_reports h.lt) 15 0).trans (fld_count_same _ 1 (by omega))
  · exact bit_raiseFlt _ _ (by omega)

/-- SWAIT with no sample and its deadline ahead stalls (R101). -/
theorem swait_stalls (hs : s.sampleFor g (s.slotBridge g (s.coreOf g).slotno) = none)
    (hsdl : (s.slotRun g (s.coreOf g).slotno).sdlPassed = false) :
    exec (.swait g a b) s = .next (s.putCore g { s.coreOf g with
      swait := some ((s.coreOf g).g a, gIndex (s.coreOf g).ctx b.toNat), cyc := (s.coreOf g).cyc + 1, seq := (s.coreOf g).seq + 1 }) := by
  obtain ⟨hf, hd, -, -⟩ := h.still
  obtain ⟨t, he, rfl⟩ := completes_landing h (i := .swait g a b) (P := fun t => t = s.landing g a b _) rfl rfl
  rw [he, landing_tread h ht]
  simp only [coreOf_putCore, slotBridge_putCore, sampleFor_putCore, slotRun_putCore, hs, hsdl, Option.isNone_none,
    and_self, if_true, follow, putCore_putCore]
  rw [endCycle_still (by rw [coreOf_putCore]; exact hf) (by rw [coreOf_putCore]; exact hd), coreOf_putCore, putCore_putCore]

/-- OBSR (R101): the residual, and status 0. -/
theorem obsr_residual : Completes (.obsr g a b) s fun t =>
    (t.slotRun g (s.coreOf g).slotno).residual = some ((s.coreOf g).g a) ∧ t.coreOf g = (s.coreOf g).next.setG b 0 ∧
    t.regs = s.regs ∧ t.mem = s.mem := by
  apply completes_landing h rfl
  rw [landing_tread h ht]
  dsimp only
  rw [produceG, endCycle_produce (by rw [coreOf_putSlotRun, coreOf_putCore]; exact h.still) rfl rfl rfl]
  refine ⟨?_, ?_, rfl, rfl⟩
  · rw [slotRun_putCore, coreOf_putCore, slotRun_putSlotRun]
  · rw [coreOf_putCore, coreOf_putSlotRun, coreOf_putCore]
    exact Core.landG_gIndex (s.coreOf g).next b 0

end
end State
end Sys2Proof.Machine

namespace Sys2Proof.Machine
namespace State

/-! ### LDSP, PCOMMIT and the landing instructions as a whole (R101, R169) -/

/-- Credits that travel back change the accounts only. -/
theorem foldl_giveBack_frame {α : Type} (l : List α) (f : α → Landing) (q : α → Nat) (s : State) :
    ∃ credits, l.foldl (fun s u => s.giveBack (f u) (q u)) s = { s with credits := credits } := by
  induction l generalizing s with
  | nil => exact ⟨s.credits, rfl⟩
  | cons u l ih =>
    obtain ⟨c, hc⟩ := ih (s.giveBack (f u) (q u))
    exact ⟨c, hc⟩

/-- The setpoint unit names axis `a` (R101). -/
def unitOfAxis (a : Nat) (u : Nat × List Word) : Bool := decide (wfld (u.2.getD 1 0) 4 0 = a)

/-- LDSP's copy of the newest setpoint of the bridge's axis: the unit stored, it and the older ones freed. -/
theorem ldspCopy_newest {s : State} {g : Nat} {ea : Word} (reg : Nat) {u : Nat × List Word}
    (hs : ((s.galOf g).setpoints.filter
      (unitOfAxis (s.brgAxis (s.slotBridge g (s.coreOf g).slotno)))).getLast? = some u) (hu : u.2.length = 16)
    (hi : s.bit MEM.INJCFG 16 = false) (hok : localStoreOk ea.toNat 64 = true) (hc : s.GoodCode (galBase g + ea.toNat) 64) :
    ∃ t x : State, s.ldspCopy g ea reg = (x.status g reg 1, .seq) ∧
      Stored (galBase g + ea.toNat) (bytesOf u.2) s t ∧ x.mem = t.mem ∧ x.regs = s.regs ∧ x.dramGen = t.dramGen ∧
      x.coreOf g = s.coreOf g ∧ (x.galOf g).setpoints = (s.galOf g).setpoints.filter
        (fun v => !unitOfAxis (s.brgAxis (s.slotBridge g (s.coreOf g).slotno)) v) ∧
      (x.slotRun g (s.coreOf g).slotno).lastSetpoint = u.2 := by
  obtain ⟨hseq, hst⟩ := storeLocal_good (s := s) (g := g) (ea := ea) (ws := unitWords u.2) hi
    (by rwa [unitWords_length]) (by rwa [unitWords_length]) (unitWords_ne u.2)
  rw [unitWords_of_length hu] at hst
  have hgal := galOf_congr hst.gal_eq g
  unfold unitOfAxis at hs
  unfold ldspCopy
  simp only [hs, hseq]
  rw [unitWords_of_length hu]
  obtain ⟨cr, hcr⟩ := foldl_giveBack_frame ((s.galOf g).setpoints.filter fun v =>
      decide (wfld (v.2.getD 1 0) 4 0 = s.brgAxis (s.slotBridge g (s.coreOf g).slotno))) (fun _ => .setpoint g) (·.1)
    ((s.storeLocal g ea u.2).1.putGal g { (s.storeLocal g ea u.2).1.galOf g with
      setpoints := (s.galOf g).setpoints.filter fun v =>
        !decide (wfld (v.2.getD 1 0) 4 0 = s.brgAxis (s.slotBridge g (s.coreOf g).slotno)) })
  rw [hcr]
  refine ⟨_, _, rfl, hst, rfl, hst.regs_eq, rfl, ?_, ?_, ?_⟩
  · rw [coreOf_putSlotRun]
    exact (coreOf_putGal _ _ _).trans (by rw [hgal, coreOf])
  · rw [galOf_putSlotRun]
    exact congrArg Gal.setpoints (galOf_putGal _ _ _)
  · rw [slotRun_putSlotRun]

/-- LDSP's copy of the previous setpoint. -/
theorem ldspCopy_previous {s : State} {g : Nat} {ea : Word} (reg : Nat)
    (hs : (s.galOf g).setpoints.filter (unitOfAxis (s.brgAxis (s.slotBridge g (s.coreOf g).slotno))) = [])
    (hu : (s.slotRun g (s.coreOf g).slotno).lastSetpoint.length = 16)
    (hi : s.bit MEM.INJCFG 16 = false) (hok : localStoreOk ea.toNat 64 = true) (hc : s.GoodCode (galBase g + ea.toNat) 64) :
    ∃ t : State, s.ldspCopy g ea reg = (t.status g reg 0, .seq) ∧
      Stored (galBase g + ea.toNat) (bytesOf (s.slotRun g (s.coreOf g).slotno).lastSetpoint) s t := by
  obtain ⟨hseq, hst⟩ := storeLocal_good (s := s) (g := g) (ea := ea)
    (ws := unitWords (s.slotRun g (s.coreOf g).slotno).lastSetpoint) hi
    (by rwa [unitWords_length]) (by rwa [unitWords_length]) (unitWords_ne _)
  unfold unitOfAxis at hs
  unfold ldspCopy
  simp only [hs, hseq, List.getLast?_nil]
  rw [unitWords_of_length hu] at hst ⊢
  exact ⟨_, rfl, hst⟩

section
variable {s : State} {g : Nat} {a b : BitVec 5} (h : s.GalQuiet g) (ht : (s.coreOf g).ctx = .tread)
include h ht

theorem ldsp_newest (hi : s.bit MEM.INJCFG 16 = false) (hok : localStoreOk ((s.coreOf g).g a).toNat 64 = true)
    (hc : s.GoodCode (galBase g + ((s.coreOf g).g a).toNat) 64) {u : Nat × List Word}
    (hs : ((s.galOf g).setpoints.filter
      (unitOfAxis (s.brgAxis (s.slotBridge g (s.coreOf g).slotno)))).getLast? = some u) (hu : u.2.length = 16) :
    Completes (.ldsp g a b) s fun t =>
      s.UnitCopied t (galBase g + ((s.coreOf g).g a).toNat) u.2 ∧ t.coreOf g = (s.coreOf g).next.setG b 1 ∧ t.regs = s.regs ∧
      (t.galOf g).setpoints = (s.galOf g).setpoints.filter
        (fun x => !unitOfAxis (s.brgAxis (s.slotBridge g (s.coreOf g).slotno)) x) ∧
      (t.slotRun g (s.coreOf g).slotno).lastSetpoint = u.2 := by
  obtain ⟨t, x, hx, hst, hmem, hregs, hgen, hcore, hset, hlast⟩ :=
    ldspCopy_newest (s := s.putCore g (s.coreOf g)) (g := g) (ea := (s.coreOf g).g a) (gIndex (s.coreOf g).ctx b.toNat) (u := u)
      (by rw [coreOf_putCore, slotBridge_putCore, galOf_putCore]; exact hs) hu hi hok hc
  rw [coreOf_putCore] at hcore hlast hset
  rw [slotBridge_putCore, galOf_putCore] at hset
  have hbyte : ∀ y, x.byte y = t.byte y := fun y => by rw [byte, hmem, hgen, byte]
  refine completes_status h ht rfl (x := x) (w := 1) hx hcore
    ⟨.of_stored hst hu (fun _ => rfl) fun y _ => hbyte y, coreOf_putCore _ _ _, hregs, ?_, ?_⟩
  · rw [galOf_putCore]
    exact hset
  · rw [slotRun_putCore, hlast]

theorem ldsp_previous (hi : s.bit MEM.INJCFG 16 = false) (hok : localStoreOk ((s.coreOf g).g a).toNat 64 = true)
    (hc : s.GoodCode (galBase g + ((s.coreOf g).g a).toNat) 64)
    (hs : (s.galOf g).setpoints.filter (unitOfAxis (s.brgAxis (s.slotBridge g (s.coreOf g).slotno))) = [])
    (hu : (s.slotRun g (s.coreOf g).slotno).lastSetpoint.length = 16) :
    Completes (.ldsp g a b) s fun t =>
      s.UnitCopied t (galBase g + ((s.coreOf g).g a).toNat) (s.slotRun g (s.coreOf g).slotno).lastSetpoint ∧
      t.coreOf g = (s.coreOf g).next.setG b 0 ∧ t.regs = s.regs := by
  obtain ⟨t, hx, hst⟩ :=
    ldspCopy_previous (s := s.putCore g (s.coreOf g)) (g := g) (ea := (s.coreOf g).g a) (gIndex (s.coreOf g).ctx b.toNat)
      (by rw [coreOf_putCore, slotBridge_putCore, galOf_putCore]; exact hs)
      (by rw [coreOf_putCore, slotRun_putCore]; exact hu) hi hok hc
  rw [coreOf_putCore, slotRun_putCore] at hst
  refine completes_status h ht rfl (x := t) (w := 0) hx ?_
    ⟨.of_stored hst hu (fun _ => rfl) fun y _ => rfl, coreOf_putCore _ _ _, hst.regs_eq⟩
  rw [coreOf_congr hst.gal_eq, coreOf_putCore]

end

end State
end Sys2Proof.Machine

namespace Sys2Proof.Machine
namespace State

/-- A load from local memory over good words hands its words on and changes nothing else. -/
theorem loadLocal_good {s : State} {g n : Nat} {ea : Word} (k : List Word → State → State)
    (hok : localLoadOk ea.toNat n = true) (hc : s.GoodCode (galBase g + ea.toNat) n) (hn : 0 < n) :
    s.loadLocal g ea n k = (k (leWords (n / 4) (s.bytes (galBase g + ea.toNat) n)) s, .seq) := by
  have h : s.loadLocal g ea n k = s.galLoad g (galBase g + ea.toNat) n ea k := if_pos hok
  rw [h, galLoad, readBytes_good hc _ _ hn]

/-- While no migration runs, plans are not compared. -/
theorem comparePlan_idle {s : State} (hm : s.busyOp MIG.MSTA = false) (b : Bool) (p : Plan) : s.comparePlan b p = s := by
  have h2 : s.phase MIG.MSTA ≠ 2 := by
    simp only [busyOp, Bool.or_eq_false_iff, decide_eq_false_iff_not] at hm
    exact hm.2
  unfold comparePlan
  dsimp only
  rw [if_pos (.inl h2)]

section
variable {s : State} {g : Nat} {p : Plan} (hst : s.galState g = 3) (hsh : (s.slotRun g p.slot).shadow = false)
include hst hsh

/-- A plan with credits joins the edge landing of its bridge (R26, R101). -/
theorem commitPlan_sent (hm : s.busyOp MIG.MSTA = false)
    (hc : s.hasCredit (.edge (s.brgRing p.bridge)) (s.brgPos p.bridge) p.units = true) :
    s.commitPlan g p = ((s.spend (.edge (s.brgRing p.bridge)) (s.brgPos p.bridge) p.units).putRing (s.brgRing p.bridge)
      { s.ringOf (s.brgRing p.bridge) with edge := (s.ringOf (s.brgRing p.bridge)).edge ++ [p] }, 0) := by
  have hm' : ((s.spend (.edge (s.brgRing p.bridge)) (s.brgPos p.bridge) p.units).putRing (s.brgRing p.bridge)
      { s.ringOf (s.brgRing p.bridge) with edge := (s.ringOf (s.brgRing p.bridge)).edge ++ [p] }).busyOp MIG.MSTA = false := by
    simp only [busyOp, phase, fld, putRing_rd, spend_rd] at hm ⊢
    exact hm
  have hidle := comparePlan_idle hm' false p
  unfold commitPlan
  rw [if_neg (by rw [hst, hsh]; decide)]
  dsimp only
  rw [if_pos hc]
  exact congrArg (·, 0) hidle

/-- A plan without credits is dropped, counted and reported (R101). -/
theorem commitPlan_dropped (hc : s.hasCredit (.edge (s.brgRing p.bridge)) (s.brgPos p.bridge) p.units = false) :
    s.commitPlan g p = ((s.count (GAL.PLANCNT g) 15 0).raiseFlt (pgGAL g) 18, 1) := by
  unfold commitPlan
  rw [if_neg (by rw [hst, hsh]; decide)]
  dsimp only
  rw [if_neg (by rw [hc]; decide)]

end

theorem planOf_putCore (s : State) (g n : Nat) (c : Core) (ws : List Word) :
    (s.putCore g c).planOf g n ws = s.planOf g n ws := by
  simp only [planOf, slotBridge_putCore, slotRun_putCore]
  rfl

theorem and_one_eq_one (v : Byte) : (v &&& 1 = 1) ↔ v.getLsbD 0 = true := by
  revert v
  decide

/-- The bytes of the plan unit that PCOMMIT reads at `ea` (R169). -/
def planLen (s : State) (g : Nat) (ea : Word) : Nat :=
  if (s.byte (galBase g + ea.toNat % 0x100000 + 1)).getLsbD 0 then 128 else 64

/-- PCOMMIT reads a plan over good words and gives the status of its commit. -/
theorem pcommitStep_good {s : State} {g : Nat} {ea : Word} (reg : Nat) (hok : localLoadOk ea.toNat (s.planLen g ea) = true)
    (hc : s.GoodCode (galBase g + ea.toNat) (s.planLen g ea)) :
    s.pcommitStep g ea reg =
      (let r := s.commitPlan g (s.planOf g (s.coreOf g).slotno
        (leWords (s.planLen g ea / 4) (s.bytes (galBase g + ea.toNat) (s.planLen g ea))))
       (r.1.status g reg r.2, .seq)) := by
  have hl : (if s.byte (galBase g + ea.toNat % 0x100000 + 1) &&& 1 = 1 then 128 else 64) = s.planLen g ea := by
    unfold planLen
    exact if_congr (and_one_eq_one _) rfl rfl
  unfold pcommitStep
  dsimp only
  rw [hl, loadLocal_good _ hok hc (by unfold planLen; split <;> omega)]

section
variable {s : State} {g : Nat} {a b : BitVec 5} (h : s.GalQuiet g) (ht : (s.coreOf g).ctx = .tread)
  (hst : s.galState g = 3) (hsh : (s.slotRun g (s.coreOf g).slotno).shadow = false)
  (hok : localLoadOk ((s.coreOf g).g a).toNat (s.planLen g ((s.coreOf g).g a)) = true)
  (hc : s.GoodCode (galBase g + ((s.coreOf g).g a).toNat) (s.planLen g ((s.coreOf g).g a)))
  {p : Plan} (hp : p = s.planOf g (s.coreOf g).slotno (leWords (s.planLen g ((s.coreOf g).g a) / 4)
    (s.bytes (galBase g + ((s.coreOf g).g a).toNat) (s.planLen g ((s.coreOf g).g a)))))
include h ht hst hsh hok hc hp

omit hst hsh in
/-- What PCOMMIT runs in a tread is the commit of the plan that it reads. -/
theorem completes_pcommit {P : State → Prop} {x : State} {w : Word}
    (hx : (s.putCore g (s.coreOf g)).commitPlan g p = (x, w)) (hcore : x.coreOf g = s.coreOf g)
    (hP : P (x.putCore g ((s.coreOf g).next.setG b w))) : Completes (.pcommit g a b) s P := by
  have hstep := pcommitStep_good (s := s.putCore g (s.coreOf g)) (g := g) (ea := (s.coreOf g).g a)
    (gIndex (s.coreOf g).ctx b.toNat) hok hc
  have hby : ∀ n, (s.putCore g (s.coreOf g)).bytes (galBase g + ((s.coreOf g).g a).toNat) n =
      s.bytes (galBase g + ((s.coreOf g).g a).toNat) n := fun n => bytes_congr fun _ _ => rfl
  rw [coreOf_putCore, planOf_putCore, hby] at hstep
  have hlen : (s.putCore g (s.coreOf g)).planLen g ((s.coreOf g).g a) = s.planLen g ((s.coreOf g).g a) := rfl
  rw [hlen, ← hp] at hstep
  dsimp only at hstep
  rw [hx] at hstep
  exact completes_status h ht rfl hstep hcore hP

theorem pcommit_sent (hm : s.busyOp MIG.MSTA = false)
    (hcr : s.hasCredit (.edge (s.brgRing p.bridge)) (s.brgPos p.bridge) p.units = true) :
    Completes (.pcommit g a b) s fun t =>
      (t.ringOf (s.brgRing p.bridge)).edge = (s.ringOf (s.brgRing p.bridge)).edge ++ [p] ∧
      t.coreOf g = (s.coreOf g).next.setG b 0 ∧ t.regs = s.regs ∧ t.mem = s.mem ∧
      (t.credit (.edge (s.brgRing p.bridge)) (s.brgPos p.bridge)).spent =
        (s.credit (.edge (s.brgRing p.bridge)) (s.brgPos p.bridge)).spent + p.units := by
  have hslot : p.slot = (s.coreOf g).slotno := by rw [hp, planOf]
  refine completes_pcommit h ht hok hc hp
    (commitPlan_sent hst (by rw [slotRun_putCore, hslot]; exact hsh) hm hcr) (coreOf_putCore _ _ _)
    ⟨?_, coreOf_putCore _ _ _, rfl, rfl, credit_spend_same _ _ _ _⟩
  exact congrArg Ring.edge (ringOf_putRing _ _ _)

theorem pcommit_dropped (hcr : s.hasCredit (.edge (s.brgRing p.bridge)) (s.brgPos p.bridge) p.units = false) :
    Completes (.pcommit g a b) s fun t =>
      t.ringOf (s.brgRing p.bridge) = s.ringOf (s.brgRing p.bridge) ∧ t.coreOf g = (s.coreOf g).next.setG b 1 ∧
      t.bit (HDR.FLT (pgGAL g)) 18 = true ∧
      t.fld (GAL.PLANCNT g) 15 0 = Nat.min 0xFFFF (s.fld (GAL.PLANCNT g) 15 0 + 1) := by
  have hslot : p.slot = (s.coreOf g).slotno := by rw [hp, planOf]
  have hrep := raiseFlt_reported (pgGAL g) ((s.putCore g (s.coreOf g)).count (GAL.PLANCNT g) 15 0) 18
  refine completes_pcommit h ht hok hc hp
    (commitPlan_dropped hst (by rw [slotRun_putCore, hslot]; exact hsh) hcr) ?_
    ⟨?_, coreOf_putCore _ _ _, bit_raiseFlt _ _ (by omega), ?_⟩
  · rw [coreOf_congr hrep.gal_eq, coreOf_congr (count_gal _ _ _ _ _), coreOf_putCore]
  · have hring := hrep.ring_eq
    rw [count_ring] at hring
    rw [ringOf, putCore_ring, hring]
    rfl
  · exact (hrep.fld_eq (PLANCNT_not_reports h.lt) 15 0).trans (fld_count_same _ 1 (by omega))

end

end State

/-- Settles O24: each landing instruction by its own rule, and a trap outside a tread. -/
theorem galLandingInstrs : Obligations.GalLandingInstrs := by
  intro s g a b h hi
  refine ⟨fun ht hok hc => ⟨fun p u hs hu => ?_, fun hs hsdl hu => ?_, fun u hs hu => ?_, fun hs hu => ?_⟩,
    fun ht hs hsdl => ?_, fun ht hst hsh hm hok hc => ⟨fun hcr => ?_, fun hcr => ?_⟩, fun ht => ?_, fun ht i hmem => ?_⟩
  · exact State.swait_sample h ht hi hok hc hs hu
  · exact State.swait_missing h ht hi hok hc hs hsdl hu
  · exact State.ldsp_newest h ht hi hok hc hs hu
  · exact State.ldsp_previous h ht hi hok hc hs hu
  · exact State.swait_stalls h ht hs hsdl
  · obtain ⟨t, he, h1, h2, h3, h4, h5⟩ := State.pcommit_sent (b := b) h ht hst hsh hok hc rfl hm hcr
    exact ⟨t, he, h1, h2, h3, h4, rfl, rfl, rfl, h5⟩
  · obtain ⟨t, he, h1, h2, h3, h4⟩ := State.pcommit_dropped (b := b) h ht hst hsh hok hc rfl hcr
    exact ⟨t, he, h1, h2, h3, h4⟩
  · exact State.obsr_residual h ht
  · simp only [List.mem_cons, List.not_mem_nil, or_false] at hmem
    rcases hmem with rfl | rfl | rfl | rfl <;>
      exact State.completes_landing h rfl (State.landing_illegal h ht a b _)

end Sys2Proof.Machine

namespace Sys2Proof.Machine

/-- Setting a bit is an OR with its power of two. -/
theorem wsetBit_true {n : Nat} (w : BitVec n) (i : Nat) : wsetBit w i true = w ||| BitVec.twoPow n i := by
  apply BitVec.eq_of_getLsbD_eq
  intro j hj
  rw [getLsbD_wsetBit, BitVec.getLsbD_or, BitVec.getLsbD_twoPow]
  by_cases h : j = i
  · subst h
    simp [hj]
  · have h' : i ≠ j := Ne.symm h
    simp [h, h']

/-- The lowest set bit is the set one below which none is set. -/
theorem lowestBit_eq_some {n : Nat} {w : BitVec n} {m k : Nat} (hk : k < m) (hs : w.getLsbD k = true)
    (hl : ∀ j < k, w.getLsbD j = false) : lowestBit m w.toNat = some k := by
  unfold lowestBit
  rw [List.find?_range_eq_some]
  exact ⟨hs, List.mem_range.2 hk, fun j hj => by rw [← BitVec.getLsbD, hl j hj]; rfl⟩

namespace State

/-! ### Clock and interrupts (R22, R94, R105) -/

section
variable (g n : Nat) (s : State)

theorem coreOf_startClock : (s.startClock g).coreOf g = { s.coreOf g with waiti := false } := by
  unfold startClock
  dsimp only
  rw [coreOf_putCore]
  split <;> rfl

theorem rd_startClock {j : Nat} (h : j ≠ HDR.STA (pgGAL g)) : (s.startClock g).rd j = s.rd j := by
  unfold startClock
  dsimp only
  rw [putCore_rd]
  split
  · exact rd_setFld_ne s _ _ _ h
  · rfl

theorem mem_startClock : (s.startClock g).mem = s.mem := by
  unfold startClock
  dsimp only
  rw [putCore_mem]
  split <;> rfl

theorem galOf_startClock : (s.startClock g).galOf g = { s.galOf g with core := { s.coreOf g with waiti := false } } := by
  unfold startClock
  dsimp only
  rw [galOf_putCore]
  split <;> rfl

/-- PWRSTATE goes from IDLE to ACTIVE, and stays where it is else (R22). -/
theorem fld_startClock : (s.startClock g).fld (HDR.STA (pgGAL g)) 10 8 =
    if s.fld (HDR.STA (pgGAL g)) 10 8 = 2 then 3 else s.fld (HDR.STA (pgGAL g)) 10 8 := by
  unfold startClock
  dsimp only
  split
  · exact fld_setFld_same s 3 (by omega)
  · rfl

theorem coreOf_raiseIrq : ∃ q w, (s.raiseIrq g n).coreOf g =
    { s.coreOf g with ipend := wsetBit (s.coreOf g).ipend n true, irqSince := q, waiti := w } := by
  unfold raiseIrq
  dsimp only
  split
  · rw [coreOf_startClock, coreOf_putCore]
    exact ⟨_, _, rfl⟩
  · rw [coreOf_putCore]
    exact ⟨_, _, rfl⟩

theorem rd_raiseIrq {j : Nat} (h : j ≠ HDR.STA (pgGAL g)) : (s.raiseIrq g n).rd j = s.rd j := by
  unfold raiseIrq
  dsimp only
  split
  · rw [rd_startClock _ _ h, putCore_rd]
  · rfl

theorem mem_raiseIrq : (s.raiseIrq g n).mem = s.mem := by
  unfold raiseIrq
  dsimp only
  split
  · rw [mem_startClock, putCore_mem]
  · rfl

end

theorem STA_not_reports {g : Nat} (hg : g < 18) : ¬ reports (pgGAL g) (HDR.STA (pgGAL g)) := by
  simp only [reports, reportWord, HDR.FLT, HDR.EVT, HDR.STA, MEM.INJCFG, pgGAL, pgREC, pgACQ, pgNVM, pgMEM, regAt]
  omega

theorem lt_of_galleries {v : Variant} {g : Nat} (h : g < v.galleries) : g < 18 := by
  unfold Variant.galleries at h
  split at h <;> omega

/-- A row of a built gallery completes with its effect. -/
theorem completes_onGal {s : State} {g : Nat} {i : Instr} {f : State → State} {P : State → Prop} (hg : g < s.variant.galleries)
    (he : exec i s = onGal g f s) (hp : P (f s)) : Completes i s P :=
  ⟨_, by rw [he]; unfold onGal onUnit; rw [if_pos (decide_eq_true hg)], hp⟩

section
variable {s : State} {g : Nat} (hg : g < s.variant.galleries)
include hg

/-- INTERRUPT_ENTRY (R94, R96). -/
theorem interruptEntry_enters {k : Nat} (hk : k < 8)
    (hb : ((s.coreOf g).ipend &&& (s.coreOf g).imask).getLsbD k = true)
    (hl : ∀ j < k, ((s.coreOf g).ipend &&& (s.coreOf g).imask).getLsbD j = false)
    (hst : s.galState g = 3 ∨ s.galState g = 9) (hctx : (s.coreOf g).ctx = .background) (hi : s.interruptible g = true) :
    Completes (.interruptEntry g) s fun t =>
      (t.coreOf g).ctx = .interrupt ∧ (t.coreOf g).pc = BitVec.ofNat 32 (8 * k) ∧ (t.coreOf g).ipc = (s.coreOf g).pc ∧
      (t.coreOf g).ipend.getLsbD k = false ∧ (t.coreOf g).stack = .background :: (s.coreOf g).stack ∧
      (k = 1 → t.bit (GAL.DOORBELL g) 0 = false) ∧ t.mem = s.mem := by
  apply completes_onGal hg (show exec (.interruptEntry g) s = execInterruptEntry g s from rfl)
  dsimp only
  rw [lowestBit_eq_some hk hb hl]
  dsimp only
  rw [if_pos ⟨hst, hctx, hi⟩]
  set s1 := s.startClock g with hs1
  have hc1 : s1.coreOf g = { s.coreOf g with waiti := false } := coreOf_startClock g s
  have hm1 : s1.mem = s.mem := mem_startClock g s
  clear_value s1
  simp only [enterCtx, coreOf_putCore, putCore_putCore, hc1, hctx]
  refine ⟨trivial, trivial, trivial, ?_, trivial, fun h1 => ?_, ?_⟩
  · rw [getLsbD_wsetBit, if_pos ⟨hk, rfl⟩]
  · rw [if_pos h1]
    exact bit_setBit_same _ _ (by omega)
  · rw [putCore_mem]
    split
    · rw [setBit_mem]
      split <;> exact hm1
    · split <;> exact hm1

end

end State
end Sys2Proof.Machine

namespace Sys2Proof.Machine
namespace State

/-! ### Traps that come from outside the program (R98, R99) -/

/-- A trap in the trap context holds the gallery (R98). -/
theorem takeTrap_double {g : Nat} {cause : TrapCause} {addr : Option Word} {pcv : Word} {dslot : Bool} {s : State}
    (hg : g < 18) (hctx : (s.coreOf g).ctx = .trap) (hc : cause ≠ .fetchUe) (hb : cause ≠ .budget) :
    let t := takeTrap g cause addr pcv dslot s
    t.galState g = 6 ∧ t.bit (HDR.FLT (pgGAL g)) 21 = true ∧
      t.rd (GAL.XINFO g) = BitVec.ofNat 32 (trapCode cause + (s.coreOf g).slotno % 8 * 256 + 2048 + b01 dslot * 4096) := by
  have hxinfo := (rd_trapReport g cause addr pcv dslot s hg (off := 0x48) (by omega) (by omega) (by omega)).trans
    (rd_trapWords_XINFO g cause addr pcv dslot s)
  rw [takeTrap_eq]
  simp only [hctx, hc, hb, decide_true, if_true, if_false, b01, Nat.one_mul] at hxinfo ⊢
  set r := s.trapReport g cause addr pcv dslot
  have hrep := raiseFlt_reported (pgGAL g) (r.setFld (HDR.STA (pgGAL g)) 3 0 6) 21
  refine ⟨?_, bit_raiseFlt _ _ (by omega), ?_⟩
  · exact (hrep.fld_eq (STA_not_reports hg) 3 0).trans (fld_setFld_same r 6 (by omega))
  · refine (hrep.rd _ (gal_body_not_reports hg (by omega) (by omega))).trans ?_
    exact (rd_setFld_ne r _ _ _ (by simp only [HDR.STA, regAt]; omega)).trans hxinfo

/-- A fetch error holds the gallery with no handler (R99). -/
theorem takeTrap_fetchUe {g : Nat} {pcv : Word} {dslot : Bool} {s : State} (hg : g < 18) :
    let t := takeTrap g .fetchUe none pcv dslot s
    t.galState g = 6 ∧ t.fld (GAL.XINFO g) 7 0 = 4 ∧ t.bit (HDR.FLT (pgGAL g)) 22 = true ∧
      t.bit (HDR.FLT (pgGAL g)) 4 = true ∧ (t.coreOf g).gpr = (s.coreOf g).gpr := by
  obtain ⟨p, q, w, hcore⟩ := coreOf_trapReport g .fetchUe none pcv dslot s
  have hflt := fun b (hb : b ∈ trapFlts .fetchUe) => bit_trapReport g .fetchUe none pcv dslot s hb
  have hxinfo := (rd_trapReport g .fetchUe none pcv dslot s hg (off := 0x48) (by omega) (by omega) (by omega)).trans
    (rd_trapWords_XINFO g .fetchUe none pcv dslot s)
  rw [takeTrap_eq]
  simp only [reduceCtorEq, if_true, if_false]
  set r := s.trapReport g .fetchUe none pcv dslot
  have hne : ∀ off, off ≠ 0x10 → (r.setFld (HDR.STA (pgGAL g)) 3 0 6).rd (regAt (pgGAL g) off) = r.rd (regAt (pgGAL g) off) :=
    fun off h => rd_setFld_ne r _ _ _ (by simp only [HDR.STA, regAt]; omega)
  refine ⟨fld_setFld_same r 6 (by omega), ?_, ?_, ?_, ?_⟩
  · have h1 : ∀ b : Bool, b01 b < 2 := fun b => by cases b <;> decide
    have h2 := h1 (decide ((s.coreOf g).ctx = .trap))
    have h3 := h1 dslot
    have hx := (hne 0x48 (by omega)).trans hxinfo
    rw [fld, GAL.XINFO, hx, wfld_ofNat _ _ _ _ (by simp only [trapCode]; omega)]
    simp only [trapCode, Nat.shiftRight_zero]
    omega
  · exact (bit_congr (hne 0x14 (by omega)) 22).trans (hflt 22 (by decide))
  · exact (bit_congr (hne 0x14 (by omega)) 4).trans (hflt 4 (by decide))
  · rw [coreOf_congr (setFld_gal _ _ _ _ _), hcore]

section
variable {s : State} {g : Nat} (hg : g < s.variant.galleries)
include hg

/-- A precise trap at the instruction to issue, in no delay slot (R98). -/
theorem trapHere_trapped {cause : TrapCause} (addr : Option Word) (hs : (s.coreOf g).slotOf = none)
    (hctx : (s.coreOf g).ctx ≠ .trap) (hc : cause ≠ .fetchUe) :
    Trapped g cause addr (s.coreOf g).pc false s (s.trapHere g cause addr) := by
  unfold trapHere
  dsimp only
  rw [hs]
  exact takeTrap_trapped (lt_of_galleries hg) hctx hc

/-- TRAP_ENTRY of the causes that trap at the instruction to issue. -/
theorem trapEntry_precise {cause : TrapCause} {x : Word} {addr : Option Word} {P : State → Prop}
    (hi : s.galIssues g = true) (hP : P (s.trapHere g cause addr))
    (hc : (cause = .illegal ∧ addr = none) ∨ ((cause = .access ∨ cause = .dataUe ∨ cause = .storeUe) ∧ addr = some x)) :
    Completes (.trapEntry g cause x) s P := by
  apply completes_onGal hg (show exec (.trapEntry g cause x) s = execTrapEntry g cause x s from rfl)
  dsimp only
  rw [if_pos hi]
  rcases hc with ⟨rfl, rfl⟩ | ⟨rfl | rfl | rfl, rfl⟩ <;> exact hP

theorem trapEntry_accsat {x : Word} (hi : s.galIssues g = true) (hctx : (s.coreOf g).ctx ≠ .trap)
    (hd : (s.coreOf g).deferred = []) (hp : s.interruptible g = true) :
    Completes (.trapEntry g .accsat x) s fun t => s.TrapTaken t g 8 (s.coreOf g).pc := by
  apply completes_onGal hg (show exec (.trapEntry g .accsat x) s = execTrapEntry g .accsat x s from rfl)
  dsimp only
  rw [if_pos hi, hd, List.nil_append]
  have hp' : (s.putCore g { s.coreOf g with deferred := [.accsat] }).interruptible g = true := by
    unfold interruptible at hp ⊢
    rw [coreOf_putCore]
    exact hp
  unfold takeDeferred
  rw [if_pos hp']
  simp only [coreOf_putCore, putCore_putCore]
  have ht := takeTrap_trapped (addr := none) (pcv := (s.coreOf g).pc) (dslot := false) (cause := .accsat)
    (s := s.putCore g { s.coreOf g with deferred := [] }) (lt_of_galleries hg) (by rwa [coreOf_putCore]) (by decide)
  obtain ⟨h1, h2, h3, h4, h5, h6, h7⟩ := ht.taken (by decide)
  rw [coreOf_putCore] at h2 h4 h6
  exact ⟨h1, h2, h3, h4, h5, h6, h7⟩

/-- TRAP_ENTRY in the trap context is a double trap. -/
theorem trapEntry_double {x : Word} (hi : s.galIssues g = true) (hctx : (s.coreOf g).ctx = .trap) :
    Completes (.trapEntry g .illegal x) s fun t => s.galState g ≠ 6 ∧ t.galState g = 6 ∧
      t.bit (HDR.FLT (pgGAL g)) 21 = true ∧ t.bit (GAL.XINFO g) 11 = true := by
  have hst : s.galState g ≠ 6 := by
    intro h6
    unfold galIssues at hi
    rw [h6] at hi
    exact absurd hi (by simp)
  have hbit : ∀ (d : Bool), (BitVec.ofNat 32 (trapCode .illegal + (s.coreOf g).slotno % 8 * 256 + 2048 + b01 d * 4096)).getLsbD 11 = true := by
    intro d
    have hd : b01 d < 2 := by cases d <;> decide
    simp only [BitVec.getLsbD_ofNat, Nat.testBit_eq_decide_div_mod_eq, trapCode, Bool.and_eq_true, decide_eq_true_eq]
    omega
  have key : ∀ pcv d, let t := takeTrap g .illegal none pcv d s
      s.galState g ≠ 6 ∧ t.galState g = 6 ∧ t.bit (HDR.FLT (pgGAL g)) 21 = true ∧ t.bit (GAL.XINFO g) 11 = true := by
    intro pcv d
    obtain ⟨h1, h2, h3⟩ := takeTrap_double (addr := none) (pcv := pcv) (dslot := d) (cause := .illegal)
      (lt_of_galleries hg) hctx (by decide) (by decide)
    exact ⟨hst, h1, h2, by rw [bit, h3]; exact hbit d⟩
  refine trapEntry_precise hg hi ?_ (.inl ⟨rfl, rfl⟩)
  unfold trapHere
  dsimp only
  split
  · exact key _ true
  · exact key _ false

omit hg in
/-- The budget of a tread that is in no delay slot runs out: a trap at the instruction to issue. -/
theorem budgetTrap_tread (hctx : (s.coreOf g).ctx = .tread) (hs : (s.coreOf g).slotOf = none)
    (hb : (s.coreOf g).budgetGone = false) : s.budgetTrap g =
      takeTrap g .budget none (s.coreOf g).pc false (s.putCore g { s.coreOf g with budgetGone := true }) := by
  unfold budgetTrap
  dsimp only
  rw [if_neg (by simp [hb]), if_pos hctx]
  split
  case h_1 _ b h => exact absurd (hs.symm.trans h) (by simp)
  case h_2 => rfl

/-- BUDGET_EXPIRY in a tread (R99). -/
theorem budgetExpiry_trapped (hst : s.galState g = 3 ∨ s.galState g = 9) (hctx : (s.coreOf g).ctx = .tread)
    (hs : (s.coreOf g).slotOf = none) (hb : (s.coreOf g).budgetGone = false) :
    Completes (.budgetExpiry g) s fun t => t.rd (GAL.XPC g) = (s.coreOf g).pc ∧ t.fld (GAL.XINFO g) 7 0 = 7 ∧
      (t.coreOf g).ctx = .trap ∧ (t.coreOf g).pc = 0x40 ∧ t.bit (HDR.FLT (pgGAL g)) 19 = true ∧
      t.fld (GAL.PLANCNT g) 31 16 = Nat.min 0xFFFF (s.fld (GAL.PLANCNT g) 31 16 + 1) := by
  apply completes_onGal hg (show exec (.budgetExpiry g) s = execBudgetExpiry g s from rfl)
  rw [if_pos hst]
  rw [budgetTrap_tread hctx hs hb]
  generalize hcd : { s.coreOf g with budgetGone := true } = c
  have ht := takeTrap_trapped (addr := none) (pcv := (s.coreOf g).pc) (dslot := false) (cause := .budget)
    (s := s.putCore g c) (lt_of_galleries hg) (by rw [coreOf_putCore, ← hcd]; simp [hctx]) (by decide)
  have hplan := ht.plancnt.trans (if_pos rfl)
  rw [fld_congr (putCore_rd s g c (GAL.PLANCNT g))] at hplan
  refine ⟨ht.xpc, ?_, ht.ctx, ht.pc, ht.flt 19 (by decide), hplan⟩
  rw [fld, ht.xinfo, wfld_ofNat _ _ _ _ (by simp only [trapCode, b01]; split <;> omega)]
  simp only [trapCode, b01, Bool.false_eq_true, if_false, Nat.shiftRight_zero]
  omega

/-- A fetch error at the instruction to issue, in a delay slot or not. -/
theorem trapHere_fetchUe {r : State} (hr : r.gal = s.gal) : let t := r.trapHere g .fetchUe none
    t.galState g = 6 ∧ t.fld (GAL.XINFO g) 7 0 = 4 ∧ t.bit (HDR.FLT (pgGAL g)) 22 = true ∧
      t.bit (HDR.FLT (pgGAL g)) 4 = true ∧ (t.coreOf g).gpr = (s.coreOf g).gpr := by
  have key : ∀ pcv d, let t := takeTrap g .fetchUe none pcv d r
      t.galState g = 6 ∧ t.fld (GAL.XINFO g) 7 0 = 4 ∧ t.bit (HDR.FLT (pgGAL g)) 22 = true ∧
        t.bit (HDR.FLT (pgGAL g)) 4 = true ∧ (t.coreOf g).gpr = (s.coreOf g).gpr := by
    intro pcv d
    obtain ⟨h1, h2, h3, h4, h5⟩ := takeTrap_fetchUe (pcv := pcv) (dslot := d) (s := r) (lt_of_galleries hg)
    exact ⟨h1, h2, h3, h4, h5.trans (by rw [coreOf_congr hr])⟩
  unfold trapHere
  dsimp only
  split
  · exact key _ true
  · exact key _ false

/-- FETCH_UE (R99, R330). -/
theorem fetchUe_holds (hi : s.galIssues g = true) : Completes (.fetchUe g) s fun t =>
    t.galState g = 6 ∧ t.fld (GAL.XINFO g) 7 0 = 4 ∧ t.bit (HDR.FLT (pgGAL g)) 22 = true ∧
    t.bit (HDR.FLT (pgGAL g)) 4 = true ∧ (t.coreOf g).gpr = (s.coreOf g).gpr := by
  apply completes_onGal hg (show exec (.fetchUe g) s = execFetchUe g s from rfl)
  dsimp only
  rw [if_pos hi]
  generalize (galBase g + (s.coreOf g).pc.toNat % 0x10000) / 8 = w
  exact trapHere_fetchUe hg (noteUe_gal w (galRequester g) s)

/-- SAMPLE_DEADLINE with no SWAIT stalled (R101). -/
theorem sampleDeadline_noted (hw : (s.coreOf g).swait = none) (hctx : (s.coreOf g).ctx = .tread) :
    Completes (.sampleDeadline g) s fun t => (t.slotRun g (s.coreOf g).slotno).sdlPassed = true ∧ t.regs = s.regs ∧
      t.mem = s.mem ∧ t.coreOf g = s.coreOf g := by
  apply completes_onGal hg (show exec (.sampleDeadline g) s = execSampleDeadline g s from rfl)
  dsimp only
  rw [hw, if_neg (by simp), if_pos hctx]
  exact ⟨by rw [slotRun_putSlotRun], rfl, rfl, coreOf_putSlotRun _ _ _ _⟩

/-- DOORBELL (R94, R105). -/
theorem doorbell_rings : Completes (.doorbell g) s fun t => (t.coreOf g).ipend = (s.coreOf g).ipend ||| 2 ∧
    t.bit (GAL.DOORBELL g) 0 = true ∧ (t.coreOf g).waiti = false ∧ (t.coreOf g).pc = (s.coreOf g).pc ∧ t.mem = s.mem := by
  apply completes_onGal hg (show exec (.doorbell g) s = execDoorbell g s from rfl)
  obtain ⟨q, w, hc⟩ := coreOf_raiseIrq g 1 (s.setBit (GAL.DOORBELL g) 0 true)
  have hne : GAL.DOORBELL g ≠ HDR.STA (pgGAL g) := by simp only [GAL.DOORBELL, HDR.STA, regAt]; omega
  refine ⟨?_, ?_, ?_, ?_, ?_⟩
  · rw [coreOf_startClock, hc]
    exact wsetBit_true _ 1
  · rw [bit_congr (rd_startClock g _ hne), bit_congr (rd_raiseIrq g 1 _ hne), bit_setBit_same _ _ (by omega)]
  · rw [coreOf_startClock]
  · rw [coreOf_startClock, hc]
    rfl
  · rw [mem_startClock, mem_raiseIrq, setBit_mem]

/-- LOCAL_TIMER (R94). -/
theorem localTimer_pends : Completes (.localTimer g) s fun t => (t.coreOf g).ipend = (s.coreOf g).ipend ||| 16 ∧
    (t.coreOf g).pc = (s.coreOf g).pc ∧ t.mem = s.mem := by
  apply completes_onGal hg (show exec (.localTimer g) s = execLocalTimer g s from rfl)
  obtain ⟨q, w, hc⟩ := coreOf_raiseIrq g 4 s
  exact ⟨by rw [hc]; exact wsetBit_true _ 4, by rw [hc], mem_raiseIrq g 4 s⟩

/-- FAST_CLOCK_REQUEST (R22). -/
theorem fastClockRequest_starts : Completes (.fastClockRequest g) s fun t =>
    t.coreOf g = { s.coreOf g with waiti := false } ∧ t.mem = s.mem ∧
    t.fld (HDR.STA (pgGAL g)) 10 8 = if s.fld (HDR.STA (pgGAL g)) 10 8 = 2 then 3 else s.fld (HDR.STA (pgGAL g)) 10 8 := by
  apply completes_onGal hg (show exec (.fastClockRequest g) s = execFastClockRequest g s from rfl)
  exact ⟨coreOf_startClock g s, mem_startClock g s, fld_startClock g s⟩

end

/-- A gallery's store over good words goes through, and touches no gallery. -/
theorem galStore_seq {s : State} {g a : Nat} {ea : Word} {ws : List Word} (hc : s.GoodCode a (4 * ws.length))
    (hw : ws ≠ []) : (s.galStore g a ea ws).2 = .seq ∧ (s.galStore g a ea ws).1.gal = s.gal := by
  have hpos : 0 < ws.length := List.length_pos_iff.2 hw
  unfold galStore
  rw [storeUe_good hc (by omega)]
  exact ⟨rfl, writeBytes_gal _ _ _ s⟩

/-- A store to data memory over good words goes through, and touches no gallery. -/
theorem storeLocal_seq {s : State} {g : Nat} {ea : Word} {ws : List Word}
    (hok : localStoreOk ea.toNat (4 * ws.length) = true) (hc : s.GoodCode (galBase g + ea.toNat) (4 * ws.length))
    (hw : ws ≠ []) : (s.storeLocal g ea ws).2 = .seq ∧ (s.storeLocal g ea ws).1.gal = s.gal := by
  have h : s.storeLocal g ea ws = s.galStore g (galBase g + ea.toNat) ea ws := if_pos hok
  rw [h]
  exact galStore_seq hc hw

/-- SAMPLE_DEADLINE ends a stalled SWAIT with the previous sample (R101). -/
theorem sampleDeadline_resumes {s : State} {g : Nat} (hg : g < s.variant.galleries) {ea : Word} {reg : Nat}
    (hw : (s.coreOf g).swait = some (ea, reg)) (hq : (s.putCore g { s.coreOf g with swait := none }).GalQuiet g)
    (hs : s.sampleFor g (s.slotBridge g (s.coreOf g).slotno) = none) (hok : localStoreOk ea.toNat 64 = true)
    (hc : s.GoodCode (galBase g + ea.toNat) 64) :
    Completes (.sampleDeadline g) s fun t => (t.coreOf g).pc = (s.coreOf g).pc + 4 ∧ (t.coreOf g).swait = none ∧
      (t.slotRun g (s.coreOf g).slotno).missing = true ∧ t.bit (HDR.FLT (pgGAL g)) 16 = true := by
  apply completes_onGal hg (show exec (.sampleDeadline g) s = execSampleDeadline g s from rfl)
  have hstill := hq.still
  dsimp only
  rw [hw, if_pos (by simp), swaitResume, hw]
  dsimp only
  set s1 := s.putCore g { s.coreOf g with swait := none } with hs1
  have hc1 : s1.coreOf g = { s.coreOf g with swait := none } := coreOf_putCore _ _ _
  have hsf : s1.sampleFor g (s1.slotBridge g (s1.coreOf g).slotno) = none := by
    rw [hc1, hs1, slotBridge_putCore, sampleFor_putCore, hs]
  obtain ⟨hseq, hgal⟩ := storeLocal_seq (s := s1) (g := g) (ea := ea)
    (ws := unitWords (s1.slotRun g (s1.coreOf g).slotno).lastSample) (by rwa [unitWords_length])
    (by rw [unitWords_length]; exact hc) (unitWords_ne _)
  rw [swaitCopy_missing reg hsf hseq]
  dsimp only
  set run := s1.slotRun g (s1.coreOf g).slotno
  generalize (s1.storeLocal g ea (unitWords run.lastSample)).1 = t at hgal
  set t2 := t.putSlotRun g (s1.coreOf g).slotno { run with missing := true, overrun := false } with ht2
  have hgal2 : ((t2.count (GAL.MISSCNT g) 15 0).raiseFlt (pgGAL g) 16).gal = t2.gal := by rw [raiseFlt_gal, count_gal]
  have hcore : ((t2.count (GAL.MISSCNT g) 15 0).raiseFlt (pgGAL g) 16).coreOf g = s1.coreOf g := by
    rw [coreOf_congr hgal2, ht2, coreOf_putSlotRun, coreOf_congr hgal]
  rw [endCycle_status (by rw [hcore]; exact hstill), hcore, hc1]
  have hland : ∀ (c : Core) (w : Word), (c.landG reg w).pc = c.pc ∧ (c.landG reg w).swait = c.swait := fun c w => by
    unfold Core.landG
    split <;> exact ⟨rfl, rfl⟩
  refine ⟨?_, ?_, ?_, bit_raiseFlt _ _ (by omega)⟩
  · rw [coreOf_putCore, (hland _ _).1]
    rfl
  · rw [coreOf_putCore, (hland _ _).2]
    rfl
  · rw [slotRun_putCore, slotRun_congr hgal2, ht2, hc1, slotRun_putSlotRun]

end State

/-- Settles O26: each entry to a gallery by its own rule. -/
theorem galEntries : Obligations.GalEntries := by
  intro s g hg
  refine ⟨fun k hk hb hl hst hctx hi => State.interruptEntry_enters hg hk hb hl hst hctx hi,
    fun x hi hs hctx => ⟨?_, ?_, ?_, ?_, fun hd hp => State.trapEntry_accsat hg hi hctx hd hp⟩,
    fun x hi hctx => State.trapEntry_double hg hi hctx,
    fun hst hctx hs hb => State.budgetExpiry_trapped hg hst hctx hs hb,
    fun hi => State.fetchUe_holds hg hi,
    fun hw hctx => State.sampleDeadline_noted hg hw hctx,
    fun ea reg hw hq hs hok hc => State.sampleDeadline_resumes hg hw hq hs hok hc,
    State.doorbell_rings hg, State.localTimer_pends hg, State.fastClockRequest_starts hg⟩
  · have h := State.trapHere_trapped hg (cause := .illegal) none hs hctx (by decide)
    exact State.trapEntry_precise hg hi (h.taken (by decide)) (.inl ⟨rfl, rfl⟩)
  · have h := State.trapHere_trapped hg (cause := .access) (some x) hs hctx (by decide)
    exact State.trapEntry_precise hg hi ⟨h.taken (by decide), h.xaddr x rfl⟩ (.inr ⟨.inl rfl, rfl⟩)
  · have h := State.trapHere_trapped hg (cause := .dataUe) (some x) hs hctx (by decide)
    exact State.trapEntry_precise hg hi ⟨h.taken (by decide), h.xaddr x rfl, h.flt 4 (by decide)⟩
      (.inr ⟨.inr (.inl rfl), rfl⟩)
  · have h := State.trapHere_trapped hg (cause := .storeUe) (some x) hs hctx (by decide)
    exact State.trapEntry_precise hg hi ⟨h.taken (by decide), h.xaddr x rfl⟩ (.inr ⟨.inr (.inr rfl), rfl⟩)

end Sys2Proof.Machine

namespace Sys2Proof.Machine

/-- A field whose bits are an extract's. -/
theorem wfld_eq_extract {n : Nat} (w : BitVec n) {hi lo k : Nat} (h : hi + 1 - lo = k) :
    wfld w hi lo = (w.extractLsb' lo k).toNat := by
  subst h
  rw [wfld, BitVec.extractLsb'_toNat]

theorem loWord_eq_extract (v : Word64) : loWord v = v.extractLsb' 0 32 := by
  apply BitVec.eq_of_toNat_eq
  rw [loWord, BitVec.toNat_setWidth, BitVec.extractLsb'_toNat, Nat.shiftRight_zero]

namespace State

/-! ### What arrives at a gallery's landings (R28, R94) -/

theorem byte_startClock (g : Nat) (s : State) (a : Nat) : (s.startClock g).byte a = s.byte a := by
  unfold startClock
  dsimp only
  rw [putCore_byte]
  split <;> rfl

theorem credits_startClock (g : Nat) (s : State) : (s.startClock g).credits = s.credits := by
  unfold startClock
  dsimp only
  rw [putCore_credits]
  split <;> rfl

/-- An interrupt source changes the core alone of its gallery. -/
theorem galOf_raiseIrq (g n : Nat) (s : State) : ∃ c, (s.raiseIrq g n).galOf g = { s.galOf g with core := c } := by
  unfold raiseIrq
  dsimp only
  split
  · rw [galOf_startClock, galOf_putCore]
    exact ⟨_, rfl⟩
  · rw [galOf_putCore]
    exact ⟨_, rfl⟩

theorem credits_raiseIrq (g n : Nat) (s : State) : (s.raiseIrq g n).credits = s.credits := by
  unfold raiseIrq
  dsimp only
  split
  · rw [credits_startClock, putCore_credits]
  · rfl

/-- Marks on a gallery's slots touch no register, no byte and no sample. -/
theorem foldl_slotMarks (g : Nat) {f : State → Nat → State} (hf : ∀ s n, f s n = s ∨ ∃ x, f s n = s.putSlotRun g n x)
    (l : List Nat) (s : State) : let t := l.foldl f s
    (∀ j, t.rd j = s.rd j) ∧ (∀ a, t.byte a = s.byte a) ∧ (t.galOf g).samples = (s.galOf g).samples := by
  induction l generalizing s with
  | nil => exact ⟨fun _ => rfl, fun _ => rfl, rfl⟩
  | cons n l ih =>
    obtain ⟨h1, h2, h3⟩ := ih (f s n)
    obtain h | ⟨x, h⟩ := hf s n
    · rw [h] at h1 h2 h3
      rw [List.foldl_cons, h]
      exact ⟨h1, h2, h3⟩
    · rw [h] at h1 h2 h3
      rw [List.foldl_cons, h]
      exact ⟨h1, h2, by rw [h3, galOf_putSlotRun]⟩

section
variable {s : State} {g : Nat} (hg : g < s.variant.galleries)
include hg

/-- A sample unit that its producer's credit admits, with no SWAIT stalled (R28, R101). -/
theorem sampleUnit_joins {p : Nat} {u : List Word} (hu : u.length = 16) (hw : (s.coreOf g).swait = none)
    (hc : s.hasCredit (.sample g) p = true) : Completes (.sampleUnitArrival g p u) s fun t =>
      (t.galOf g).samples = (s.galOf g).samples ++ [(p, u)] ∧
      (t.credit (.sample g) p).spent = (s.credit (.sample g) p).spent + 1 ∧ t.regs = s.regs ∧ t.mem = s.mem ∧
      t.coreOf g = s.coreOf g := by
  apply completes_onGal hg (show exec (.sampleUnitArrival g p u) s = execSampleUnitArrival g p u s from rfl)
  unfold sampleArrive
  rw [if_pos hc]
  have hsp : (s.spend (.sample g) p).galOf g = s.galOf g := rfl
  dsimp only
  rw [hsp, coreOf_putGal]
  have hw' : (s.galOf g).core.swait = none := hw
  rw [hw', if_neg (by simp), unitWords_of_length hu]
  exact ⟨by rw [galOf_putGal], credit_spend_same s _ _ 1, rfl, rfl, coreOf_putGal _ _ _⟩

/-- A sample unit with no credit is counted and reported (R28). -/
theorem sampleUnit_dropped {p : Nat} {u : List Word} (hc : s.hasCredit (.sample g) p = false) :
    Completes (.sampleUnitArrival g p u) s fun t =>
      (t.galOf g).samples = (s.galOf g).samples ∧ t.bit (HDR.FLT (pgGAL g)) 17 = true ∧
      t.fld (GAL.MISSCNT g) 31 16 = Nat.min 0xFFFF (s.fld (GAL.MISSCNT g) 31 16 + 1) ∧ SameBytes s.recRing s t := by
  apply completes_onGal hg (show exec (.sampleUnitArrival g p u) s = execSampleUnitArrival g p u s from rfl)
  unfold sampleArrive
  rw [if_neg (by simp [hc])]
  dsimp only
  have hg18 := lt_of_galleries hg
  have hrep := raiseFlt_reported (pgGAL g) (s.count (GAL.MISSCNT g) 31 16) 17
  set r := (s.count (GAL.MISSCNT g) 31 16).raiseFlt (pgGAL g) 17 with hr
  obtain ⟨hrd, hbyte, hsamples⟩ := foldl_slotMarks g
    (f := fun s n => if s.slotOn g n ∧ s.slotBridge g n = wfld ((unitWords u).getD 4 0) 5 0 then
      s.putSlotRun g n { s.slotRun g n with overrun := true } else s)
    (fun s n => by
      dsimp only
      split
      · exact .inr ⟨_, rfl⟩
      · exact .inl rfl) (List.range 6) r
  refine ⟨hsamples.trans ?_, (bit_congr (hrd _) 17).trans (bit_raiseFlt _ _ (by omega)),
    (fld_congr (hrd _) 31 16).trans ((hrep.fld_eq (MISSCNT_not_reports hg18) 31 16).trans (fld_count_same _ 1 (by omega))),
    fun a ha => (hbyte a).trans ?_⟩
  · rw [galOf_congr (hrep.gal_eq.trans (count_gal _ _ _ _ _))]
  · exact byte_count_raiseFlt (s := s) (t := s) _ _ _ _ _ (fun _ => rfl)
      (by simp only [GAL.MISSCNT, pgGAL, pgREC, regAt]; omega) ha

/-- A setpoint unit that its core's credit admits, behind no stalled store of that core (R28, R94). -/
theorem setpointUnit_joins {k : Nat} {u : List Word} (hu : u.length = 16) (hc : s.hasCredit (.setpoint g) k = true)
    (hst : ∀ e ∈ (s.galOf g).stalled, e.1 ≠ k) : Completes (.setpointUnitArrival g k u) s fun t =>
      (t.galOf g).setpoints = (s.galOf g).setpoints ++ [(k, u)] ∧
      (t.credit (.setpoint g) k).spent = (s.credit (.setpoint g) k).spent + 1 ∧
      (t.coreOf g).ipend = (s.coreOf g).ipend ||| 64 ∧ t.mem = s.mem := by
  apply completes_onGal hg (show exec (.setpointUnitArrival g k u) s = execSetpointUnitArrival g k u s from rfl)
  have hany : (s.galOf g).stalled.any (fun e => e.1 == k) = false := by
    rw [List.any_eq_false]
    intro e he
    simpa using hst e he
  unfold setpointArrive
  dsimp only
  rw [if_pos ⟨hc, hany⟩]
  unfold setpointTake
  dsimp only
  rw [unitWords_of_length hu]
  have hsp : (s.spend (.setpoint g) k).galOf g = s.galOf g := rfl
  rw [hsp]
  set r := (s.spend (.setpoint g) k).putGal g { s.galOf g with setpoints := (s.galOf g).setpoints ++ [(k, u)] } with hr
  obtain ⟨c, hgal⟩ := galOf_raiseIrq g 6 r
  obtain ⟨q, w, hcore⟩ := coreOf_raiseIrq g 6 r
  refine ⟨?_, ?_, ?_, ?_⟩
  · rw [hgal, hr, galOf_putGal]
  · rw [credit_congr (credits_raiseIrq g 6 r), hr, credit_congr (putGal_credits _ _ _), credit_spend_same]
  · rw [hcore, hr, coreOf_putGal]
    exact wsetBit_true _ 6
  · rw [mem_raiseIrq]
    rfl

/-- A setpoint unit with no credit: the core's store waits (R28). -/
theorem setpointUnit_waits {k : Nat} {u : List Word} (hu : u.length = 16) (hc : s.hasCredit (.setpoint g) k = false) :
    Completes (.setpointUnitArrival g k u) s fun t =>
      t = s.putGal g { s.galOf g with stalled := (s.galOf g).stalled ++ [(k, u)] } := by
  apply completes_onGal hg (show exec (.setpointUnitArrival g k u) s = execSetpointUnitArrival g k u s from rfl)
  unfold setpointArrive
  dsimp only
  rw [if_neg (by simp [hc]), unitWords_of_length hu]

end

/-! ### Coefficient writes (R110, R111, R134) -/

theorem coefAt_of_lt (g : Nat) {i : Nat} (h : i < 1024) : coefAt g i = galBase g + 0x3F000 + 4 * i := by
  rw [coefAt, Nat.mod_eq_of_lt h]

theorem COEFQ_ne_STA (g : Nat) : GAL.COEFQ g ≠ HDR.STA (pgGAL g) := by
  simp only [GAL.COEFQ, HDR.STA, regAt]
  omega

theorem FLT_ne_STA (p : Nat) : HDR.FLT p ≠ HDR.STA p := by
  simp only [HDR.FLT, HDR.STA, regAt]
  omega

theorem applyCoefs_one_eq (g i : Nat) (w : Word) (s : State) : s.applyCoefs g [(i, w)] =
    (s.writeBytes (coefAt g i) (galRequester g) (leBytes 4 w.toNat)).2.count (GAL.COEFQ g) 31 16 := by
  have hbs : bytesOf [w] = leBytes 4 w.toNat := by
    rw [bytesOf, List.flatMap_singleton]
  rw [← hbs, applyCoefs, List.foldl_cons, List.foldl_nil, List.length_singleton]

/-- Reading back the bytes stored. -/
theorem Stored.bytes_eq {a : Nat} {bs : List Byte} {s t : State} (h : Stored a bs s t) : t.bytes a bs.length = bs := by
  apply List.ext_getElem (bytes_length _ _ _)
  intro k hk hk'
  have h1 := getD_bytes (s := t) a bs.length k hk'
  rw [h.byte_add hk', List.getD_eq_getElem _ _ hk, List.getD_eq_getElem _ _ hk'] at h1
  exact h1

/-- One coefficient applied at once: its word stored, and counted. -/
theorem applyCoefs_one {s : State} (g a : Nat) (i : Nat) (w : Word) (ha : coefAt g i = a) (hi : s.bit MEM.INJCFG 16 = false)
    (hc : s.GoodCode a 4) : let t := s.applyCoefs g [(i, w)]
    t.bytes a 4 = leBytes 4 w.toNat ∧ SameBytes (fun x => a ≤ x ∧ x < a + 4) s t ∧
      t.fld (GAL.COEFQ g) 31 16 = Nat.min 0xFFFF (s.fld (GAL.COEFQ g) 31 16 + 1) := by
  have hlen : (leBytes 4 w.toNat).length = 4 := leBytes_length _ _
  have hst := writeBytes_good hi (galRequester g) (a := a) (bs := leBytes 4 w.toNat) (by rwa [hlen])
  rw [applyCoefs_one_eq, ha]
  generalize (s.writeBytes a (galRequester g) (leBytes 4 w.toNat)).2 = r at hst
  refine ⟨?_, fun x hx => hst.sameBytes x (by rwa [hlen]), ?_⟩
  · have h := hst.bytes_eq
    rw [hlen] at h
    exact (bytes_congr fun k _ => count_byte r _ _ _ _ _).trans h
  · rw [← fld_congr (hst.rd_eq (GAL.COEFQ g)) 31 16]
    exact fld_count_same r 1 (by omega)

section
variable {s : State} {g : Nat} (hg : g < s.variant.galleries) {v : Word64} (hv : v.extractLsb' 42 22 = 0)
include hg hv

/-- COEFW_WRITE with no bit above the index: what the gallery does, and its clock starts. -/
theorem completes_coefwWrite {P : State → Prop}
    (h : let i := (v.extractLsb' 32 10).toNat
      P ((if s.ownedCoef g i then s.refuseWrite (pgGAL g)
        else if s.anySlot g = false ∨ s.galState g = 8 then s.applyCoefs g [(i, v.extractLsb' 0 32)]
        else if (s.galOf g).coefs.length ≥ 16 then s.raiseFlt (pgGAL g) 24
        else (s.putGal g { s.galOf g with coefs := (s.galOf g).coefs ++ [(i, v.extractLsb' 0 32)] }).setFld (GAL.COEFQ g) 4 0
          ((s.galOf g).coefs.length + 1)).startClock g)) : Completes (.coefwWrite g v) s P := by
  apply completes_onGal hg (show exec (.coefwWrite g v) s = execCoefwWrite g v s from rfl)
  unfold coefWrite
  have h0 : wfld v 63 42 = 0 := by rw [wfld_eq_extract v (k := 22) rfl, hv]; rfl
  have hi : wfld v 41 32 = (v.extractLsb' 32 10).toNat := wfld_eq_extract v rfl
  simp only [h0, if_true, hi, loWord_eq_extract]
  exact h

/-- A coefficient no slot owns joins the queue (R110). -/
theorem coefwWrite_queued (ho : s.ownedCoef g (v.extractLsb' 32 10).toNat = false) (ha : s.anySlot g = true)
    (h8 : s.galState g ≠ 8) (hl : (s.galOf g).coefs.length < 16) : Completes (.coefwWrite g v) s fun t =>
      (t.galOf g).coefs = (s.galOf g).coefs ++ [((v.extractLsb' 32 10).toNat, v.extractLsb' 0 32)] ∧
      t.fld (GAL.COEFQ g) 4 0 = (s.galOf g).coefs.length + 1 ∧ t.mem = s.mem := by
  apply completes_coefwWrite hg hv
  dsimp only
  rw [if_neg (ne_true_of_eq_false ho), if_neg (by simp [ha, h8]), if_neg (by omega)]
  refine ⟨?_, ?_, ?_⟩
  · rw [galOf_startClock, galOf_congr (setFld_gal _ _ _ _ _), galOf_putGal]
  · rw [fld_congr (rd_startClock g _ (COEFQ_ne_STA g)), fld_setFld_same _ _ (by omega)]
    exact Nat.mod_eq_of_lt (by omega)
  · rw [mem_startClock]
    rfl

/-- A full queue reports the write (R110). -/
theorem coefwWrite_full (ho : s.ownedCoef g (v.extractLsb' 32 10).toNat = false) (ha : s.anySlot g = true)
    (h8 : s.galState g ≠ 8) (hl : 16 ≤ (s.galOf g).coefs.length) : Completes (.coefwWrite g v) s fun t =>
      (t.galOf g).coefs = (s.galOf g).coefs ∧ t.bit (HDR.FLT (pgGAL g)) 24 = true := by
  apply completes_coefwWrite hg hv
  dsimp only
  rw [if_neg (ne_true_of_eq_false ho), if_neg (by simp [ha, h8]), if_pos hl]
  refine ⟨?_, ?_⟩
  · rw [galOf_startClock, galOf_congr (raiseFlt_gal _ _ _)]
  · rw [bit_congr (rd_startClock g _ (FLT_ne_STA _)), bit_raiseFlt _ _ (by omega)]

/-- With no slot enabled the coefficient is applied at once (R111). -/
theorem coefwWrite_applied (ho : s.ownedCoef g (v.extractLsb' 32 10).toNat = false) (ha : s.anySlot g = false)
    (hi : s.bit MEM.INJCFG 16 = false) {a : Nat} (hat : a = galBase g + 0x3F000 + 4 * (v.extractLsb' 32 10).toNat)
    (hc : s.GoodCode a 4) : Completes (.coefwWrite g v) s fun t =>
      t.bytes a 4 = leBytes 4 (v.extractLsb' 0 32).toNat ∧ SameBytes (fun x => a ≤ x ∧ x < a + 4) s t ∧
      t.fld (GAL.COEFQ g) 31 16 = Nat.min 0xFFFF (s.fld (GAL.COEFQ g) 31 16 + 1) := by
  apply completes_coefwWrite hg hv
  dsimp only
  rw [if_neg (ne_true_of_eq_false ho), if_pos (.inl ha)]
  obtain ⟨h1, h2, h3⟩ := applyCoefs_one g a _ (v.extractLsb' 0 32)
    ((coefAt_of_lt g (v.extractLsb' 32 10).isLt).trans hat.symm) hi hc
  refine ⟨?_, fun x hx => (byte_startClock g _ x).trans (h2 x hx), ?_⟩
  · exact (bytes_congr fun k _ => byte_startClock g _ _).trans h1
  · exact (fld_congr (rd_startClock g _ (COEFQ_ne_STA g)) 31 16).trans h3

/-- A coefficient of an enabled slot's record is refused (R134). -/
theorem coefwWrite_owned (ho : s.ownedCoef g (v.extractLsb' 32 10).toNat = true) : Completes (.coefwWrite g v) s fun t =>
    t.bit (HDR.FLT (pgGAL g)) 0 = true ∧ (t.galOf g).coefs = (s.galOf g).coefs ∧ SameBytes s.recRing s t := by
  apply completes_coefwWrite hg hv
  dsimp only
  rw [if_pos ho]
  unfold refuseWrite
  refine ⟨?_, ?_, fun x hx => ?_⟩
  · rw [bit_congr (rd_startClock g _ (FLT_ne_STA _)), bit_raiseFlt _ _ (by omega)]
  · rw [galOf_startClock, galOf_congr (raiseFlt_gal _ _ _)]
  · exact (byte_startClock g _ x).trans ((raiseFlt_reported (pgGAL g) s 0).sameBytes x hx)

end
end State

/-- Settles O27: what each landing of a gallery does with what arrives. -/
theorem galLandings : Obligations.GalLandings := by
  intro s g hg
  refine ⟨fun p u hu hw => ⟨State.sampleUnit_joins hg hu hw, State.sampleUnit_dropped hg⟩,
    fun k u hu => ⟨State.setpointUnit_joins hg hu, State.setpointUnit_waits hg hu⟩,
    fun v hv => ⟨State.coefwWrite_queued hg hv, State.coefwWrite_full hg hv, fun ho ha hi hc => ?_,
      State.coefwWrite_owned hg hv⟩⟩
  exact State.coefwWrite_applied hg hv ho ha hi rfl hc

end Sys2Proof.Machine

namespace Sys2Proof.Machine
namespace State

/-! ### What a safe-data channel may change (R380, R381) -/

/-- The registers that channel `c` keeps: its counters, its status, its virtual inputs, its data word. -/
def sdOwn (c y : Nat) : Prop := y = BAL1.SDCNT c ∨ y = BAL1.SDSTA c ∨ y = BAL0.VINSTA ∨ y = BAL1.SDDATA c

/-- `t` comes from `s` by channel `c`'s own registers and by reports on BAL1: bytes only in the recorder's ring. -/
structure SdStep (c : Nat) (s t : State) : Prop where
  regs : SameRegs (fun y => reports pgBAL1 y ∨ sdOwn c y) s t
  byte : SameBytes s.recRing s t
  ring : ∀ a, t.recRing a → s.recRing a

namespace SdStep
variable {c : Nat} {s t u : State}

theorem trans (h : SdStep c s t) (k : SdStep c t u) : SdStep c s u where
  regs y hy := (k.regs y hy).trans (h.regs y hy)
  byte a ha := (k.byte a fun hr => ha (h.ring a hr)).trans (h.byte a ha)
  ring a ha := h.ring a (k.ring a ha)

theorem ring_not_own (c : Nat) : ¬ sdOwn c REC.RBASE ∧ ¬ sdOwn c REC.RSIZE ∧ ¬ sdOwn c REC.RWR := by
  simp only [sdOwn, REC.RBASE, REC.RSIZE, REC.RWR, BAL1.SDCNT, BAL1.SDSTA, BAL0.VINSTA, BAL1.SDDATA, pgREC, pgBAL0, pgBAL1, regAt]
  omega

/-- A change of the channel's own registers alone. -/
theorem own (hr : ∀ y, ¬ sdOwn c y → t.rd y = s.rd y) (hb : ∀ a, t.byte a = s.byte a) : SdStep c s t where
  regs y hy := hr y fun h => hy (.inr h)
  byte a _ := hb a
  ring a ha := by
    obtain ⟨h1, h2, h3⟩ := ring_not_own c
    unfold recRing at *
    rwa [num_congr (hr _ h1), num_congr (hr _ h2), num_congr (hr _ h3)] at ha

theorem report (h : Reported pgBAL1 s t) : SdStep c s t where
  regs y hy := h.rd y fun hr => hy (.inl hr)
  byte := h.byte
  ring _ := h.recRing_of

theorem refl (c : Nat) (s : State) : SdStep c s s := .own (fun _ _ => rfl) fun _ => rfl

theorem setFld {a : Nat} (ha : sdOwn c a) (s : State) (hi lo v : Nat) : SdStep c s (s.setFld a hi lo v) :=
  .own (fun _ hy => rd_setFld_ne s _ _ _ fun e => hy (e ▸ ha)) fun _ => rfl

theorem setBit {a : Nat} (ha : sdOwn c a) (s : State) (i : Nat) (b : Bool) : SdStep c s (s.setBit a i b) :=
  .own (fun _ hy => rd_setBit_ne s _ _ fun e => hy (e ▸ ha)) fun _ => rfl

theorem count {a : Nat} (ha : sdOwn c a) (s : State) (hi lo d : Nat) : SdStep c s (s.count a hi lo d) :=
  .own (fun _ hy => rd_count_ne s _ _ _ fun e => hy (e ▸ ha)) fun _ => rfl

theorem wr {a : Nat} (ha : sdOwn c a) (s : State) (v : Word) : SdStep c s (s.wr a v) :=
  .own (fun _ hy => rd_wr_ne s v fun e => hy (e ▸ ha)) fun _ => rfl

theorem putChan (s : State) (x : SafeChan) : SdStep c s (s.putChan c x) := .own (fun _ _ => rfl) fun _ => rfl

end SdStep

theorem own_SDCNT (c : Nat) : sdOwn c (BAL1.SDCNT c) := .inl rfl
theorem own_SDSTA (c : Nat) : sdOwn c (BAL1.SDSTA c) := .inr (.inl rfl)
theorem own_VINSTA (c : Nat) : sdOwn c BAL0.VINSTA := .inr (.inr (.inl rfl))
theorem own_SDDATA (c : Nat) : sdOwn c (BAL1.SDDATA c) := .inr (.inr (.inr rfl))

section
variable (c : Nat)

theorem SDCNT_ne_SDSTA : BAL1.SDCNT c ≠ BAL1.SDSTA c := by simp only [BAL1.SDCNT, BAL1.SDSTA, regAt]; omega
theorem SDCNT_ne_SDDATA : BAL1.SDCNT c ≠ BAL1.SDDATA c := by simp only [BAL1.SDCNT, BAL1.SDDATA, regAt]; omega
theorem SDSTA_ne_SDDATA : BAL1.SDSTA c ≠ BAL1.SDDATA c := by simp only [BAL1.SDSTA, BAL1.SDDATA, regAt]; omega

theorem VINSTA_ne (c : Nat) : BAL0.VINSTA ≠ BAL1.SDCNT c ∧ BAL0.VINSTA ≠ BAL1.SDSTA c ∧ BAL0.VINSTA ≠ BAL1.SDDATA c := by
  simp only [BAL0.VINSTA, BAL1.SDCNT, BAL1.SDSTA, BAL1.SDDATA, pgBAL0, pgBAL1, regAt]
  omega

end

theorem bal1_body_not_reports {off : Nat} (h1 : 0x20 ≤ off) (h2 : off < 0x1000) : ¬ reports pgBAL1 (regAt pgBAL1 off) := by
  simp only [reports, reportWord, HDR.FLT, HDR.EVT, MEM.INJCFG, pgBAL1, pgREC, pgACQ, pgNVM, pgMEM, regAt]
  omega

theorem VINSTA_not_reports : ¬ reports pgBAL1 BAL0.VINSTA := by
  simp only [reports, reportWord, HDR.FLT, HDR.EVT, MEM.INJCFG, BAL0.VINSTA, pgBAL0, pgBAL1, pgREC, pgACQ, pgNVM, pgMEM, regAt]
  omega

theorem own_not_reports {c y : Nat} (hc : c < 8) (h : sdOwn c y) : ¬ reports pgBAL1 y := by
  rcases h with rfl | rfl | rfl | rfl
  · exact bal1_body_not_reports (by omega) (by omega)
  · exact bal1_body_not_reports (by omega) (by omega)
  · exact VINSTA_not_reports
  · exact bal1_body_not_reports (by omega) (by omega)

/-- The configuration of a channel is none of its own registers. -/
theorem SDCFG_not_own (c : Nat) : ¬ sdOwn c (BAL1.SDCFG c) := by
  simp only [sdOwn, BAL1.SDCFG, BAL1.SDCNT, BAL1.SDSTA, BAL0.VINSTA, BAL1.SDDATA, pgBAL0, pgBAL1, regAt]
  omega

theorem sdOn_congr {s t : State} {c : Nat} (h : t.rd (BAL1.SDCFG c) = s.rd (BAL1.SDCFG c)) (tx : Bool) :
    t.sdOn c tx = s.sdOn c tx := by
  rw [sdOn, bit_congr h, bit_congr h, sdOn]

theorem SdStep.sdOn {c : Nat} {s t : State} (h : SdStep c s t) (hc : c < 8) (tx : Bool) : t.sdOn c tx = s.sdOn c tx :=
  sdOn_congr (h.regs _ fun hr => hr.elim (bal1_body_not_reports (by omega) (by omega)) (SDCFG_not_own c)) tx

theorem chanOf_congr {s t : State} (h : t.bal = s.bal) (c : Nat) : t.chanOf c = s.chanOf c := by rw [chanOf, h, chanOf]

@[simp] theorem chanOf_putChan (s : State) (c : Nat) (x : SafeChan) : (s.putChan c x).chanOf c = x :=
  Tab.get_put_same _ _ _ _

theorem t16_congr {s t : State} (h : ∀ y, y / 0x1000 = pgTIME → t.rd y = s.rd y) : t.t16 = s.t16 := by
  unfold t16 rd64
  rw [h (TIME.NOW 0) (by decide), h (TIME.NOW 0 + 4) (by decide), num_congr (h (TIME.NOW 2) (by decide)),
    fld_congr (h (TIME.NOW 3) (by decide))]

/-- TIME does not stand in a channel's registers. -/
theorem t16_setBit_SDSTA (s : State) (c i : Nat) (b : Bool) (hc : c < 8) : (s.setBit (BAL1.SDSTA c) i b).t16 = s.t16 :=
  t16_congr fun y hy => rd_setBit_ne s _ _ (by
    rintro rfl
    simp only [BAL1.SDSTA, pgTIME, pgBAL1, regAt] at hy
    omega)

/-! ### Virtual inputs, invalidity and pairs (R381) -/

section
variable {s : State} {c : Nat} (hc : c < 8)
include hc

theorem fld_virtuals_off (h : s.bit (BAL1.SDSTA c) 0 = false) : (s.virtuals c).fld BAL0.VINSTA (4 * c + 3) (4 * c) = 0 := by
  unfold virtuals
  rw [h, if_neg (by simp), fld_setFld_same _ _ (by omega), Nat.zero_mod]

theorem fld_virtuals_on (h : s.bit (BAL1.SDSTA c) 0 = true) (ho : s.sdOn c false = true) :
    (s.virtuals c).fld BAL0.VINSTA (4 * c + 3) (4 * c) = ((s.chanOf c).data.headD 0).toNat % 16 := by
  unfold virtuals
  rw [if_pos ⟨h, ho⟩, fld_setFld_same _ _ (by omega), show 4 * c + 3 + 1 - 4 * c = 4 from by omega]
  exact Nat.mod_mod _ _

omit hc in
theorem rd_virtuals_ne {y : Nat} (h : y ≠ BAL0.VINSTA) : (s.virtuals c).rd y = s.rd y := rd_setFld_ne s _ _ _ h

/-- A channel that becomes invalid: VALID and its virtual inputs 0, reported, and the counts of its errors as before. -/
theorem sdInvalid_ends {flt : Nat} (hf : flt < 32) : let t := s.sdInvalid c flt
    t.bit (BAL1.SDSTA c) 0 = false ∧ t.fld BAL0.VINSTA (4 * c + 3) (4 * c) = 0 ∧ t.bit (HDR.FLT pgBAL1) flt = true ∧
      (s.bit (BAL1.SDSTA c) 0 = true → t.bit (HDR.EVT pgBAL1) 3 = true) ∧ t.chanOf c = { s.chanOf c with good := 0 } ∧
      t.rd (BAL1.SDCNT c) = s.rd (BAL1.SDCNT c) ∧ SdStep c s t := by
  unfold sdInvalid
  dsimp only
  set q := (s.putChan c { s.chanOf c with good := 0 }).setBit (BAL1.SDSTA c) 0 false with hq
  have hq0 : q.bit (BAL1.SDSTA c) 0 = false := bit_setBit_same _ _ (by omega)
  have hqs : SdStep c s q := (SdStep.putChan s _).trans (.setBit (own_SDSTA c) _ _ _)
  obtain ⟨hv1, hv2, -⟩ := VINSTA_ne c
  set r := q.virtuals c with hr
  have hrs : SdStep c s r := hqs.trans (.setFld (own_VINSTA c) q _ _ _)
  have hf1 := raiseFlt_reported pgBAL1 r flt
  have hbit := bit_raiseFlt pgBAL1 r hf
  set u := r.raiseFlt pgBAL1 flt
  have key : ∀ t, Reported pgBAL1 u t → t.bit (BAL1.SDSTA c) 0 = false ∧ t.fld BAL0.VINSTA (4 * c + 3) (4 * c) = 0 ∧
      t.bit (HDR.FLT pgBAL1) flt = true ∧ t.chanOf c = { s.chanOf c with good := 0 } ∧
      t.rd (BAL1.SDCNT c) = s.rd (BAL1.SDCNT c) ∧ SdStep c s t := by
    intro t ht
    have hrt := hf1.trans ht
    refine ⟨?_, (hrt.fld_eq VINSTA_not_reports _ _).trans (fld_virtuals_off hc hq0), ht.flt _ _ hbit, ?_, ?_,
      hrs.trans (.report hrt)⟩
    · rw [bit_congr (hrt.rd _ (own_not_reports hc (own_SDSTA c))), hr, bit_congr (rd_virtuals_ne hv2.symm), hq0]
    · rw [chanOf_congr hrt.bal_eq]
      exact chanOf_putChan s c _
    · rw [hrt.rd _ (own_not_reports hc (own_SDCNT c)), hr, rd_virtuals_ne hv1.symm, hq,
        rd_setBit_ne _ _ _ (SDCNT_ne_SDSTA c)]
      rfl
  by_cases hw : s.bit (BAL1.SDSTA c) 0 = true
  · rw [if_pos hw]
    obtain ⟨h1, h2, h3, h4, h5, h6⟩ := key _ (raiseEvt_reported pgBAL1 u 3)
    exact ⟨h1, h2, h3, fun _ => bit_raiseEvt pgBAL1 u (by omega), h4, h5, h6⟩
  · rw [if_neg hw]
    obtain ⟨h1, h2, h3, h4, h5, h6⟩ := key _ (.refl _ _)
    exact ⟨h1, h2, h3, fun h => absurd h hw, h4, h5, h6⟩

end

end State
end Sys2Proof.Machine

namespace Sys2Proof.Machine

theorem ofLeBytes_take_lt (bs : List Byte) (n : Nat) : ofLeBytes (bs.take n) < 256 ^ n :=
  Nat.lt_of_lt_of_le (ofLeBytes_lt _) (Nat.pow_le_pow_right (by omega) (List.length_take_le _ _))

namespace State

theorem sdSeq_lt (bs : List Byte) : sdSeq bs < 0x10000 := ofLeBytes_take_lt (bs.drop 2) 2

/-- How far the container's number is from the channel's last one (R381). -/
def sdAhead (c : Nat) (bs : List Byte) (s : State) : Nat := (sdSeq bs + 0x10000 - s.fld (BAL1.SDSTA c) 31 16) % 0x10000

/-- What an accepted pair records before the channel may become valid (R381). -/
def sdRecord (c : Nat) (bs : List Byte) (s : State) : State :=
  let x := s.chanOf c
  let t := if x.started then s.count (BAL1.SDCNT c) 15 8 (s.sdAhead c bs - 1) else s
  let t := t.putChan c { x with started := true, data := (bs.drop 10).take 16, good := Nat.min 2 (x.good + 1) }
  (t.setFld (BAL1.SDSTA c) 31 16 (sdSeq bs)).wr (BAL1.SDDATA c) (BitVec.ofNat 32 (ofLeBytes (((bs.drop 10).take 16).take 4)))

/-- A pair whose number is the first, or 1 to 16 ahead of the last, is accepted. -/
theorem sdPair_accepts {s : State} {c : Nat} {bs : List Byte}
    (hd : (s.chanOf c).started = false ∨ (1 ≤ s.sdAhead c bs ∧ s.sdAhead c bs ≤ 16)) : s.sdPair c bs =
      (let t := s.sdRecord c bs
       let u := if t.bit (BAL1.SDSTA c) 0 = false ∧ Nat.min 2 ((s.chanOf c).good + 1) = 2 then
         (t.setBit (BAL1.SDSTA c) 0 true).raiseEvt pgBAL1 4 else t
       u.virtuals c) := by
  have h0 : ¬ ((s.chanOf c).started = true ∧ s.sdAhead c bs = 0) := fun h => by
    rcases hd with hd | hd
    · exact absurd h.1 (by simp [hd])
    · omega
  have h1 : ¬ ((s.chanOf c).started = true ∧ s.sdAhead c bs > 16) := fun h => by
    rcases hd with hd | hd
    · exact absurd h.1 (by simp [hd])
    · omega
  unfold sdAhead at h0 h1
  unfold sdPair
  dsimp only
  rw [if_neg h0, if_neg h1]
  rfl

section
variable (s : State) (c : Nat) (bs : List Byte)

theorem chanOf_sdRecord : (s.sdRecord c bs).chanOf c = { s.chanOf c with
    started := true, data := (bs.drop 10).take 16, good := Nat.min 2 ((s.chanOf c).good + 1) } := by
  unfold sdRecord
  dsimp only
  rw [chanOf_congr (wr_bal _ _ _), chanOf_congr (setFld_bal _ _ _ _ _), chanOf_putChan]

theorem rd_SDSTA_sdRecord : (s.sdRecord c bs).rd (BAL1.SDSTA c) = wset (s.rd (BAL1.SDSTA c)) 31 16 (sdSeq bs) := by
  unfold sdRecord
  dsimp only
  rw [rd_wr_ne _ _ (SDSTA_ne_SDDATA c), rd_setFld_same]
  congr 1
  split
  · exact rd_count_ne s _ _ _ (SDCNT_ne_SDSTA c).symm
  · rfl

theorem seq_sdRecord : (s.sdRecord c bs).fld (BAL1.SDSTA c) 31 16 = sdSeq bs := by
  rw [fld, rd_SDSTA_sdRecord, wfld_wset_same _ _ (by omega)]
  exact Nat.mod_eq_of_lt (sdSeq_lt bs)

theorem valid_sdRecord : (s.sdRecord c bs).bit (BAL1.SDSTA c) 0 = s.bit (BAL1.SDSTA c) 0 := by
  rw [bit, rd_SDSTA_sdRecord, getLsbD_wset, if_neg (by omega), bit]

theorem data_sdRecord : (s.sdRecord c bs).num (BAL1.SDDATA c) = ofLeBytes ((bs.drop 10).take 4) := by
  unfold sdRecord
  dsimp only
  rw [num, rd_wr_same, List.take_take, BitVec.toNat_ofNat]
  exact Nat.mod_eq_of_lt (ofLeBytes_take_lt _ 4)

theorem lost_sdRecord (h : (s.chanOf c).started = true) : (s.sdRecord c bs).fld (BAL1.SDCNT c) 15 8 =
    Nat.min 0xFF (s.fld (BAL1.SDCNT c) 15 8 + (s.sdAhead c bs - 1)) := by
  unfold sdRecord
  dsimp only
  rw [if_pos h, fld_congr (rd_wr_ne _ _ (SDCNT_ne_SDDATA c)), fld_congr (rd_setFld_ne _ _ _ _ (SDCNT_ne_SDSTA c))]
  exact fld_count_same s _ (by omega)

theorem sdRecord_step : SdStep c s (s.sdRecord c bs) := by
  unfold sdRecord
  dsimp only
  refine .trans ?_ (.wr (own_SDDATA c) _ _)
  refine .trans ?_ (.setFld (own_SDSTA c) _ _ _ _)
  refine .trans ?_ (.putChan _ _)
  split
  · exact .count (own_SDCNT c) _ _ _ _
  · exact .refl c s

end

/-- VALID rises where `p` holds, and is reported where it was 0. -/
theorem valid_rises {r : State} {c : Nat} (hc : c < 8) (p : Prop) [Decidable p] :
    let u := if r.bit (BAL1.SDSTA c) 0 = false ∧ p then (r.setBit (BAL1.SDSTA c) 0 true).raiseEvt pgBAL1 4 else r
    u.bal = r.bal ∧ SdStep c r u ∧ u.fld (BAL1.SDSTA c) 31 16 = r.fld (BAL1.SDSTA c) 31 16 ∧
      u.rd (BAL1.SDDATA c) = r.rd (BAL1.SDDATA c) ∧ u.rd (BAL1.SDCNT c) = r.rd (BAL1.SDCNT c) ∧
      (p → u.bit (BAL1.SDSTA c) 0 = true ∧ (r.bit (BAL1.SDSTA c) 0 = false → u.bit (HDR.EVT pgBAL1) 4 = true)) := by
  by_cases h : r.bit (BAL1.SDSTA c) 0 = false ∧ p
  · simp only [if_pos h]
    have hrep := raiseEvt_reported pgBAL1 (r.setBit (BAL1.SDSTA c) 0 true) 4
    have hsta := own_not_reports hc (own_SDSTA c)
    refine ⟨hrep.bal_eq, (SdStep.setBit (own_SDSTA c) r 0 true).trans (.report hrep), ?_, ?_, ?_, fun _ => ⟨?_, fun _ => ?_⟩⟩
    · exact (hrep.fld_eq hsta 31 16).trans (fld_setBit_ne r true (by omega))
    · exact (hrep.rd _ (own_not_reports hc (own_SDDATA c))).trans (rd_setBit_ne r _ _ (SDSTA_ne_SDDATA c).symm)
    · exact (hrep.rd _ (own_not_reports hc (own_SDCNT c))).trans (rd_setBit_ne r _ _ (SDCNT_ne_SDSTA c))
    · exact (bit_congr (hrep.rd _ hsta) 0).trans (bit_setBit_same r true (by omega))
    · exact bit_raiseEvt pgBAL1 _ (by omega)
  · simp only [if_neg h]
    refine ⟨trivial, .refl c r, trivial, trivial, trivial, fun hp => ?_⟩
    have hb : r.bit (BAL1.SDSTA c) 0 ≠ false := fun hb => h ⟨hb, hp⟩
    exact ⟨by simpa using hb, fun hb' => absurd hb' hb⟩

/-- An accepted pair: its data, its number, what it counts lost, and from the second on VALID and the virtual inputs. -/
theorem sdPair_holds {s : State} {c : Nat} (hc : c < 8) (ho : s.sdOn c false = true) {bs : List Byte}
    (hd : (s.chanOf c).started = false ∨ (1 ≤ s.sdAhead c bs ∧ s.sdAhead c bs ≤ 16)) : let t := s.sdPair c bs
    (t.chanOf c).data = (bs.drop 10).take 16 ∧ (t.chanOf c).copy = (s.chanOf c).copy ∧
      t.fld (BAL1.SDSTA c) 31 16 = sdSeq bs ∧ t.num (BAL1.SDDATA c) = ofLeBytes ((bs.drop 10).take 4) ∧
      ((s.chanOf c).started = true → t.fld (BAL1.SDCNT c) 15 8 =
        Nat.min 0xFF (s.fld (BAL1.SDCNT c) 15 8 + (s.sdAhead c bs - 1))) ∧
      (1 ≤ (s.chanOf c).good → t.bit (BAL1.SDSTA c) 0 = true ∧
        t.fld BAL0.VINSTA (4 * c + 3) (4 * c) = ((bs.drop 10).headD 0).toNat % 16 ∧
        (s.bit (BAL1.SDSTA c) 0 = false → t.bit (HDR.EVT pgBAL1) 4 = true)) ∧ SdStep c s t := by
  rw [sdPair_accepts hd]
  have hstep := sdRecord_step s c bs
  have hchan := chanOf_sdRecord s c bs
  have hseq := seq_sdRecord s c bs
  have hvalid := valid_sdRecord s c bs
  have hdata := data_sdRecord s c bs
  have hlost := lost_sdRecord s c bs
  generalize s.sdRecord c bs = r at hstep hchan hseq hvalid hdata hlost
  obtain ⟨hbal, hu, hfld, hrdd, hrdc, hrise⟩ := valid_rises (r := r) hc (Nat.min 2 ((s.chanOf c).good + 1) = 2)
  dsimp only at *
  generalize (if r.bit (BAL1.SDSTA c) 0 = false ∧ Nat.min 2 ((s.chanOf c).good + 1) = 2 then
    (r.setBit (BAL1.SDSTA c) 0 true).raiseEvt pgBAL1 4 else r) = u at hbal hu hfld hrdd hrdc hrise
  obtain ⟨hv1, hv2, hv3⟩ := VINSTA_ne c
  have hsu := hstep.trans hu
  have hcu : u.chanOf c = _ := (chanOf_congr hbal c).trans hchan
  have hcv : (u.virtuals c).chanOf c = u.chanOf c := chanOf_congr (setFld_bal _ _ _ _ _) c
  rw [hcv, hcu]
  refine ⟨rfl, rfl, ?_, ?_, fun hs => ?_, fun hg => ?_, hsu.trans (.setFld (own_VINSTA c) u _ _ _)⟩
  · rw [fld_congr (rd_virtuals_ne hv2.symm), hfld, hseq]
  · rw [num_congr (rd_virtuals_ne hv3.symm), num_congr hrdd, hdata]
  · rw [fld_congr (rd_virtuals_ne hv1.symm), fld_congr hrdc, hlost hs]
  · obtain ⟨h1, h2⟩ := hrise (Nat.min_eq_left (by omega))
    refine ⟨?_, ?_, fun hb => ?_⟩
    · rw [bit_congr (rd_virtuals_ne hv2.symm), h1]
    · rw [fld_virtuals_on hc h1 ((hsu.sdOn hc false).trans ho), hcu]
      dsimp only
      cases bs.drop 10 <;> rfl
    · rw [bit_congr (rd_virtuals_ne (by decide)), h2 (hvalid.trans hb)]

end State
end Sys2Proof.Machine

namespace Sys2Proof.Machine
namespace State

/-- A row of a safe-data channel completes with its effect. -/
theorem completes_channel {s t : State} {c : Nat} {i : Instr} {P : State → Prop} (hc : c < 8)
    (he : exec i s = onUnit (decide (c < 8)) t) (hp : P t) : Completes i s P :=
  ⟨t, by rw [he]; unfold onUnit; rw [if_pos (decide_eq_true hc)], hp⟩

/-- A row of a safe-data channel that changes nothing. -/
theorem exec_channel_idle {s t : State} {c : Nat} {i : Instr} (hc : c < 8) (he : exec i s = onUnit (decide (c < 8)) t)
    (ht : t = s) : exec i s = .next s := by
  rw [he, ht]
  unfold onUnit
  rw [if_pos (decide_eq_true hc)]

/-! ### One copy (R381) -/

/-- Which of the status bits 1 and 2 says that a copy has come, by its network. -/
theorem copyBit_bounds (nb : Bool) : (if nb then 2 else 1) < 32 ∧ (if nb then 2 else 1) ≠ 0 ∧ (if nb then 2 else 1) < 16 := by
  cases nb <;> decide

section
variable {s : State} {c : Nat} {nb : Bool} {bs : List Byte}

/-- A copy with a wrong identity, CRC or reserved byte is counted. -/
theorem sdCopy_bad (hg : s.sdGood c bs = false) : s.sdCopy c nb bs = s.count (BAL1.SDCNT c) 31 24 := by
  unfold sdCopy
  dsimp only
  rw [if_pos hg]

variable (hg : s.sdGood c bs = true)
  (ht : s.t16 ≤ s.expandLt (BitVec.ofNat 48 (ofLeBytes ((bs.drop 4).take 6))) + s.fld (BAL1.SDTIM c) 23 16 * 16000000)
include hg ht

/-- A good and timely first copy waits. -/
theorem sdCopy_first (hc : c < 8) (hx : (s.chanOf c).copy = none) : s.sdCopy c nb bs =
    (s.setBit (BAL1.SDSTA c) (if nb then 2 else 1) true).putChan c { s.chanOf c with copy := some (nb, bs, s.t16) } := by
  unfold sdCopy
  dsimp only
  rw [if_neg (by simp [hg]), if_neg (Nat.not_lt.2 ht), chanOf_congr (setBit_bal s _ _ _) c, hx, t16_setBit_SDSTA s c _ _ hc]

/-- A second copy in the window with the number of the first. -/
theorem sdCopy_second (hc : c < 8) {old : List Byte} {at_ : Nat} (hx : (s.chanOf c).copy = some (!nb, old, at_))
    (hw : s.t16 ≤ at_ + s.fld (BAL1.SDTIM c) 15 8 * 16000000) (hq : sdSeq old = sdSeq bs) : s.sdCopy c nb bs =
      (let r := (s.setBit (BAL1.SDSTA c) (if nb then 2 else 1) true).putChan c { s.chanOf c with copy := none }
       if old.take 28 = bs.take 28 then r.sdPair c bs else (r.count (BAL1.SDCNT c) 7 0).sdInvalid c 16) := by
  have hne : BAL1.SDTIM c ≠ BAL1.SDSTA c := by simp only [BAL1.SDTIM, BAL1.SDSTA, regAt]; omega
  have hnb : (!nb) ≠ nb := by cases nb <;> decide
  unfold sdCopy
  dsimp only
  rw [if_neg (by simp [hg]), if_neg (Nat.not_lt.2 ht), chanOf_congr (setBit_bal s _ _ _) c, hx, t16_setBit_SDSTA s c _ _ hc]
  dsimp only
  rw [fld_congr (rd_setBit_ne s _ _ hne), if_pos ⟨hnb, hw, hq⟩]

end

/-! ### Containers that arrive (R28, R381) -/

section
variable {s : State} {c : Nat} (hc : c < 8) (ho : s.sdOn c false = true) (hr : s.balRuns = true) (nb : Bool) (bs : List Byte)
include hc ho hr

/-- A copy without a credit is counted lost. -/
theorem safeDataRx_lost (hcr : s.hasCredit .safeData (s.sdNet c nb) = false) : Completes (.safeDataRx c nb bs) s fun t =>
    t.fld (BAL1.SDCNT c) 15 8 = Nat.min 0xFF (s.fld (BAL1.SDCNT c) 15 8 + 1) ∧ t.bal = s.bal ∧ SdStep c s t := by
  refine completes_channel hc (show exec (.safeDataRx c nb bs) s = execSafeDataRx c nb bs s from rfl) ?_
  unfold safeDataRx
  dsimp only
  rw [if_neg (by simp [ho, hr]), if_neg (by simp [hcr])]
  exact ⟨fld_count_same s 1 (by omega), rfl, .count (own_SDCNT c) s _ _ _⟩

/-- A copy with a credit is taken, from a state that differs in its credits alone. -/
theorem completes_safeDataRx {P : State → Prop} (hcr : s.hasCredit .safeData (s.sdNet c nb) = true)
    (h : ∀ credits, P (sdCopy c nb bs { s with credits := credits })) : Completes (.safeDataRx c nb bs) s P := by
  refine completes_channel hc (show exec (.safeDataRx c nb bs) s = execSafeDataRx c nb bs s from rfl) ?_
  unfold safeDataRx
  dsimp only
  rw [if_neg (by simp [ho, hr]), if_pos hcr]
  exact h _

end

/-- Credits are no part of what a channel may not change. -/
theorem SdStep.of_credits {c : Nat} {s t : State} {k : List (Nat × Credit)} (h : SdStep c { s with credits := k } t) :
    SdStep c s t :=
  have hk : SdStep c s { s with credits := k } := .own (fun _ _ => rfl) fun _ => rfl
  hk.trans h

/-- The frame of O51's clauses. -/
theorem SdStep.frame {c : Nat} {s t : State} (h : SdStep c s t) :
    SameRegs (fun y => reports pgBAL1 y ∨ y = BAL1.SDCNT c ∨ y = BAL1.SDSTA c ∨ y = BAL0.VINSTA ∨ y = BAL1.SDDATA c) s t ∧
      SameBytes s.recRing s t :=
  ⟨h.regs, h.byte⟩

/-- The state in which a second copy in the window is compared with the first. -/
theorem second_step (s : State) (c : Nat) (nb : Bool) (x : SafeChan) :
    SdStep c s ((s.setBit (BAL1.SDSTA c) (if nb then 2 else 1) true).putChan c x) :=
  (SdStep.setBit (own_SDSTA c) s _ _).trans (.putChan _ _)

section
variable {s : State} {c : Nat} (hc : c < 8) {nb : Bool} {bs : List Byte}
include hc

/-- A first copy that waits. -/
theorem sdCopy_first_holds (hg : s.sdGood c bs = true)
    (ht : s.t16 ≤ s.expandLt (BitVec.ofNat 48 (ofLeBytes ((bs.drop 4).take 6))) + s.fld (BAL1.SDTIM c) 23 16 * 16000000)
    (hx : (s.chanOf c).copy = none) : let t := s.sdCopy c nb bs
    (t.chanOf c).copy = some (nb, bs, s.t16) ∧ t.bit (BAL1.SDSTA c) (if nb then 2 else 1) = true ∧ SdStep c s t := by
  rw [sdCopy_first hg ht hc hx]
  refine ⟨by rw [chanOf_putChan], bit_setBit_same s true (copyBit_bounds nb).1, ?_⟩
  exact second_step s c nb _

variable (hg : s.sdGood c bs = true)
  (ht : s.t16 ≤ s.expandLt (BitVec.ofNat 48 (ofLeBytes ((bs.drop 4).take 6))) + s.fld (BAL1.SDTIM c) 23 16 * 16000000)
  {old : List Byte} {at_ : Nat} (hx : (s.chanOf c).copy = some (!nb, old, at_))
  (hw : s.t16 ≤ at_ + s.fld (BAL1.SDTIM c) 15 8 * 16000000) (hq : sdSeq old = sdSeq bs)
include hg ht hx hw hq

/-- Copies that differ end the channel's validity. -/
theorem sdCopy_differ (hd : old.take 28 ≠ bs.take 28) : let t := s.sdCopy c nb bs
    t.fld (BAL1.SDCNT c) 7 0 = Nat.min 0xFF (s.fld (BAL1.SDCNT c) 7 0 + 1) ∧ t.bit (BAL1.SDSTA c) 0 = false ∧
      t.fld BAL0.VINSTA (4 * c + 3) (4 * c) = 0 ∧ t.bit (HDR.FLT pgBAL1) 16 = true ∧ (t.chanOf c).copy = none ∧
      SdStep c s t := by
  rw [sdCopy_second hg ht hc hx hw hq]
  dsimp only
  rw [if_neg hd]
  set r := (s.setBit (BAL1.SDSTA c) (if nb then 2 else 1) true).putChan c { s.chanOf c with copy := none } with hrd
  have hstep : SdStep c s (r.count (BAL1.SDCNT c) 7 0) := (second_step s c nb _).trans (.count (own_SDCNT c) _ _ _ _)
  have hfld : r.fld (BAL1.SDCNT c) 7 0 = s.fld (BAL1.SDCNT c) 7 0 := fld_congr (rd_setBit_ne s _ _ (SDCNT_ne_SDSTA c)) 7 0
  obtain ⟨h1, h2, h3, -, h5, h6, h7⟩ := sdInvalid_ends (s := r.count (BAL1.SDCNT c) 7 0) hc (flt := 16) (by omega)
  refine ⟨?_, h1, h2, h3, ?_, hstep.trans h7⟩
  · rw [fld_congr h6, ← hfld]
    exact fld_count_same r 1 (by omega)
  · rw [h5, chanOf_congr (count_bal r _ _ _ _) c, hrd, chanOf_putChan]

/-- Copies that agree make a pair. -/
theorem sdCopy_agree (ho : s.sdOn c false = true) (he : old.take 28 = bs.take 28)
    (hd : (s.chanOf c).started = false ∨ (1 ≤ s.sdAhead c bs ∧ s.sdAhead c bs ≤ 16)) : let t := s.sdCopy c nb bs
    (t.chanOf c).data = (bs.drop 10).take 16 ∧ (t.chanOf c).copy = none ∧
      t.fld (BAL1.SDSTA c) 31 16 = sdSeq bs ∧ t.num (BAL1.SDDATA c) = ofLeBytes ((bs.drop 10).take 4) ∧
      ((s.chanOf c).started = true → t.fld (BAL1.SDCNT c) 15 8 =
        Nat.min 0xFF (s.fld (BAL1.SDCNT c) 15 8 + (s.sdAhead c bs - 1))) ∧
      (1 ≤ (s.chanOf c).good → t.bit (BAL1.SDSTA c) 0 = true ∧
        t.fld BAL0.VINSTA (4 * c + 3) (4 * c) = ((bs.drop 10).headD 0).toNat % 16 ∧
        (s.bit (BAL1.SDSTA c) 0 = false → t.bit (HDR.EVT pgBAL1) 4 = true)) ∧ SdStep c s t := by
  rw [sdCopy_second hg ht hc hx hw hq]
  dsimp only
  rw [if_pos he]
  obtain ⟨-, hne0, hlt⟩ := copyBit_bounds nb
  set r := (s.setBit (BAL1.SDSTA c) (if nb then 2 else 1) true).putChan c { s.chanOf c with copy := none } with hrd
  have hstep : SdStep c s r := second_step s c nb _
  have hchan : r.chanOf c = { s.chanOf c with copy := none } := chanOf_putChan _ _ _
  have hahead : r.sdAhead c bs = s.sdAhead c bs :=
    congrArg (fun f => (sdSeq bs + 0x10000 - f) % 0x10000) (fld_setBit_ne s true (.inl hlt))
  have hcnt : r.fld (BAL1.SDCNT c) 15 8 = s.fld (BAL1.SDCNT c) 15 8 := fld_congr (rd_setBit_ne s _ _ (SDCNT_ne_SDSTA c)) 15 8
  have hvalid : r.bit (BAL1.SDSTA c) 0 = s.bit (BAL1.SDSTA c) 0 := bit_setBit_ne s true hne0.symm
  obtain ⟨h1, h2, h3, h4, h5, h6, h7⟩ := sdPair_holds (s := r) hc ((hstep.sdOn hc false).trans ho) (bs := bs)
    (by rw [hchan, hahead]; exact hd)
  rw [hchan] at h2 h5 h6
  rw [hcnt, hahead] at h5
  rw [hvalid] at h6
  exact ⟨h1, h2, h3, h4, h5, h6, hstep.trans h7⟩

end

/-! ### Windows and timeouts (R381) -/

section
variable {s : State} {c : Nat} (hc : c < 8)
include hc

/-- A copy whose partner misses the window is dropped and counted. -/
theorem sdwinExpiry_drops (hx : (s.chanOf c).copy.isSome = true) : Completes (.sdwinExpiry c) s fun t =>
    t.fld (BAL1.SDCNT c) 23 16 = Nat.min 0xFF (s.fld (BAL1.SDCNT c) 23 16 + 1) ∧ (t.chanOf c).copy = none ∧
      SameRegs (fun y => y = BAL1.SDCNT c) s t ∧ t.mem = s.mem := by
  refine completes_channel hc (show exec (.sdwinExpiry c) s = execSdwinExpiry c s from rfl) ?_
  unfold sdwinExpiry
  dsimp only
  rw [if_pos hx]
  refine ⟨fld_count_same _ 1 (by omega), ?_, fun y hy => rd_count_ne _ _ _ _ hy, rfl⟩
  rw [chanOf_congr (count_bal _ _ _ _ _) c, chanOf_putChan]

theorem sdwinExpiry_idle (hx : (s.chanOf c).copy = none) : exec (.sdwinExpiry c) s = .next s := by
  refine exec_channel_idle hc (show exec (.sdwinExpiry c) s = execSdwinExpiry c s from rfl) ?_
  unfold sdwinExpiry
  dsimp only
  rw [hx, if_neg (by decide)]

/-- Without a pair for SDTO the channel is invalid. -/
theorem sdtoExpiry_ends (ho : s.sdOn c false = true) : Completes (.sdtoExpiry c) s fun t => t.bit (BAL1.SDSTA c) 0 = false ∧
    t.fld BAL0.VINSTA (4 * c + 3) (4 * c) = 0 ∧ (t.chanOf c).good = 0 ∧ t.bit (HDR.FLT pgBAL1) 17 = true ∧
      (s.bit (BAL1.SDSTA c) 0 = true → t.bit (HDR.EVT pgBAL1) 3 = true) ∧ SdStep c s t := by
  refine completes_channel hc (show exec (.sdtoExpiry c) s = execSdtoExpiry c s from rfl) ?_
  unfold sdtoExpiry
  rw [if_pos ho]
  obtain ⟨h1, h2, h3, h4, h5, -, h7⟩ := sdInvalid_ends (s := s) hc (flt := 17) (by omega)
  exact ⟨h1, h2, by rw [h5], h3, h4, h7⟩

/-- A channel that receives nothing. -/
theorem receiver_off (ho : s.sdOn c false = false) :
    (∀ nb bs, exec (.safeDataRx c nb bs) s = .next s) ∧ exec (.sdtoExpiry c) s = .next s := by
  refine ⟨fun nb bs => ?_, ?_⟩
  · refine exec_channel_idle hc (show exec (.safeDataRx c nb bs) s = execSafeDataRx c nb bs s from rfl) ?_
    unfold safeDataRx
    rw [if_pos (.inl ho)]
  · refine exec_channel_idle hc (show exec (.sdtoExpiry c) s = execSdtoExpiry c s from rfl) ?_
    unfold sdtoExpiry
    rw [if_neg (by simp [ho])]

theorem transmitter_off (ho : s.sdOn c true = false) : exec (.safeDataTx c) s = .next s := by
  refine exec_channel_idle hc (show exec (.safeDataTx c) s = execSafeDataTx c s from rfl) ?_
  unfold safeDataTx
  rw [if_pos (.inl ho)]

end

end State
end Sys2Proof.Machine

namespace Sys2Proof.Machine
namespace State

/-! ### A controller that starts a frame (R399) -/

/-- A choice that keeps what it has or takes the element at hand ends with an element of the list. -/
theorem mem_of_foldl_choice {α : Type} {f : Option α → α → Option α} (hf : ∀ m x, f m x = m ∨ f m x = some x) (l : List α)
    (m : Option α) {y : α} (h : l.foldl f m = some y) : m = some y ∨ y ∈ l := by
  induction l generalizing m with
  | nil => exact .inl h
  | cons x l ih =>
    rw [List.foldl_cons] at h
    obtain h1 | h1 := ih _ h
    · obtain h2 | h2 := hf m x
      · exact .inl (h2.symm.trans h1)
      · exact .inr (Option.some.inj (h2.symm.trans h1) ▸ List.mem_cons_self)
    · exact .inr (List.mem_cons_of_mem _ h1)

theorem pickTx_candidate {s : State} {c : Nat} {x : CanTx} (h : s.pickTx c = some x) : x ∈ s.candidates c := by
  obtain h | h := mem_of_foldl_choice (fun m x => by
    cases m with
    | none => exact .inr rfl
    | some y =>
      dsimp only
      split
      · exact .inr rfl
      · exact .inl rfl) _ _ h
  · cases h
  · exact (List.mem_filter.1 h).1

/-- The buffers among the candidates are those of the message RAM. -/
theorem buffer_candidate_lt {s : State} {c b : Nat} (h : CanTx.buffer b ∈ s.candidates c) : b < 128 := by
  unfold candidates at h
  simp only [List.mem_append, List.mem_map] at h
  rcases h with ((h | ⟨e, -, h⟩) | h) | ⟨k, hk, h⟩
  · split at h
    · cases List.mem_singleton.1 h
    · cases h
  · cases h
  · split at h
    · cases List.mem_singleton.1 h
    · cases h
  · cases h
    exact List.mem_range.1 (List.mem_filter.1 hk).1

/-- A start changes the controller, and of memory at most the status word of one of its buffers. -/
theorem canStart_cases (c : Nat) (s : State) : s.canStart c = s ∨ ∃ x, s.canStart c = s.putCan c x ∨
    ∃ b < 128, s.canStart c = (s.putCan c x).setBsta c b 9 8 2 := by
  unfold canStart
  dsimp only
  split
  · exact .inl rfl
  · cases hp : s.pickTx c with
    | none => exact .inl rfl
    | some t =>
      dsimp only
      cases t with
      | buffer b => exact .inr ⟨_, .inr ⟨b, buffer_candidate_lt (pickTx_candidate hp), rfl⟩⟩
      | safe ch => exact .inr ⟨_, .inl rfl⟩
      | status => exact .inr ⟨_, .inl rfl⟩
      | reference => exact .inr ⟨_, .inl rfl⟩

/-- What a hand-over to a network leaves: every register but the controller's CNT3, the balustrade, and memory outside the
controllers' RAM. -/
structure Handed (net : Nat) (s t : State) : Prop where
  rd : ∀ y, y ≠ CAN.CNT3 net → t.rd y = s.rd y
  bal : t.bal = s.bal
  byte : SameBytes (fun y => canBase 0 ≤ y ∧ y < canBase 8) s t

namespace Handed
variable {net : Nat} {s t u : State}

theorem refl (net : Nat) (s : State) : Handed net s s := ⟨fun _ _ => rfl, rfl, fun _ _ => rfl⟩

theorem trans (h : Handed net s t) (k : Handed net t u) : Handed net s u where
  rd y hy := (k.rd y hy).trans (h.rd y hy)
  bal := k.bal.trans h.bal
  byte a ha := (k.byte a ha).trans (h.byte a ha)

end Handed

theorem putBytes_handed (net : Nat) (s : State) {a : Nat} {bs : List Byte} (h1 : canBase 0 ≤ a) (h2 : a + bs.length ≤ canBase 8) :
    Handed net s (s.putBytes a bs) where
  rd y _ := rd_putBytes s a bs y
  bal := by
    obtain ⟨m, hm⟩ := putBytes_frame s a bs
    rw [hm]
  byte y hy := by
    rw [byte_putBytes, if_neg fun h => hy ⟨by omega, by omega⟩]

theorem putBytes_eth (s : State) (a : Nat) (bs : List Byte) : (s.putBytes a bs).eth = s.eth := by
  obtain ⟨m, hm⟩ := putBytes_frame s a bs
  rw [hm]

/-- The status word of a buffer lies in the controllers' RAM. -/
theorem status_in_ram {c b : Nat} (hc : c < 8) (hb : b < 128) :
    canBase 0 ≤ canBase c + (0x80 * b + 12) ∧ canBase c + (0x80 * b + 12) + 4 ≤ canBase 8 := by
  unfold canBase
  omega

theorem setBsta_eq (c b hi lo v : Nat) (s : State) : s.setBsta c b hi lo v =
    s.putBytes (canBase c + (0x80 * b + 12)) (leBytes 4 (wset (s.bufWord c b 12) hi lo v).toNat) := rfl

/-- A start reaches no register, and no memory outside the controllers' RAM. -/
theorem canStart_handed {c : Nat} (hc : c < 8) (s : State) : Handed c s (s.canStart c) ∧ (s.canStart c).eth = s.eth := by
  obtain h | ⟨x, h | ⟨b, hb, h⟩⟩ := canStart_cases c s
  · rw [h]
    exact ⟨.refl c s, rfl⟩
  · rw [h]
    exact ⟨⟨fun _ _ => rfl, rfl, fun _ _ => rfl⟩, rfl⟩
  · obtain ⟨h1, h2⟩ := status_in_ram hc hb
    rw [h, setBsta_eq]
    have hput : Handed c s (s.putCan c x) := ⟨fun _ _ => rfl, rfl, fun _ _ => rfl⟩
    exact ⟨hput.trans (putBytes_handed c _ h1 (by rwa [leBytes_length])), putBytes_eth _ _ _⟩

/-- A container handed to a CAN network (R380, R401). -/
theorem sdSend_can {net : Nat} (h : net < 8) (c : Nat) (bs : List Byte) (s : State) :
    Handed net s (s.sdSend c net bs) ∧ (s.sdSend c net bs).eth = s.eth := by
  unfold sdSend
  rw [if_pos h]
  dsimp only
  generalize hx : Tab.put (s.canOf net).safe c bs = safe
  have hcount : ∀ r : State, r = s.count (CAN.CNT3 net) 31 24 ∨ r = s → Handed net s r ∧ r.eth = s.eth := by
    rintro r (rfl | rfl)
    · exact ⟨⟨fun y hy => rd_count_ne s _ _ _ hy, rfl, fun _ _ => rfl⟩, rfl⟩
    · exact ⟨.refl net _, rfl⟩
  obtain ⟨h1, h2⟩ := hcount (if (Tab.find (s.canOf net).safe c).isSome then s.count (CAN.CNT3 net) 31 24 else s) (by
    split
    · exact .inl rfl
    · exact .inr rfl)
  generalize (if (Tab.find (s.canOf net).safe c).isSome then s.count (CAN.CNT3 net) 31 24 else s) = r at h1 h2
  obtain ⟨h3, h4⟩ := canStart_handed h (r.putCan net { s.canOf net with safe := safe })
  have hput : Handed net r (r.putCan net { s.canOf net with safe := safe }) := ⟨fun _ _ => rfl, rfl, fun _ _ => rfl⟩
  exact ⟨h1.trans (hput.trans h3), h4.trans h2⟩

/-- A container handed to an Ethernet port (R380). -/
theorem sdSend_eth {net e : Nat} (h : net = 8 + e) (c : Nat) (bs : List Byte) (s : State) :
    Handed net s (s.sdSend c net bs) ∧ Tab.find (Tab.get {} (s.sdSend c net bs).eth e).safe c = some bs := by
  subst h
  unfold sdSend
  rw [if_neg (by omega), Nat.add_sub_cancel_left]
  refine ⟨⟨fun _ _ => rfl, rfl, fun _ _ => rfl⟩, ?_⟩
  dsimp only
  rw [Tab.get_put_same, Tab.find_put_same]

theorem sdSend_handed (net c : Nat) (bs : List Byte) (s : State) : Handed net s (s.sdSend c net bs) := by
  by_cases h : net < 8
  · exact (sdSend_can h c bs s).1
  · exact (sdSend_eth (e := net - 8) (by omega) c bs s).1

/-! ### A container that is sent (R382) -/

theorem sdReport_length (s : State) : s.sdReport.length = 16 := by
  simp [sdReport]

/-- A container before its CRC: the identity, the number, the time, the data and two reserved bytes (R380). -/
def sdBody (s : State) (c seq : Nat) : List Byte :=
  leBytes 2 (s.fld (BAL1.SDCFG c) 31 16) ++ leBytes 2 seq ++ leBytes 6 (lt48 s.t16).toNat ++ s.sdReport ++ [0, 0]

/-- The container that channel `c` sends next. -/
def sdNext (s : State) (c : Nat) : List Byte :=
  let body := s.sdBody c ((s.fld (BAL1.SDSTA c) 31 16 + 1) % 0x10000)
  body ++ leBytes 4 (sdCrc (s.rd (BAL1.SDSALT c)) body).toNat

section
variable (s : State) (c seq : Nat)

theorem sdBody_length : (s.sdBody c seq).length = 28 := by
  simp [sdBody, sdReport_length]

theorem take_sdNext : (s.sdNext c).take 28 = s.sdBody c ((s.fld (BAL1.SDSTA c) 31 16 + 1) % 0x10000) := by
  rw [sdNext, List.take_append_of_le_length (by rw [sdBody_length]), List.take_of_length_le (by rw [sdBody_length])]

theorem sdBody_id : (s.sdBody c seq).take 2 = leBytes 2 (s.fld (BAL1.SDCFG c) 31 16) := by
  simp [sdBody]

theorem sdBody_number : ((s.sdBody c seq).drop 2).take 2 = leBytes 2 seq := by
  simp [sdBody]

theorem sdBody_data : ((s.sdBody c seq).drop 10).take 16 = s.sdReport := by
  rw [sdBody, List.append_assoc, List.drop_left' (by simp), List.take_left' (sdReport_length s)]

theorem sdNext_length : (s.sdNext c).length = 32 := by
  simp [sdNext, sdBody_length]

theorem take_drop_sdNext {a n : Nat} (h : a + n ≤ 28) : ((s.sdNext c).drop a).take n =
    ((s.sdBody c ((s.fld (BAL1.SDSTA c) 31 16 + 1) % 0x10000)).drop a).take n := by
  rw [← take_sdNext, List.drop_take, List.take_take, Nat.min_eq_left (by omega)]

theorem drop_sdNext : (s.sdNext c).drop 28 = leBytes 4 (sdCrc (s.rd (BAL1.SDSALT c)) (s.sdNext c)).toNat := by
  have h : sdCrc (s.rd (BAL1.SDSALT c)) (s.sdNext c) =
      sdCrc (s.rd (BAL1.SDSALT c)) (s.sdBody c ((s.fld (BAL1.SDSTA c) 31 16 + 1) % 0x10000)) := by
    rw [sdCrc, sdCrc, take_sdNext, List.take_of_length_le (by rw [sdBody_length])]
  rw [h, sdNext]
  exact List.drop_left' (sdBody_length s c _)

end

/-- What a transmitting channel keeps of the container that it sends. -/
def sdKeep (c : Nat) (s : State) : State :=
  ((s.putChan c { s.chanOf c with sent := s.sdNext c }).setFld (BAL1.SDSTA c) 31 16
    ((s.fld (BAL1.SDSTA c) 31 16 + 1) % 0x10000)).wr (BAL1.SDDATA c) (BitVec.ofNat 32 (ofLeBytes (s.sdReport.take 4)))

theorem safeDataTx_eq {s : State} {c : Nat} (ho : s.sdOn c true = true) (hr : s.balRuns = true) : s.safeDataTx c =
    ((s.sdKeep c).sdSend c ((s.sdKeep c).sdNet c false) (s.sdNext c)).sdSend c ((s.sdKeep c).sdNet c true) (s.sdNext c) := by
  unfold safeDataTx
  rw [if_neg (by simp [ho, hr])]
  rfl

section
variable (s : State) (c : Nat)

theorem sdNet_sdKeep (nb : Bool) : (s.sdKeep c).sdNet c nb = s.sdNet c nb := by
  have h1 : BAL1.SDCFG c ≠ BAL1.SDDATA c := by simp only [BAL1.SDCFG, BAL1.SDDATA, regAt]; omega
  have h2 : BAL1.SDCFG c ≠ BAL1.SDSTA c := by simp only [BAL1.SDCFG, BAL1.SDSTA, regAt]; omega
  have h : (s.sdKeep c).rd (BAL1.SDCFG c) = s.rd (BAL1.SDCFG c) := by
    rw [sdKeep, rd_wr_ne _ _ h1, rd_setFld_ne _ _ _ _ h2]
    rfl
  unfold sdNet
  rw [fld_congr h, fld_congr h, fld_congr h, fld_congr h]

theorem sent_sdKeep : ((s.sdKeep c).chanOf c).sent = s.sdNext c := by
  rw [sdKeep, chanOf_congr (wr_bal _ _ _), chanOf_congr (setFld_bal _ _ _ _ _), chanOf_putChan]

theorem seq_sdKeep : (s.sdKeep c).fld (BAL1.SDSTA c) 31 16 = (s.fld (BAL1.SDSTA c) 31 16 + 1) % 0x10000 := by
  rw [sdKeep, fld_congr (rd_wr_ne _ _ (SDSTA_ne_SDDATA c)), fld_setFld_same _ _ (by omega)]
  exact Nat.mod_mod _ _

theorem data_sdKeep : (s.sdKeep c).num (BAL1.SDDATA c) = ofLeBytes (s.sdReport.take 4) := by
  rw [sdKeep, num, rd_wr_same, BitVec.toNat_ofNat]
  exact Nat.mod_eq_of_lt (ofLeBytes_take_lt _ 4)

/-- A hand-over to a network touches no register of a channel. -/
theorem own_ne_CNT3 {c : Nat} {y : Nat} (hy : sdOwn c y) (net : Nat) : y ≠ CAN.CNT3 net := by
  simp only [sdOwn, BAL1.SDCNT, BAL1.SDSTA, BAL0.VINSTA, BAL1.SDDATA, pgBAL0, pgBAL1, regAt] at hy
  simp only [CAN.CNT3, pgCAN, regAt]
  omega

end

/-- A transmitting channel sends its container on both networks (R382). -/
theorem safeDataTx_sends {s : State} {c : Nat} (hc : c < 8) (ho : s.sdOn c true = true) (hr : s.balRuns = true) :
    Completes (.safeDataTx c) s fun t =>
      (t.chanOf c).sent = s.sdNext c ∧
      t.fld (BAL1.SDSTA c) 31 16 = (s.fld (BAL1.SDSTA c) 31 16 + 1) % 0x10000 ∧
      t.num (BAL1.SDDATA c) = ofLeBytes (s.sdReport.take 4) ∧
      (∀ nb e, s.sdNet c nb = 8 + e → s.sdNet c (!nb) < 8 → Tab.find (Tab.get {} t.eth e).safe c = some (s.sdNext c)) ∧
      SameBytes (fun y => canBase 0 ≤ y ∧ y < canBase 8) s t := by
  refine completes_channel hc (show exec (.safeDataTx c) s = execSafeDataTx c s from rfl) ?_
  rw [safeDataTx_eq ho hr, sdNet_sdKeep, sdNet_sdKeep]
  have hk : ∀ a, (s.sdKeep c).byte a = s.byte a := fun _ => rfl
  have hsent := sent_sdKeep s c
  have hseq := seq_sdKeep s c
  have hdata := data_sdKeep s c
  generalize s.sdKeep c = r at hk hsent hseq hdata
  set u := r.sdSend c (s.sdNet c false) (s.sdNext c) with hu
  have h1 : Handed (s.sdNet c false) r u := sdSend_handed _ _ _ _
  have h2 : Handed (s.sdNet c true) u (u.sdSend c (s.sdNet c true) (s.sdNext c)) := sdSend_handed _ _ _ _
  have hrd : ∀ y, sdOwn c y → (u.sdSend c (s.sdNet c true) (s.sdNext c)).rd y = r.rd y := fun y hy =>
    (h2.rd y (own_ne_CNT3 hy _)).trans (h1.rd y (own_ne_CNT3 hy _))
  refine ⟨?_, (fld_congr (hrd _ (own_SDSTA c)) 31 16).trans hseq, (num_congr (hrd _ (own_SDDATA c))).trans hdata,
    fun nb e he hn => ?_, fun a ha => (h2.byte a ha).trans ((h1.byte a ha).trans (hk a))⟩
  · rw [chanOf_congr (h2.bal.trans h1.bal) c, hsent]
  · cases nb with
    | false =>
      have hn' : s.sdNet c true < 8 := hn
      rw [(sdSend_can hn' c _ u).2]
      exact (sdSend_eth he c _ r).2
    | true => exact (sdSend_eth he c _ u).2

end State

/-- Settles O51: a safe-data channel's copies, pairs, windows and containers. -/
theorem safeData : Obligations.SafeData := by
  intro s c hc
  refine ⟨State.receiver_off hc, fun ho hr nb bs => ⟨fun hcr => ?_, fun hcr => ?_⟩,
    State.sdwinExpiry_drops hc, State.sdwinExpiry_idle hc, fun ho => ?_, fun ho hr => ?_, State.transmitter_off hc⟩
  · obtain ⟨t, he, h1, h2, hstep⟩ := State.safeDataRx_lost hc ho hr nb bs hcr
    exact ⟨t, he, h1, h2, hstep.frame⟩
  · have take := fun {P} => State.completes_safeDataRx hc ho hr nb bs (P := P) hcr
    refine ⟨fun hg => take fun k => ?_, fun hg ht => ⟨fun hx => take fun k => ?_, fun old at_ hx hw hq =>
      ⟨fun hd => take fun k => ?_, fun he hd => take fun k => ?_⟩⟩⟩
    · rw [State.sdCopy_bad (s := { s with credits := k }) hg]
      have hstep := State.SdStep.count (State.own_SDCNT c) { s with credits := k } 31 24 1
      exact ⟨State.fld_count_same _ 1 (by omega), rfl, hstep.of_credits.frame⟩
    · obtain ⟨h1, h2, hstep⟩ := State.sdCopy_first_holds (s := { s with credits := k }) hc (nb := nb) hg ht hx
      exact ⟨h1, h2, hstep.of_credits.frame⟩
    · obtain ⟨h1, h2, h3, h4, h5, hstep⟩ := State.sdCopy_differ (s := { s with credits := k }) hc hg ht hx hw hq hd
      exact ⟨h1, h2, h3, h4, h5, hstep.of_credits.frame⟩
    · obtain ⟨h1, h2, h3, h4, h5, h6, hstep⟩ := State.sdCopy_agree (s := { s with credits := k }) hc hg ht hx hw hq ho he hd
      exact ⟨h1, h2, h3, h4, h5, h6, hstep.of_credits.frame⟩
  · obtain ⟨t, he, h1, h2, h3, h4, h5, hstep⟩ := State.sdtoExpiry_ends hc ho
    exact ⟨t, he, h1, h2, h3, h4, h5, hstep.frame⟩
  · obtain ⟨t, he, h1, h2, h3, h4, h5⟩ := State.safeDataTx_sends hc ho hr
    refine ⟨t, he, ?_⟩
    dsimp only
    rw [h1]
    refine ⟨State.sdNext_length s c, ?_, ?_, ?_, State.drop_sdNext s c, h2, h3, h4, h5⟩
    · exact (State.take_drop_sdNext s c (a := 0) (by omega)).trans (State.sdBody_id s c _)
    · exact (State.take_drop_sdNext s c (by omega)).trans (State.sdBody_number s c _)
    · exact (State.take_drop_sdNext s c (by omega)).trans (State.sdBody_data s c _)

end Sys2Proof.Machine

namespace Sys2Proof

/-! ### Gallery instruction words, put together and taken apart (R86) -/

section
variable {m n lo len i : Nat} (x : BitVec m) (y : BitVec n)

/-- Bits that lie in the low part. -/
@[simp] theorem extract_append_low (h : lo + len ≤ n) : (x.append y).extractLsb' lo len = y.extractLsb' lo len :=
  BitVec.extractLsb'_append_eq_of_add_le h

/-- Bits that lie in the high part. -/
@[simp] theorem extract_append_high (h : n ≤ lo) : (x.append y).extractLsb' lo len = x.extractLsb' (lo - n) len :=
  BitVec.extractLsb'_append_eq_of_le h

@[simp] theorem getLsbD_append_low (h : i < n) : (x.append y).getLsbD i = y.getLsbD i :=
  BitVec.getLsbD_append.trans (if_pos h)

@[simp] theorem getLsbD_append_high (h : n ≤ i) : (x.append y).getLsbD i = x.getLsbD (i - n) :=
  BitVec.getLsbD_append.trans (if_neg (Nat.not_lt.2 h))

/-- Bits that reach over a low part of zeros are zero where those of the high part are. -/
@[simp] theorem extract_append_zero (h : lo < n) (hn : n < lo + len) :
    (x.append 0#n).extractLsb' lo len = 0#len ↔ x.extractLsb' 0 (lo + len - n) = 0#(lo + len - n) := by
  constructor <;> intro hx <;> apply BitVec.eq_of_getLsbD_eq <;> intro j hj
  · have hj' := congrArg (BitVec.getLsbD · (n - lo + j)) hx
    rw [BitVec.getLsbD_extractLsb', getLsbD_append_high _ _ (by omega), decide_eq_true (by omega),
      show lo + (n - lo + j) - n = 0 + j from by omega] at hj'
    simpa [hj] using hj'
  · rw [BitVec.getLsbD_extractLsb']
    by_cases hl : lo + j < n
    · simp [getLsbD_append_low x 0#n hl, -BitVec.append_eq]
    · have hj' := congrArg (BitVec.getLsbD · (lo + j - n)) hx
      rw [BitVec.getLsbD_extractLsb', decide_eq_true (by omega), Nat.zero_add] at hj'
      rw [getLsbD_append_high _ _ (by omega)]
      simpa using fun _ => hj'

end

theorem decodeGal_encodeAlu {op : BitVec 6} (ho : op ≠ 13#6) (g ns lat : Nat) (d a : BitVec 5) (y : AluSrc) :
    decodeGal g ns lat (encodeAlu op d a y) = aluOf g op.toNat d a y := by
  cases y with
  | reg b => simp [-BitVec.append_eq, ho, decodeGal, decodeAluReg, encodeAlu, word6, HAppend.hAppend, field, whenZero]
  | imm v => simp [-BitVec.append_eq, ho, decodeGal, decodeAluImm, encodeAlu, word6, HAppend.hAppend, field]

theorem condOf_num (c : Cond) : condOf c.num = some c := by cases c <;> rfl

/-- A word encoded decodes to its instruction, on its gallery and with the operands that lie outside the word.  The cases
are the classes of R86; a word without operand bits is closed, and decodes by evaluation. -/
theorem decodeGal_encodeGal {i : Instr} {w : Word} (h : encodeGal i = some w) :
    ∃ g ns lat, decodeGal g ns lat w = some i := by
  cases i with
  | nop g | ret g | reti g | retx g | endt g | sync g | sevt g | trcap g =>
    cases h
    exact ⟨g, 0, 0, rfl⟩
  | waiti g ns =>
    cases h
    exact ⟨g, ns, 0, rfl⟩
  | b g c r o | call g o | loop g l r o | loopi g l n o | lexit g l | trap g c =>
    cases h
    refine ⟨g, 0, 0, ?_⟩
    simp [-BitVec.append_eq, -BitVec.getLsbD_eq_getElem, decodeGal, decodeControl, condOf_num, word4, HAppend.hAppend,
      field, whenZero]
  | add g d a y | sub g d a y | adds g d a y | subs g d a y | and g d a y | or g d a y | xor g d a y | shl g d a y
  | shr g d a y | sar g d a y | mul g d a y | min g d a y | max g d a y | slt g d a y | sltu g d a y =>
    cases h
    exact ⟨g, 0, 0, decodeGal_encodeAlu (by decide) g 0 0 d a y⟩
  | abss g d a im =>
    cases h
    refine ⟨g, 0, 0, ?_⟩
    cases im <;> simp [-BitVec.append_eq, decodeGal, decodeAluReg, decodeAluImm, encodeAlu, word6, HAppend.hAppend,
      field, whenZero]
  | lui g d v =>
    cases h
    refine ⟨g, 0, 0, ?_⟩
    simp [-BitVec.append_eq, decodeGal, HAppend.hAppend, field, whenZero]
  | lw g d b o | sw g x b o | lf g d b o | sf g x b o =>
    cases h
    refine ⟨g, 0, 0, ?_⟩
    simp [-BitVec.append_eq, decodeGal, decodeData, word554, word4, HAppend.hAppend, field, whenZero]
  | mlw g d b o lat =>
    cases h
    refine ⟨g, 0, lat, ?_⟩
    simp [-BitVec.append_eq, decodeGal, decodeMezz, word554, word4, HAppend.hAppend, field]
  | msw g x b o =>
    cases h
    refine ⟨g, 0, 0, ?_⟩
    simp [-BitVec.append_eq, decodeGal, decodeMezz, word554, word4, HAppend.hAppend, field]
  | vld g d b o | vst g x b o | vbc g d b | vins g d b k | vext g x b k =>
    cases h
    refine ⟨g, 0, 0, ?_⟩
    simp [-BitVec.append_eq, decodeGal, decodeVector, encodeVec, word4, HAppend.hAppend, field, whenZero]
  | smac g f ad a b | smsu g f ad a b | vdot g f ad a b m | vdotn g f ad a b m =>
    cases h
    refine ⟨g, 0, 0, ?_⟩
    simp [-BitVec.append_eq, -BitVec.getLsbD_eq_getElem, decodeGal, decodeMac, encodeMac, word4, HAppend.hAppend,
      field, whenZero]
  | azero g a | ald g a r n | asat g a r n | asatt g a r n | agetl g a r | agetm g a r | ageth g a r | aputl g a r
  | aputm g a r | aputh g a r =>
    cases h
    refine ⟨g, 0, 0, ?_⟩
    simp [-BitVec.append_eq, decodeGal, decodeAcc, encodeAcc, word4, HAppend.hAppend, field, whenZero]
  | fadd g d a b | fsub g d a b | fmul g d a b | fma g d a b | fdiv g d a b | fsqrt g d a | fmin g d a b | fmax g d a b
  | fabs g d a | fneg g d a | fcmplt g r a b | ftoq g r a | qtof g d r | ftoi g r a | itof g d r | fmvg g r a | gmvf g d r =>
    cases h
    refine ⟨g, 0, 0, ?_⟩
    simp [-BitVec.append_eq, decodeGal, decodeFp, encodeFp, word6, HAppend.hAppend, field, whenZero]
  | sinitmax g r | sinitmin g r | sstep g x l | sget g r | sgeti g r =>
    cases h
    refine ⟨g, 0, 0, ?_⟩
    simp [-BitVec.append_eq, decodeGal, decodeSearch, encodeSearch, word4, HAppend.hAppend, field, whenZero]
  | swait g a b | ldsp g a b | pcommit g a b | obsr g a b =>
    cases h
    refine ⟨g, 0, 0, ?_⟩
    simp [-BitVec.append_eq, decodeGal, decodeLanding, word554, word4, HAppend.hAppend, field, whenZero]
  | mfs g r n | mts g r n =>
    cases h
    refine ⟨g, 0, 0, ?_⟩
    simp [-BitVec.append_eq, decodeGal, decodeSys, word4, HAppend.hAppend, field, whenZero]
  | _ => cases h

/-- Settles O29: the decoder takes apart what the encoder puts together, class by class. -/
theorem galRoundTrip : Obligations.GalRoundTrip := fun _ _ h => decodeGal_encodeGal h

/-- Settles O30: the decoder evaluated on the words. -/
theorem galWords : Obligations.GalWords := by
  unfold Obligations.GalWords
  decide

end Sys2Proof

namespace Sys2Proof.Machine

section
variable (c : Core) (r : BitVec 5) (w : Word)

@[simp] theorem Core.setG_deferred : (c.setG r w).deferred = c.deferred := by unfold setG; split <;> rfl
@[simp] theorem Core.setG_flights : (c.setG r w).flights = c.flights := by unfold setG; split <;> rfl

end

namespace State

theorem loopNext_idle {c : Core} (h : c.act = 0) : loopNext c = { c with pc := c.pc + 4 } := by simp [loopNext, h]

/-- An instruction that reads no register and needs no division issues at once. -/
theorem issueCycle_no_reads (c : Core) : issueCycle c [] false = c.cyc := by
  have h : ∀ (l : List Flight) (n : Nat), l.foldl (fun m f =>
      if f.inter = true ∧ ([] : List (BitVec 5)).any (fun r => decide (r ≠ 0 ∧ f.dest = .g (gIndex c.ctx r.toNat))) = true
      then Nat.max m f.due else m) n = n := by
    intro l n
    induction l with
    | nil => rfl
    | cons f l ih => simp
  exact h c.flights c.cyc

/-! ### An instruction's result, one cycle later and more (R89, R90) -/

/-- A row of a built gallery whose effect is known. -/
theorem exec_onGal {s t : State} {g : Nat} {i : Instr} {f : State → State} (hg : g < s.variant.galleries)
    (he : exec i s = onGal g f s) (ht : f s = t) : exec i s = .next t := by
  rw [he, ← ht]
  unfold onGal onUnit
  rw [if_pos (decide_eq_true hg)]

/-- While every result in flight is due later, settling is writing the core back. -/
theorem settle_later {s : State} {g : Nat} (h : ∀ f ∈ (s.coreOf g).flights, (s.coreOf g).cyc < f.due) :
    s.settle g = s.putCore g (s.coreOf g) := by
  have hn : (s.coreOf g).flights.filter (fun f => decide (f.due ≤ (s.coreOf g).cyc)) = [] := by
    rw [List.filter_eq_nil_iff]
    intro f hf
    have := h f hf
    simp only [decide_eq_true_eq]
    omega
  have hl : (s.coreOf g).flights.filter (fun f => !decide (f.due ≤ (s.coreOf g).cyc)) = (s.coreOf g).flights := by
    rw [List.filter_eq_self]
    intro f hf
    have := h f hf
    simp only [Bool.not_eq_true', decide_eq_false_iff_not]
    omega
  unfold settle
  dsimp only
  rw [hn, hl, List.foldl_nil]

/-- The end of a cycle in which the one result in flight lands. -/
theorem endCycle_lands {s t : State} {g : Nat} {f : Flight} (hf : (s.coreOf g).flights = [f])
    (hdue : f.due ≤ (s.coreOf g).cyc + 1)
    (ht : landOne g (s.putCore g { s.coreOf g with
      flights := [], cyc := (s.coreOf g).cyc + 1, seq := (s.coreOf g).seq + 1 }) f = t)
    (hd : (t.coreOf g).deferred = []) : endCycle g s = t := by
  have hs : settle g (s.putCore g { s.coreOf g with cyc := (s.coreOf g).cyc + 1, seq := (s.coreOf g).seq + 1 }) = t := by
    rw [← ht]
    simp [settle, hf, hdue]
  unfold endCycle
  dsimp only
  rw [hs, takeDeferred_nil hd]

section
variable {s : State} {g : Nat} (h : s.GalQuiet g) (control : Bool) (reads : List (BitVec 5)) (div : Bool)
  {body : State → State × Next}
include h

/-- A result that lands in a later cycle than the next is left in flight. -/
theorem issue_produce {lat : Nat} (hlat : 1 < lat) {f : Flight}
    (hb : body (s.putCore g (s.coreOf g)) = ((s.putCore g (s.coreOf g)).produce g lat f, .seq)) :
    s.issue g control reads div body = s.putCore g { (s.coreOf g).next with
      flights := [{ f with due := (s.coreOf g).cyc + lat, seq := (s.coreOf g).seq }] } := by
  obtain ⟨hf, hd, hs, ha⟩ := h.still
  refine issue_core h control reads div body (d := { s.coreOf g with
    flights := [{ f with due := (s.coreOf g).cyc + lat, seq := (s.coreOf g).seq }] }) ?_ (loopNext_idle ha) hs hd ?_
  · rw [hb]
    simp [produce, hf, insertFlight]
  · simpa using hlat

/-- A result of the next cycle lands at once. -/
theorem issue_lands {f : Flight} {t : State}
    (hb : body (s.putCore g (s.coreOf g)) = ((s.putCore g (s.coreOf g)).produce g 1 f, .seq))
    (ht : landOne g (s.putCore g (s.coreOf g).next) { f with due := (s.coreOf g).cyc + 1, seq := (s.coreOf g).seq } = t)
    (hdef : (t.coreOf g).deferred = []) : s.issue g control reads div body = t := by
  obtain ⟨hf, hd, hs, ha⟩ := h.still
  rw [issue_ready h.1 _ _ _ _ (fun _ => hs), hb]
  simp only [produce, follow, goOn, coreOf_putCore, hs, hf, insertFlight, putCore_putCore]
  rw [loopNext_idle]
  · refine endCycle_lands (f := { f with due := (s.coreOf g).cyc + 1, seq := (s.coreOf g).seq }) (by simp) (by simp) ?_ hdef
    rw [← ht]
    simp [Core.next, hf, hs]
  · exact ha

theorem issue_produceG_next {r : BitVec 5} {w : Word}
    (hb : body (s.putCore g (s.coreOf g)) = ((s.putCore g (s.coreOf g)).produceG g 1 r w none, .seq)) :
    s.issue g control reads div body = s.putCore g ((s.coreOf g).next.setG r w) := by
  obtain ⟨hf, hd, hs, ha⟩ := h.still
  rw [issue_ready h.1 _ _ _ _ (fun _ => hs), hb, produceG,
    endCycle_produce (by rw [coreOf_putCore]; exact h.still) rfl rfl rfl]
  simp only [coreOf_putCore, putCore_putCore]
  congr 1
  exact Core.landG_gIndex (s.coreOf g).next r w

theorem issue_produceG {lat : Nat} (hlat : 1 < lat) {r : BitVec 5} {w : Word} {note : Option Nat}
    (hb : body (s.putCore g (s.coreOf g)) = ((s.putCore g (s.coreOf g)).produceG g lat r w note, .seq)) :
    s.issue g control reads div body = s.putCore g ((s.coreOf g).flyG lat r w note) := by
  rw [issue_produce h control reads div hlat hb, coreOf_putCore]
  rfl

/-- An ALU instruction with its result in the next cycle. -/
theorem alu_next (d a : BitVec 5) (y : AluSrc) (f : Word → Word → Word) :
    s.alu g 1 d a y f = s.putCore g ((s.coreOf g).next.setG d (f ((s.coreOf g).g a) ((s.coreOf g).src y))) :=
  issue_produceG_next h _ _ _ (by simp only [coreOf_putCore])

theorem alu_later {lat : Nat} (hlat : 1 < lat) (d a : BitVec 5) (y : AluSrc) (f : Word → Word → Word) :
    s.alu g lat d a y f = s.putCore g ((s.coreOf g).flyG lat d (f ((s.coreOf g).g a) ((s.coreOf g).src y))) :=
  issue_produceG h _ _ _ hlat (by simp only [coreOf_putCore])

end

/-! ### A NOP under a result in flight (R89, R90) -/

section
variable {s : State} {g : Nat} {f : Flight} (hq : (s.putCore g { s.coreOf g with flights := [] }).GalQuiet g)
  (hf : (s.coreOf g).flights = [f]) (hdue : (s.coreOf g).cyc < f.due)
include hq hf hdue

/-- The NOP's cycle ends with the result still in flight at its start. -/
theorem nop_flying : s.issue g false [] false (fun s => (s, .seq)) =
    endCycle g (s.putCore g { s.coreOf g with pc := (s.coreOf g).pc + 4 }) := by
  obtain ⟨⟨hg, hi, -, -, -, hp, hp4⟩, hs, ha⟩ := hq
  simp only [coreOf_putCore] at hp hp4 hs ha
  have hi' : s.galIssues g = true := by
    unfold galIssues at hi ⊢
    rw [coreOf_putCore] at hi
    exact hi
  unfold issue
  simp only [hi', if_true, issueCycle_no_reads]
  rw [settle_later (by simpa [hf] using hdue)]
  simp only [coreOf_putCore, putCore_putCore]
  rw [if_neg (by omega), if_neg (by simp)]
  simp only [follow, goOn, coreOf_putCore, hs, putCore_putCore]
  rw [loopNext_idle]
  exact ha

theorem nop_keeps_flight (hlate : (s.coreOf g).cyc + 1 < f.due) :
    exec (.nop g) s = .next (s.putCore g (s.coreOf g).next) := by
  refine exec_onGal (s := s) hq.built rfl ?_
  have hd : (s.coreOf g).deferred = [] := by
    obtain ⟨⟨-, -, -, hd, -⟩, -⟩ := hq
    rwa [coreOf_putCore] at hd
  rw [nop_flying hq hf hdue]
  unfold endCycle
  simp only [coreOf_putCore, putCore_putCore]
  rw [settle_later (by simpa [hf] using hlate)]
  rw [takeDeferred_nil (by simpa using hd)]
  simp [Core.next]

theorem nop_lands_flight {r : BitVec 5} (hr : r ≠ 0) (hdest : f.dest = .g (gIndex (s.coreOf g).ctx r.toNat))
    (hn : f.note = none) (hnow : (s.coreOf g).cyc + 1 = f.due) : exec (.nop g) s =
      .next (s.putCore g (({ (s.coreOf g).next with flights := [] } : Core).setG r (f.words.getD 0 0))) := by
  have hd : (s.coreOf g).deferred = [] := by
    obtain ⟨⟨-, -, -, hd, -⟩, -⟩ := hq
    rwa [coreOf_putCore] at hd
  refine exec_onGal (s := s) hq.built rfl ?_
  have hi : gIndex (s.coreOf g).ctx r.toNat ≠ 0 := fun e => hr (BitVec.eq_of_toNat_eq (gIndex_eq_zero.1 e))
  rw [nop_flying hq hf hdue]
  apply endCycle_lands (f := f)
  · simpa using hf
  · simp only [coreOf_putCore]
    omega
  · simp only [landOne, hdest, hn, hi, if_false, coreOf_putCore, putCore_putCore, Core.setG, hr, Core.next]
  · simpa [Core.next] using hd

end

end State

/-! ### The ALU's words as their instructions name them (R86, R87) -/

theorem aluMin_eq (x y : Word) : aluMin x y = if x.slt y then x else y := by
  simp [aluMin, BitVec.slt_eq_decide]

theorem aluMax_eq (x y : Word) : aluMax x y = if x.slt y then y else x := by
  simp [aluMax, BitVec.slt_eq_decide]

theorem aluSlt_eq (x y : Word) : aluSlt x y = if x.slt y then 1 else 0 := by
  simp [aluSlt, BitVec.slt_eq_decide]

theorem aluSltu_eq (x y : Word) : aluSltu x y = if x.ult y then 1 else 0 := by
  simp [aluSltu, BitVec.ult]

/-- Only the most negative word has no absolute value in 32 bits. -/
theorem aluAbss_eq (x : Word) : aluAbss x = if x = 0x80000000 then 0x7FFFFFFF else if x.msb then -x else x := by
  have hneg := BitVec.msb_eq_toInt (x := x)
  unfold aluAbss satInt
  by_cases hx : x = 0x80000000
  · subst hx
    decide
  · have hmin : x.toInt ≠ -2 ^ 31 := fun e => hx (BitVec.eq_of_toInt_eq (e.trans (by decide)))
    have hlo := BitVec.le_toInt x
    have hhi := BitVec.toInt_lt (x := x)
    rw [if_neg hx]
    by_cases hs : x.toInt < 0
    · simp only [hneg, hs, decide_true, if_true]
      rw [if_neg (by omega), if_neg (by omega), BitVec.ofInt_neg, BitVec.ofInt_toInt]
    · simp only [hneg, hs, decide_false, if_false, Bool.false_eq_true]
      rw [if_neg (by omega), if_neg (by omega), BitVec.ofInt_toInt]

theorem lui_eq (v : BitVec 20) : v.setWidth 32 <<< 12 = v ++ (0 : BitVec 12) := by
  apply BitVec.eq_of_toNat_eq
  have := v.isLt
  rw [BitVec.toNat_append]
  simp
  omega

/-- Settles O15: the ALU's results as whole next states, and a result in flight under a NOP. -/
theorem galAluResults : Obligations.GalAluResults := by
  refine ⟨fun s g d a y h => ?_, fun s g r f hr hq hf hdue hdest hn _ => ?_⟩
  · have one : ∀ (i : Instr) (f : Word → Word → Word), exec i s = onGal g (State.alu g 1 d a y f) s →
        exec i s = .next (s.putCore g ((s.coreOf g).next.setG d (f ((s.coreOf g).g a) ((s.coreOf g).src y)))) :=
      fun i f he => State.exec_onGal h.built he (State.alu_next h d a y f)
    refine ⟨one _ _ rfl, one _ _ rfl, one _ aluAdds rfl, one _ aluSubs rfl, one _ _ rfl, one _ _ rfl, one _ _ rfl,
      one _ aluShl rfl, one _ aluShr rfl, one _ aluSar rfl, ?_, ?_, ?_, fun imm => ?_, ?_, ?_, fun imm => ?_⟩
    · exact State.exec_onGal h.built rfl (State.alu_later h (by omega) d a y (· * ·))
    · rw [← aluMin_eq]
      exact one _ aluMin rfl
    · rw [← aluMax_eq]
      exact one _ aluMax rfl
    · rw [← aluAbss_eq]
      exact State.exec_onGal h.built rfl (State.alu_next h d a (.imm 0) fun x _ => aluAbss x)
    · rw [← aluSlt_eq]
      exact one _ aluSlt rfl
    · rw [← aluSltu_eq]
      exact one _ aluSltu rfl
    · rw [← lui_eq]
      exact State.exec_onGal h.built rfl (State.issue_produceG_next h _ _ _ rfl)
  · exact ⟨State.nop_keeps_flight hq hf hdue, State.nop_lands_flight hq hf hdue hr hdest hn⟩

end Sys2Proof.Machine

namespace Sys2Proof.Machine

/-- What stands in a table after `n` places in a row have been set. -/
theorem Tab.get_foldl_set {α : Type} [DecidableEq α] (d : α) (b : Nat) (f : Nat → α) (n : Nat) (t : Tab α) (j : Nat) :
    Tab.get d ((List.range n).foldl (fun t k => Tab.set (some d) t (b + k) (f k)) t) j =
      if b ≤ j ∧ j < b + n then f (j - b) else Tab.get d t j := by
  induction n with
  | zero => rw [if_neg (by omega)]; rfl
  | succ n ih =>
    rw [List.range_succ, List.foldl_append, List.foldl_cons, List.foldl_nil]
    by_cases hj : j = b + n
    · rw [hj, Tab.get_set_same, if_pos (by omega), Nat.add_sub_cancel_left]
    · rw [Tab.get_set_ne _ _ _ _ hj, ih]
      exact if_congr (by omega) rfl rfl

/-! ### The search unit (R109) -/

/-- One lane against the best value so far, taken where none was or where it is strictly better. -/
def betterLane (base : Word) (lane : Nat → Word) (u : Search) (k : Nat) : Search :=
  if u.idx = 0xFFFFFFFF ∨ (if u.minimum then (lane k).slt u.best else u.best.slt (lane k)) = true then
    { u with best := lane k, idx := base + BitVec.ofNat 32 k }
  else u

theorem searchLane_eq (lane : Nat → Word) (u : Search) (k : Nat) :
    searchLane u k (lane k) = betterLane u.base lane u k := by
  unfold searchLane betterLane
  cases hm : u.minimum <;> simp [BitVec.slt_eq_decide]

@[simp] theorem betterLane_base (b : Word) (lane : Nat → Word) (u : Search) (k : Nat) : (betterLane b lane u k).base = u.base := by
  rw [betterLane, apply_ite Search.base, ite_self]

/-- The base stays while the lanes are examined. -/
theorem foldl_searchLane (lane : Nat → Word) (l : List Nat) (u : Search) :
    l.foldl (fun u k => searchLane u k (lane k)) u = l.foldl (betterLane u.base lane) u := by
  induction l generalizing u with
  | nil => rfl
  | cons k l ih => rw [List.foldl_cons, List.foldl_cons, ih, searchLane_eq, betterLane_base]

theorem foldl_betterLane_base (b : Word) (lane : Nat → Word) (l : List Nat) (u : Search) :
    (l.foldl (betterLane b lane) u).base = u.base := by
  induction l generalizing u with
  | nil => rfl
  | cons k l ih => rw [List.foldl_cons, ih, betterLane_base]

/-- SSTEP over the first `n` lanes of a V register. -/
theorem searchStep_eq (c : Core) (v : BitVec 4) {n : Nat} (hn : n ≤ 8) (u : Search) :
    searchStep u ((c.v v).take n) =
      { (List.range n).foldl (betterLane u.base (c.lane v)) u with base := u.base + BitVec.ofNat 32 n } := by
  have hx : (c.v v).take n = (List.range n).map (c.lane v) := by
    rw [Core.v, ← List.map_take, List.take_range, Nat.min_eq_left hn]
  have hz : (List.range n).zip ((List.range n).map (c.lane v)) = (List.range n).map fun k => (k, c.lane v k) := by
    rw [List.zip_map_right, List.zip_eq_zipWith, List.zipWith_self, List.map_map]
    rfl
  unfold searchStep
  rw [hx, List.length_map, List.length_range, hz, List.foldl_map]
  dsimp only
  rw [foldl_searchLane, foldl_betterLane_base]

/-- A search update of an earlier cycle than the one before is seen. -/
theorem searchSeen_old {c : Core} (h : ∀ k, c.searchAt = some k → k + 1 < c.cyc) : searchSeen c = c.search := by
  unfold searchSeen
  cases hs : c.searchAt with
  | none => rfl
  | some k =>
    have := h k hs
    exact if_neg (by omega)

namespace State

section
variable {s : State} {g : Nat} (h : s.GalQuiet g) (control : Bool) (reads : List (BitVec 5)) (div : Bool)
  {body : State → State × Next}
include h

theorem issue_search {f : Search → Search}
    (hb : body (s.putCore g (s.coreOf g)) = ((s.putCore g (s.coreOf g)).searchUpdate g f, .seq)) :
    s.issue g control reads div body = s.putCore g { (s.coreOf g).next with
      search := f (s.coreOf g).search, searchPrev := (s.coreOf g).search, searchAt := some (s.coreOf g).cyc } := by
  obtain ⟨hf, hd, hs, ha⟩ := h.still
  refine issue_core h control reads div body (d := { s.coreOf g with
    search := f (s.coreOf g).search, searchPrev := (s.coreOf g).search, searchAt := some (s.coreOf g).cyc })
    ?_ (loopNext_idle ha) hs hd ?_
  · rw [hb]
    simp [searchUpdate]
  · simp [hf]

/-- VBC (R86): the scalar in every lane of the register. -/
theorem vbc_lanes (v : BitVec 4) (r : BitVec 5) : ∃ vr, exec (.vbc g v r) s = .next (s.putCore g { (s.coreOf g).next with vr := vr }) ∧
    (∀ k < 8, Tab.get 0 vr (v.toNat * 8 + k) = (s.coreOf g).g r) ∧
    ∀ k, k / 8 ≠ v.toNat → Tab.get 0 vr k = Tab.get 0 (s.coreOf g).vr k := by
  refine ⟨(List.range 8).foldl (fun t k => Tab.set (some 0) t (v.toNat * 8 + k)
    ((List.replicate 8 ((s.coreOf g).g r)).getD k 0)) (s.coreOf g).vr, ?_, fun k hk => ?_, fun k hk => ?_⟩
  · refine exec_onGal h.built rfl (issue_lands h _ _ _ rfl ?_ ?_)
    · simp [landOne, Core.next]
    · simpa [Core.next] using h.still.2.1
  · rw [Tab.get_foldl_set, if_pos (by omega), Nat.add_sub_cancel_left, List.getD_replicate _ hk]
  · rw [Tab.get_foldl_set, if_neg (by omega)]

theorem vins_lane (v : BitVec 4) (r : BitVec 5) (lane : BitVec 3) : exec (.vins g v r lane) s =
    .next (s.putCore g { (s.coreOf g).next with
      vr := Tab.set (some 0) (s.coreOf g).vr (v.toNat * 8 + lane.toNat) ((s.coreOf g).g r) }) := by
  refine exec_onGal h.built rfl (issue_lands h _ _ _ rfl ?_ ?_)
  · simp [landOne, Core.next]
  · simpa [Core.next] using h.still.2.1

end

end State

/-- Settles O18: lanes copied, the search unit's updates, and what SGET and SGETI deliver. -/
theorem galVectors : Obligations.GalVectors := by
  intro s g r v h
  refine ⟨?_, State.vins_lane h v r, fun lane => ?_, ⟨?_, ?_, fun lanes => ?_⟩, fun hs => ⟨?_, ?_⟩⟩
  · obtain ⟨vr, he, h1, h2⟩ := State.vbc_lanes h v r
    exact ⟨_, he, vr, rfl, h1, h2⟩
  · exact State.exec_onGal h.built rfl (State.issue_produceG_next h _ _ _ (by simp only [State.coreOf_putCore]))
  · exact State.exec_onGal h.built rfl ((State.issue_search h _ _ _ rfl).trans (by rw [State.coreOf_putCore]))
  · exact State.exec_onGal h.built rfl ((State.issue_search h _ _ _ rfl).trans (by rw [State.coreOf_putCore]))
  · have := lanes.isLt
    refine State.exec_onGal h.built rfl ((State.issue_search h _ _ _ rfl).trans ?_)
    rw [State.coreOf_putCore, searchStep_eq _ _ (by omega)]
    rfl
  · refine State.exec_onGal h.built rfl ((State.issue_produceG h _ _ _ (by decide) rfl).trans ?_)
    rw [State.coreOf_putCore, searchSeen_old hs]
  · refine State.exec_onGal h.built rfl ((State.issue_produceG h _ _ _ (by decide) rfl).trans ?_)
    rw [State.coreOf_putCore, searchSeen_old hs]

end Sys2Proof.Machine

namespace Sys2Proof.Machine

/-! ### The MAC unit's arithmetic (R106-R108) -/

theorem macProduct_eq (fr : Bool) (x y : Word) : macProduct fr x y =
    if fr = true ∧ x = 0x80000000 ∧ y = 0x80000000 then (2 : Int) ^ 63 - 1 else (if fr then 2 else 1) * (x.toInt * y.toInt) := by
  cases fr <;> simp [macProduct]

/-- A sum over the members of a list that a test selects. -/
theorem foldl_filter_sum (p : Nat → Bool) (f : Nat → Int) (l : List Nat) (z : Int) :
    (l.filter p).foldl (fun t i => t + f i) z = z + (l.map fun k => if p k then f k else 0).sum := by
  induction l generalizing z with
  | nil => simp
  | cons k l ih =>
    rw [List.filter_cons, List.map_cons, List.sum_cons]
    cases hp : p k with
    | true => simp only [if_true, List.foldl_cons, ih]; omega
    | false => simp only [Bool.false_eq_true, if_false, ih]; omega

/-- An integer brought into 72 bits, with the lock where it does not fit. -/
theorem accAdd_eq (v : BitVec 72) (lock : Bool) (p : Int) : accAdd { v := v, lock := lock } p =
    if lock then ({ v := v, lock := true }, false)
    else if v.toInt + p < -2 ^ 71 then ({ v := BitVec.ofInt 72 (-2 ^ 71), lock := true }, true)
    else if v.toInt + p ≥ 2 ^ 71 then ({ v := BitVec.ofInt 72 (2 ^ 71 - 1), lock := true }, true)
    else ({ v := BitVec.ofInt 72 (v.toInt + p), lock := false }, false) := by
  cases lock with
  | true => rfl
  | false =>
    simp only [accAdd, satInt, sMin, sMax, Bool.false_eq_true, if_false]
    by_cases hlo : v.toInt + p < -2 ^ 71
    · rw [if_pos (.inl hlo), if_pos hlo, if_pos hlo]
    · by_cases hhi : v.toInt + p ≥ 2 ^ 71
      · rw [if_pos (.inr (by omega)), if_neg hlo, if_neg hlo, if_pos (by omega), if_pos hhi]
      · rw [if_neg (by omega), if_neg hlo, if_neg hhi]

theorem aldValue_eq (x : Word) (n : Nat) : aldValue x n =
    if x.toInt * 2 ^ n < -2 ^ 71 then ({ v := BitVec.ofInt 72 (-2 ^ 71), lock := true }, true)
    else if x.toInt * 2 ^ n ≥ 2 ^ 71 then ({ v := BitVec.ofInt 72 (2 ^ 71 - 1), lock := true }, true)
    else ({ v := BitVec.ofInt 72 (x.toInt * 2 ^ n), lock := false }, false) := by
  have h : (0 : BitVec 72).toInt + x.toInt * 2 ^ n = x.toInt * 2 ^ n := by simp
  rw [aldValue, accAdd_eq, if_neg (by decide), h]

/-- An integer brought into 32 bits, with the note of STSAT where it does not fit. -/
def satNoted (v : Int) : Word × Option Nat :=
  if v < -2 ^ 31 then (0x80000000#32, some 8) else if v ≥ 2 ^ 31 then (0x7FFFFFFF#32, some 8) else (BitVec.ofInt 32 v, none)

theorem satNoted_eq (v : Int) : satNoted v = (satInt 32 v, if v < sMin 32 ∨ v > sMax 32 then some 8 else none) := by
  unfold satNoted satInt sMin sMax
  by_cases hlo : v < -2 ^ 31
  · rw [if_pos hlo, if_pos hlo, if_pos (.inl hlo)]
    rfl
  · by_cases hhi : v ≥ 2 ^ 31
    · rw [if_neg hlo, if_pos hhi, if_neg hlo, if_pos (by omega), if_pos (.inr (by omega))]
      rfl
    · rw [if_neg hlo, if_neg hhi, if_neg hlo, if_neg (by omega), if_neg (by omega)]

theorem asatShift_near (v : BitVec 72) (n : BitVec 6) :
    asatShift v n.toNat true = (v.toInt + if n = 0 then 0 else 2 ^ (n.toNat - 1)) / 2 ^ n.toNat := by
  unfold asatShift
  by_cases hn : n = 0
  · subst hn
    rfl
  · have h1 : n.toNat ≠ 0 := fun e => hn (BitVec.eq_of_toNat_eq e)
    rw [if_pos ⟨rfl, by omega⟩, if_neg hn]

theorem asatShift_down (v : BitVec 72) (n : Nat) : asatShift v n false = v.toInt / 2 ^ n := by
  simp [asatShift]

namespace State

theorem accOf_putCore (s : State) (g i : Nat) (c : Core) :
    (s.putCore g c).accOf g i = { v := Tab.get 0 c.acc i, lock := s.bit (GAL.ASTAT g) (16 + i) } := by
  rw [accOf, coreOf_putCore]
  rfl

theorem dot_eq (s : State) (g : Nat) (fr : Bool) (a b : BitVec 4) (mask : BitVec 8) : s.dot g fr a b mask =
    ((List.range 8).map fun k => if mask.getLsbD k then macProduct fr ((s.coreOf g).lane a k) ((s.coreOf g).lane b k) else 0).sum := by
  unfold dot bitsOf
  rw [foldl_filter_sum, Int.zero_add]
  rfl

section
variable {s : State} {g : Nat} (h : s.GalQuiet g) (control : Bool) (reads : List (BitVec 5)) (div : Bool)
  {body : State → State × Next}
include h

/-- A MAC with none of its accumulator's in flight: the sum is in flight, and the next MAC's start (R89). -/
theorem issue_mac (hc : (s.coreOf g).chain = []) {i : BitVec 3} {p : Int}
    (hb : body (s.putCore g (s.coreOf g)) = ((s.putCore g (s.coreOf g)).mac g i.toNat p, .seq)) :
    s.issue g control reads div body = s.putCore g
      { (s.coreOf g).flyA 4 i (accAdd (s.accOf g i.toNat) p) true with
        chain := [(i.toNat, ((s.coreOf g).seq, (accAdd (s.accOf g i.toNat) p).1))] } := by
  obtain ⟨hf, hd, hs, ha⟩ := h.still
  have hacc : (s.putCore g (s.coreOf g)).accChained g i.toNat = s.accOf g i.toNat := by
    rw [accChained, coreOf_putCore, hc, accOf_putCore]
    rfl
  refine (issue_core h control reads div body (d := { s.coreOf g with
    flights := ((s.coreOf g).flyA 4 i (accAdd (s.accOf g i.toNat) p) true).flights,
    chain := [(i.toNat, ((s.coreOf g).seq, (accAdd (s.accOf g i.toNat) p).1))] }) ?_ (loopNext_idle ha) hs hd ?_).trans rfl
  · rw [hb, mac, hacc]
    simp [produceA, produce, Core.flyA, hf, hc, insertFlight, Tab.put]
  · simp [Core.flyA]

theorem issue_produceA {lat : Nat} (hlat : 1 < lat) {i : BitVec 3} {r : AccVal × Bool}
    (hb : body (s.putCore g (s.coreOf g)) = ((s.putCore g (s.coreOf g)).produceA g lat i.toNat r false, .seq)) :
    s.issue g control reads div body = s.putCore g ((s.coreOf g).flyA lat i r false) :=
  issue_produce h control reads div hlat hb

theorem asat_flies (a : BitVec 3) (r : BitVec 5) (n : BitVec 6) (round : Bool)
    (hb : body (s.putCore g (s.coreOf g)) = ((s.putCore g (s.coreOf g)).asatStep g a r n round, .seq)) :
    s.issue g control reads div body = s.putCore g ((s.coreOf g).flyG 2 r
      (satNoted (asatShift (Tab.get 0 (s.coreOf g).acc a.toNat) n.toNat round)).1
      (satNoted (asatShift (Tab.get 0 (s.coreOf g).acc a.toNat) n.toNat round)).2) := by
  rw [satNoted_eq]
  refine issue_produceG h control reads div (by omega) (hb.trans ?_)
  rw [asatStep, accOf_putCore]

end

end State

theorem ushiftRight_setWidth (v : BitVec 72) : (v >>> 32).setWidth 32 = v.extractLsb' 32 32 := by
  apply BitVec.eq_of_toNat_eq
  simp [BitVec.extractLsb'_toNat]

theorem setWidth_eq_extract (v : BitVec 72) : v.setWidth 32 = v.extractLsb' 0 32 := by
  apply BitVec.eq_of_toNat_eq
  simp [BitVec.extractLsb'_toNat]

theorem guardWord_eq (v : BitVec 72) (lock : Bool) : wfld v 71 64 + 256 * b01 lock =
    (v.extractLsb' 64 8).toNat + if lock then 256 else 0 := by
  rw [wfld_eq_extract v (k := 8) rfl]
  cases lock <;> rfl

/-- Settles O19: a MAC's sum in flight, and the accumulators cleared, loaded, rounded and moved. -/
theorem galMultiplyAdd : Obligations.GalMultiplyAdd := by
  refine ⟨fun s g fr ad h hc => ?_, fun s g a r h => ?_⟩
  · have adds : ∀ {i : Instr} {reads : List (BitVec 5)} {body : State → State × Next} {p q : Int},
        exec i s = onGal g (State.issue g false reads false body) s → p = q →
        body (s.putCore g (s.coreOf g)) = ((s.putCore g (s.coreOf g)).mac g ad.toNat p, .seq) →
        exec i s = .next (s.putCore g { (s.coreOf g).flyA 4 ad (accAdd (s.accOf g ad.toNat) q) true with
          chain := [(ad.toNat, ((s.coreOf g).seq, (accAdd (s.accOf g ad.toNat) q).1))] }) := fun he hp hb =>
      State.exec_onGal h.built he (State.issue_mac h _ _ _ hc (hp ▸ hb))
    dsimp only
    simp only [← macProduct_eq, ← accAdd_eq]
    refine ⟨fun a b => ⟨?_, ?_⟩, fun a b mask => ⟨?_, ?_⟩⟩
    · exact adds rfl rfl (by simp only [State.coreOf_putCore])
    · exact adds rfl rfl (by simp only [State.coreOf_putCore])
    · exact adds rfl (by rw [State.dot_eq, State.coreOf_putCore]) rfl
    · exact adds rfl (by rw [State.dot_eq, State.coreOf_putCore]) rfl
  · have gets : ∀ {i : Instr} {body : State → State × Next} {w v : Word},
        exec i s = onGal g (State.issue g false [] false body) s → w = v →
        body (s.putCore g (s.coreOf g)) = ((s.putCore g (s.coreOf g)).produceG g 2 r w none, .seq) →
        exec i s = .next (s.putCore g ((s.coreOf g).flyG 2 r v)) := fun he hw hb =>
      State.exec_onGal h.built he (State.issue_produceG h _ _ _ (by decide) (hw ▸ hb))
    have puts : ∀ {i : Instr} (part : Nat), exec i s = onGal g (State.issue g false [r] false
        fun s => (s.aputStep g part a r, .seq)) s →
        exec i s = .next (s.putCore g ((s.coreOf g).fly 2 (.aput a.toNat part) [(s.coreOf g).g r])) := fun part he =>
      State.exec_onGal h.built he ((State.issue_produce h _ _ _ (by decide) rfl).trans (by rw [State.coreOf_putCore]; rfl))
    refine ⟨?_, fun n => ?_, fun n => ⟨?_, ?_⟩, ?_, ?_, ?_, puts 0 rfl, puts 1 rfl, puts 2 rfl⟩
    · exact State.exec_onGal h.built rfl (State.issue_produceA h _ _ _ (by decide) rfl)
    · dsimp only
      rw [← aldValue_eq]
      exact State.exec_onGal h.built rfl (State.issue_produceA h _ _ _ (by decide) (by simp only [State.coreOf_putCore]))
    · dsimp only
      rw [← asatShift_near]
      exact State.exec_onGal h.built rfl (State.asat_flies h _ _ _ a r n true rfl)
    · dsimp only
      rw [← asatShift_down]
      exact State.exec_onGal h.built rfl (State.asat_flies h _ _ _ a r n false rfl)
    · exact gets rfl (by rw [State.accOf_putCore, setWidth_eq_extract]) rfl
    · exact gets rfl (by rw [State.accOf_putCore, ushiftRight_setWidth]) rfl
    · exact gets rfl (by rw [State.accOf_putCore, guardWord_eq]) rfl

end Sys2Proof.Machine

namespace Sys2Proof.Machine

/-! ### Words in memory (R12) -/

theorem ofLeBytes_leBytes (k v : Nat) : ofLeBytes (leBytes k v) = v % 256 ^ k := by
  induction k generalizing v with
  | zero => simp [leBytes, ofLeBytes, Nat.mod_one]
  | succ k ih =>
    rw [leBytes, ofLeBytes, ih, BitVec.toNat_ofNat, show 256 ^ (k + 1) = 2 ^ 8 * 256 ^ k from Nat.pow_succ', Nat.mod_mul]
    rfl

/-- The bytes of words read word by word. -/
theorem getD_bytesOf (ws : List Word) {k j : Nat} (hk : k < ws.length) (hj : j < 4) :
    (bytesOf ws).getD (4 * k + j) 0 = (leBytes 4 (ws.getD k 0).toNat).getD j 0 := by
  induction ws generalizing k with
  | nil => exact absurd hk (Nat.not_lt_zero k)
  | cons w ws ih =>
    have hl : (leBytes 4 w.toNat).length = 4 := leBytes_length _ _
    rw [show bytesOf (w :: ws) = leBytes 4 w.toNat ++ bytesOf ws from rfl]
    cases k with
    | zero => rw [List.getD_append _ _ _ _ (by omega), List.getD_cons_zero, Nat.mul_zero, Nat.zero_add]
    | succ k =>
      rw [List.length_cons] at hk
      rw [List.getD_append_right _ _ _ _ (by omega), hl, List.getD_cons_succ,
        show 4 * (k + 1) + j - 4 = 4 * k + j from by omega, ih (by omega)]

namespace State

@[simp] theorem bytes_putCore (s : State) (g : Nat) (c : Core) (a n : Nat) : (s.putCore g c).bytes a n = s.bytes a n :=
  bytes_congr fun _ _ => rfl

/-- The words from `a` up, as a load answers them. -/
theorem leWords_bytes (s : State) (a n : Nat) : leWords n (s.bytes a (4 * n)) =
    (List.range n).map fun k => BitVec.ofNat 32 (ofLeBytes (s.bytes (a + 4 * k) 4)) := by
  induction n generalizing a with
  | zero => rfl
  | succ n ih =>
    rw [leWords, show 4 * (n + 1) = 4 + 4 * n from by omega, take_bytes, drop_bytes, ih, List.range_succ_eq_map,
      List.map_cons, List.map_map]
    congr 1
    apply List.map_congr_left
    intro k _
    simp only [Function.comp_apply]
    rw [show a + 4 + 4 * k = a + 4 * k.succ from by omega]

/-- Words stored read back. -/
theorem Stored.word {a : Nat} {ws : List Word} {s t : State} (h : Stored a (bytesOf ws) s t) {k : Nat} (hk : k < ws.length) :
    BitVec.ofNat 32 (ofLeBytes (t.bytes (a + 4 * k) 4)) = ws.getD k 0 := by
  have hl := bytesOf_length ws
  have hb : t.bytes (a + 4 * k) 4 = leBytes 4 (ws.getD k 0).toNat := by
    apply List.ext_getElem (by simp)
    intro j h1 h2
    rw [bytes_length] at h1
    have hj := getD_bytes t (a + 4 * k) 4 j h1
    rw [Nat.add_assoc, h.byte_add (by omega), getD_bytesOf ws hk h1] at hj
    rwa [List.getD_eq_getElem _ _ (by rwa [bytes_length]), List.getD_eq_getElem _ _ h2] at hj
  rw [hb, ofLeBytes_leBytes]
  apply BitVec.eq_of_toNat_eq
  have := (ws.getD k 0).isLt
  rw [BitVec.toNat_ofNat]
  omega

/-! ### Loads and stores of good words (R84, R330, R332) -/

theorem Stored.galOf_putCore_ne {a g h : Nat} {bs : List Byte} {s t : State} {c d : Core} (hst : Stored a bs (s.putCore g c) t)
    (hne : h ≠ g) : (t.putCore g d).galOf h = s.galOf h := by
  rw [galOf, putCore, putGal, hst.gal_eq, putCore, putGal]
  simp only [Tab.get_put_ne _ _ _ hne]
  rfl

/-- With nothing in flight, no delay slot and no loop, going on in order is the next address, one cycle later. -/
theorem endCycle_seq {s : State} {g : Nat} (hq : (s.coreOf g).Still) :
    endCycle g (follow g .seq s) = s.putCore g (s.coreOf g).next := by
  obtain ⟨hf, hd, hs, ha⟩ := hq
  simp only [follow, goOn, hs]
  rw [loopNext_idle ha, endCycle_still (by simpa using hf) (by simpa using hd)]
  simp [Core.next]

section
variable {s : State} {g : Nat} (h : s.GalQuiet g)
include h

/-- An instruction that leaves its core alone and goes on in order. -/
theorem issue_seq (control : Bool) (reads : List (BitVec 5)) (div : Bool) {body : State → State × Next} {t : State}
    (hb : body (s.putCore g (s.coreOf g)) = (t, .seq)) (ht : t.coreOf g = s.coreOf g) :
    s.issue g control reads div body = t.putCore g (s.coreOf g).next := by
  rw [issue_ready h.1 _ _ _ _ (fun _ => h.2.1), hb, endCycle_seq (by rw [ht]; exact h.still), ht]

theorem issue_fly (control : Bool) (reads : List (BitVec 5)) (div : Bool) {body : State → State × Next} {lat : Nat}
    (hlat : 1 < lat) {dest : Dest} {ws : List Word} {inter : Bool} (hb : body (s.putCore g (s.coreOf g)) =
      ((s.putCore g (s.coreOf g)).produce g lat { due := 0, seq := 0, dest := dest, words := ws, inter := inter }, .seq)) :
    s.issue g control reads div body = s.putCore g ((s.coreOf g).fly lat dest ws inter) :=
  issue_produce h control reads div hlat hb

theorem issue_flyF (control : Bool) (reads : List (BitVec 5)) (div : Bool) {body : State → State × Next} {lat : Nat}
    (hlat : 1 < lat) {r : BitVec 4} {w : Word} {note : Option Nat}
    (hb : body (s.putCore g (s.coreOf g)) = ((s.putCore g (s.coreOf g)).produceF g lat r w note, .seq)) :
    s.issue g control reads div body = s.putCore g ((s.coreOf g).flyF lat r w note) :=
  issue_produce h control reads div hlat hb

omit h in
/-- A load from local memory over good words hands its words to the instruction's result. -/
theorem loadLocal_words {ea : Word} {n : Nat} (k : List Word → State → State) (hok : localLoadOk ea.toNat (4 * n) = true)
    (hc : s.GoodCode (galBase g + ea.toNat) (4 * n)) (hn : 0 < n) : (s.putCore g (s.coreOf g)).loadLocal g ea (4 * n) k =
      (k ((List.range n).map fun k => BitVec.ofNat 32 (ofLeBytes (s.bytes (galBase g + ea.toNat + 4 * k) 4)))
        (s.putCore g (s.coreOf g)), .seq) := by
  rw [loadLocal_good (s := s.putCore g (s.coreOf g)) k hok hc (by omega), Nat.mul_div_cancel_left n (by omega), bytes_putCore, leWords_bytes]

/-- What a store that has stored its words leaves. -/
theorem completes_store {i : Instr} {reads : List (BitVec 5)} {body : State → State × Next} {a : Nat} {ws : List Word}
    {r : State × Next} (he : exec i s = onGal g (State.issue g false reads false body) s)
    (hb : body (s.putCore g (s.coreOf g)) = r)
    (hr : r.2 = .seq ∧ Stored a (bytesOf ws) (s.putCore g (s.coreOf g)) r.1) : Completes i s fun t =>
      (∀ k < ws.length, BitVec.ofNat 32 (ofLeBytes (t.bytes (a + 4 * k) 4)) = ws.getD k 0) ∧
      SameBytes (fun x => a ≤ x ∧ x < a + 4 * ws.length) s t ∧ t.regs = s.regs ∧ t.coreOf g = (s.coreOf g).next ∧
      ∀ h, h ≠ g → t.galOf h = s.galOf h := by
  obtain ⟨hseq, hst⟩ := hr
  have hcore : r.1.coreOf g = s.coreOf g := by rw [coreOf_congr hst.gal_eq, coreOf_putCore]
  refine ⟨_, exec_onGal h.built he (issue_seq h _ _ _ (t := r.1) (hb.trans (Prod.ext rfl hseq)) hcore), fun k hk => ?_,
    fun x hx => ?_, hst.regs_eq, coreOf_putCore _ _ _, fun _ hne => hst.galOf_putCore_ne hne⟩
  · rw [bytes_putCore, hst.word hk]
  · exact hst.sameBytes x (by rwa [bytesOf_length])

end

/-- The window and the firewall let a class 4 access through (R84, R303). -/
theorem mezzOffset_open {s : State} {g : Nat} {ea : Word} {r : Right} (h4 : ea.toNat % 4 = 0) (hlo : 0x10000000 ≤ ea.toNat)
    (hhi : ea.toNat < 0x13000000) (hfw : s.fwAdmits (25 + g) 1 (ea.toNat - 0x10000000) 4 r = true) :
    s.mezzOffset g ea r = (some (ea.toNat - 0x10000000), s) := by
  have hw : mezzWindowOk ea.toNat = true := decide_eq_true ⟨h4, hlo, hhi⟩
  unfold mezzOffset
  rw [if_pos hw]
  exact if_pos hfw

/-- A load through the mezzanine window of a good word. -/
theorem galLoad_word {s : State} {g a : Nat} (ea : Word) (k : List Word → State → State) (hc : s.GoodCode a 4) :
    s.galLoad g a 4 ea k = (k [BitVec.ofNat 32 (ofLeBytes (s.bytes a 4))] s, .seq) := by
  have hw := leWords_bytes s a 1
  rw [galLoad, readBytes_good hc _ _ (by omega)]
  exact congrArg (fun ws => (k ws s, Next.seq)) hw

end State

/-- Settles O16: loads put the words they read in flight, stores store theirs. -/
theorem galLoadsStores : Obligations.GalLoadsStores := by
  refine ⟨fun s g b h => ?_, fun s g b h hi => ?_⟩
  · refine ⟨fun off h4 hlo hhi hc => ?_, fun d off h4 hlo hhi hc => ?_, fun d off lat hlat h4 hlo hhi hfw hc => ?_⟩
    · have hw := fun k => State.loadLocal_words (n := 1) k (decide_eq_true ⟨h4, hlo, hhi⟩) hc (by omega)
      refine ⟨fun d => ?_, fun d => ?_⟩
      · refine State.exec_onGal h.built rfl (State.issue_produceG h _ _ _ (by decide) ?_)
        simp only [State.coreOf_putCore]
        exact hw _
      · refine State.exec_onGal h.built rfl (State.issue_flyF h _ _ _ (by decide) ?_)
        simp only [State.coreOf_putCore]
        exact hw _
    · refine State.exec_onGal h.built rfl (State.issue_fly h _ _ _ (by decide) ?_)
      simp only [State.coreOf_putCore]
      exact State.loadLocal_words (n := 8) _ (decide_eq_true ⟨h4, hlo, hhi⟩) hc (by omega)
    · have hm : Nat.max 1 lat = lat := Nat.max_eq_right (by omega)
      refine State.exec_onGal h.built rfl (State.issue_fly h _ _ _ hlat ?_)
      simp only [State.coreOf_putCore, Core.ea]
      rw [State.mezzOffset_open (s := s.putCore g (s.coreOf g)) h4 hlo hhi hfw]
      dsimp only
      rw [mezzBase, Nat.zero_add, State.galLoad_word (s := s.putCore g (s.coreOf g)) _ _ hc, hm, State.bytes_putCore,
        State.produceI, State.coreOf_putCore]
      rfl
  · refine ⟨fun off h4 hlo hhi hc => ⟨fun x => ?_, fun x => ?_⟩, fun x off h4 hlo hhi hc => ?_,
      fun x off h4 hlo hhi hfw hc => ?_⟩
    · refine State.completes_store h rfl rfl ?_
      simp only [State.coreOf_putCore]
      exact State.storeLocal_good hi (decide_eq_true ⟨h4, hlo, hhi⟩) hc (by simp)
    · refine State.completes_store h rfl rfl ?_
      simp only [State.coreOf_putCore]
      exact State.storeLocal_good hi (decide_eq_true ⟨h4, hlo, hhi⟩) hc (by simp)
    · refine State.completes_store h rfl rfl ?_
      simp only [State.coreOf_putCore]
      exact State.storeLocal_good hi (decide_eq_true ⟨h4, hlo, hhi⟩) hc (by simp [Core.v])
    · refine State.completes_store h rfl rfl ?_
      simp only [State.coreOf_putCore, Core.ea]
      rw [State.mezzOffset_open (s := s.putCore g (s.coreOf g)) h4 hlo hhi hfw]
      dsimp only
      rw [mezzBase, Nat.zero_add, State.coreOf_putCore]
      exact State.galStore_good hi hc (by simp)

end Sys2Proof.Machine

namespace Sys2Proof.Machine
namespace State

/-! ### Memory under a trap (R98, R99) -/

/-- From `s` to `t` only bytes of the recorder's ring change, and the ring does not grow. -/
structure RingBytes (s t : State) : Prop where
  byte : SameBytes s.recRing s t
  ring : ∀ a, t.recRing a → s.recRing a

namespace RingBytes
variable {s t u : State}

theorem refl (s : State) : RingBytes s s := ⟨fun _ _ => rfl, fun _ h => h⟩

theorem trans (h : RingBytes s t) (k : RingBytes t u) : RingBytes s u :=
  ⟨fun a ha => (k.byte a fun hr => ha (h.ring a hr)).trans (h.byte a ha), fun a ha => h.ring a (k.ring a ha)⟩

theorem of_reported {p : Nat} (h : Reported p s t) : RingBytes s t := ⟨h.byte, fun _ => h.recRing_of⟩

/-- A write of a register that is none of the recorder's. -/
theorem wr {a : Nat} (s : State) (v : Word) (ha : a / 0x1000 ≠ pgREC) : RingBytes s (s.wr a v) := by
  have hn : ∀ j, j / 0x1000 = pgREC → (s.wr a v).num j = s.num j := fun j hj =>
    num_congr (s.rd_wr_ne v fun e => ha (e ▸ hj))
  refine ⟨fun _ _ => rfl, fun x hx => ?_⟩
  unfold recRing at *
  rwa [hn REC.RBASE (by decide), hn REC.RSIZE (by decide), hn REC.RWR (by decide)] at hx

theorem putGal (s : State) (g : Nat) (x : Gal) : RingBytes s (s.putGal g x) := ⟨fun _ _ => rfl, fun _ h => h⟩

end RingBytes

/-- A register of a gallery's page is none of the recorder's. -/
theorem gal_page_ne {g off : Nat} (hg : g < 18) (ho : off < 0x1000) : regAt (pgGAL g) off / 0x1000 ≠ pgREC := by
  simp only [regAt, pgGAL, pgREC]
  omega

section
variable {g : Nat} (hg : g < 18) (s : State)
include hg

theorem startClock_ringBytes : RingBytes s (s.startClock g) := by
  unfold startClock
  dsimp only
  refine .trans ?_ (.putGal _ g _)
  split
  · exact .wr s _ (gal_page_ne hg (by omega))
  · exact .refl s

theorem raiseIrq_ringBytes (n : Nat) : RingBytes s (s.raiseIrq g n) := by
  unfold raiseIrq
  dsimp only
  split
  · exact .trans (.putGal s g _) (startClock_ringBytes hg _)
  · exact .putGal s g _

theorem traceNotice_ringBytes (cond : Nat) : RingBytes s (s.traceNotice g cond) := by
  have hsta : ∀ (s : State) (v : Word), RingBytes s (s.wr (GAL.TRSTA g) v) := fun s v => .wr s v (gal_page_ne hg (by omega))
  unfold traceNotice traceTrigger
  split
  · exact .trans (.trans (.trans (.trans (hsta s _) (hsta _ _)) (.putGal _ g _)) (.of_reported (raiseEvt_reported _ _ 0)))
      (raiseIrq_ringBytes hg _ 3)
  · exact .refl s

theorem trapReport_ringBytes (cause : TrapCause) (addr : Option Word) (pcv : Word) (dslot : Bool) :
    RingBytes s (s.trapReport g cause addr pcv dslot) := by
  have hw : RingBytes s (s.trapWords g cause addr pcv dslot) := by
    have h2 := RingBytes.trans (RingBytes.wr (a := GAL.XINFO g) s (BitVec.ofNat 32 (trapCode cause +
      (s.coreOf g).slotno % 8 * 256 + b01 (decide ((s.coreOf g).ctx = .trap)) * 2048 + b01 dslot * 4096))
      (gal_page_ne hg (by omega))) (.wr (a := GAL.XPC g) _ pcv (gal_page_ne hg (by omega)))
    cases addr with
    | none => exact h2
    | some a => exact h2.trans (.wr _ a (gal_page_ne hg (by omega)))
  exact .trans (.trans hw (.of_reported (foldl_raiseFlt_reported _ _ _))) (traceNotice_ringBytes hg _ 3)

/-- A trap that enters its context stores nothing but records. -/
theorem takeTrap_ringBytes {cause : TrapCause} (addr : Option Word) (pcv : Word) (dslot : Bool)
    (hctx : (s.coreOf g).ctx ≠ .trap) (hf : cause ≠ .fetchUe) (hb : cause ≠ .budget) :
    RingBytes s (takeTrap g cause addr pcv dslot s) := by
  rw [takeTrap_eq]
  simp only [hctx, hf, hb, decide_false, Bool.false_eq_true, if_false]
  exact .trans (trapReport_ringBytes hg s cause addr pcv dslot) (.trans (.putGal _ g _) (.putGal _ g _))

end

/-! ### An instruction that traps -/

/-- A trap that an instruction raises, a fetch error and the budget apart, sets FLT bit 20. -/
theorem trap_bit_mem_trapFlts {cause : TrapCause} (hf : cause ≠ .fetchUe) (hb : cause ≠ .budget) : 20 ∈ trapFlts cause := by
  cases cause with
  | fetchUe => exact absurd rfl hf
  | budget => exact absurd rfl hb
  | _ => simp [trapFlts]

theorem follow_trap {cause : TrapCause} (hk : ∀ k, cause ≠ .software k) (g : Nat) (addr : Option Word) (s : State) :
    follow g (.trap cause addr) s = s.trapHere g cause addr := by
  cases cause with
  | software k => exact absurd rfl (hk k)
  | _ => rfl

section
variable {s : State} {g : Nat} (h : s.GalReady g) (hs : (s.coreOf g).slotOf = none) (hctx : (s.coreOf g).ctx ≠ .trap)
  (control : Bool) (reads : List (BitVec 5)) (div : Bool) {body : State → State × Next}
include h

theorem GalReady.lt : g < 18 := lt_of_galleries h.1

/-- After a trap the cycle ends with nothing landing. -/
theorem endCycle_trapped {cause : TrapCause} {addr : Option Word} {pcv : Word} {dslot : Bool} {t : State}
    (ht : Trapped g cause addr pcv dslot (s.putCore g (s.coreOf g)) t) : endCycle g t =
      t.putCore g { t.coreOf g with cyc := (t.coreOf g).cyc + 1, seq := (t.coreOf g).seq + 1 } := by
  obtain ⟨-, -, hf, hd, -⟩ := h
  exact endCycle_still (by rw [ht.flights, coreOf_putCore, hf]) (by rw [ht.deferred, coreOf_putCore, hd])

include hs hctx

/-- An instruction whose body ends in a trap of its own: the trap's words, and memory but for records. -/
theorem issue_traps {cause : TrapCause} {addr : Option Word} (hf : cause ≠ .fetchUe) (hbud : cause ≠ .budget)
    (hk : ∀ k, cause ≠ .software k)
    (hb : body (s.putCore g (s.coreOf g)) = (s.putCore g (s.coreOf g), .trap cause addr)) :
    let t := s.issue g control reads div body
    s.TrapTaken t g (trapCode cause) (s.coreOf g).pc ∧ (∀ a, addr = some a → t.rd (GAL.XADDR g) = a) ∧
      SameBytes s.recRing s t := by
  have hctx' : ((s.putCore g (s.coreOf g)).coreOf g).ctx ≠ .trap := by rwa [coreOf_putCore]
  have ht := takeTrap_trapped (addr := addr) (pcv := (s.coreOf g).pc) (dslot := false) h.lt hctx' hf
  have hby := takeTrap_ringBytes h.lt _ addr (s.coreOf g).pc false hctx' hf hbud
  dsimp only
  rw [issue_ready h _ _ _ _ (fun _ => hs), hb]
  dsimp only
  rw [follow_trap hk, trapHere, coreOf_putCore, hs]
  dsimp only
  rw [endCycle_trapped h ht]
  exact ⟨(ht.taken (trap_bit_mem_trapFlts hf hbud)).congr (coreOf_putCore _ _ _).symm rfl rfl
    ⟨_, _, coreOf_putCore _ _ _⟩, ht.xaddr, hby.byte⟩

end

/-- A load outside its ranges is an ACCESS trap. -/
theorem loadLocal_bad {s : State} {g n : Nat} {ea : Word} (k : List Word → State → State)
    (h : ¬ (ea.toNat % 4 = 0 ∧ 0x10000 ≤ ea.toNat ∧ ea.toNat + n ≤ 0x48000)) :
    s.loadLocal g ea n k = (s, .trap .access (some ea)) := by
  unfold loadLocal localLoadOk
  rw [if_neg (by simpa using h)]

theorem storeLocal_bad {s : State} {g : Nat} {ea : Word} {ws : List Word}
    (h : ¬ (ea.toNat % 4 = 0 ∧ 0x10000 ≤ ea.toNat ∧ ea.toNat + 4 * ws.length ≤ 0x3F000)) :
    s.storeLocal g ea ws = (s, .trap .access (some ea)) := by
  unfold storeLocal localStoreOk
  rw [if_neg (by simpa using h)]

end State

/-- Settles O17: a load or a store outside its ranges traps with its address, and stores nothing but records. -/
theorem galAccessTrap : Obligations.GalAccessTrap := by
  intro s g b h hctx
  have traps : ∀ {i : Instr} {reads : List (BitVec 5)} {body : State → State × Next} {ea : Word},
      exec i s = onGal g (State.issue g false reads false body) s →
      body (s.putCore g (s.coreOf g)) = (s.putCore g (s.coreOf g), .trap .access (some ea)) →
      State.Completes i s fun t =>
        s.TrapTaken t g 2 (s.coreOf g).pc ∧ t.rd (GAL.XADDR g) = ea ∧ State.SameBytes s.recRing s t := by
    intro i reads body ea he hb
    obtain ⟨h1, h2, h3⟩ := State.issue_traps h.1 h.2.1 hctx false reads false (cause := .access) (by decide) (by decide) nofun hb
    exact ⟨_, State.exec_onGal h.built he rfl, h1, h2 ea rfl, h3⟩
  refine ⟨fun off => ⟨fun hbad => ⟨fun d => ?_, fun d => ?_⟩, fun hbad => ⟨fun x => ?_, fun x => ?_⟩⟩,
    fun off => ⟨fun hbad d => ?_, fun hbad x => ?_⟩⟩
  · exact traps rfl (by simp only [State.coreOf_putCore]; exact State.loadLocal_bad _ hbad)
  · exact traps rfl (by simp only [State.coreOf_putCore]; exact State.loadLocal_bad _ hbad)
  · exact traps rfl (by simp only [State.coreOf_putCore]; exact State.storeLocal_bad hbad)
  · exact traps rfl (by simp only [State.coreOf_putCore]; exact State.storeLocal_bad hbad)
  · exact traps rfl (by simp only [State.coreOf_putCore]; exact State.loadLocal_bad _ hbad)
  · exact traps rfl (by simp only [State.coreOf_putCore]; exact State.storeLocal_bad hbad)

end Sys2Proof.Machine

namespace Sys2Proof.Machine

/-! ### Branches (R86, R91) -/

/-- A branch's condition, as R86 names it. -/
theorem condHolds_eq (k : Cond) (v : Word) : condHolds k v = match k with
    | .always => true
    | .eqz => v == 0
    | .nez => v != 0
    | .ltz => v.msb
    | .gez => !v.msb
    | .gtz => v != 0 && !v.msb
    | .lez => v == 0 || v.msb := by
  have hm : v.msb = decide (v.toInt < 0) := BitVec.msb_eq_toInt
  have hz : v = 0 ↔ v.toInt = 0 := BitVec.toInt_inj.symm
  cases k with
  | always => rfl
  | eqz => rfl
  | nez => exact decide_not
  | ltz => exact hm.symm
  | gez =>
    rw [Bool.eq_iff_iff]
    simp [condHolds, hm]
  | gtz =>
    rw [Bool.eq_iff_iff]
    simp only [condHolds, hm, decide_eq_true_eq, Bool.and_eq_true, bne_iff_ne, ne_eq, hz, Bool.not_eq_true',
      decide_eq_false_iff_not]
    omega
  | lez =>
    rw [Bool.eq_iff_iff]
    simp only [condHolds, hm, decide_eq_true_eq, Bool.or_eq_true, beq_iff_eq, hz]
    omega

theorem branchTarget_eq (c : Core) (off : BitVec 15) : branchTarget c off = c.pc + off.signExtend 32 * 4 := by
  rw [branchTarget, BitVec.shiftLeft_eq_mul_twoPow]
  rfl

/-- With no loop active there is no level to clear. -/
theorem wsetBit_act_zero (l : Bool) : wsetBit (0 : BitVec 2) (b01 l) false = 0 := by
  cases l <;> decide

/-- The core that RETI or RETX leaves: the context below, at `t`, with its own loops (R95, R96). -/
def Core.leave (c : Core) (t : Word) : Core :=
  { c with pc := t, slotOf := none, ctx := c.stack.headD .background, stack := c.stack.tail,
           act := c.actSaved.extractLsb' (State.actField c.ctx) 2 }

namespace State

section
variable {s : State} {g : Nat} (h : s.GalQuiet g) (control : Bool) (reads : List (BitVec 5)) (div : Bool)
  {body : State → State × Next}
include h

/-- An instruction that leaves its jump to the delay slot. -/
theorem issue_branch {j : Jump} (hb : body (s.putCore g (s.coreOf g)) = (s.putCore g (s.coreOf g), .branch j)) :
    s.issue g control reads div body =
      s.putCore g { (s.coreOf g).next with slotOf := some (j, (s.coreOf g).pc) } := by
  obtain ⟨hf, hd, hs, -⟩ := h.still
  rw [issue_ready h.1 _ _ _ _ (fun _ => hs), hb]
  simp only [follow, coreOf_putCore, putCore_putCore]
  rw [endCycle_still (by simpa using hf) (by simpa using hd)]
  simp [Core.next]

/-- CALL: the return address lands at the end of its cycle. -/
theorem issue_call {j : Jump} {r : BitVec 5} {w : Word}
    (hb : body (s.putCore g (s.coreOf g)) = ((s.putCore g (s.coreOf g)).produceG g 1 r w none, .branch j)) :
    s.issue g control reads div body =
      s.putCore g { (s.coreOf g).next.setG r w with slotOf := some (j, (s.coreOf g).pc) } := by
  obtain ⟨hf, hd, hs, -⟩ := h.still
  rw [issue_ready h.1 _ _ _ _ (fun _ => hs), hb]
  simp only [follow, produceG, produce, coreOf_putCore, putCore_putCore, hf, insertFlight]
  rw [endCycle_land (w := w) (congrArg Core.flights (coreOf_putCore _ _ _)) (by simp) rfl rfl rfl (by simpa using hd)]
  simp only [coreOf_putCore, putCore_putCore]
  rw [Core.landG_gIndex]
  unfold Core.setG
  split <;> simp [Core.next, hf]

/-- LEXIT with no loop active. -/
theorem issue_lexit (l : Bool) : s.issue g control reads div (fun s =>
      let c := s.coreOf g
      let c := if l then { c with lc1 := 0 } else { c with lc0 := 0 }
      (s.putCore g { c with act := wsetBit c.act (b01 l) false }, .seq)) =
    s.putCore g (if l then { (s.coreOf g).next with lc1 := 0 } else { (s.coreOf g).next with lc0 := 0 }) := by
  obtain ⟨hf, hd, hs, ha⟩ := h.still
  have hz := wsetBit_act_zero l
  cases l with
  | false =>
    refine (issue_core h control reads div _ { s.coreOf g with lc0 := 0 } ?_ (loopNext_idle ha) hs hd (by simp [hf])).trans ?_
    · simp only [coreOf_putCore, putCore_putCore, Bool.false_eq_true, if_false, ha, hz]
    · rfl
  | true =>
    refine (issue_core h control reads div _ { s.coreOf g with lc1 := 0 } ?_ (loopNext_idle ha) hs hd (by simp [hf])).trans ?_
    · simp only [coreOf_putCore, putCore_putCore, if_true, ha, hz]
    · rfl

/-- A software trap names the next instruction (R99). -/
theorem issue_software {k : BitVec 8} (hctx : (s.coreOf g).ctx ≠ .trap)
    (hb : body (s.putCore g (s.coreOf g)) = (s.putCore g (s.coreOf g), .trap (.software k) none)) :
    s.TrapTaken (s.issue g control reads div body) g k.toNat ((s.coreOf g).pc + 4) := by
  have hctx' : ((s.putCore g (s.coreOf g)).coreOf g).ctx ≠ .trap := by rwa [coreOf_putCore]
  have ht := takeTrap_trapped (cause := .software k) (addr := none) (pcv := (s.coreOf g).pc + 4) (dslot := false)
    h.lt hctx' nofun
  rw [issue_ready h.1 _ _ _ _ (fun _ => h.2.1), hb]
  simp only [follow, coreOf_putCore]
  rw [endCycle_trapped h.1 ht]
  exact (ht.taken (trap_bit_mem_trapFlts nofun nofun)).congr (coreOf_putCore _ _ _).symm rfl rfl
    ⟨_, _, coreOf_putCore _ _ _⟩

end

/-- WAITI's body with nothing to wait for: the core waits, and the clock stops where it may. -/
theorem waitStep_waits {s : State} {g ns : Nat} (hirq : s.irqReady g = false) (hready : s.anyReady g = false) :
    s.waitStep g ns = if 1000 < ns ∧ (s.coreOf g).imask.getLsbD 4 = false
      then (s.putCore g { s.coreOf g with waiti := true }).setFld (HDR.STA (pgGAL g)) 10 8 2
      else s.putCore g { s.coreOf g with waiti := true } := by
  unfold waitStep
  simp only [hirq, hready, Bool.false_eq_true, or_self, if_false, coreOf_putCore]

theorem anyReady_false {s : State} {g : Nat} (h : ∀ n < 6, (s.slotRun g n).ready = false) : s.anyReady g = false := by
  simpa [anyReady] using h

/-- WAITI in the background with nothing ready. -/
theorem issue_waiti {s : State} {g ns : Nat} (h : s.GalQuiet g) (hctx : (s.coreOf g).ctx = .background)
    (hirq : s.irqReady g = false) (hready : ∀ n < 6, (s.slotRun g n).ready = false) :
    let stops := 1000 < ns ∧ (s.coreOf g).imask.getLsbD 4 = false
    Completes (.waiti g ns) s fun t => t.coreOf g = { (s.coreOf g).next with waiti := true } ∧ t.mem = s.mem ∧
      (if stops then t.fld (HDR.STA (pgGAL g)) 10 8 = 2 else t.regs = s.regs) := by
  obtain ⟨hf, hd, hs, ha⟩ := h.still
  have hend : ∀ t : State, t.coreOf g = { s.coreOf g with waiti := true } →
      endCycle g (follow g .seq t) = t.putCore g { (s.coreOf g).next with waiti := true } := by
    intro t ht
    rw [endCycle_seq (by rw [ht]; exact ⟨hf, hd, hs, ha⟩), ht]
    rfl
  have hwait : (s.putCore g (s.coreOf g)).waitStep g ns = if 1000 < ns ∧ (s.coreOf g).imask.getLsbD 4 = false
      then (s.putCore g { s.coreOf g with waiti := true }).setFld (HDR.STA (pgGAL g)) 10 8 2
      else s.putCore g { s.coreOf g with waiti := true } := by
    rw [waitStep_waits (by rw [irqReady, coreOf_putCore]; exact hirq)
      (anyReady_false fun n hn => by rw [slotRun_putCore]; exact hready n hn)]
    simp only [coreOf_putCore, putCore_putCore]
  refine ⟨_, exec_onGal h.built rfl rfl, ?_⟩
  rw [issue_ready h.1 _ _ _ _ (fun _ => hs)]
  rw [coreOf_putCore, if_pos hctx, hwait]
  dsimp only
  by_cases hstop : 1000 < ns ∧ (s.coreOf g).imask.getLsbD 4 = false
  · rw [if_pos hstop, if_pos hstop, hend _ (by rw [coreOf_congr (setFld_gal _ _ _ _ _), coreOf_putCore])]
    exact ⟨coreOf_putCore _ _ _, rfl, fld_setFld_same (s := s.putCore g _) (a := HDR.STA (pgGAL g)) 2 (by omega)⟩
  · rw [if_neg hstop, if_neg hstop, hend _ (coreOf_putCore _ _ _)]
    exact ⟨coreOf_putCore _ _ _, rfl, rfl⟩

/-! ### Delay slots (R91, R95, R96) -/

theorem goOn_reti {s : State} {g : Nat} {b : Word} (hs : (s.coreOf g).slotOf = some (.reti, b)) :
    s.goOn g = (s.drain g).leaveCtx g ((s.drain g).coreOf g).ipc := by
  unfold goOn
  dsimp only
  rw [hs]

theorem goOn_retx {s : State} {g : Nat} {b : Word} (hs : (s.coreOf g).slotOf = some (.retx, b)) :
    s.goOn g = takeHeld g ((s.drain g).leaveCtx g ((s.drain g).rd (GAL.XPC g))) := by
  unfold goOn
  dsimp only
  rw [hs]

theorem trapHere_delayed {s : State} {g : Nat} {j : Jump} {b : Word} {cause : TrapCause} {addr : Option Word}
    (hs : (s.coreOf g).slotOf = some (j, b)) : s.trapHere g cause addr = takeTrap g cause addr b true s := by
  unfold trapHere
  dsimp only
  rw [hs]

/-- With no budget trap held, none is taken. -/
theorem takeHeld_none {s : State} {g : Nat} (hb : (s.coreOf g).budgetHeld = false) : s.takeHeld g = s := by
  simp [takeHeld, hb]

section
variable {s : State} {g : Nat} (h : s.GalReady g)
include h

/-- A NOP in a delay slot whose jump leaves `t`. -/
theorem nop_delayed {t : State} (ht : goOn g (s.putCore g (s.coreOf g)) = t) (hf : (t.coreOf g).flights = [])
    (hd : (t.coreOf g).deferred = []) : exec (.nop g) s =
      .next (t.putCore g { t.coreOf g with cyc := (t.coreOf g).cyc + 1, seq := (t.coreOf g).seq + 1 }) := by
  refine exec_onGal h.1 rfl ?_
  refine (issue_ready h false [] false _ nofun).trans ?_
  exact (congrArg (endCycle g) ht).trans (endCycle_still hf hd)

theorem nop_jumps {t b : Word} (hs : (s.coreOf g).slotOf = some (.to t, b)) :
    exec (.nop g) s = .next (s.putCore g { (s.coreOf g).next with pc := t, slotOf := none }) := by
  obtain ⟨-, -, hf, hd, -⟩ := id h
  rw [nop_delayed h (t := s.putCore g { s.coreOf g with pc := t, slotOf := none })
    (by simp only [goOn, coreOf_putCore, hs, putCore_putCore]) (by simpa using hf) (by simpa using hd)]
  simp [Core.next]

/-- With nothing in flight there is nothing to drain before RETI or RETX leaves its context. -/
theorem drain_ready : (s.putCore g (s.coreOf g)).drain g = s.putCore g (s.coreOf g) := by
  obtain ⟨-, -, hf, -⟩ := h
  unfold drain
  simp only [coreOf_putCore, hf, List.foldl_nil, putCore_putCore]
  rw [settle_nil (congrArg Core.flights (coreOf_putCore _ _ _))]
  simp only [coreOf_putCore, putCore_putCore, ← hf]

omit h in
theorem leaveCtx_putCore (c : Core) (t : Word) : (s.putCore g c).leaveCtx g t = s.putCore g (c.leave t) := by
  rw [leaveCtx]
  simp only [coreOf_putCore, putCore_putCore, List.drop_one]
  rw [wfld_eq_extract _ (k := 2) (by omega), BitVec.ofNat_toNat, BitVec.setWidth_eq]
  rfl

theorem nop_reti {b : Word} (hc : (s.coreOf g).ctx = .interrupt) (hs : (s.coreOf g).slotOf = some (.reti, b)) :
    exec (.nop g) s = .next (s.putCore g { (s.coreOf g).next with
      pc := (s.coreOf g).ipc, slotOf := none, ctx := (s.coreOf g).stack.headD .background,
      stack := (s.coreOf g).stack.tail, act := (s.coreOf g).actSaved.extractLsb' 0 2 }) := by
  obtain ⟨-, -, hf, hd, -⟩ := id h
  have hgo : goOn g (s.putCore g (s.coreOf g)) = s.putCore g ((s.coreOf g).leave (s.coreOf g).ipc) := by
    rw [goOn_reti (by rwa [coreOf_putCore]), drain_ready h, leaveCtx_putCore, coreOf_putCore]
  rw [nop_delayed h hgo (by simpa [Core.leave] using hf) (by simpa [Core.leave] using hd), coreOf_putCore, putCore_putCore,
    Core.leave, hc]
  rfl

theorem nop_retx {b : Word} (hc : (s.coreOf g).ctx = .trap) (hb : (s.coreOf g).budgetHeld = false)
    (hs : (s.coreOf g).slotOf = some (.retx, b)) :
    exec (.nop g) s = .next (s.putCore g { (s.coreOf g).next with
      pc := s.rd (GAL.XPC g), slotOf := none, ctx := (s.coreOf g).stack.headD .background,
      stack := (s.coreOf g).stack.tail, act := (s.coreOf g).actSaved.extractLsb' 4 2 }) := by
  obtain ⟨-, -, hf, hd, -⟩ := id h
  have hgo : goOn g (s.putCore g (s.coreOf g)) = s.putCore g ((s.coreOf g).leave (s.rd (GAL.XPC g))) := by
    rw [goOn_retx (by rwa [coreOf_putCore]), drain_ready h, leaveCtx_putCore]
    exact takeHeld_none (by rw [coreOf_putCore]; exact hb)
  rw [nop_delayed h hgo (by simpa [Core.leave] using hf) (by simpa [Core.leave] using hd), coreOf_putCore, putCore_putCore,
    Core.leave, hc]
  rfl

/-- A control instruction in a delay slot is ILLEGAL, and XPC names the jump (R91, R98). -/
theorem issue_control_delayed {j : Jump} {b : Word} (hctx : (s.coreOf g).ctx ≠ .trap)
    (hs : (s.coreOf g).slotOf = some (j, b)) (reads : List (BitVec 5)) (div : Bool) (body : State → State × Next) :
    let t := s.issue g true reads div body
    t.rd (GAL.XPC g) = b ∧ t.fld (GAL.XINFO g) 7 0 = 1 ∧ t.bit (GAL.XINFO g) 12 = true ∧
      (t.coreOf g).ctx = .trap ∧ (t.coreOf g).pc = 0x40 := by
  have hr := h
  obtain ⟨-, hi, hf, hd, hdiv, hp, hp4⟩ := h
  have hctx' : ((s.putCore g (s.coreOf g)).coreOf g).ctx ≠ .trap := by rwa [coreOf_putCore]
  have ht := takeTrap_trapped (cause := .illegal) (addr := none) (pcv := b) (dslot := true) hr.lt hctx' nofun
  have hissue : s.issue g true reads div body =
      endCycle g (takeTrap g .illegal none b true (s.putCore g (s.coreOf g))) := by
    unfold issue
    simp only [hi, if_true]
    rw [issueCycle_nil _ _ _ hf hdiv]
    have e : ({ s.coreOf g with cyc := (s.coreOf g).cyc } : Core) = s.coreOf g := rfl
    rw [e, settle_nil (by simpa using hf)]
    simp only [coreOf_putCore, putCore_putCore]
    rw [if_neg (by omega), if_pos ⟨trivial, by rw [hs]; rfl⟩, trapHere_delayed (by rw [coreOf_putCore]; exact hs)]
  have hxi : ∀ k < 8, wfld (BitVec.ofNat 32 (1 + k * 256 + 1 * 4096)) 7 0 = 1 ∧
      (BitVec.ofNat 32 (1 + k * 256 + 1 * 4096)).getLsbD 12 = true := by decide
  obtain ⟨h70, h12⟩ := hxi ((s.coreOf g).slotno % 8) (by omega)
  have hinfo := ht.xinfo
  rw [coreOf_putCore] at hinfo
  dsimp only
  rw [hissue, endCycle_trapped hr ht]
  exact ⟨ht.xpc, (congrArg (wfld · 7 0) hinfo).trans h70, (congrArg (·.getLsbD 12) hinfo).trans h12,
    (congrArg Core.ctx (coreOf_putCore _ _ _)).trans ht.ctx, (congrArg Core.pc (coreOf_putCore _ _ _)).trans ht.pc⟩

end
end State

/-- Settles O21: control from an instruction with no delay slot under way, and from one in a delay slot. -/
theorem galControlFlow : Obligations.GalControlFlow := by
  refine ⟨fun s g h => ?_, fun s g h => ?_⟩
  · have hbuilt := h.built
    refine ⟨?_, ?_, fun k gc off => ?_, fun off => ?_, ?_, ?_, ?_, ?_, fun code hctx => ?_, fun ns hctx hirq hready => ?_⟩
    · exact State.exec_onGal hbuilt rfl
        ((State.issue_seq h _ _ _ rfl (State.coreOf_putCore _ _ _)).trans (State.putCore_putCore _ _ _ _))
    · exact State.exec_onGal hbuilt rfl
        ((State.issue_seq h _ _ _ rfl (State.coreOf_putCore _ _ _)).trans (State.putCore_putCore _ _ _ _))
    · have hb := State.exec_onGal (i := .b g k gc off) hbuilt rfl
        (State.issue_branch h _ _ _
        (j := .to (if condHolds k ((s.coreOf g).g gc) then branchTarget (s.coreOf g) off else (s.coreOf g).pc + 8))
        (by simp only [State.coreOf_putCore]))
      rw [condHolds_eq, branchTarget_eq] at hb
      exact hb
    · have hb := State.exec_onGal (i := .call g off) hbuilt rfl
        (State.issue_call h _ _ _ (r := 31) (w := (s.coreOf g).pc + 8)
        (j := .to (branchTarget (s.coreOf g) off)) (by simp only [State.coreOf_putCore]))
      rw [branchTarget_eq] at hb
      exact hb
    · exact State.exec_onGal hbuilt rfl (State.issue_branch h _ _ _ (by simp only [State.coreOf_putCore]))
    · exact State.exec_onGal hbuilt rfl (State.issue_lexit h _ _ _ false)
    · exact State.exec_onGal hbuilt rfl (State.issue_lexit h _ _ _ true)
    · have hr := State.raiseEvt_reported (pgGAL g) (s.putCore g (s.coreOf g)) 4
      have hcore : ((s.putCore g (s.coreOf g)).raiseEvt (pgGAL g) 4).coreOf g = s.coreOf g := by
        rw [State.coreOf_congr (State.raiseEvt_gal _ _ _), State.coreOf_putCore]
      refine ⟨_, State.exec_onGal hbuilt rfl (State.issue_seq h _ _ _ rfl hcore), ?_, State.coreOf_putCore _ _ _, hr.rd, hr.byte⟩
      exact State.bit_raiseEvt _ (s.putCore g (s.coreOf g)) (by omega)
    · refine ⟨_, State.exec_onGal hbuilt rfl rfl, ?_⟩
      dsimp only
      by_cases hc : 0x80 ≤ code.toNat
      · rw [if_pos hc]
        exact State.issue_software h true [] false hctx (by rw [if_neg (by omega)])
      · rw [if_neg hc]
        exact (State.issue_traps h.1 h.2.1 hctx true [] false (cause := .illegal) nofun nofun nofun
          (by rw [if_pos (by omega)])).1
    · exact State.issue_waiti h hctx hirq hready
  · have hbuilt := h.1
    refine ⟨fun t b => State.nop_jumps h, fun hctx hs ha => ?_, fun hctx hs ha => ?_, fun b => State.nop_reti h,
      fun b => State.nop_retx h, fun j b i hctx hs hi => ?_⟩
    · exact State.exec_onGal hbuilt rfl (State.issue_branch ⟨h, hs, ha⟩ _ _ _ (by rw [State.coreOf_putCore, if_pos hctx]))
    · exact State.exec_onGal hbuilt rfl (State.issue_branch ⟨h, hs, ha⟩ _ _ _ (by rw [State.coreOf_putCore, if_pos hctx]))
    · have traps := fun reads div body => State.issue_control_delayed h hctx hs reads div body
      rcases hi with ⟨k, gc, off, rfl⟩ | ⟨off, rfl⟩ | rfl | rfl | rfl | ⟨l, gc, off, rfl⟩ | ⟨l, n, off, rfl⟩ | ⟨l, rfl⟩ | rfl |
        ⟨ns, rfl⟩ | ⟨code, rfl⟩ <;>
      exact ⟨_, State.exec_onGal hbuilt rfl rfl, traps _ _ _⟩

end Sys2Proof.Machine

namespace Sys2Proof.Machine

/-! ### Zero-overhead loops (R92, R93) -/

/-- A core with level `l` active over its body, `n` passes to go. -/
def Core.looping (c : Core) (off : BitVec 12) (n : Word) : Bool → Core
  | false => { c with ls0 := c.pc + 4, le0 := c.pc + off.setWidth 32 * 4, lc0 := n, act := wsetBit c.act 0 true }
  | true => { c with ls1 := c.pc + 4, le1 := c.pc + off.setWidth 32 * 4, lc1 := n, act := wsetBit c.act 1 true }

namespace State

/-- The body of a loop may end where it does: R92's rules on its last two words. -/
def LoopBody (s : State) (g : Nat) (off : BitVec 12) : Prop :=
  let last := (s.coreOf g).pc + off.setWidth 32 * 4
  off ≠ 0 ∧ isControlWord (s.codeWord g last) = false ∧ (off = 1 ∨ isDelayedWord (s.codeWord g (last - 4)) = false)

/-- The level may begin: level 0, or level 1 inside level 0. -/
def LoopNests (c : Core) (off : BitVec 12) (l : Bool) : Prop :=
  l = true → c.act.getLsbD 0 = true ∧ c.ls0.toNat ≤ (c.pc + 4).toNat ∧ (c.pc + off.setWidth 32 * 4).toNat ≤ c.le0.toNat

theorem shiftLeft_two_eq_mul_four (v : Word) : v <<< 2 = v * 4 := by
  rw [BitVec.shiftLeft_eq_mul_twoPow]
  rfl

section
variable {s : State} {g : Nat} {off : BitVec 12} {l : Bool} (hb : s.LoopBody g off) (hn : LoopNests (s.coreOf g) off l)
include hb hn

/-- What LOOP and LOOPI do over a body that R92 allows, by their count (R92). -/
theorem loopStep_body (count : Nat) : s.loopStep g l count off =
    if 0xFFFF ≤ count then (s, .trap .length none)
    else if count = 0 then (s.putCore g { s.coreOf g with act := wsetBit (s.coreOf g).act (b01 l) false },
      .goto ((s.coreOf g).pc + off.setWidth 32 * 4 + 4))
    else (s.putCore g ((s.coreOf g).looping off (BitVec.ofNat 32 count) l), .seq) := by
  obtain ⟨hoff, hc, hd⟩ := hb
  have hdel : ¬ (off ≠ 1 ∧ isDelayedWord (s.codeWord g ((s.coreOf g).pc + off.setWidth 32 * 4 - 4)) = true) := by
    rintro ⟨h1, h2⟩
    exact hd.elim h1 fun e => Bool.false_ne_true (e.symm.trans h2)
  unfold loopStep
  dsimp only
  rw [shiftLeft_two_eq_mul_four, if_neg hoff, if_neg (fun h => h.2 (hn h.1)), if_neg (by rw [hc]; simpa using hdel)]
  cases l <;> rfl

end

/-- An instruction that goes on in order, through the loop hardware. -/
theorem issue_loopNext {s : State} {g : Nat} (h : s.GalReady g) (hs : (s.coreOf g).slotOf = none) (control : Bool)
    (reads : List (BitVec 5)) (div : Bool) {body : State → State × Next} {d e : Core}
    (hb : body (s.putCore g (s.coreOf g)) = (s.putCore g d, .seq)) (hds : d.slotOf = none) (he : loopNext d = e)
    (hf : e.flights = []) (hd : e.deferred = []) :
    s.issue g control reads div body = s.putCore g { e with cyc := e.cyc + 1, seq := e.seq + 1 } := by
  rw [issue_ready h _ _ _ _ (fun _ => hs), hb]
  simp only [follow, goOn, coreOf_putCore, hds, putCore_putCore, he]
  rw [endCycle_still (by simpa using hf) (by simpa using hd)]
  simp

/-- An instruction that goes to an address. -/
theorem issue_goto {s : State} {g : Nat} (h : s.GalReady g) (hs : (s.coreOf g).slotOf = none) (control : Bool)
    (reads : List (BitVec 5)) (div : Bool) {body : State → State × Next} {d : Core} {a : Word}
    (hb : body (s.putCore g (s.coreOf g)) = (s.putCore g d, .goto a)) (hf : d.flights = []) (hd : d.deferred = []) :
    s.issue g control reads div body = s.putCore g { d with pc := a, cyc := d.cyc + 1, seq := d.seq + 1 } := by
  rw [issue_ready h _ _ _ _ (fun _ => hs), hb]
  simp only [follow, coreOf_putCore, putCore_putCore]
  rw [endCycle_still (by simpa using hf) (by simpa using hd)]
  simp

/-- The last instruction of a body lies beyond the loop instruction. -/
theorem loop_last_gt {pc : Word} {off : BitVec 12} (hp : pc.toNat < 0x10000) (hoff : off ≠ 0) :
    pc.toNat < (pc + off.setWidth 32 * 4).toNat := by
  have h0 : off.toNat ≠ 0 := fun e => hoff (BitVec.eq_of_toNat_eq e)
  have hlt := off.isLt
  have h4 : (4 : Word).toNat = 4 := rfl
  rw [BitVec.toNat_add, BitVec.toNat_mul, BitVec.toNat_setWidth, h4]
  omega

/-- No level ends at the loop instruction itself. -/
theorem loopNext_no_end {c : Core} (h0 : c.le0 ≠ c.pc) (h1 : c.act.getLsbD 1 = true → c.le1 ≠ c.pc) :
    loopNext c = { c with pc := c.pc + 4 } := by
  have hno : ¬ (c.act.getLsbD 1 = true ∧ c.le1 = c.pc) := fun h => h1 h.1 h.2
  simp only [loopNext, if_neg hno, h0, and_false, if_false, Bool.false_eq_true]

section
variable {s : State} {g : Nat} (h : s.GalReady g) (hs : (s.coreOf g).slotOf = none)
include h hs

/-- The last instruction of level 0: one pass fewer to go, or on past the loop (R93). -/
theorem nop_loop_end (ha : (s.coreOf g).act = 1) (hl : (s.coreOf g).le0 = (s.coreOf g).pc) :
    (1 < (s.coreOf g).lc0.toNat → exec (.nop g) s =
      .next (s.putCore g { (s.coreOf g).next with pc := (s.coreOf g).ls0, lc0 := (s.coreOf g).lc0 - 1 })) ∧
    ((s.coreOf g).lc0.toNat ≤ 1 → exec (.nop g) s =
      .next (s.putCore g { (s.coreOf g).next with lc0 := 0, act := 0 })) := by
  obtain ⟨hg, -, hf, hd, -⟩ := id h
  have hclear : wsetBit (1#2) 0 false = 0 := by decide
  refine ⟨fun hn => ?_, fun hn => ?_⟩
  · have hgo : loopNext (s.coreOf g) = { s.coreOf g with pc := (s.coreOf g).ls0, lc0 := (s.coreOf g).lc0 - 1 } := by
      simp [loopNext, ha, hl, hn]
    exact exec_onGal hg rfl ((issue_loopNext h hs _ _ _ rfl hs hgo hf hd).trans rfl)
  · have hgo : loopNext (s.coreOf g) = { s.coreOf g with pc := (s.coreOf g).pc + 4, lc0 := 0, act := 0 } := by
      simp [loopNext, ha, hl, Nat.not_lt.2 hn, hclear]
    exact exec_onGal hg rfl ((issue_loopNext h hs _ _ _ rfl hs hgo hf hd).trans rfl)

end

section
variable {s : State} {g : Nat} (h : s.GalReady g) (hs : (s.coreOf g).slotOf = none) {off : BitVec 12} {l : Bool}
  (hb : s.LoopBody g off) (hn : LoopNests (s.coreOf g) off l) (reads : List (BitVec 5)) {body : State → State × Next} {count : Nat}
  (hbody : body (s.putCore g (s.coreOf g)) = (s.putCore g (s.coreOf g)).loopStep g l count off)
include hb hn hbody

/-- The loop instruction's body, from the state it issues in. -/
theorem loop_body_at_issue : body (s.putCore g (s.coreOf g)) =
    if 0xFFFF ≤ count then (s.putCore g (s.coreOf g), .trap .length none)
    else if count = 0 then (s.putCore g { s.coreOf g with act := wsetBit (s.coreOf g).act (b01 l) false },
      .goto ((s.coreOf g).pc + off.setWidth 32 * 4 + 4))
    else (s.putCore g ((s.coreOf g).looping off (BitVec.ofNat 32 count) l), .seq) := by
  have hb' : (s.putCore g (s.coreOf g)).LoopBody g off := by
    unfold LoopBody
    rw [coreOf_putCore]
    exact hb
  rw [hbody, loopStep_body hb' (by rwa [coreOf_putCore])]
  simp only [coreOf_putCore, putCore_putCore]

include h hs

/-- A count of 0 goes past the body. -/
theorem issue_loop_skips (hc : count = 0) : s.issue g true reads false body = s.putCore g { (s.coreOf g).next with
    pc := (s.coreOf g).pc + off.setWidth 32 * 4 + 4, act := wsetBit (s.coreOf g).act (b01 l) false } := by
  obtain ⟨-, -, hf, hd, -⟩ := id h
  have hat := loop_body_at_issue hb hn hbody
  rw [if_neg (by omega), if_pos hc] at hat
  exact issue_goto h hs true reads false hat hf hd

/-- A count that LC holds starts the level. -/
theorem issue_loop_starts (hc : 0 < count) (hlt : count < 0xFFFF)
    (h0 : ((s.coreOf g).looping off (BitVec.ofNat 32 count) l).le0 ≠ (s.coreOf g).pc)
    (h1 : ((s.coreOf g).looping off (BitVec.ofNat 32 count) l).act.getLsbD 1 = true →
      ((s.coreOf g).looping off (BitVec.ofNat 32 count) l).le1 ≠ (s.coreOf g).pc) :
    s.issue g true reads false body = s.putCore g
      { (s.coreOf g).looping off (BitVec.ofNat 32 count) l with
        pc := (s.coreOf g).pc + 4, cyc := (s.coreOf g).cyc + 1, seq := (s.coreOf g).seq + 1 } := by
  obtain ⟨-, -, hf, hd, -⟩ := id h
  have hat := loop_body_at_issue hb hn hbody
  rw [if_neg (by omega), if_neg (by omega)] at hat
  cases l with
  | false => exact issue_loopNext h hs true reads false hat hs (loopNext_no_end h0 h1) hf hd
  | true => exact issue_loopNext h hs true reads false hat hs (loopNext_no_end h0 h1) hf hd

/-- A count above LC's range is a LENGTH trap. -/
theorem issue_loop_traps (hc : 0xFFFF ≤ count) (hctx : (s.coreOf g).ctx ≠ .trap) :
    s.TrapTaken (s.issue g true reads false body) g 3 (s.coreOf g).pc := by
  have hat := loop_body_at_issue hb hn hbody
  rw [if_pos hc] at hat
  exact (issue_traps h hs hctx true reads false (cause := .length) nofun nofun nofun hat).1

end
end State

/-- Settles O22: LOOP and LOOPI of both levels, and the last instruction of a level 0 loop. -/
theorem galLoops : Obligations.GalLoops := by
  intro s g h hs
  have hg := h.1
  obtain ⟨-, -, -, -, -, hp, -⟩ := id h
  have act0 : wsetBit (0 : BitVec 2) (b01 false) false = 0 := wsetBit_act_zero false
  have act1 : wsetBit (0 : BitVec 2) 0 true = 1 := by decide
  have act3 : wsetBit (1 : BitVec 2) 1 true = 3 := by decide
  refine ⟨fun off hoff => ?_, fun ha => State.nop_loop_end h hs ha⟩
  intro last hctl hdel
  have hb : s.LoopBody g off := ⟨hoff, hctl, hdel⟩
  have hgt : (s.coreOf g).pc.toNat < last.toNat := State.loop_last_gt hp hoff
  refine ⟨fun ha => ?_, fun ha hls hle n hn => ?_⟩
  · have hn : State.LoopNests (s.coreOf g) off false := nofun
    have skips : ∀ {i : Instr} {reads : List (BitVec 5)} {body : State → State × Next} {count : Nat},
        exec i s = onGal g (State.issue g true reads false body) s →
        body (s.putCore g (s.coreOf g)) = (s.putCore g (s.coreOf g)).loopStep g false count off → count = 0 →
        exec i s = .next (s.putCore g { (s.coreOf g).next with pc := last + 4 }) := by
      intro i reads body count he hbody hc
      have hi := State.issue_loop_skips h hs hb hn reads hbody hc
      rw [ha, act0, ← ha] at hi
      exact State.exec_onGal hg he hi
    have starts : ∀ {i : Instr} {reads : List (BitVec 5)} {body : State → State × Next} {count : Nat},
        exec i s = onGal g (State.issue g true reads false body) s →
        body (s.putCore g (s.coreOf g)) = (s.putCore g (s.coreOf g)).loopStep g false count off →
        0 < count → count < 0xFFFF → exec i s = .next (s.putCore g { (s.coreOf g).next with
          ls0 := (s.coreOf g).pc + 4, le0 := last, lc0 := BitVec.ofNat 32 count, act := 1 }) := by
      intro i reads body count he hbody hc hlt
      have hi := State.issue_loop_starts h hs hb hn reads hbody hc hlt (fun e => ?_) (fun e => ?_)
      · rw [Core.looping, ha, act1] at hi
        exact State.exec_onGal hg he hi
      · exact absurd (congrArg BitVec.toNat e) (Nat.ne_of_gt hgt)
      · rw [Core.looping, ha, act1] at e
        exact absurd (show (1 : BitVec 2).getLsbD 1 = true from e) (by decide)
    refine ⟨fun gc => ⟨fun hz => ?_, fun h0 hlt => ?_, fun hbig hctx => ?_⟩, fun n => ⟨fun hz => ?_, fun h0 => ?_⟩⟩
    · exact skips rfl (by simp only [State.coreOf_putCore]) (congrArg BitVec.toNat hz)
    · have hi := starts (i := .loop g false gc off) rfl (by simp only [State.coreOf_putCore]) h0 hlt
      rwa [BitVec.ofNat_toNat, BitVec.setWidth_eq] at hi
    · exact ⟨_, State.exec_onGal hg rfl rfl, State.issue_loop_traps h hs hb hn [gc]
        (by simp only [State.coreOf_putCore]) hbig hctx⟩
    · exact skips rfl rfl (congrArg BitVec.toNat hz)
    · have hi := starts (i := .loopi g false n off) rfl rfl (Nat.pos_of_ne_zero fun e => h0 (BitVec.eq_of_toNat_eq e))
        (Nat.lt_trans n.isLt (by decide))
      rwa [BitVec.ofNat_toNat] at hi
  · have hnest : State.LoopNests (s.coreOf g) off true := fun _ => ⟨by rw [ha]; decide, hls, hle⟩
    have hi := State.issue_loop_starts (body := fun s => s.loopStep g true n.toNat off) h hs hb hnest [] rfl
      (Nat.pos_of_ne_zero fun e => hn (BitVec.eq_of_toNat_eq e)) (Nat.lt_trans n.isLt (by decide))
      (fun e => ?_) (fun _ e => ?_)
    · rw [Core.looping, ha, act3, BitVec.ofNat_toNat] at hi
      exact State.exec_onGal hg rfl hi
    · exact absurd (congrArg BitVec.toNat e) (Nat.ne_of_gt (Nat.lt_of_lt_of_le hgt hle))
    · exact absurd (congrArg BitVec.toNat e) (Nat.ne_of_gt hgt)

end Sys2Proof.Machine

namespace Sys2Proof.Machine
namespace State

/-! ### The end of a tread of a slot that does not exist (R102)

A gallery has the slots 0 to 5, but `GalTreads` speaks of ENDT with any slot number in the core.  Slot 12 would have its
CYCMAX word at 0x214 of the page, which is TRSTA: a capture that ENDT completes writes it after the maximum is kept. -/

/-- A tread of slot 12 on gallery 0, with a capture whose last record ENDT stores. -/
def traceEnding : State :=
  (((({ reset with regs := [], gal := [(0, {
      core := { ctx := .tread, slotno := 12 }, trace := { left := 1 } })] } : State).wr
    (HDR.STA (pgGAL 0)) 0x303).wr (GAL.TRSTA 0) 0x200).wr (GAL.TRCFG 0) 0x10800)

theorem traceEnding_quiet : traceEnding.GalQuiet 0 := by
  unfold GalQuiet GalReady
  decide +kernel

theorem traceEnding_ctx : (traceEnding.coreOf 0).ctx = .tread := by decide +kernel

theorem traceEnding_not_ready : ∀ m < 6, (traceEnding.slotRun 0 m).ready = false := by decide +kernel

/-- The field that slot 12's CYCMAX word would hold, after an instruction. -/
def cycmaxAfter : Host.Outcome State Fault Refusal → Option Nat
  | .next t => some (t.fld (GAL.SLOT_CYCMAX 0 12) 15 0)
  | _ => none

/-- ENDT leaves TRSTA's new word in the field, which is not the maximum of 512 and 0. -/
theorem traceEnding_cycmax : cycmaxAfter (exec (.endt 0) traceEnding) = some 0x300 ∧
    Nat.max (traceEnding.fld (GAL.SLOT_CYCMAX 0 (traceEnding.coreOf 0).slotno) 15 0)
      (Nat.min ((traceEnding.coreOf 0).cyc - (traceEnding.coreOf 0).dispatchCyc) 0xFFFF) = 0x200 ∧
    (traceEnding.coreOf 0).slotno = 12 := by
  decide +kernel

end State

/-- Refutes O25: ENDT of a slot number that no gallery has keeps no maximum, since its word is the trace's state. -/
theorem not_galTreads : ¬ Obligations.GalTreads := by
  intro h
  obtain ⟨hafter, hmax, hslot⟩ := State.traceEnding_cycmax
  obtain ⟨t, he, -, -, -, -, -, hfld⟩ :=
    (h.2 State.traceEnding 0 State.traceEnding_quiet State.traceEnding_ctx).1 State.traceEnding_not_ready
  rw [hmax, hslot] at hfld
  rw [he] at hafter
  exact absurd (hfld.symm.trans (Option.some.inj hafter)) (by decide)

end Sys2Proof.Machine

namespace Sys2Proof.Machine

/-- A field inside a field that is written. -/
theorem wfld_wset_inside {n : Nat} (w : BitVec n) {hi lo hi' lo' : Nat} (v : Nat) (hn : hi < n) (h1 : lo ≤ lo') (h2 : hi' ≤ hi) :
    wfld (wset w hi lo v) hi' lo' = (v >>> (lo' - lo)) % 2 ^ (hi' + 1 - lo') := by
  apply Nat.eq_of_testBit_eq
  intro i
  rw [testBit_wfld, getLsbD_wset, Nat.testBit_mod_two_pow, Nat.testBit_shiftRight]
  by_cases hi : i < hi' + 1 - lo'
  · rw [if_pos (by omega), show lo' + i - lo = lo' - lo + i from by omega]
  · simp [hi]

namespace State

theorem fld_setFld_inside {s : State} {a hi lo hi' lo' : Nat} (v : Nat) (hn : hi < 32) (h1 : lo ≤ lo') (h2 : hi' ≤ hi) :
    (s.setFld a hi lo v).fld a hi' lo' = (v >>> (lo' - lo)) % 2 ^ (hi' + 1 - lo') := by
  rw [fld, rd_setFld_same, wfld_wset_inside _ _ hn h1 h2]

/-! ### Operations (R61-R63) -/

section
variable {s : State} {p a j : Nat}

theorem rd_restartClock (hj : j ≠ HDR.STA p) : (s.restartClock p).rd j = s.rd j := by
  unfold restartClock
  split
  · exact rd_setFld_ne s _ _ _ hj
  · rfl

theorem restartClock_gal : (s.restartClock p).gal = s.gal := by
  unfold restartClock
  split <;> rfl

theorem restartClock_mem : (s.restartClock p).mem = s.mem := by
  unfold restartClock
  split <;> rfl

theorem opPhase_gal (ph : Nat) : (s.opPhase a ph).gal = s.gal := restartClock_gal
theorem opPhase_mem (ph : Nat) : (s.opPhase a ph).mem = s.mem := restartClock_mem

/-- An operation that is accepted or running writes its status register and starts its page's clock. -/
theorem rd_opPhase (ph : Nat) (hj : j ≠ HDR.STA (a / 0x1000)) : (s.opPhase a ph).rd j = (s.setFld a 9 0 (ph * 256)).rd j :=
  rd_restartClock (s := { s.setFld a 9 0 (ph * 256) with pastCompletion := Tab.erase s.pastCompletion a }) hj

/-- An accepted operation: PHASE 1, CODE 0. -/
theorem opPhase_one (ha : a ≠ HDR.STA (a / 0x1000)) : (s.opPhase a 1).phase a = 1 ∧ (s.opPhase a 1).fld a 7 0 = 0 := by
  have hrd := rd_opPhase (s := s) 1 ha
  exact ⟨(fld_congr hrd 9 8).trans (fld_setFld_inside _ (by omega) (by omega) (by omega)),
    (fld_congr hrd 7 0).trans (fld_setFld_inside _ (by omega) (by omega) (by omega))⟩

/-- An operation that ends with a code that raises no flag. -/
theorem opEnd_quiet {c : Code} (hc : c = .done ∨ c = .aborted) : opEnd p a c s =
    { s.setFld a 9 0 (0x300 + c.num) with pastCompletion := Tab.erase s.pastCompletion a } := by
  rcases hc with rfl | rfl <;> rfl

theorem rd_opEnd {c : Code} (hc : c = .done ∨ c = .aborted) : (opEnd p a c s).rd j = (s.setFld a 9 0 (0x300 + c.num)).rd j := by
  rw [opEnd_quiet hc]
  rfl

theorem opEnd_gal {c : Code} (hc : c = .done ∨ c = .aborted) : (opEnd p a c s).gal = s.gal := by
  rw [opEnd_quiet hc]
  rfl

theorem opEnd_ended {c : Code} (hc : c = .done ∨ c = .aborted) : (opEnd p a c s).Ended a c := by
  have hcode : c.num < 2 := by rcases hc with rfl | rfl <;> decide
  have hf := fun hi' lo' => fld_setFld_inside (s := s) (a := a) (hi := 9) (lo := 0) (hi' := hi') (lo' := lo') (0x300 + c.num)
    (by omega) (by omega)
  rw [opEnd_quiet hc]
  refine ⟨(hf 9 8 (by omega)).trans ?_, (hf 7 0 (by omega)).trans ?_⟩ <;> simp only [Nat.shiftRight_eq_div_pow] <;> omega

/-- An abort of a running operation that has not passed its completion instant. -/
theorem opAbort_running (hb : s.busyOp a = true) (hp : s.isPast a = false) (undo : State → State) :
    opAbort p a undo s = opEnd p a .aborted (undo s) := by
  unfold opAbort
  unfold busyOp at hb
  simp only [Bool.or_eq_true, decide_eq_true_eq] at hb
  rcases hb with hb | hb <;> simp [hb, hp]

end

/-- A gallery register is none of its page's reports, its own page's, and not STA. -/
theorem regAt_gal_div {g off : Nat} (ho : off < 0x1000) : regAt (pgGAL g) off / 0x1000 = pgGAL g := by
  simp only [regAt, pgGAL]
  omega

theorem regAt_ne {p i j : Nat} (h : i ≠ j) : regAt p i ≠ regAt p j := fun e => h (Nat.add_left_cancel e)

section
variable {s : State} {g : Nat} (hg : g < s.variant.galleries)
include hg

/-! ### Schedule commits (R103, R522) -/

theorem schctlCommit_accepted (hb : s.busyOp (GAL.SCHSTA g) = false) (ho : s.offView (pgGAL g) = false) :
    Completes (.schctlCommit g) s fun t => t.phase (GAL.SCHSTA g) = 1 ∧ t.fld (GAL.SCHSTA g) 7 0 = 0 ∧
      t.galOf g = s.galOf g ∧ t.mem = s.mem := by
  apply completes_onGal hg (show exec (.schctlCommit g) s = execSchctlCommit g s from rfl)
  rw [if_neg (by simp [hb]), if_neg (by simp [ho])]
  have hne : GAL.SCHSTA g ≠ HDR.STA (GAL.SCHSTA g / 0x1000) := by
    rw [GAL.SCHSTA, regAt_gal_div (by omega)]
    exact regAt_ne (by omega)
  obtain ⟨h1, h2⟩ := opPhase_one (s := s) hne
  exact ⟨h1, h2, galOf_congr (opPhase_gal 1) g, opPhase_mem 1⟩

theorem schctlCommit_refused (hb : s.busyOp (GAL.SCHSTA g) = true) : Completes (.schctlCommit g) s fun t =>
    t.rd (GAL.SCHSTA g) = s.rd (GAL.SCHSTA g) ∧ t.bit (HDR.FLT (pgGAL g)) 0 = true := by
  apply completes_onGal hg (show exec (.schctlCommit g) s = execSchctlCommit g s from rfl)
  rw [if_pos hb]
  exact ⟨(raiseFlt_reported _ s 0).rd _ (gal_body_not_reports (lt_of_galleries hg) (by omega) (by omega)),
    bit_raiseFlt _ s (by omega)⟩

theorem schctlAbort_running (hb : s.busyOp (GAL.SCHSTA g) = true) (hp : s.isPast (GAL.SCHSTA g) = false) :
    Completes (.schctlAbort g) s fun t => t.phase (GAL.SCHSTA g) = 3 ∧ t.fld (GAL.SCHSTA g) 7 0 = 1 ∧
      t.bit (HDR.FLT (pgGAL g)) 26 = true ∧ t.galOf g = s.galOf g := by
  apply completes_onGal hg (show exec (.schctlAbort g) s = execSchctlAbort g s from rfl)
  dsimp only
  rw [if_pos hb, opAbort_running hb hp]
  have hr := raiseFlt_reported (pgGAL g) (opEnd (pgGAL g) (GAL.SCHSTA g) .aborted s) 26
  have hbody : ¬ reports (pgGAL g) (GAL.SCHSTA g) := gal_body_not_reports (lt_of_galleries hg) (by omega) (by omega)
  obtain ⟨h1, h2⟩ := opEnd_ended (s := s) (p := pgGAL g) (a := GAL.SCHSTA g) (c := .aborted) (.inr rfl)
  refine ⟨(hr.fld_eq hbody 9 8).trans h1, (hr.fld_eq hbody 7 0).trans h2, bit_raiseFlt _ _ (by omega), ?_⟩
  exact galOf_congr (raiseFlt_gal _ _ _) g

/-! ### Trace control (R117) -/

theorem trctlStop_running (hb : s.busyOp (GAL.TRSTA g) = true) (hp : s.isPast (GAL.TRSTA g) = false) :
    Completes (.trctlStop g) s fun t => t.phase (GAL.TRSTA g) = 3 ∧ t.fld (GAL.TRSTA g) 7 0 = 1 ∧ t.mem = s.mem ∧
      t.galOf g = s.galOf g := by
  apply completes_onGal hg (show exec (.trctlStop g) s = execTrctlStop g s from rfl)
  rw [opAbort_running hb hp]
  obtain ⟨h1, h2⟩ := opEnd_ended (s := s) (p := pgGAL g) (a := GAL.TRSTA g) (c := .aborted) (.inr rfl)
  exact ⟨h1, h2, rfl, rfl⟩

theorem trctlArm_accepted (hb : s.busyOp (GAL.TRSTA g) = false) (ho : s.offView (pgGAL g) = false)
    (hpost : s.num (GAL.TRPOST g) ≤ s.traceCap g) (hff : s.num (GAL.TRPOST g) ≠ 0xFFFF)
    (htrig : s.fld (GAL.TRTRIG g) 6 4 ≠ 0) :
    Completes (.trctlArm g) s fun t => t.phase (GAL.TRSTA g) = 1 ∧ t.fld (GAL.TRSTA g) 31 16 = 0 ∧
      t.rd (GAL.TRPTR g) = 0 ∧ (t.galOf g).trace = {} ∧ t.mem = s.mem := by
  have hdiv : GAL.TRSTA g / 0x1000 = pgGAL g := regAt_gal_div (by omega)
  have htp : GAL.TRTRIG g ≠ GAL.TRPTR g := regAt_ne (by omega)
  have hts : GAL.TRTRIG g ≠ GAL.TRSTA g := regAt_ne (by omega)
  have hsp : GAL.TRSTA g ≠ GAL.TRPTR g := regAt_ne (by omega)
  have htS : GAL.TRTRIG g ≠ HDR.STA (pgGAL g) := regAt_ne (by omega)
  have hsS : GAL.TRSTA g ≠ HDR.STA (pgGAL g) := regAt_ne (by omega)
  have hop : ∀ (s : State) {j : Nat}, j ≠ HDR.STA (pgGAL g) → (s.opPhase (GAL.TRSTA g) 1).rd j =
      (s.setFld (GAL.TRSTA g) 9 0 (1 * 256)).rd j := fun s j hj => rd_opPhase 1 (by rwa [hdiv])
  have htrig' : (((s.setFld (GAL.TRSTA g) 31 16 0).opPhase (GAL.TRSTA g) 1).wr (GAL.TRPTR g) 0).rd (GAL.TRTRIG g) =
      s.rd (GAL.TRTRIG g) := by
    rw [rd_wr_ne _ _ htp, hop _ htS, rd_setFld_ne _ _ _ _ hts, rd_setFld_ne _ _ _ _ hts]
  have hsta : (((s.setFld (GAL.TRSTA g) 31 16 0).opPhase (GAL.TRSTA g) 1).wr (GAL.TRPTR g) 0).rd (GAL.TRSTA g) =
      ((s.setFld (GAL.TRSTA g) 31 16 0).setFld (GAL.TRSTA g) 9 0 (1 * 256)).rd (GAL.TRSTA g) := by
    rw [rd_wr_ne _ _ hsp, hop _ hsS]
  apply completes_onGal hg (show exec (.trctlArm g) s = execTrctlArm g s from rfl)
  dsimp only
  rw [if_neg (by simp [hb]), if_neg (by simp [ho]), if_neg (by omega), if_neg (by exact fun e => htrig ((fld_congr htrig' 6 4).symm.trans e))]
  refine ⟨(fld_congr hsta 9 8).trans (fld_setFld_inside _ (by omega) (by omega) (by omega)),
    (fld_congr hsta 31 16).trans ((fld_setFld_ne _ _ (by omega)).trans (fld_setFld_same _ _ (by omega))), rd_wr_same _ _ _,
    congrArg Gal.trace (galOf_putGal _ _ _), opPhase_mem 1⟩

end

/-! ### Registers written one per slot -/

/-- Each of `k` steps of the fold writes one register of its own, by `val`. -/
def SlotWrites (k : Nat) (addr : Nat → Nat) (val : Nat → Word → Word) (f : State → Nat → State) : Prop :=
  ∀ s n j, n < k → (f s n).rd j = if j = addr n then val n (s.rd (addr n)) else s.rd j

theorem SlotWrites.pred {k : Nat} {addr : Nat → Nat} {val : Nat → Word → Word} {f : State → Nat → State}
    (hf : SlotWrites (k + 1) addr val f) : SlotWrites k addr val f := fun s n j hn => hf s n j (by omega)

theorem SlotWrites.rd_other {k : Nat} {addr : Nat → Nat} {val : Nat → Word → Word} {f : State → Nat → State}
    (hf : SlotWrites k addr val f) {j : Nat} (hj : ∀ n < k, j ≠ addr n) (s : State) : ((List.range k).foldl f s).rd j = s.rd j := by
  induction k with
  | zero => rfl
  | succ k ih =>
    rw [List.range_succ, List.foldl_append, List.foldl_cons, List.foldl_nil, hf _ _ _ (by omega), if_neg (hj k (by omega)),
      ih hf.pred fun n hn => hj n (by omega)]

/-- Each slot's register after all slots have been written. -/
theorem SlotWrites.rd_slot {k : Nat} {addr : Nat → Nat} {val : Nat → Word → Word} {f : State → Nat → State}
    (hf : SlotWrites k addr val f) (hinj : ∀ m n, m ≠ n → addr m ≠ addr n) {m : Nat} (hm : m < k) (s : State) :
    ((List.range k).foldl f s).rd (addr m) = val m (s.rd (addr m)) := by
  induction k with
  | zero => omega
  | succ k ih =>
    rw [List.range_succ, List.foldl_append, List.foldl_cons, List.foldl_nil, hf _ _ _ (by omega)]
    by_cases hk : m = k
    · subst hk
      rw [if_pos rfl, hf.pred.rd_other fun n hn => hinj m n (by omega)]
    · rw [if_neg (hinj m k hk), ih hf.pred (by omega)]

/-- A fold whose steps leave a part of the state leaves it. -/
theorem foldl_keeps {α β : Type} {f : State → α → State} {part : State → β} (hf : ∀ s x, part (f s x) = part s) (l : List α)
    (s : State) : part (l.foldl f s) = part s := by
  induction l generalizing s with
  | nil => rfl
  | cons x l ih => rw [List.foldl_cons, ih, hf]

end State
end Sys2Proof.Machine

namespace Sys2Proof.Machine
namespace State

/-! ### The end of a commit without enabled slots (R103) -/

/-- The staged table that a commit installs. -/
def staged (s : State) (g : Nat) : List (Nat × SlotCfg) := (List.range 6).map fun n => (n, s.stagedSlot g n)

theorem get_staged (s : State) (g : Nat) {n : Nat} (hn : n < 6) : Tab.get {} (s.staged g) n = s.stagedSlot g n := by
  interval_cases n <;> rfl

theorem stagedSlot_off {s : State} {g n : Nat} (h : s.bit (GAL.SLOT_SBR g n) 7 = false) :
    (s.stagedSlot g n).sbr.getLsbD 7 = false := by
  unfold stagedSlot
  dsimp only
  split
  · rw [getLsbD_wsetBit, if_pos ⟨by omega, rfl⟩]
  · exact h

section
variable {s : State} {g : Nat} {t : List (Nat × SlotCfg)} (hoff : ∀ n < 6, (Tab.get {} t n).sbr.getLsbD 7 = false)
include hoff

/-- A table without enabled slots gives no bridge a gallery: SLOT.ACTIVE follows it, and it is the schedule. -/
theorem installSchedule_off :
    (∀ n < 6, (s.installSchedule g t).rd (GAL.SLOT_ACTIVE g n) = (Tab.get {} t n).sbr) ∧
      ((s.installSchedule g t).galOf g).sched = t := by
  unfold installSchedule galClock
  refine ⟨fun n hn => ?_, ?_⟩
  · have hne : GAL.SLOT_ACTIVE g n ≠ GAL.CLKSTA g := regAt_ne (by omega)
    have hinj : ∀ m n, m ≠ n → GAL.SLOT_ACTIVE g m ≠ GAL.SLOT_ACTIVE g n := fun m n h => regAt_ne (by omega)
    dsimp only
    rw [rd_setFld_ne _ _ _ _ hne, rd_setFld_ne _ _ _ _ hne, putGal_rd]
    refine SlotWrites.rd_slot (val := fun n _ => (Tab.get {} t n).sbr) ?_ hinj hn s
    intro s n j hn
    dsimp only
    rw [if_neg (by rw [hoff n hn]; decide)]
    exact rd_wr s _ _ _
  · dsimp only
    rw [galOf_congr (setFld_gal _ _ _ _ _), galOf_congr (setFld_gal _ _ _ _ _), galOf_putGal]

end

theorem scheduleDone_passes {s : State} {g : Nat} (hb : s.busyOp (GAL.SCHSTA g) = true)
    (hchk : s.scheduleCheck g (s.staged g) = none) : s.scheduleDone g =
      (opEnd (pgGAL g) (GAL.SCHSTA g) .done ((s.installSchedule g (s.staged g)).setFld (GAL.SCHSTA g) 18 16 0)).raiseEvt
        (pgGAL g) 3 := by
  have hchk' : s.scheduleCheck g ((List.range 6).map fun n => (n, s.stagedSlot g n)) = none := hchk
  unfold scheduleDone
  rw [if_pos hb]
  dsimp only
  rw [hchk']
  rfl

/-- SCHEDULE_COMMIT_DONE of a table without enabled slots. -/
theorem scheduleDone_off {s : State} {g : Nat} (hg : g < s.variant.galleries) (hb : s.busyOp (GAL.SCHSTA g) = true)
    (hoff : ∀ n < 6, s.bit (GAL.SLOT_SBR g n) 7 = false) (hchk : s.scheduleCheck g (s.staged g) = none) :
    Completes (.scheduleCommitDone g) s fun t => t.phase (GAL.SCHSTA g) = 3 ∧ t.fld (GAL.SCHSTA g) 7 0 = 0 ∧
      t.fld (GAL.SCHSTA g) 18 16 = 0 ∧ (∀ n < 6, t.slotOn g n = false ∧ t.bit (GAL.SLOT_ACTIVE g n) 7 = false) ∧
      t.bit (HDR.EVT (pgGAL g)) 3 = true := by
  have hcfg : ∀ n < 6, (Tab.get {} (s.staged g) n).sbr.getLsbD 7 = false := fun n hn => by
    rw [get_staged s g hn]
    exact stagedSlot_off (hoff n hn)
  obtain ⟨hactive, hsched⟩ := installSchedule_off (s := s) (g := g) hcfg
  have hbody : ∀ {off : Nat}, 0x20 ≤ off → off < 0x1000 → ¬ reports (pgGAL g) (regAt (pgGAL g) off) :=
    fun h1 h2 => gal_body_not_reports (lt_of_galleries hg) h1 h2
  apply completes_onGal hg (show exec (.scheduleCommitDone g) s = execScheduleCommitDone g s from rfl)
  rw [scheduleDone_passes hb hchk]
  obtain ⟨h1, h2⟩ := opEnd_ended (s := ((s.installSchedule g (s.staged g)).setFld (GAL.SCHSTA g) 18 16 0)) (p := pgGAL g)
    (a := GAL.SCHSTA g) (c := .done) (.inl rfl)
  have hr := raiseEvt_reported (pgGAL g)
    (opEnd (pgGAL g) (GAL.SCHSTA g) .done ((s.installSchedule g (s.staged g)).setFld (GAL.SCHSTA g) 18 16 0)) 3
  have hsta : ¬ reports (pgGAL g) (GAL.SCHSTA g) := hbody (by omega) (by omega)
  refine ⟨(hr.fld_eq hsta 9 8).trans h1, (hr.fld_eq hsta 7 0).trans h2, ?_, fun n hn => ⟨?_, ?_⟩, bit_raiseEvt _ _ (by omega)⟩
  · rw [hr.fld_eq hsta, fld_congr (rd_opEnd (.inl rfl)), fld_setFld_ne _ _ (by omega), fld_setFld_same _ _ (by omega),
      Nat.zero_mod]
  · unfold slotOn slotCfg
    rw [galOf_congr (raiseEvt_gal _ _ _), galOf_congr (opEnd_gal (.inl rfl)), galOf_congr (setFld_gal _ _ _ _ _), hsched]
    exact hcfg n hn
  · have hne : GAL.SLOT_ACTIVE g n ≠ GAL.SCHSTA g := regAt_ne (by omega)
    have hrd := (hr.rd _ (hbody (off := 0x098 + 0x20 * n) (by omega) (by omega))).trans ((rd_opEnd (.inl rfl)).trans
      ((rd_setFld_ne _ _ _ _ hne).trans ((rd_setFld_ne _ _ _ _ hne).trans (hactive n hn))))
    exact (congrArg (·.getLsbD 7) hrd).trans (hcfg n hn)

/-! ### TRCAP (R101, R115, R116) -/

theorem galOf_putCore_self (s : State) (g : Nat) : (s.putCore g (s.coreOf g)).galOf g = s.galOf g := galOf_putCore _ _ _

theorem traceHead_length (s : State) (g : Nat) : (s.traceHead g).length = 2 := by
  unfold traceHead
  dsimp only
  split <;> rfl

theorem traceHead_putCore (s : State) (g : Nat) : (s.putCore g (s.coreOf g)).traceHead g = s.traceHead g := by
  unfold traceHead
  dsimp only
  rw [coreOf_putCore, galOf_putCore_self, slotRun_putCore]
  rfl

theorem traceNode_putCore (s : State) (g k : Nat) : (s.putCore g (s.coreOf g)).traceNode g k = s.traceNode g k := by
  unfold traceNode
  rw [coreOf_putCore]
  simp only [bytes_putCore]
  rfl

/-- The words of a record (R115). -/
def traceWords (s : State) (g : Nat) : List Word :=
  s.traceHead g ++ (List.range (s.fld (GAL.TRCFG g) 7 4 + 1)).map (s.traceNode g)

theorem traceWords_putCore (s : State) (g : Nat) : (s.putCore g (s.coreOf g)).traceWords g = s.traceWords g := by
  rw [traceWords, traceHead_putCore, funext (traceNode_putCore s g)]
  rfl

theorem bytesOf_traceWords_length (s : State) (g : Nat) : (bytesOf (s.traceWords g)).length = s.traceSize g := by
  rw [bytesOf_length, traceWords, List.length_append, traceHead_length, List.length_map, List.length_range, traceSize]
  omega

/-- A record of a local capture stored: its words at TRPTR, and TRPTR at the next place. -/
def traceStored (s : State) (g : Nat) : State :=
  ((s.writeBytes (galBase g + 0x40000 + s.num (GAL.TRPTR g)) (galRequester g) (bytesOf (s.traceWords g))).2.wr (GAL.TRPTR g)
    (BitVec.ofNat 32 (if s.num (GAL.TRPTR g) + 2 * s.traceSize g ≤ 0x8000 then s.num (GAL.TRPTR g) + s.traceSize g else 0))).putGal
      g { s.galOf g with trace := { (s.galOf g).trace with count := (s.galOf g).trace.count + 1, gap := false } }

section
variable {s : State} {g : Nat} (hph : s.phase (GAL.TRSTA g) = 1) (hloc : s.bit (GAL.TRCFG g) 0 = false)
  (htrig : s.fld (GAL.TRTRIG g) 6 4 = 3) (hi : s.bit MEM.INJCFG 16 = false)
  (hfit : s.num (GAL.TRPTR g) + s.traceSize g ≤ 0x8000)
  (hcode : s.GoodCode (galBase g + 0x40000 + s.num (GAL.TRPTR g)) (s.traceSize g))

section
include hi hcode

theorem traceStored_bytes : Stored (galBase g + 0x40000 + s.num (GAL.TRPTR g)) (bytesOf (s.traceWords g)) s
    (s.writeBytes (galBase g + 0x40000 + s.num (GAL.TRPTR g)) (galRequester g) (bytesOf (s.traceWords g))).2 :=
  writeBytes_good hi _ (by rwa [bytesOf_traceWords_length])

theorem rd_traceStored {j : Nat} (hj : j ≠ GAL.TRPTR g) : (s.traceStored g).rd j = s.rd j := by
  rw [traceStored, putGal_rd, rd_wr_ne _ _ hj, (traceStored_bytes hi hcode).rd_eq]

/-- The stored record reads back, and no other byte changes. -/
theorem traceStored_reads :
    (s.traceStored g).bytes (galBase g + 0x40000 + s.num (GAL.TRPTR g)) (s.traceSize g) = bytesOf (s.traceWords g) ∧
    SameBytes (fun a => galBase g + 0x40000 + s.num (GAL.TRPTR g) ≤ a ∧
      a < galBase g + 0x40000 + s.num (GAL.TRPTR g) + s.traceSize g) s (s.traceStored g) := by
  have hst := traceStored_bytes hi hcode
  rw [← bytesOf_traceWords_length]
  unfold traceStored
  generalize (s.writeBytes _ _ _).2 = u at hst ⊢
  refine ⟨Eq.trans ?_ hst.bytes_eq, hst.sameBytes⟩
  exact bytes_congr fun _ _ => rfl

end

include hfit in
theorem num_TRPTR_traceStored : (s.traceStored g).num (GAL.TRPTR g) =
    (if s.num (GAL.TRPTR g) + 2 * s.traceSize g ≤ 0x8000 then s.num (GAL.TRPTR g) + s.traceSize g else 0) := by
  rw [num, traceStored, putGal_rd, rd_wr_same, BitVec.toNat_ofNat]
  apply Nat.mod_eq_of_lt
  split <;> omega

include hph hloc htrig hi hfit hcode

/-- An armed local capture that no value can trigger stores its record, and does nothing more (R115-R117). -/
theorem traceCapture_armed : s.traceCapture g = s.traceStored g := by
  have hcap : s.traceCap g ≠ 0 := by
    unfold traceCap
    rw [hloc]
    exact Nat.ne_of_gt (Nat.div_pos (by simpa using Nat.le_trans (Nat.le_add_left _ _) hfit) (by unfold traceSize; omega))
  have hph' : (s.traceStored g).phase (GAL.TRSTA g) = 1 := (fld_congr (rd_traceStored hi hcode (regAt_ne (by omega))) 9 8).trans hph
  have htrig' : (s.traceStored g).fld (GAL.TRTRIG g) 6 4 = 3 :=
    (fld_congr (rd_traceStored hi hcode (regAt_ne (by omega))) 6 4).trans htrig
  unfold traceCapture
  rw [if_neg (by simp [busyOp, hph])]
  dsimp only
  rw [hloc, if_neg (by simp [hcap])]
  refine (if_neg fun e => absurd (hph'.symm.trans e) (by decide)).trans (if_neg ?_)
  rintro ⟨-, ⟨h1, -⟩ | ⟨h1, -⟩⟩
  · exact absurd (htrig'.symm.trans h1) (by decide)
  · exact absurd (htrig'.symm.trans h1) (by decide)

end

/-- TRCAP stores the record at TRPTR and moves TRPTR to the next place, or back to 0 (R115, R116). -/
theorem trcap_armed {s : State} {g : Nat} (h : s.GalQuiet g) (hph : s.phase (GAL.TRSTA g) = 1)
    (hloc : s.bit (GAL.TRCFG g) 0 = false)
    (htrig : s.fld (GAL.TRTRIG g) 6 4 = 3) (hi : s.bit MEM.INJCFG 16 = false)
    (hfit : s.num (GAL.TRPTR g) + s.traceSize g ≤ 0x8000)
    (hcode : s.GoodCode (galBase g + 0x40000 + s.num (GAL.TRPTR g)) (s.traceSize g)) :
    let at_ := galBase g + 0x40000 + s.num (GAL.TRPTR g)
    Completes (.trcap g) s fun t => t.bytes at_ (s.traceSize g) = bytesOf (s.traceWords g) ∧
      SameBytes (fun a => at_ ≤ a ∧ a < at_ + s.traceSize g) s t ∧ t.coreOf g = (s.coreOf g).next ∧
      t.num (GAL.TRPTR g) = (if s.num (GAL.TRPTR g) + 2 * s.traceSize g ≤ 0x8000
        then s.num (GAL.TRPTR g) + s.traceSize g else 0) := by
  have he := traceCapture_armed (s := s.putCore g (s.coreOf g)) hph hloc htrig hi hfit hcode
  obtain ⟨hbytes, hsame⟩ := traceStored_reads (s := s.putCore g (s.coreOf g)) hi hcode
  have hptr := num_TRPTR_traceStored (s := s.putCore g (s.coreOf g)) hfit
  have hcore : ((s.putCore g (s.coreOf g)).traceStored g).coreOf g = s.coreOf g := by
    rw [traceStored, coreOf_putGal, galOf_putCore_self]
    rfl
  rw [traceWords_putCore] at hbytes
  generalize (s.putCore g (s.coreOf g)).traceStored g = t at he hbytes hsame hptr hcore
  exact ⟨_, exec_onGal h.built rfl (issue_seq h false [] false (by rw [he]) hcore),
    (bytes_putCore _ _ _ _ _).trans hbytes, hsame, coreOf_putCore _ _ _, hptr⟩

end State
end Sys2Proof.Machine

namespace Sys2Proof.Machine
namespace State

/-! ### Supervision (R113, R114) -/

/-- From `s` to `t` gallery `g` keeps its schedule and every pending interrupt. -/
structure IrqKept (g : Nat) (s t : State) : Prop where
  sched : (t.galOf g).sched = (s.galOf g).sched
  ipend : ∀ i, (s.coreOf g).ipend.getLsbD i = true → (t.coreOf g).ipend.getLsbD i = true

namespace IrqKept
variable {g : Nat} {s t u : State}

theorem of_gal (h : t.gal = s.gal) : IrqKept g s t :=
  ⟨by rw [galOf_congr h], fun i hi => by rwa [coreOf_congr h]⟩

theorem trans (h : IrqKept g s t) (k : IrqKept g t u) : IrqKept g s u :=
  ⟨k.sched.trans h.sched, fun i hi => k.ipend i (h.ipend i hi)⟩

end IrqKept

section
variable {g : Nat} {s : State}

theorem sched_startClock : ((s.startClock g).galOf g).sched = (s.galOf g).sched := by rw [galOf_startClock]

theorem sched_raiseIrq (n : Nat) : ((s.raiseIrq g n).galOf g).sched = (s.galOf g).sched := by
  unfold raiseIrq
  dsimp only
  split
  · rw [sched_startClock, galOf_putCore]
  · rw [galOf_putCore]

/-- An interrupt raised is pending, and so is what was. -/
theorem ipend_raiseIrq (n i : Nat) : ((s.raiseIrq g n).coreOf g).ipend.getLsbD i =
    if i < 8 ∧ i = n then true else (s.coreOf g).ipend.getLsbD i := by
  obtain ⟨q, w, h⟩ := coreOf_raiseIrq (s := s) (g := g) (n := n)
  rw [h]
  exact getLsbD_wsetBit _ _ _ _

theorem raiseIrq_kept (n : Nat) : IrqKept g s (s.raiseIrq g n) :=
  ⟨sched_raiseIrq n, fun i hi => by rw [ipend_raiseIrq]; split <;> [rfl; exact hi]⟩

theorem traceTrigger_kept (idx left : Nat) : IrqKept g s (s.traceTrigger g idx left) := by
  unfold traceTrigger
  refine .trans ?_ (raiseIrq_kept 3)
  refine .trans ?_ (.of_gal (raiseEvt_gal _ _ _))
  exact ⟨by rw [galOf_putGal]; rfl, fun i hi => by rw [coreOf_putGal]; exact hi⟩

theorem traceNotice_kept (cond : Nat) : IrqKept g s (s.traceNotice g cond) := by
  unfold traceNotice
  split
  · exact traceTrigger_kept _ _
  · exact .of_gal rfl

end

/-- A supervisor whose count has reached its limit trips (R113). -/
theorem supTrip_trips {s : State} {g n : Nat} (hg : g < s.variant.galleries) (hn : n < 6)
    (hon : s.bit (GAL.SUPCFG g n) 8 = true) (hlim : s.fld (GAL.SUPCFG g n) 7 0 ≠ 0)
    (hcnt : s.fld (GAL.SUPCFG g n) 7 0 ≤ s.fld (GAL.SUPCNT g n) 7 0) (hnot : s.bit (GAL.SUPCNT g n) 16 = false) :
    Completes (.supervisorTrip g n) s fun t => t.bit (GAL.SUPCNT g n) 16 = true ∧ t.bit (HDR.FLT (pgGAL g)) 23 = true ∧
      (t.coreOf g).ipend.getLsbD 5 = true ∧ (t.coreOf g).pc = (s.coreOf g).pc ∧
      (s.slotBridge g n < 48 → t.galFault.getLsbD (s.slotBridge g n) = true) := by
  refine ⟨s.supTrip g n, ?_, ?_⟩
  · show execSupervisorTrip g n s = _
    unfold execSupervisorTrip onUnit
    rw [if_pos (decide_eq_true ⟨hg, hn⟩)]
  have hbody : ¬ reports (pgGAL g) (GAL.SUPCNT g n) := gal_body_not_reports (lt_of_galleries hg) (by omega) (by omega)
  have htr : GAL.SUPCNT g n ≠ GAL.TRSTA g := regAt_ne (by omega)
  have hst : GAL.SUPCNT g n ≠ HDR.STA (pgGAL g) := regAt_ne (by omega)
  have hr := raiseFlt_reported (pgGAL g) (s.setBit (GAL.SUPCNT g n) 16 true) 23
  have hi := raiseIrq_noticed g 5 ((s.setBit (GAL.SUPCNT g n) 16 true).raiseFlt (pgGAL g) 23)
  have ht := traceNotice_noticed g 4 (((s.setBit (GAL.SUPCNT g n) 16 true).raiseFlt (pgGAL g) 23).raiseIrq g 5)
  have hall := (Noticed.of_reported hr).trans (hi.trans ht)
  have hk := (raiseIrq_kept 5).trans (traceNotice_kept (g := g)
    (s := ((s.setBit (GAL.SUPCNT g n) 16 true).raiseFlt (pgGAL g) 23).raiseIrq g 5) 4)
  have hbridge : (traceNotice g 4 (((s.setBit (GAL.SUPCNT g n) 16 true).raiseFlt (pgGAL g) 23).raiseIrq g 5)).slotBridge g n =
      s.slotBridge g n := by
    rw [slotBridge, slotCfg, hk.sched, galOf_congr (raiseFlt_gal _ _ _)]
    rfl
  unfold supTrip
  dsimp only
  rw [if_pos ⟨hon, hlim, hcnt, hnot⟩]
  refine ⟨?_, ?_, ?_, ?_, fun hb => ?_⟩
  · exact (bit_congr (hall.rd _ hbody htr hst) 16).trans (bit_setBit_same _ _ (by omega))
  · exact (hi.trans ht).flt 23 (bit_raiseFlt _ _ (by omega))
  · exact (traceNotice_kept 4).ipend 5 (by rw [ipend_raiseIrq]; rfl)
  · obtain ⟨p, q, w, hc⟩ := hall.core
    have hpc := congrArg Core.pc hc
    exact hpc
  · rw [hbridge, BitVec.getLsbD_or, BitVec.getLsbD_ofNat]
    simp [hb]

/-- A supervision count after SUPTRIP is written with 1: where it tripped, the count and the trip clear (R114). -/
def clearedCount (w : Word) : Word := if w.getLsbD 16 then wsetBit (wset w 7 0 0) 16 false else w

theorem getLsbD_clearedCount (w : Word) : (clearedCount w).getLsbD 16 = false := by
  unfold clearedCount
  split
  next => rw [getLsbD_wsetBit, if_pos ⟨by omega, rfl⟩]
  next h => exact Bool.eq_false_of_not_eq_true h

theorem wfld_clearedCount {w : Word} (h : w.getLsbD 16 = true) : wfld (clearedCount w) 7 0 = 0 := by
  rw [clearedCount, if_pos h, wfld_wsetBit_ne _ _ (by omega), wfld_wset_same _ _ (by omega), Nat.zero_mod]

/-- One slot's step of the clear. -/
theorem supClear_step (g : Nat) : SlotWrites 6 (GAL.SUPCNT g) (fun _ => clearedCount) (fun s n =>
    if s.bit (GAL.SUPCNT g n) 16 then (s.setFld (GAL.SUPCNT g n) 7 0 0).setBit (GAL.SUPCNT g n) 16 false else s) := by
  intro s n j _
  unfold clearedCount bit
  dsimp only
  by_cases hb : (s.rd (GAL.SUPCNT g n)).getLsbD 16 = true
  · rw [if_pos hb, if_pos hb, rd_setBit, rd_setFld_same, rd_setFld]
    split <;> rfl
  · rw [if_neg hb, if_neg hb]
    split
    next h => rw [h]
    next => rfl

/-- SUPTRIP written with 1 (R114). -/
theorem supClear_clears {s : State} {g : Nat} (hg : g < s.variant.galleries) :
    Completes (.suptripClear g) s fun t => t.bit (HDR.FLT (pgGAL g)) 23 = false ∧ t.mem = s.mem ∧ t.galOf g = s.galOf g ∧
      ∀ n < 6, t.bit (GAL.SUPCNT g n) 16 = false ∧ (s.bit (GAL.SUPCNT g n) 16 = true → t.fld (GAL.SUPCNT g n) 7 0 = 0) := by
  apply completes_onGal hg (show exec (.suptripClear g) s = execSuptripClear g s from rfl)
  unfold supClear
  dsimp only
  refine ⟨?_, ?_, ?_, fun n hn => ?_⟩
  · have hrd := (supClear_step g).rd_other (j := HDR.FLT (pgGAL g)) (fun n hn => regAt_ne (by omega))
      (s.setBit (HDR.FLT (pgGAL g)) 23 false)
    exact (bit_congr hrd 23).trans (bit_setBit_same _ _ (by omega))
  · refine (foldl_keeps (part := State.mem) (fun s n => ?_) _ _).trans rfl
    split <;> rfl
  · refine galOf_congr ((foldl_keeps (part := State.gal) (fun s n => ?_) _ _).trans rfl) g
    split <;> rfl
  · have hne : GAL.SUPCNT g n ≠ HDR.FLT (pgGAL g) := regAt_ne (by omega)
    have hinj : ∀ m n, m ≠ n → GAL.SUPCNT g m ≠ GAL.SUPCNT g n := fun m n h => regAt_ne (by omega)
    have hrd := (supClear_step g).rd_slot hinj hn (s.setBit (HDR.FLT (pgGAL g)) 23 false)
    rw [rd_setBit_ne _ _ _ hne] at hrd
    exact ⟨(congrArg (·.getLsbD 16) hrd).trans (getLsbD_clearedCount _),
      fun hb => (congrArg (wfld · 7 0) hrd).trans (wfld_clearedCount hb)⟩

end State

/-- Settles O28: schedule commits, trace control and capture, and the supervisor, clause by clause. -/
theorem galScheduleTrace : Obligations.GalScheduleTrace := by
  intro s g hg
  refine ⟨State.schctlCommit_accepted hg, State.schctlCommit_refused hg, State.schctlAbort_running hg,
    State.scheduleDone_off hg, State.trctlArm_accepted hg, State.trctlStop_running hg, ?_,
    fun n hn => State.supTrip_trips hg hn, State.supClear_clears hg⟩
  intro h hph hloc htrig hi _ _ hfit _ hcode
  exact State.trcap_armed h hph hloc htrig hi hfit hcode

end Sys2Proof.Machine

namespace Sys2Proof.Machine
namespace State

/-! ### A tread while a migration names a gallery that no device has (R124, R278)

`Bridges` speaks of every state, also of one whose migration has gallery 42 for its target.  That gallery's page would be
bridge 0's, with XADDR where the bridge has TREADCNT: a sample unit that the tread delivers resumes the gallery's SWAIT,
whose trap writes its address over the count. -/

/-- Bridge 0 runs, served by slot 0 of gallery 0, with a channel whose output goes to it; the slot migrates to gallery 42,
where a SWAIT to code memory waits. -/
def migratingAstray : State :=
  (({ reset with
      regs := [], sdm := [(0, 0)], brg := [(0, { running := true })],
      gal := [(0, { sched := [(0, { sbr := 0x80 })] }), (42, { core := { swait := some (0, 1) } })],
      mig := { source := 0, target := 42, slots := 1 } } : State).wr (SDM.CH_CFG 0 0) 0x40200).wr MIG.MSTA 0xE00

theorem migratingAstray_runs : 0 < migratingAstray.variant.bridges ∧ (migratingAstray.brgOf 0).running = true ∧
    (migratingAstray.bridgeSlot 0).isSome = true := by
  decide +kernel

/-- Bridge 0's TREADCNT after a row. -/
def treadsAfter : Host.Outcome State Fault Refusal → Option Word64
  | .next t => some (t.rd64 (BRG.TREADCNT 0))
  | _ => none

/-- The tread leaves the count at the trap's address 0. -/
theorem migratingAstray_treads : treadsAfter (exec (.bridgeTread 0) migratingAstray) = some 0 ∧
    migratingAstray.rd64 (BRG.TREADCNT 0) = 0 := by
  decide +kernel

end State

/-- Refutes O31: a tread does not count where the sample unit that it delivers to gallery 42, a migration's target that no
device has, makes a trap there write TREADCNT's word. -/
theorem not_bridges : ¬ Obligations.Bridges := by
  intro h
  obtain ⟨hbuilt, hruns, hserved⟩ := State.migratingAstray_runs
  obtain ⟨hafter, hbefore⟩ := State.migratingAstray_treads
  obtain ⟨-, -, htread, -⟩ := h State.migratingAstray 0 hbuilt
  obtain ⟨t, he, hcount, -⟩ := htread hruns hserved
  rw [he] at hafter
  rw [hbefore] at hcount
  exact absurd (hcount.symm.trans (Option.some.inj hafter)) (by decide)

end Sys2Proof.Machine

namespace Sys2Proof.Machine
namespace State

/-! ### Reports and the credits of landings (R26, R28) -/

/-- A row about a unit that is built completes with its effect. -/
theorem completes_onUnit {i : Instr} {s t : State} {ok : Bool} {P : State → Prop} (he : exec i s = onUnit ok t) (hok : ok = true)
    (hp : P t) : Completes i s P :=
  ⟨t, by rw [he, hok]; rfl, hp⟩

theorem fireGroup_credits (t stamp : Nat) (s : State) (g : Nat) : (fireGroup t stamp s g).credits = s.credits := by
  unfold fireGroup
  dsimp only
  split
  · split <;> rfl
  · rfl

theorem chainArm_credits (t : Nat) (s : State) (u : Nat) : (chainArm t s u).credits = s.credits := by
  unfold chainArm
  split <;> rfl

theorem fire_credits (s : State) (t stamp : Nat) : (s.fire t stamp).credits = s.credits := by
  unfold fire
  dsimp only
  rw [foldl_keeps (part := State.credits) (fireGroup_credits t stamp), foldl_keeps (part := State.credits) (chainArm_credits t),
    putTrg_credits, foldl_keeps (part := State.credits) fun s i => wr_credits s (TRG.TLAST t i) _, count_credits]

theorem trgPage_credits (p : Nat) (evt : Bool) (bit : Nat) (s : State) : (trgPage p evt bit s).credits = s.credits := by
  refine foldl_keeps (part := State.credits) (fun s t => ?_) _ s
  split
  · exact fire_credits s t _
  · rfl

theorem storeWord_credits (s : State) (w : Nat) (d : Word64) : (s.storeWord w d).credits = s.credits := by
  obtain ⟨_, _, _, h⟩ := storeWord_frame s w d
  rw [h]

theorem storeWords_credits : (ws : List Word) → (s : State) → (a : Nat) → (s.storeWords a ws).credits = s.credits
  | [], _, _ => rfl
  | [_], s, _ => storeWord_credits s _ _
  | _ :: _ :: t, s, a => (storeWords_credits t _ (a + 8)).trans (storeWord_credits s _ _)

theorem commitStart_credits (s : State) (c : Commit) : (s.commitStart c).credits = s.credits := by
  unfold commitStart
  dsimp only
  split <;> rfl

theorem flushStart_credits (cause limit : Nat) (s : State) : (s.flushStart cause limit).credits = s.credits := by
  unfold flushStart
  dsimp only
  split
  · rfl
  · split
    · rfl
    · exact commitStart_credits _ _

theorem keepRecord_credits (ws : List Word) (s : State) : (s.keepRecord ws).1.credits = s.credits := by
  unfold keepRecord
  split
  · split <;> rfl
  · unfold ringAppend
    dsimp only
    split
    · rfl
    · exact storeWords_credits ws s _

theorem recAccept_credits (s : State) (head : Word) (payload : List Word) : (s.recAccept head payload).1.credits = s.credits := by
  rw [recAccept_fst]
  dsimp only
  split
  · exact (flushStart_credits _ _ _).trans (keepRecord_credits _ _)
  · exact keepRecord_credits _ _

section
variable {l : Landing} {p : Nat} (h : landKey l p ≠ landKey .recorder 0)
include h

theorem credit_putCredit_recorder (s : State) (c : Credit) : (s.putCredit .recorder 0 c).credit l p = s.credit l p :=
  Tab.get_set_ne _ _ _ _ h

/-- The gatherer's record costs and frees a credit of the recorder's landing alone (R28). -/
theorem submit_credit (s : State) (page : Nat) (head : Word) (payload : List Word) :
    (s.submit 0 page head payload).1.credit l p = s.credit l p := by
  unfold submit
  split
  · rfl
  · split
    · rw [credit_congr (recAccept_credits _ _ _), giveBack, credit_putCredit_recorder h, spend, credit_putCredit_recorder h]
    · split <;> rfl

theorem fltRecord_credit (s : State) (q b : Nat) : (s.fltRecord q b).1.credit l p = s.credit l p := by
  unfold fltRecord
  split
  · rfl
  · exact (submit_credit h _ _ _ _).trans (credit_congr (trgPage_credits _ _ _ _) l p)

theorem evtRecord_credit (s : State) (q n : Nat) : (s.evtRecord q n).1.credit l p = s.credit l p := by
  unfold evtRecord
  split
  · rfl
  · dsimp only
    have ht := credit_congr (trgPage_credits q true n (s.setBit (HDR.EVT q) n true)) l p
    split
    · exact (submit_credit h _ _ _ _).trans ht
    · exact ht

theorem noteLost_credit (s : State) : s.noteLost.credit l p = s.credit l p :=
  (evtRecord_credit h _ _ _).trans (fltRecord_credit h _ _ _)

/-- A report keeps the credits of every landing but the recorder's (R28, R56). -/
theorem raiseFlt_credit (s : State) (q b : Nat) : (s.raiseFlt q b).credit l p = s.credit l p := by
  unfold raiseFlt
  dsimp only
  split
  · exact (noteLost_credit h _).trans (fltRecord_credit h _ _ _)
  · exact fltRecord_credit h _ _ _

end

/-- The edge landings' accounts lie below the recorder's. -/
theorem landKey_edge_ne {r k : Nat} (hr : r < 8) (hk : k < 8) : landKey (.edge r) k ≠ landKey .recorder 0 := by
  simp only [landKey]
  omega

theorem brgPos_lt (s : State) (b : Nat) : s.brgPos b < 8 := by
  unfold brgPos fld wfld
  exact Nat.mod_lt _ (by decide)

/-! ### A plan taken from the edge landing (R23, R26, R148) -/

/-- The plan `p` has left the head of ring `r`'s edge landing and its units' credits travel back. -/
def planTaken (r : Nat) (p : Plan) (rest : List Plan) (s : State) : State :=
  (s.putRing r { s.ringOf r with edge := rest }).giveBack (.edge r) (s.brgPos p.bridge) p.units

section
variable {r : Nat} {p : Plan} {rest : List Plan} {s : State}

theorem ringOf_planTaken : (s.planTaken r p rest).ringOf r = { s.ringOf r with edge := rest } := ringOf_putRing _ _ _

theorem credit_planTaken : ((s.planTaken r p rest).credit (.edge r) (s.brgPos p.bridge)).back =
    Nat.min (s.credit (.edge r) (s.brgPos p.bridge)).spent ((s.credit (.edge r) (s.brgPos p.bridge)).back + p.units) :=
  credit_giveBack_same _ _ _ _

variable (he : (s.ringOf r).edge = p :: rest)
include he

theorem planProcess_late : s.planProcess r true =
    ((s.planTaken r p rest).count (RZL.LATECNT r) 15 0).raiseFlt (pgRZL r) 24 := by
  unfold planProcess
  dsimp only
  rw [he]
  rfl

/-- A plan in time of the current epoch, on a bridge that neither a force nor the balustrade holds, reaches the edge
sequencer. -/
theorem planProcess_sends (hforce : ∀ f ∈ (s.ringOf r).force, f.bridge ≠ p.bridge)
    (hbal : s.bit (BRG.FORCESTA p.bridge) 8 = false) (hepoch : s.epochOk p = true) :
    s.planProcess r false = (s.planTaken r p rest).sendPlan r p := by
  have hany : ((s.ringOf r).force.any fun f => decide (f.bridge = p.bridge)) = false := by simpa using hforce
  have hbal' : (s.planTaken r p rest).bit (BRG.FORCESTA p.bridge) 8 = false := hbal
  have hepoch' : (s.planTaken r p rest).epochOk p = true := hepoch
  unfold planProcess
  dsimp only
  rw [he]
  dsimp only
  rw [hany]
  simp only [Bool.false_eq_true, if_false]
  change (if (s.planTaken r p rest).bit (BRG.FORCESTA p.bridge) 8 = true then s.planTaken r p rest
    else if (s.planTaken r p rest).epochOk p = false then (s.planTaken r p rest).lateDiscard p
    else (s.planTaken r p rest).sendPlan r p) = _
  rw [hbal', hepoch']
  rfl

end

/-- A late plan (R23): counted and reported, its units' credits back, no bridge touched. -/
theorem planProcess_completes_late {r : Nat} {p : Plan} {rest : List Plan} {s : State} (hr : r < s.variant.rings)
    (he : (s.ringOf r).edge = p :: rest) :
    Completes (.planProcess r true) s fun t => (t.ringOf r).edge = rest ∧ t.bit (HDR.FLT (pgRZL r)) 24 = true
      ∧ t.fld (RZL.LATECNT r) 15 0 = Nat.min 0xFFFF (s.fld (RZL.LATECNT r) 15 0 + 1)
      ∧ (t.credit (.edge r) (s.brgPos p.bridge)).back
        = Nat.min (s.credit (.edge r) (s.brgPos p.bridge)).spent ((s.credit (.edge r) (s.brgPos p.bridge)).back + p.units)
      ∧ t.brg = s.brg := by
  have hr8 : r < 8 := lt_of_lt_of_le hr (by unfold Variant.rings; split <;> omega)
  have hn : ¬ reports (pgRZL r) (RZL.LATECNT r) := by
    simp only [reports, reportWord, HDR.FLT, HDR.EVT, RZL.LATECNT, MEM.INJCFG, pgRZL, pgREC, pgACQ, pgNVM, pgMEM, regAt]
    omega
  apply completes_onUnit (show exec (.planProcess r true) s = execPlanProcess r true s from rfl) (decide_eq_true hr)
  rw [planProcess_late he]
  have hrep := raiseFlt_reported (pgRZL r) ((s.planTaken r p rest).count (RZL.LATECNT r) 15 0) 24
  refine ⟨?_, bit_raiseFlt _ _ (by omega), (hrep.fld_eq hn 15 0).trans (fld_count_same _ 1 (by omega)), ?_, ?_⟩
  · rw [ringOf, hrep.ring_eq]
    exact congrArg Ring.edge (ringOf_planTaken (p := p))
  · rw [raiseFlt_credit (landKey_edge_ne hr8 (s.brgPos_lt _))]
    exact credit_planTaken
  · obtain ⟨_, _, _, _, _, _, _, _, ht⟩ := hrep.frame
    rw [ht]
    rfl

/-! ### A plan that passes the edge sequencer as it is (R148-R151, R166, R169, R170) -/

/-- No refresh is configured: no phase inserts any. -/
theorem refresh_off {s : State} {b : Nat} (h : s.fld (BRG.ACT_REFRESH b) 15 0 = 0) (tref : Nat) (l : List Edge) :
    s.refresh b tref l = (l, s) := by
  refine List.foldl_fixed' (fun ph => ?_) _
  have hp : refreshPhase s b tref l ph = (l, false) := by
    unfold refreshPhase
    dsimp only
    rw [if_neg (by simp [h])]
  rw [hp]
  rfl

/-- Tracking gates writes the bridge's own part, and not which tread comes next. -/
theorem trackGates_frame (s : State) (b tref : Nat) (l : List Edge) :
    ∃ x : Brg, s.trackGates b tref l = s.putBrg b x ∧ x.nextPeak = (s.brgOf b).nextPeak := by
  refine ⟨_, rfl, ?_⟩
  refine List.foldlRecOn l _ (motive := fun x : Brg => x.nextPeak = (s.brgOf b).nextPeak) rfl fun x hx e _ => ?_
  dsimp only
  split
  · exact hx
  · split <;> exact hx

/-- The sample commands follow from the registers and from which tread comes next. -/
theorem sampleCmds_congr {s t : State} {b : Nat} (hrd : ∀ a, t.rd a = s.rd a)
    (hpeak : (t.brgOf b).nextPeak = (s.brgOf b).nextPeak) : t.sampleCmds b = s.sampleCmds b := by
  unfold sampleCmds servedInterval num bit
  simp only [hrd, hpeak]

/-- The frame that a plan sends where the sequencer neither changes an edge nor inserts one. -/
def plainFrame (s : State) (p : Plan) (resume : Bool) : EdgeFrame :=
  { src := p.owner, epoch := p.epoch, tread := p.tread, tref := BitVec.ofNat 48 (s.nextTread p.bridge),
    intv := BitVec.ofNat 25 (s.servedInterval p.bridge), resume := resume, edges := (p.edges.map edgeOf).map edgeEntry,
    samples := s.sampleCmds p.bridge, lead := 0 }

/-- A well-formed plan with no pulse to change, its dead times kept and no refresh configured: its own edges are sent. -/
theorem sendPlan_plain {s : State} {r : Nat} {p : Plan} (hform : planForm p (s.servedInterval p.bridge) = true)
    (hmin : s.minPulse p.bridge (s.nextTread p.bridge) (p.edges.map edgeOf) = (p.edges.map edgeOf, 0))
    (hdead : deadOk (s.fld (BRG.ACT_DEADT p.bridge) 15 0) (s.brgOf p.bridge).gates
      ((s.brgOf p.bridge).changed.map fun e => (e.1, (e.2 : Int) - s.nextTread p.bridge)) (p.edges.map edgeOf) = true)
    (hrefresh : s.fld (BRG.ACT_REFRESH p.bridge) 15 0 = 0) :
    ∃ x ring brg resume, s.sendPlan r p = ((s.putBrg p.bridge x).putRing r ring).putBrg p.bridge brg ∧
      ring.edge = (s.ringOf r).edge ∧ brg.sent = some (s.plainFrame p resume) := by
  obtain ⟨x, hx, hpeak⟩ := s.trackGates_frame p.bridge (s.nextTread p.bridge) (p.edges.map edgeOf)
  have hsamples : ∀ ring, ((s.putBrg p.bridge x).putRing r ring).sampleCmds p.bridge = s.sampleCmds p.bridge := fun ring =>
    sampleCmds_congr (fun _ => rfl) (by rw [← hpeak]; exact congrArg Brg.nextPeak (brgOf_putBrg _ _ _))
  unfold sendPlan
  simp only [hform, hmin, hdead, refresh_off hrefresh, hx, resumeOf, hsamples, if_true, Bool.true_eq_false, if_false]
  exact ⟨_, _, _, _, rfl, rfl, rfl⟩

/-- A plan in time that passes the sequencer as it is (R148, R166): its frame is sent, and no register and no byte
changes. -/
theorem planProcess_completes_sent {r : Nat} {p : Plan} {rest : List Plan} {s : State} (hr : r < s.variant.rings)
    (he : (s.ringOf r).edge = p :: rest) (hforce : ∀ f ∈ (s.ringOf r).force, f.bridge ≠ p.bridge)
    (hbal : s.bit (BRG.FORCESTA p.bridge) 8 = false) (hepoch : s.epochOk p = true)
    (hform : planForm p (s.servedInterval p.bridge) = true)
    (hmin : s.minPulse p.bridge (s.nextTread p.bridge) (p.edges.map edgeOf) = (p.edges.map edgeOf, 0))
    (hdead : deadOk (s.fld (BRG.ACT_DEADT p.bridge) 15 0) (s.brgOf p.bridge).gates
      ((s.brgOf p.bridge).changed.map fun e => (e.1, (e.2 : Int) - s.nextTread p.bridge)) (p.edges.map edgeOf) = true)
    (hrefresh : s.fld (BRG.ACT_REFRESH p.bridge) 15 0 = 0) :
    Completes (.planProcess r false) s fun t => (t.ringOf r).edge = rest ∧ t.regs = s.regs ∧ t.mem = s.mem ∧
      ∃ resume, (t.brgOf p.bridge).sent = some (s.plainFrame p resume) := by
  apply completes_onUnit (show exec (.planProcess r false) s = execPlanProcess r false s from rfl) (decide_eq_true hr)
  rw [planProcess_sends he hforce hbal hepoch]
  obtain ⟨x, ring, brg, resume, ht, hedge, hsent⟩ :=
    sendPlan_plain (s := s.planTaken r p rest) (r := r) hform hmin hdead hrefresh
  rw [ht]
  refine ⟨?_, rfl, rfl, resume, ?_⟩
  · have hring : ((((s.planTaken r p rest).putBrg p.bridge x).putRing r ring).putBrg p.bridge brg).ringOf r = ring :=
      ringOf_putRing _ _ _
    rw [hring, hedge, ringOf_planTaken]
  · rw [brgOf_putBrg, hsent]
    rfl

end State

/-- Settles O32: a late plan by its count and credits, a plan in time by the frame that it leaves as. -/
theorem plans : Obligations.Plans := by
  unfold Obligations.Plans
  intro s r p rest hr he
  refine ⟨State.planProcess_completes_late hr he, fun hforce hbal hepoch hform hmin hdead hrefresh => ?_⟩
  obtain ⟨t, ht, hring, hregs, hmem, resume, hsent⟩ :=
    State.planProcess_completes_sent hr he hforce hbal hepoch hform hmin hdead hrefresh
  refine ⟨t, ht, hring, hregs, hmem, ?_⟩
  rw [hsent]
  exact ⟨rfl, rfl, rfl, rfl, rfl, rfl⟩

end Sys2Proof.Machine

namespace Sys2Proof.Machine
namespace State

/-! ### Companions and the state around them (R182, R183) -/

@[simp] theorem compOf_setComp (s : State) (r k : Nat) (c : Companion) :
    (s.setComp r k c).compOf r k = { c with rank := compRank c } := by
  simp [setComp, putComp, compOf]

theorem compOf_congr {s t : State} (h : t.ring = s.ring) (r k : Nat) : t.compOf r k = s.compOf r k := by
  rw [compOf, ringOf, h]
  rfl

theorem ripen_idle {s : State} {r k : Nat} (h : (s.compOf r k).handover = none) (now : BitVec 48) :
    s.ripen r k now = s := by
  unfold ripen
  simp only [h]

/-- A row about a ring slot that is built completes with its effect. -/
theorem completes_slot {i : Instr} {s t : State} {r k : Nat} {P : State → Prop} (hr : r < s.variant.rings) (hk : k < 8)
    (he : exec i s = onUnit (s.hasSlot r k) t) (hp : P t) : Completes i s P :=
  completes_onUnit he (decide_eq_true ⟨hr, hk⟩) hp

/-- A row about a ring that is built completes with its effect. -/
theorem completes_ring {i : Instr} {s t : State} {r : Nat} {P : State → Prop} (hr : r < s.variant.rings)
    (he : exec i s = onUnit (s.hasRing r) t) (hp : P t) : Completes i s P :=
  completes_onUnit he (decide_eq_true hr) hp

theorem lt_of_rings {v : Variant} {r : Nat} (h : r < v.rings) : r < 8 := by
  cases v <;> simp only [Variant.rings] at h <;> omega

/-- A register of a ring's body is none that a report on its page may change. -/
theorem rzl_body_not_reports {r off : Nat} (hr : r < 8) (h1 : 0x20 ≤ off) (h2 : off < 0x1000) :
    ¬ reports (pgRZL r) (regAt (pgRZL r) off) := by
  simp only [reports, reportWord, HDR.FLT, HDR.EVT, MEM.INJCFG, pgRZL, pgREC, pgACQ, pgNVM, pgMEM, regAt]
  omega

/-- A frame that a companion accepts goes on under the renewed lease (R182). -/
theorem leased_accepts {s : State} {r k : Nat} {src : Byte} {e : Word} (h : s.LeaseOk r k src e) (f : State → State) :
    s.leased r k src e f = f (s.renew r k e) := by
  obtain ⟨hlease, hdev, hepoch, hhand⟩ := h
  unfold leased leaseCheck
  simp only [ripen_idle hhand]
  rw [if_neg (not_or.2 ⟨by simp [hlease], not_not.2 hdev⟩), if_neg (by omega)]

/-- A refused frame is answered, where no sender has been answered yet (R183). -/
theorem leased_refuses {s : State} {r k : Nat} {src : Byte} {e : Word} (hhand : (s.compOf r k).handover = none)
    (hdev : (s.compOf r k).lease = false ∨ src.getLsbD 5 ≠ (s.compOf r k).owner.getLsbD 5) (f : State → State) :
    s.leased r k src e f = s.sendReject r k src e 1 := by
  unfold leased leaseCheck
  simp only [ripen_idle hhand]
  rw [if_pos hdev]

section
variable {s : State} {r k : Nat} (e : Word)

theorem compOf_renew : ∃ rank, (s.renew r k e).compOf r k =
    { s.compOf r k with epoch := e, expiry := s.t16 + (s.param r k 1).toNat * 16000, rank := rank } :=
  ⟨_, compOf_setComp _ _ _ _⟩

end

/-- A first refusal is answered by a REJECT (R183). -/
theorem sendReject_first {s : State} {r k : Nat} (h : (s.compOf r k).rejected = []) (src : Byte) (e : Word) (reason : Nat) :
    s.sendReject r k src e reason = s.setComp r k { s.compOf r k with
      rejected := Tab.put [] src.toNat s.t16
      reject := some { dst := src, epoch := e, src := src, reason := BitVec.ofNat 4 reason,
                       leaseEpoch := (s.compOf r k).epoch, leaseOwner := (s.compOf r k).owner } } := by
  unfold sendReject
  simp only [h]
  rfl

/-! ### What a companion's frame shows a device of (R275, R286) -/

theorem rd_seeEpoch (s : State) (e : Word) {a : Nat} (h : a ≠ MIG.EPOCHNEXT) : (s.seeEpoch e).rd a = s.rd a := by
  unfold seeEpoch
  split
  · exact rd_wr_ne s _ h
  · rfl

theorem seeEpoch_ring (s : State) (e : Word) : (s.seeEpoch e).ring = s.ring := by
  unfold seeEpoch
  split <;> rfl

theorem seeEpoch_mem (s : State) (e : Word) : (s.seeEpoch e).mem = s.mem := by
  unfold seeEpoch
  split <;> rfl

/-- The shadow comparison changes the stairwell's and the bridge's own parts only. -/
theorem shadowCheck_frame (s : State) (b : Nat) : ∃ stw brg, s.shadowCheck b = { s with stw := stw, brg := brg } := by
  unfold shadowCheck
  split
  · split
    · exact ⟨_, _, rfl⟩
    · exact ⟨_, _, rfl⟩
  · exact ⟨_, _, rfl⟩

/-- What a partner's frame shows the device leaves rings, memory and every register but the epoch counter. -/
theorem partnerFrame_frame (r k : Nat) (f : EdgeFrame) (c : Copies) (s : State) : let t := s.partnerFrame r k f c
    t.ring = s.ring ∧ t.mem = s.mem ∧ ∀ a, a ≠ MIG.EPOCHNEXT → t.rd a = s.rd a := by
  unfold partnerFrame
  split
  · exact ⟨rfl, rfl, fun _ _ => rfl⟩
  · have hsee : (s.seeEpoch f.epoch).ring = s.ring ∧ (s.seeEpoch f.epoch).mem = s.mem ∧
        ∀ a, a ≠ MIG.EPOCHNEXT → (s.seeEpoch f.epoch).rd a = s.rd a :=
      ⟨seeEpoch_ring _ _, seeEpoch_mem _ _, fun _ => rd_seeEpoch _ _⟩
    dsimp only
    split
    · obtain ⟨_, _, hx⟩ := shadowCheck_frame (s.seeEpoch f.epoch) ‹_›
      rw [hx]
      exact hsee
    · exact hsee

/-- An EDGE frame of which both copies arrived, under the lease (R178, R180, R182). -/
theorem edgeFrame_both {s : State} {r k : Nat} {src : Byte} {e : Word} (h : s.LeaseOk r k src e) {f : EdgeFrame}
    (hs : f.src = src) (he : f.epoch = e) : s.edgeFrame r k f .both =
      (let u := s.renew r k e
       let c := u.compOf r k
       let leave := f.resume && (!c.safeLease || c.claimed)
       if f.lead < 300 then (u.setComp r k { c with latePlans := c.latePlans + 1 }).count (RZL.SLOT_SCRC r k) 31 16
       else u.setComp r k { c with last := some f, misses := 0, hold := false, coast := false,
                                   safeMiss := c.safeMiss && !leave, safeLease := c.safeLease && !leave,
                                   claimed := c.claimed && !leave }) := by
  unfold edgeFrame
  dsimp only
  rw [if_neg (by decide), ripen_idle h.2.2.2, hs, he, leased_accepts h]

/-- The companion without its lease, in the safe state (R182). -/
def unlease (r k : Nat) (s : State) : State :=
  s.setComp r k { s.compOf r k with lease := false, safeLease := true, claimed := false, hold := false, coast := false }

theorem leaseEnds_ours {s : State} {r k : Nat} (h : s.leaseOurs r k = true) : s.leaseEnds r k =
    (((s.unlease r k).setBit (RZL.SLOT_SSTA r k) 3 false).setSlotState r k 6).raiseFlt (pgRZL r) 19 := by
  have h' : (s.unlease r k).leaseOurs r k = true := h
  unfold leaseEnds
  dsimp only
  exact if_pos h'

theorem leaseEnds_other {s : State} {r k : Nat} (h : s.leaseOurs r k = false) : s.leaseEnds r k = s.unlease r k := by
  have h' : (s.unlease r k).leaseOurs r k = false := h
  unfold leaseEnds
  dsimp only
  exact if_neg (by simpa [unlease] using h')

theorem rzl_page_ne_rec {r off : Nat} (hr : r < 8) (ho : off < 0x1000) : regAt (pgRZL r) off / 0x1000 ≠ pgREC := by
  simp only [regAt, pgRZL, pgREC]
  omega

/-- The lease's end (R182): the companion is safe, and the end of a lease of ours is reported. -/
theorem leaseEnds_safe {s : State} {r k : Nat} (hr : r < 8) (hk : k < 8) : let t := s.leaseEnds r k
    SameBytes s.recRing s t ∧ (t.compOf r k).lease = false ∧ (t.compOf r k).safeLease = true ∧ t.leaseOurs r k = false ∧
      (s.leaseOurs r k = true → t.slotState r k = 6 ∧ t.bit (HDR.FLT (pgRZL r)) 19 = true) := by
  have hcomp : ∃ rank, (s.unlease r k).compOf r k = { s.compOf r k with
      lease := false, safeLease := true, claimed := false, hold := false, coast := false, rank := rank } :=
    ⟨_, compOf_setComp _ _ _ _⟩
  obtain ⟨rank, hcomp⟩ := hcomp
  cases ho : s.leaseOurs r k with
  | false =>
    rw [leaseEnds_other ho]
    refine ⟨fun _ _ => rfl, ?_, ?_, ho, fun h => nomatch h⟩ <;> rw [hcomp]
  | true =>
    rw [leaseEnds_ours ho]
    have hrep := raiseFlt_reported (pgRZL r) (((s.unlease r k).setBit (RZL.SLOT_SSTA r k) 3 false).setSlotState r k 6) 19
    have hsta : ¬ reports (pgRZL r) (RZL.SLOT_SSTA r k) := rzl_body_not_reports hr (by omega) (by omega)
    have hrec : RZL.SLOT_SSTA r k / 0x1000 ≠ pgREC := rzl_page_ne_rec hr (by omega)
    have hring : RingBytes (s.unlease r k) (((s.unlease r k).setBit (RZL.SLOT_SSTA r k) 3 false).setSlotState r k 6) :=
      .trans (.wr _ _ hrec) (.wr _ _ hrec)
    have hc := compOf_congr (r := r) (k := k) hrep.ring_eq
    refine ⟨(hring.trans (.of_reported hrep)).byte, ?_, ?_, ?_, fun _ => ⟨?_, bit_raiseFlt _ _ (by omega)⟩⟩
    · exact hc ▸ congrArg Companion.lease hcomp
    · exact hc ▸ congrArg Companion.safeLease hcomp
    · rw [leaseOurs, bit_congr (hrep.rd _ hsta), setSlotState, bit_setFld_ne _ _ (by omega), bit_setBit_same _ _ (by omega)]
    · exact (hrep.fld_eq hsta 2 0).trans (fld_setFld_same _ 6 (by omega))

/-! ### A CLAIM at a companion (R173, R182) -/

/-- The lease is the claiming device's, and the slot's registers name it. -/
def takeLease (r k : Nat) (f : LeaseFrame) (s : State) : State :=
  ((s.setComp r k { s.compOf r k with
    lease := true, owner := f.newOwner, epoch := f.newEpoch, claimed := true, handover := none,
    expiry := s.t16 + (s.param r k 1).toNat * 16000 }).wr (RZL.SLOT_SEPOCH r k) f.newEpoch).wr
      (RZL.SLOT_SOWNER r k) (f.newOwner.setWidth 32)

/-- From `s` to `t` the companion, the epoch that its slot shows and whose lease it is stay. -/
structure SlotKept (r k : Nat) (s t : State) : Prop where
  comp : t.compOf r k = s.compOf r k
  epoch : t.rd (RZL.SLOT_SEPOCH r k) = s.rd (RZL.SLOT_SEPOCH r k)
  ours : t.leaseOurs r k = s.leaseOurs r k

namespace SlotKept
variable {r k : Nat} {s t u : State}

theorem refl (r k : Nat) (s : State) : SlotKept r k s s := ⟨rfl, rfl, rfl⟩

theorem trans (h : SlotKept r k s t) (h' : SlotKept r k t u) : SlotKept r k s u :=
  ⟨h'.comp.trans h.comp, h'.epoch.trans h.epoch, h'.ours.trans h.ours⟩

/-- No ring is touched, nor are the slot's two registers. -/
theorem of_rd (hring : t.ring = s.ring) (he : t.rd (RZL.SLOT_SEPOCH r k) = s.rd (RZL.SLOT_SEPOCH r k))
    (hs : t.rd (RZL.SLOT_SSTA r k) = s.rd (RZL.SLOT_SSTA r k)) : SlotKept r k s t :=
  ⟨compOf_congr hring r k, he, bit_congr hs 3⟩

theorem wr {a : Nat} (s : State) (v : Word) (he : RZL.SLOT_SEPOCH r k ≠ a) (hs : RZL.SLOT_SSTA r k ≠ a) :
    SlotKept r k s (s.wr a v) := .of_rd rfl (rd_wr_ne s v he) (rd_wr_ne s v hs)

theorem report (hr : r < 8) (hk : k < 8) (h : Reported (pgRZL r) s t) : SlotKept r k s t :=
  .of_rd h.ring_eq (h.rd _ (rzl_body_not_reports hr (by omega) (by omega))) (h.rd _ (rzl_body_not_reports hr (by omega) (by omega)))

theorem setSlotState (s : State) (j v : Nat) : SlotKept r k s (s.setSlotState r j v) := by
  refine ⟨rfl, rd_setFld_ne s _ _ _ (regAt_ne (by omega)), ?_⟩
  by_cases h : k = j
  · subst h
    exact bit_setFld_ne s _ (by omega)
  · exact bit_congr (rd_setFld_ne s _ _ _ (regAt_ne (by omega))) 3

theorem foldl {α : Type} {f : State → α → State} (hf : ∀ s x, SlotKept r k s (f s x)) (l : List α) (s : State) :
    SlotKept r k s (l.foldl f s) := by
  induction l generalizing s with
  | nil => exact refl r k s
  | cons x l ih => exact (hf s x).trans (ih _)

/-- Epoch registers lie on the migration page, after every ring's. -/
theorem wr_epoch (hr : r < 8) (hk : k < 8) (s : State) (n : Nat) (v : Word) : SlotKept r k s (s.wr (regAt pgMIG n) v) := by
  apply SlotKept.wr <;> simp only [RZL.SLOT_SEPOCH, RZL.SLOT_SSTA, pgRZL, pgMIG, regAt] <;> omega

theorem seeEpoch (hr : r < 8) (hk : k < 8) (s : State) (e : Word) : SlotKept r k s (s.seeEpoch e) := by
  unfold State.seeEpoch
  split
  · exact wr_epoch hr hk s _ _
  · exact refl r k s

theorem grantEpoch (hr : r < 8) (hk : k < 8) (s : State) (b : Nat) (e : Word) : SlotKept r k s (s.grantEpoch b e) :=
  (wr_epoch hr hk s _ e).trans (.of_rd rfl rfl rfl)

/-- A ring's own marks are beside its companions. -/
theorem putRing (s : State) {x : Ring} (hx : x.comps = (s.ringOf r).comps) : SlotKept r k s (s.putRing r x) :=
  ⟨by rw [compOf, ringOf_putRing, hx, compOf], rfl, rfl⟩

/-- The end of a start (R173). -/
theorem ringClaimed (hr : r < 8) (hk : k < 8) (s : State) : SlotKept r k s (s.ringClaimed r) := by
  have hbody : ∀ (s : State) {off : Nat} (v : Word), off < 0x100 → SlotKept r k s (s.wr (regAt (pgRZL r) off) v) :=
    fun s _ v ho => .wr s v (regAt_ne (by omega)) (regAt_ne (by omega))
  unfold State.ringClaimed
  split
  · have hend : ∀ s : State, SlotKept r k s (opEnd (pgRZL r) (RZL.RSTA r) .done s) := fun s =>
      .trans (hbody s (off := 0x44) _ (by omega)) (.of_rd rfl rfl rfl)
    have hfold : ∀ s : State, SlotKept r k s ((List.range 8).foldl
        (fun s k => if s.leaseOurs r k then s.setSlotState r k 3 else s) s) := .foldl (fun s j => by
      split
      · exact .setSlotState s j 3
      · exact .refl r k s) _
    exact .trans (.trans (.trans (.trans (.trans (.trans (hbody _ _ (by omega)) (hend _)) (hbody _ _ (by omega)))
      (hbody _ _ (by omega))) (hfold _)) (hbody _ _ (by omega))) (.report hr hk (raiseEvt_reported _ _ 0))
  · exact .refl r k s

end SlotKept

/-- A bridge in the slot gets the epoch of the claim. -/
def claimGrants (r k : Nat) (e : Word) (s : State) : State :=
  match s.bridgeAt r k with
  | some b => (s.seeEpoch e).grantEpoch b e
  | none => s

/-- The slot is marked claimed in a start, active in a ring that runs. -/
def claimMarks (r k : Nat) (s : State) : State :=
  let u := s.putRing r { s.ringOf r with claimed := wsetBit (s.ringOf r).claimed k true }
  if u.ringState r ≥ 2 then u.setSlotState r k 3 else u

/-- A claim of another device: a lease of ours is reported as lost. -/
def claimLoses (r k : Nat) (s : State) : State :=
  if s.leaseOurs r k then (s.setBit (RZL.SLOT_SSTA r k) 3 false).raiseFlt (pgRZL r) 19 else s

theorem claim_eq {s : State} {r k : Nat} {f : LeaseFrame} (hlease : (s.compOf r k).lease = false)
    (hn : (s.compOf r k).epoch.toNat < f.newEpoch.toNat) : s.claim r k f =
      if (s.takeLease r k f).ownAddr r f.src then
        ((((s.takeLease r k f).setBit (RZL.SLOT_SSTA r k) 3 true).claimGrants r k f.newEpoch).claimMarks r k).ringClaimed r
      else ((s.takeLease r k f).seeEpoch f.newEpoch).claimLoses r k := by
  unfold claim
  dsimp only
  rw [if_neg (by simp [hlease]), if_neg (by omega)]
  rfl

section
variable {r k : Nat} (hr : r < 8) (hk : k < 8) (s : State)
include hr hk

theorem claimGrants_kept (e : Word) : SlotKept r k s (s.claimGrants r k e) := by
  unfold claimGrants
  split
  · exact .trans (.seeEpoch hr hk s e) (.grantEpoch hr hk _ _ e)
  · exact .refl r k s

omit hr hk in
theorem claimMarks_kept : SlotKept r k s (s.claimMarks r k) := by
  unfold claimMarks
  dsimp only
  split
  · exact .trans (t := s.putRing r { s.ringOf r with claimed := wsetBit (s.ringOf r).claimed k true }) (.putRing s rfl)
      (.setSlotState _ k 3)
  · exact .putRing s rfl

theorem claimLoses_keeps : (s.claimLoses r k).compOf r k = s.compOf r k ∧
    (s.claimLoses r k).rd (RZL.SLOT_SEPOCH r k) = s.rd (RZL.SLOT_SEPOCH r k) := by
  unfold claimLoses
  split
  · have hrep := SlotKept.report hr hk (raiseFlt_reported (pgRZL r) (s.setBit (RZL.SLOT_SSTA r k) 3 false) 19)
    exact ⟨hrep.comp, hrep.epoch.trans (rd_setBit_ne _ _ _ (regAt_ne (by omega)))⟩
  · exact ⟨rfl, rfl⟩

end

/-! ### Frames under a lease (R178, R182, R188 to R190) -/

section
variable {s : State} {r k : Nat} (hr : r < s.variant.rings) (hk : k < 8)
include hr hk

section
variable {src : Byte} {e : Word} (h : s.LeaseOk r k src e)
include h

theorem leaseRenew_renews : Completes (.leaseRenew r k src e) s fun t => (t.regs = s.regs ∧ t.mem = s.mem) ∧
    (t.compOf r k).epoch = e ∧ (t.compOf r k).expiry = s.t16 + (s.param r k 1).toNat * 16000 ∧
    (t.compOf r k).owner = (s.compOf r k).owner := by
  apply completes_slot hr hk (show exec (.leaseRenew r k src e) s = execLeaseRenew r k src e s from rfl)
  obtain ⟨rank, hc⟩ := compOf_renew (s := s) (r := r) (k := k) e
  rw [leased_accepts h, id, hc]
  exact ⟨⟨rfl, rfl⟩, rfl, rfl, rfl⟩

theorem sampleFrame_renews {f : SampleFrame} (hs : f.src = src) (he : f.epoch = e) : Completes (.sampleFrame r k f) s fun t =>
    (t.regs = s.regs ∧ t.mem = s.mem) ∧ (t.compOf r k).epoch = e ∧
    (t.compOf r k).expiry = s.t16 + (s.param r k 1).toNat * 16000 := by
  apply completes_slot hr hk (show exec (.sampleFrame r k f) s = execSampleFrame r k f s from rfl)
  obtain ⟨rank, hc⟩ := compOf_renew (s := s) (r := r) (k := k) e
  rw [hs, he, leased_accepts h, id, hc]
  exact ⟨⟨rfl, rfl⟩, rfl, rfl⟩

theorem forceFrame_forces {f : ForceFrame} (hs : f.src = src) (he : f.epoch = e) (hf : f.safety = false) :
    Completes (.forceFrame r k f) s fun t => (t.regs = s.regs ∧ t.mem = s.mem) ∧
      (t.compOf r k).force = (if f.release then 0 else f.w ++ f.v ++ f.u) ∧
      (t.compOf r k).safety = (s.compOf r k).safety := by
  apply completes_slot hr hk (show exec (.forceFrame r k f) s = execForceFrame r k f s from rfl)
  obtain ⟨rank, hc⟩ := compOf_renew (s := s) (r := r) (k := k) e
  unfold forceFrame
  dsimp only
  rw [hf, if_neg (by decide), hs, he, leased_accepts h, compOf_setComp, hc]
  exact ⟨⟨rfl, rfl⟩, rfl, rfl⟩

theorem pcmdClear_clears : Completes (.pcmdClear r k src e) s fun t => (t.regs = s.regs ∧ t.mem = s.mem) ∧
    (t.compOf r k).latched = 0 ∧ (t.compOf r k).tripActive = false ∧ (t.compOf r k).tries = 0 := by
  apply completes_slot hr hk (show exec (.pcmdClear r k src e) s = execPcmdClear r k src e s from rfl)
  rw [leased_accepts h, compOf_setComp]
  exact ⟨⟨rfl, rfl⟩, rfl, rfl, rfl⟩

theorem pcmdSelftest_tests (mask good : BitVec 4) : Completes (.pcmdSelftest r k src e mask good) s fun t =>
    (t.regs = s.regs ∧ t.mem = s.mem) ∧ (t.compOf r k).selfTest = some (mask &&& good, mask &&& ~~~ good) := by
  apply completes_slot hr hk (show exec (.pcmdSelftest r k src e mask good) s = execPcmdSelftest r k src e mask good s from rfl)
  rw [leased_accepts h, compOf_setComp]
  exact ⟨⟨rfl, rfl⟩, rfl⟩


theorem edgeFrame_accepts {f : EdgeFrame} (hs : f.src = src) (he : f.epoch = e) (hl : 300 ≤ f.lead) :
    Completes (.edgeFrame r k f .both) s fun t => (t.compOf r k).last = some f ∧ (t.compOf r k).misses = 0 ∧
      (t.compOf r k).hold = false ∧ (t.compOf r k).coast = false ∧ (t.compOf r k).epoch = e ∧ t.mem = s.mem := by
  apply completes_slot hr hk (show exec (.edgeFrame r k f .both) s = execEdgeFrame r k f .both s from rfl)
  obtain ⟨hring, hmem, -⟩ := partnerFrame_frame r k f .both (s.edgeFrame r k f .both)
  rw [compOf_congr hring, hmem, edgeFrame_both h hs he, if_neg (by omega), compOf_setComp]
  obtain ⟨rank, hc⟩ := compOf_renew (s := s) (r := r) (k := k) e
  rw [hc]
  exact ⟨rfl, rfl, rfl, rfl, rfl, rfl⟩

theorem edgeFrame_late {f : EdgeFrame} (hs : f.src = src) (he : f.epoch = e) (hl : f.lead < 300) :
    Completes (.edgeFrame r k f .both) s fun t => (t.compOf r k).last = (s.compOf r k).last ∧
      (t.compOf r k).latePlans = (s.compOf r k).latePlans + 1 ∧
      t.fld (RZL.SLOT_SCRC r k) 31 16 = Nat.min 0xFFFF (s.fld (RZL.SLOT_SCRC r k) 31 16 + 1) := by
  apply completes_slot hr hk (show exec (.edgeFrame r k f .both) s = execEdgeFrame r k f .both s from rfl)
  obtain ⟨hring, -, hrd⟩ := partnerFrame_frame r k f .both (s.edgeFrame r k f .both)
  obtain ⟨rank, hc⟩ := compOf_renew (s := s) (r := r) (k := k) e
  have hr8 := lt_of_rings hr
  have hne : RZL.SLOT_SCRC r k ≠ MIG.EPOCHNEXT := by
    simp only [RZL.SLOT_SCRC, MIG.EPOCHNEXT, pgRZL, pgMIG, regAt]
    omega
  rw [compOf_congr hring, fld_congr (hrd _ hne), edgeFrame_both h hs he, if_pos hl, compOf_congr (count_ring _ _ _ _ _),
    compOf_setComp, hc]
  exact ⟨rfl, rfl, fld_count_same _ _ (by omega)⟩

theorem leaseRelease_ends (hc : (s.compOf r k).epoch = e) : Completes (.leaseRelease r k src e) s fun t =>
    SameBytes s.recRing s t ∧ (t.compOf r k).lease = false ∧ (t.compOf r k).safeLease = true ∧ t.leaseOurs r k = false := by
  obtain ⟨hlease, hdev, -, -⟩ := h
  apply completes_slot hr hk (show exec (.leaseRelease r k src e) s = execLeaseRelease r k src e s from rfl)
  dsimp only
  rw [if_pos ⟨hlease, hdev, hc.symm⟩]
  obtain ⟨hbytes, hl, hs, ho, -⟩ := leaseEnds_safe (lt_of_rings hr) hk
  exact ⟨hbytes, hl, hs, ho⟩

end

theorem leaseRenew_rejected {src : Byte} {e : Word} (hhand : (s.compOf r k).handover = none)
    (hrej : (s.compOf r k).rejected = [])
    (hdev : (s.compOf r k).lease = false ∨ src.getLsbD 5 ≠ (s.compOf r k).owner.getLsbD 5) :
    Completes (.leaseRenew r k src e) s fun t => (t.regs = s.regs ∧ t.mem = s.mem) ∧
      (t.compOf r k).epoch = (s.compOf r k).epoch ∧
      (match (t.compOf r k).reject with
        | some f => f.dst = src ∧ f.reason = 1 ∧ f.leaseEpoch = (s.compOf r k).epoch
        | none => False) := by
  apply completes_slot hr hk (show exec (.leaseRenew r k src e) s = execLeaseRenew r k src e s from rfl)
  rw [leased_refuses hhand hdev, sendReject_first hrej, compOf_setComp]
  exact ⟨⟨rfl, rfl⟩, rfl, rfl, rfl, rfl⟩

theorem leaseHandover_waits {f : LeaseFrame} (hlease : (s.compOf r k).lease = true) (ho : f.oldOwner = (s.compOf r k).owner)
    (he : f.oldEpoch = (s.compOf r k).epoch) (hn : (s.compOf r k).epoch.toNat < f.newEpoch.toNat) :
    Completes (.leaseHandover r k f) s fun t =>
      (t.compOf r k).handover = some (f.newEpoch, f.newOwner, f.switchTref) ∧
      (t.compOf r k).epoch = (s.compOf r k).epoch ∧ SameRegs (fun a => a = MIG.EPOCHNEXT) s t := by
  apply completes_slot hr hk (show exec (.leaseHandover r k f) s = execLeaseHandover r k f s from rfl)
  unfold handoverFrame
  dsimp only
  rw [if_neg (by simp [hlease, ho]), if_neg (by simp [he]; omega), compOf_congr (seeEpoch_ring _ _), compOf_setComp]
  exact ⟨rfl, rfl, fun a ha => rd_seeEpoch _ _ ha⟩

theorem leaseExpiry_ends (hlease : (s.compOf r k).lease = true) : Completes (.leaseExpiry r k) s fun t =>
    (t.compOf r k).lease = false ∧ (t.compOf r k).safeLease = true ∧ t.leaseOurs r k = false ∧
      (s.leaseOurs r k = true → t.slotState r k = 6 ∧ t.bit (HDR.FLT (pgRZL r)) 19 = true) := by
  apply completes_slot hr hk (show exec (.leaseExpiry r k) s = execLeaseExpiry r k s from rfl)
  rw [if_pos hlease]
  exact (leaseEnds_safe (lt_of_rings hr) hk).2

/-- A CLAIM of a companion without a lease, by a newer epoch (R173, R182). -/
theorem leaseClaim_leases {f : LeaseFrame} (hlease : (s.compOf r k).lease = false)
    (hn : (s.compOf r k).epoch.toNat < f.newEpoch.toNat) : Completes (.leaseClaim r k f) s fun t =>
      (t.compOf r k).lease = true ∧ (t.compOf r k).owner = f.newOwner ∧ (t.compOf r k).epoch = f.newEpoch ∧
      t.rd (RZL.SLOT_SEPOCH r k) = f.newEpoch ∧ (s.ownAddr r f.src = true → t.leaseOurs r k = true) := by
  have hr8 := lt_of_rings hr
  have hcomp : ∃ rank claimed handover expiry, (s.takeLease r k f).compOf r k = { s.compOf r k with
      lease := true, owner := f.newOwner, epoch := f.newEpoch, claimed := claimed, handover := handover,
      expiry := expiry, rank := rank } := ⟨_, _, _, _, compOf_setComp _ _ _ _⟩
  have hep : (s.takeLease r k f).rd (RZL.SLOT_SEPOCH r k) = f.newEpoch := by
    have hne : RZL.SLOT_SEPOCH r k ≠ RZL.SLOT_SOWNER r k := regAt_ne (by omega)
    exact (rd_wr_ne _ _ hne).trans (rd_wr_same _ _ _)
  have hown : (s.takeLease r k f).ownAddr r f.src = s.ownAddr r f.src := by
    have he : RZL.TOPO r ≠ RZL.SLOT_SEPOCH r k := regAt_ne (by omega)
    have ho : RZL.TOPO r ≠ RZL.SLOT_SOWNER r k := regAt_ne (by omega)
    have htopo : (s.takeLease r k f).rd (RZL.TOPO r) = s.rd (RZL.TOPO r) := (rd_wr_ne _ _ ho).trans (rd_wr_ne _ _ he)
    rw [ownAddr, deviceBit, fld_congr htopo]
    rfl
  have hsta : RZL.SLOT_SEPOCH r k ≠ RZL.SLOT_SSTA r k := regAt_ne (by omega)
  obtain ⟨rank, claimed, handover, expiry, hcomp⟩ := hcomp
  apply completes_slot hr hk (show exec (.leaseClaim r k f) s = execLeaseClaim r k f s from rfl)
  rw [claim_eq hlease hn, hown]
  cases ho : s.ownAddr r f.src with
  | true =>
    obtain ⟨hc, he, hs⟩ := ((claimGrants_kept hr8 hk ((s.takeLease r k f).setBit (RZL.SLOT_SSTA r k) 3 true) f.newEpoch).trans
      (claimMarks_kept _)).trans (.ringClaimed hr8 hk _)
    rw [if_pos rfl, hc, he, hs, compOf_congr (setBit_ring _ _ _ _), hcomp, rd_setBit_ne _ _ _ hsta, hep]
    exact ⟨rfl, rfl, rfl, rfl, fun _ => bit_setBit_same _ _ (by omega)⟩
  | false =>
    have hsee := SlotKept.seeEpoch hr8 hk (s.takeLease r k f) f.newEpoch
    obtain ⟨hc, he⟩ := claimLoses_keeps hr8 hk ((s.takeLease r k f).seeEpoch f.newEpoch)
    rw [if_neg (by decide), hc, he, hsee.comp, hsee.epoch, hcomp, hep]
    exact ⟨rfl, rfl, rfl, rfl, fun h => nomatch h⟩

/-! ### Misses, trips, clocks and parameters (R173 to R176, R179, R188) -/

theorem companionMiss_counts (hm : (s.compOf r k).safeMiss = false) (hl : (s.compOf r k).safeLease = false)
    (ht : (s.compOf r k).tripActive = false) (h7 : (s.compOf r k).misses < 7) :
    let c := s.compOf r k
    let max := ((s.param r k 2).extractLsb' 0 3).toNat
    Completes (.companionMiss r k) s fun t => (t.regs = s.regs ∧ t.mem = s.mem) ∧
      (t.compOf r k).misses = c.misses + 1 ∧ (t.compOf r k).safeMiss = decide (max ≤ c.misses + 1) ∧
      (t.compOf r k).hold = (decide (c.misses + 1 < max) && decide (c.misses = 0)) ∧
      (c.misses ≠ 0 → (t.compOf r k).coast = decide (c.misses + 1 < max)) := by
  intro c max
  have hmin : Nat.min 7 (c.misses + 1) = c.misses + 1 := Nat.min_eq_right h7
  have hmax : wfld (s.param r k 2) 2 0 = max := wfld_eq_extract _ rfl
  apply completes_slot hr hk (show exec (.companionMiss r k) s = execCompanionMiss r k s from rfl)
  unfold miss
  dsimp only
  rw [if_neg (by simp [hm, hl]), if_neg (by simp [ht]), hmax, hmin]
  by_cases hlim : c.misses + 1 ≥ max
  · rw [if_pos hlim, compOf_setComp]
    refine ⟨⟨rfl, rfl⟩, rfl, (decide_eq_true hlim).symm, ?_, fun _ => ?_⟩
    · simp [Nat.not_lt.2 hlim]
    · simp [Nat.not_lt.2 hlim]
  · rw [if_neg hlim]
    have hlt : c.misses + 1 < max := Nat.lt_of_not_le hlim
    by_cases h0 : c.misses = 0
    · rw [if_pos (by omega), compOf_setComp]
      refine ⟨⟨rfl, rfl⟩, rfl, ?_, ?_, fun h => absurd h0 h⟩
      · exact hm.trans (decide_eq_false hlim).symm
      · exact (decide_eq_true (And.intro hlt h0)).symm.trans (Bool.decide_and _ _)
    · rw [if_neg (by omega), compOf_setComp]
      refine ⟨⟨rfl, rfl⟩, rfl, ?_, ?_, fun _ => ?_⟩
      · exact hm.trans (decide_eq_false hlim).symm
      · simp [h0]
      · simp [hlt]

theorem scTrip_trips (mask : BitVec 4) :
    let c := s.compOf r k
    let tries := ((s.param r k 5).extractLsb' 0 3).toNat
    Completes (.scTrip r k mask) s fun t => (t.regs = s.regs ∧ t.mem = s.mem) ∧ (t.compOf r k).tripActive = true ∧
      (t.compOf r k).tripped = mask ∧ (t.compOf r k).trips = c.trips + 1 ∧ (t.compOf r k).rank = 1 ∧
      (if tries ≤ c.tries then (t.compOf r k).latched = mask
        else (t.compOf r k).latched = c.latched ∧ (t.compOf r k).tries = c.tries + 1) := by
  intro c tries
  have htries : wfld (s.param r k 5) 2 0 = tries := wfld_eq_extract _ rfl
  apply completes_slot hr hk (show exec (.scTrip r k mask) s = execScTrip r k mask s from rfl)
  unfold State.scTrip
  dsimp only
  rw [htries]
  by_cases hlim : tries ≤ c.tries
  · rw [if_pos hlim, compOf_setComp, if_pos hlim]
    exact ⟨⟨rfl, rfl⟩, rfl, rfl, rfl, by simp [compRank], rfl⟩
  · rw [if_neg hlim, compOf_setComp, if_neg hlim]
    exact ⟨⟨rfl, rfl⟩, rfl, rfl, rfl, by simp [compRank], rfl, rfl⟩

theorem scwaitEnd_enables : Completes (.scwaitEnd r k) s fun t => (t.regs = s.regs ∧ t.mem = s.mem) ∧
    ((s.compOf r k).latched = 0 → (t.compOf r k).tripActive = false ∧ (t.compOf r k).tripped = 0) ∧
    ((s.compOf r k).latched ≠ 0 → t.compOf r k = s.compOf r k) := by
  apply completes_slot hr hk (show exec (.scwaitEnd r k) s = execScwaitEnd r k s from rfl)
  dsimp only
  split
  · rename_i h
    rw [compOf_setComp]
    exact ⟨⟨rfl, rfl⟩, fun _ => ⟨rfl, rfl⟩, fun hn => absurd h hn⟩
  · rename_i h
    exact ⟨⟨rfl, rfl⟩, fun h0 => absurd h0 h, fun _ => rfl⟩

theorem scquietEnd_forgets : Completes (.scquietEnd r k) s fun t => (t.regs = s.regs ∧ t.mem = s.mem) ∧
    (t.compOf r k).tries = 0 ∧ (t.compOf r k).trips = (s.compOf r k).trips := by
  apply completes_slot hr hk (show exec (.scquietEnd r k) s = execScquietEnd r k s from rfl)
  rw [compOf_setComp]
  exact ⟨⟨rfl, rfl⟩, rfl, rfl⟩

theorem calMark_marks (td acw accw : Nat) : Completes (.calMark r k td acw accw) s fun t =>
    (t.regs = s.regs ∧ t.mem = s.mem) ∧ (t.compOf r k).td = td ∧ (t.compOf r k).acw = acw ∧ (t.compOf r k).accw = accw := by
  apply completes_slot hr hk (show exec (.calMark r k td acw accw) s = execCalMark r k td acw accw s from rfl)
  rw [compOf_setComp]
  exact ⟨⟨rfl, rfl⟩, rfl, rfl, rfl⟩

theorem vnegOffer_offers (lo hi : Nat) : Completes (.vnegOffer r k lo hi) s fun t =>
    (t.regs = s.regs ∧ t.mem = s.mem) ∧ (t.compOf r k).offer = some (lo, hi) := by
  apply completes_slot hr hk (show exec (.vnegOffer r k lo hi) s = execVnegOffer r k lo hi s from rfl)
  rw [compOf_setComp]
  exact ⟨⟨rfl, rfl⟩, rfl⟩

theorem vnegSelect_selects {ver : Nat} (hv : ver < 256) (hc : (s.commonVersion r).1 ≤ (s.commonVersion r).2) :
    Completes (.vnegSelect r k ver) s fun t => (t.compOf r k).version = ver ∧
      (s.busyOp (RZL.RSTA r) = true → t.fld (RZL.PVER r) 7 0 = ver) ∧ SameRegs (fun a => a = RZL.PVER r) s t := by
  apply completes_slot hr hk (show exec (.vnegSelect r k ver) s = execVnegSelect r k ver s from rfl)
  dsimp only
  rw [if_neg (by omega)]
  split
  · rw [compOf_congr (setFld_ring _ _ _ _ _), compOf_setComp]
    exact ⟨rfl, fun _ => (fld_setFld_same _ _ (by omega)).trans (Nat.mod_eq_of_lt hv), fun a ha => rd_setFld_ne _ _ _ _ ha⟩
  · rename_i hb
    rw [compOf_setComp]
    exact ⟨rfl, fun h => absurd h hb, fun _ _ => rfl⟩

theorem cfgFrame_sets {src : Byte} (i : Nat) (v : Word) (hs : src.toNat % 32 = 31) : Completes (.cfgFrame r k src i v) s fun t =>
    (t.regs = s.regs ∧ t.mem = s.mem) ∧ Tab.find (t.compOf r k).params i = some v := by
  apply completes_slot hr hk (show exec (.cfgFrame r k src i v) s = execCfgFrame r k src i v s from rfl)
  dsimp only
  rw [if_pos (.inl hs), compOf_setComp]
  exact ⟨⟨rfl, rfl⟩, Tab.find_put_same _ _ _⟩

theorem protPeriodic_counts (hv : (s.compOf r k).version = 3) : Completes (.protPeriodic r k) s fun t =>
    (t.regs = s.regs ∧ t.mem = s.mem) ∧ (t.compOf r k).prots = (s.compOf r k).prots + 1 := by
  apply completes_slot hr hk (show exec (.protPeriodic r k) s = execProtPeriodic r k s from rfl)
  dsimp only
  rw [if_pos hv, compOf_setComp]
  exact ⟨⟨rfl, rfl⟩, rfl⟩

theorem calResult_delays (loop : Nat) :
    let c := s.compOf r k
    let d : Int := ((loop : Int) + c.acw - c.accw) / 2
    Completes (.calResult r k loop) s fun t => (t.compOf r k).delay = d ∧ (t.compOf r k).slew = (c.td : Int) + d - c.acw ∧
      t.fld (RZL.SLOT_SDELAY r k) 23 0 = (BitVec.ofInt 24 d).toNat ∧
      ((c.td : Int) + d - c.acw > 32 → t.bit (HDR.FLT (pgRZL r)) 17 = true) := by
  intro c d
  have hval : ∀ u : State, (u.setFld (RZL.SLOT_SDELAY r k) 23 0 (BitVec.ofInt 24 d).toNat).fld (RZL.SLOT_SDELAY r k) 23 0 =
      (BitVec.ofInt 24 d).toNat := fun u => (fld_setFld_same u _ (by omega)).trans (Nat.mod_eq_of_lt (BitVec.isLt _))
  apply completes_slot hr hk (show exec (.calResult r k loop) s = execCalResult r k loop s from rfl)
  unfold State.calResult
  dsimp only
  split
  · have hrep := raiseFlt_reported (pgRZL r) ((s.setComp r k { s.compOf r k with
      delay := d, slew := (c.td : Int) + d - c.acw }).setFld (RZL.SLOT_SDELAY r k) 23 0 (BitVec.ofInt 24 d).toNat) 17
    have hcomp := compOf_congr (r := r) (k := k) hrep.ring_eq
    have hn : ¬ reports (pgRZL r) (RZL.SLOT_SDELAY r k) := rzl_body_not_reports (lt_of_rings hr) (by omega) (by omega)
    refine ⟨?_, ?_, (hrep.fld_eq hn 23 0).trans (hval _), fun _ => bit_raiseFlt _ _ (by omega)⟩
    · exact hcomp ▸ congrArg Companion.delay (compOf_setComp _ _ _ _)
    · exact hcomp ▸ congrArg Companion.slew (compOf_setComp _ _ _ _)
  · rename_i hin
    rw [compOf_congr (setFld_ring _ _ _ _ _), compOf_setComp]
    exact ⟨rfl, rfl, hval _, fun h => absurd (.inl h) hin⟩

end
end State

/-- Settles O35: what a companion does with each frame under its lease, and with misses, trips, clocks and parameters. -/
theorem companionPorts : Obligations.CompanionPorts := by
  unfold Obligations.CompanionPorts
  refine ⟨fun s r k hr hk => ⟨fun src e h => ?_, ?_, ?_, ?_, ?_⟩, fun s r k hr hk => ?_⟩
  · exact ⟨State.leaseRenew_renews hr hk h, fun f => State.sampleFrame_renews hr hk h,
      fun f => State.edgeFrame_accepts hr hk h, fun f => State.edgeFrame_late hr hk h,
      fun f => State.forceFrame_forces hr hk h, State.pcmdClear_clears hr hk h, State.pcmdSelftest_tests hr hk h,
      State.leaseRelease_ends hr hk h⟩
  · exact fun src e => State.leaseRenew_rejected hr hk
  · exact fun f => State.leaseHandover_waits hr hk
  · exact fun f => State.leaseClaim_leases hr hk
  · exact State.leaseExpiry_ends hr hk
  · exact ⟨State.companionMiss_counts hr hk, State.scTrip_trips hr hk, State.scwaitEnd_enables hr hk,
      State.scquietEnd_forgets hr hk, State.calMark_marks hr hk, State.calResult_delays hr hk, State.vnegOffer_offers hr hk,
      fun ver => State.vnegSelect_selects hr hk, fun src => State.cfgFrame_sets hr hk, State.protPeriodic_counts hr hk⟩

end Sys2Proof.Machine

namespace Sys2Proof.Machine
namespace State

/-! ### Registers that a part of the device keeps -/

/-- From `s` to `t` every register of `R` reads as before, and no bridge's own part changes. -/
structure Keeps (R : Nat → Prop) (s t : State) : Prop where
  rd : ∀ a, R a → t.rd a = s.rd a
  brg : t.brg = s.brg

namespace Keeps
variable {R : Nat → Prop} {s t u : State}

theorem refl (R : Nat → Prop) (s : State) : Keeps R s s := ⟨fun _ _ => rfl, rfl⟩

theorem trans (h : Keeps R s t) (k : Keeps R t u) : Keeps R s u :=
  ⟨fun a ha => (k.rd a ha).trans (h.rd a ha), k.brg.trans h.brg⟩

theorem wr {a : Nat} (s : State) (v : Word) (ha : ¬ R a) : Keeps R s (s.wr a v) :=
  ⟨fun _ hj => rd_wr_ne s v fun e => ha (e ▸ hj), rfl⟩

theorem wr64 {a : Nat} (s : State) (v : Word64) (ha : ¬ R a) (hb : ¬ R (a + 4)) : Keeps R s (s.wr64 a v) :=
  .trans (.wr s _ ha) (.wr _ _ hb)

theorem report {p : Nat} (hp : ∀ a, R a → ¬ reports p a) (h : Reported p s t) : Keeps R s t :=
  ⟨fun a ha => h.rd a (hp a ha), by obtain ⟨_, _, _, _, _, _, _, _, rfl⟩ := h.frame; rfl⟩

theorem foldl_mem {α : Type} {f : State → α → State} (l : List α) (hf : ∀ x ∈ l, ∀ s, Keeps R s (f s x)) (s : State) :
    Keeps R s (l.foldl f s) := by
  induction l generalizing s with
  | nil => exact refl R s
  | cons x l ih => exact (hf x (by simp) s).trans (ih (fun y hy => hf y (by simp [hy])) _)

theorem opEnd {p a : Nat} (hp : ∀ a, R a → ¬ reports p a) (ha : ¬ R a) (c : Code) (s : State) :
    Keeps R s (State.opEnd p a c s) := by
  have hend : Keeps R s { s.setFld a 9 0 (0x300 + c.num) with pastCompletion := Tab.erase s.pastCompletion a } :=
    .trans (.wr s _ ha) ⟨fun _ _ => rfl, rfl⟩
  have hflt : ∀ b (s : State), Keeps R s (s.raiseFlt p b) := fun b s => .report hp (raiseFlt_reported p s b)
  unfold State.opEnd
  dsimp only
  split
  · exact hend.trans (hflt 8 _)
  · exact hend.trans (hflt 1 _)
  · exact hend.trans (hflt 6 _)
  · exact hend

end Keeps

/-! ### A change of mode and the rings (R471 to R479) -/

/-- A register of a ring's page, or of the stairwell's. -/
def linkPage (a : Nat) : Prop := 104 ≤ a / 0x1000 ∧ a / 0x1000 < 112 ∨ a / 0x1000 = pgSTW

/-- Page `p` is neither a ring's nor the stairwell's. -/
def OffLinks (p : Nat) : Prop := p < 104 ∨ 112 ≤ p ∧ p ≠ pgSTW

theorem not_linkPage {p off : Nat} (hp : OffLinks p) (ho : off < 0x1000) : ¬ linkPage (regAt p off) := by
  simp only [OffLinks, linkPage, pgSTW, regAt] at *
  omega

/-- The high word of a 64-bit register. -/
theorem not_linkPage_high {p off : Nat} (hp : OffLinks p) (ho : off + 4 < 0x1000) :
    ¬ linkPage (regAt p off + 4) := by
  simp only [OffLinks, linkPage, pgSTW, regAt] at *
  omega

theorem linkPage_not_reports {p : Nat} (hp : OffLinks p) (a : Nat) (ha : linkPage a) : ¬ reports p a := by
  simp only [OffLinks, linkPage, pgSTW] at hp ha
  simp only [reports, reportWord, HDR.FLT, HDR.EVT, MEM.INJCFG, pgREC, pgACQ, pgNVM, pgMEM, regAt]
  omega

theorem lt_of_axes {v : Variant} {a : Nat} (h : a < v.axes) : a < 24 := by
  cases v <;> simp only [Variant.axes] at h <;> omega

theorem lt_of_bridges {v : Variant} {b : Nat} (h : b < v.bridges) : b < 48 := by
  cases v <;> simp only [Variant.bridges] at h <;> omega

theorem mem_axisBridges_lt {s : State} {a b : Nat} (h : b ∈ s.axisBridges a) : b < 48 :=
  lt_of_bridges (List.mem_range.1 (List.mem_filter.1 h).1)

section
variable {a : Nat} (ha : a < 24)
include ha

theorem axisPage_offLinks : OffLinks (pgAXIS a) := by
  simp only [OffLinks, pgAXIS]
  omega

theorem wr_axis_keeps (s : State) {off : Nat} (v : Word) (ho : off < 0x1000) : Keeps linkPage s (s.wr (regAt (pgAXIS a) off) v) :=
  .wr s v (not_linkPage (axisPage_offLinks ha) ho)

theorem wr64_axis_keeps (s : State) {off : Nat} (v : Word64) (ho : off + 4 < 0x1000) :
    Keeps linkPage s (s.wr64 (regAt (pgAXIS a) off) v) :=
  .wr64 s v (not_linkPage (axisPage_offLinks ha) (by omega)) (not_linkPage_high (axisPage_offLinks ha) ho)

theorem raiseFlt_axis_keeps (s : State) (b : Nat) : Keeps linkPage s (s.raiseFlt (pgAXIS a) b) :=
  .report (linkPage_not_reports (axisPage_offLinks ha)) (raiseFlt_reported _ s b)

theorem raiseEvt_axis_keeps (s : State) (b : Nat) : Keeps linkPage s (s.raiseEvt (pgAXIS a) b) :=
  .report (linkPage_not_reports (axisPage_offLinks ha)) (raiseEvt_reported _ s b)

theorem setMstate_keeps (s : State) (v : Nat) : Keeps linkPage s (s.setMstate a v) := wr_axis_keeps ha s _ (by omega)

omit ha in
theorem clearPath_keeps (s : State) : Keeps linkPage s (s.clearPath a) := ⟨fun _ _ => rfl, rfl⟩

theorem remain_keeps (s : State) : Keeps linkPage s (s.remain a) := by
  unfold remain
  split
  · exact wr64_axis_keeps ha s _ (by omega)
  · exact wr64_axis_keeps ha s _ (by omega)

theorem setResumable_keeps (s : State) (b : Bool) : Keeps linkPage s (s.setResumable a b) :=
  .trans (wr_axis_keeps ha s _ (by omega)) (remain_keeps ha _)

/-- An operation of the axis that runs ends. -/
theorem opEnd_axis_keeps (s : State) (c : Code) : Keeps linkPage s (opEnd (pgAXIS a) (AXIS.MVSTA a) c s) :=
  .opEnd (linkPage_not_reports (axisPage_offLinks ha)) (not_linkPage (axisPage_offLinks ha) (by omega)) c s

/-- The new owner continues the axis (R291). -/
theorem continueAxis_keeps (s : State) : Keeps linkPage s (s.continueAxis a) := by
  unfold continueAxis
  split
  · exact .refl _ s
  · extract_lets s1 s2
    have h1 : Keeps linkPage s s1 := by
      dsimp only [s1]
      split
      · exact .trans (opEnd_axis_keeps ha s _) (setResumable_keeps ha _ true)
      · exact .refl _ s
    have h2 : Keeps linkPage s1 s2 :=
      .trans (clearPath_keeps _) (.trans (wr_axis_keeps ha _ _ (by omega)) (setMstate_keeps ha _ 1))
    exact (h1.trans h2).trans (wr64_axis_keeps ha _ _ (by omega))

/-- One axis enters a stop (R237 to R239). -/
theorem enterStop_keeps (s : State) (cause cat : Nat) : Keeps linkPage s (s.enterStop a cause cat) := by
  have hb : ∀ (s : State) (i : Nat) (b : Bool), Keeps linkPage s (s.setBit (AXIS.AXSTA a) i b) := fun s _ _ =>
    wr_axis_keeps ha s _ (by omega)
  have hf : ∀ (s : State) (hi lo v : Nat), Keeps linkPage s (s.setFld (AXIS.AXSTA a) hi lo v) := fun s _ _ _ =>
    wr_axis_keeps ha s _ (by omega)
  unfold enterStop
  extract_lets moving s1 s2 s3 s4 s5 s6
  have h1 : Keeps linkPage s s1 := by
    dsimp only [s1]
    split
    · exact opEnd_axis_keeps ha s _
    · exact .refl _ s
  have h2 : Keeps linkPage s1 s2 := by
    dsimp only [s2]
    split
    · exact setResumable_keeps ha _ true
    · exact .refl _ _
  have h4 : Keeps linkPage s2 s4 := .trans (.trans (.trans (setMstate_keeps ha _ 5) (hf _ _ _ _)) (hf _ _ _ _))
    (.trans (hb _ _ _) (hb _ _ _))
  have h5 : Keeps linkPage s4 s5 := by
    dsimp only [s5]
    split
    · exact raiseFlt_axis_keeps ha _ _
    · exact .refl _ _
  have h6 : Keeps linkPage s5 s6 := by
    dsimp only [s6]
    split
    · exact wr_axis_keeps ha _ _ (by omega)
    · exact .refl _ _
  exact ((((h1.trans h2).trans h4).trans h5).trans h6).trans (raiseEvt_axis_keeps ha _ 1)

/-- Category 0 acts on an axis: its path ends and its bridges' forces are written (R237). -/
theorem cutOff_keeps (s : State) : Keeps linkPage s (s.cutOff a) := by
  refine .trans (.trans (clearPath_keeps s) (wr_axis_keeps ha _ _ (by omega))) (.foldl_mem _ (fun b hb s => ?_) _)
  have hlt := mem_axisBridges_lt hb
  exact .wr s _ (not_linkPage (.inl (by simp only [pgBRG]; omega)) (by omega))

end

theorem mem_partyOf_lt {s : State} {a i : Nat} (ha : a < 24) (hi : i ∈ s.partyOf a) : i < 24 := by
  unfold partyOf at hi
  split at hi
  · exact lt_of_axes (List.mem_range.1 (List.mem_filter.1 hi).1)
  · rwa [List.mem_singleton.1 hi]

/-- A stop of an axis, with its party where it shares a path (R237 to R239, R245). -/
theorem axisStop_keeps {a : Nat} (ha : a < 24) (s : State) (cause cat : Nat) : Keeps linkPage s (s.axisStop a cause cat) := by
  unfold axisStop
  extract_lets m cat sc src party grouped now at_ decel cat1 sg segs sp v
  split
  · exact .refl _ s
  split
  · split
    · have hc : Keeps linkPage s sc := .trans (wr_axis_keeps ha s _ (by omega)) (setMstate_keeps ha _ 5)
      split
      · exact hc.trans (cutOff_keeps ha _)
      · split
        · exact hc.trans ⟨fun _ _ => rfl, rfl⟩
        · exact hc
    · exact .refl _ s
  · have hparty : ∀ i ∈ party, i < 24 := fun i hi => mem_partyOf_lt ha hi
    have hg : Keeps linkPage s sg := by
      dsimp only [sg]
      split
      · exact .foldl_mem _ (fun i hi s => enterStop_keeps (hparty i hi) s _ _) s
      · exact enterStop_keeps ha s _ _
    have hp : Keeps linkPage sg sp := by
      refine .foldl_mem _ (fun i _ s => ?_) sg
      exact ⟨fun _ _ => rfl, rfl⟩
    split
    · exact hg.trans (.foldl_mem _ (fun i hi s => cutOff_keeps (hparty i hi) s) sg)
    split
    · split
      · exact (hg.trans hp).trans ⟨fun _ _ => rfl, rfl⟩
      · exact hg
    · exact hg.trans ⟨fun _ _ => rfl, rfl⟩

/-- The limits of an axis (R229, R270). -/
theorem setLimits_keeps {a : Nat} (ha : a < 24) (s : State) : Keeps linkPage s (s.setLimits a) := by
  have hroute : OffLinks pgROUTE := .inr (by decide)
  have hw : ∀ (s : State) {off : Nat} (v : Word), off < 0x1000 → Keeps linkPage s (s.wr (regAt pgROUTE off) v) :=
    fun s _ v ho => .wr s v (not_linkPage hroute ho)
  have hstale : Keeps linkPage s s.noteStale := by
    unfold noteStale
    split
    · exact .refl _ s
    · exact .trans (.trans (hw s _ (by omega)) (hw _ _ (by omega)))
        (.report (linkPage_not_reports hroute) (raiseFlt_reported _ _ _))
  unfold setLimits
  extract_lets env s1 r d p n s2
  have h1 : Keeps linkPage s s1 := by
    dsimp only [s1]
    split
    · exact hstale
    · exact .refl _ s
  exact h1.trans (.trans (.trans (wr_axis_keeps ha _ _ (by omega)) (.wr _ _ (not_linkPage_high (axisPage_offLinks ha) (by omega))))
    (wr_axis_keeps ha _ _ (by omega)))

/-- A gallery's power and clock (R471, R480, R490). -/
theorem galMode_keeps {g : Nat} (hg : g < 18) (s : State) : Keeps linkPage s (s.galMode g) := by
  have hw : ∀ (s : State) {off : Nat} (v : Word), off < 0x1000 → Keeps linkPage s (s.wr (regAt (pgGAL g) off) v) :=
    fun s _ v ho => .wr s v (not_linkPage (.inl (by simp only [pgGAL]; omega)) ho)
  unfold galMode
  extract_lets p m was inUse hint rest v s1
  have h1 : Keeps linkPage s s1 := by
    dsimp only [s1]
    split
    · exact ⟨fun _ _ => rfl, rfl⟩
    · exact .refl _ s
  exact h1.trans (.trans (hw _ _ (by omega)) (hw _ _ (by omega)))

/-- LIMP is entered from a mode other than SERVICE (R471, R476, R479): no page of a ring and not the stairwell's changes. -/
theorem enterMode_keeps {s : State} (h : s.sysMode ≠ 6) (cause : Nat) : Keeps linkPage s (s.enterMode 5 cause) := by
  have hsys : OffLinks pgSYS := .inl (by decide)
  unfold enterMode
  extract_lets old s1 s2 s3 s4 s5 s6
  have h1 : Keeps linkPage s s1 := .wr s _ (not_linkPage hsys (by omega))
  have h2 : s2 = s1 := if_neg fun ⟨h6, _⟩ => h h6
  have h3 : Keeps linkPage s2 s3 := by
    dsimp only [s3]
    split
    · exact .trans (.wr _ _ (not_linkPage (p := pgTHM) (.inl (by decide)) (by omega)))
        (.wr _ _ (not_linkPage (p := pgBAL0) (.inr (by decide)) (by omega)))
    · exact .refl _ _
  have h4 : s4 = s3 := if_neg (by decide)
  have h5 : Keeps linkPage s4 s5 := .foldl_mem _ (fun g hg s => galMode_keeps (lt_of_galleries (List.mem_range.1 hg)) s) s4
  have h6 : Keeps linkPage s5 s6 := by
    refine .foldl_mem _ (fun a hx s => ?_) s5
    have ha := lt_of_axes (List.mem_range.1 hx)
    dsimp only
    split
    · exact .trans (axisStop_keeps ha s _ _) (setLimits_keeps ha _)
    · exact setLimits_keeps ha s
  exact .trans (.trans (.trans (h2 ▸ h1) h3) (.trans (h4 ▸ h5) h6))
    (.report (linkPage_not_reports hsys) (raiseEvt_reported _ _ 0))

/-- A LIMP trigger (R479). -/
theorem limpTrigger_keeps (s : State) (k : Nat) : Keeps linkPage s (s.limpTrigger k) := by
  have hsys : OffLinks pgSYS := .inl (by decide)
  unfold limpTrigger
  extract_lets m
  split
  · rename_i h
    obtain ⟨-, hm⟩ := h
    have hauto : Keeps linkPage s (s.autoMode 5 6) := by
      unfold autoMode
      rw [if_neg (by rintro ⟨h0, -⟩; rw [show m = 0 from h0] at hm; omega)]
      dsimp only
      split
      · have hmode : (opEnd pgSYS SYS.MODESTA .rejState s).sysMode = s.sysMode :=
          fld_congr (rd_setFld_ne s _ _ _ (by decide)) 3 0
        refine .trans (.opEnd (linkPage_not_reports hsys) (not_linkPage hsys (by omega)) .rejState s)
          (enterMode_keeps (fun h6 => ?_) 6)
        have := hmode.symm.trans h6
        omega
      · exact enterMode_keeps (by omega) 6
    exact .trans (.trans hauto (.report (linkPage_not_reports hsys) (raiseFlt_reported _ _ _)))
      (.report (linkPage_not_reports hsys) (raiseEvt_reported _ _ _))
  · exact .refl _ s

/-! ### Operations that end with any code (R61, R62) -/

section
variable {s : State} {p a j : Nat} (c : Code)

theorem rd_opEnd_of_not_reports (hj : ¬ reports p j) : (opEnd p a c s).rd j = (s.setFld a 9 0 (0x300 + c.num)).rd j := by
  have hrep : ∀ (b : Nat) (t : State), (t.raiseFlt p b).rd j = t.rd j := fun b t => (raiseFlt_reported p t b).rd j hj
  cases c with
  | abortLate => exact hrep 8 _
  | rejLength => exact hrep 1 _
  | rejLock => exact hrep 6 _
  | _ => rfl

theorem opEnd_ring : (opEnd p a c s).ring = s.ring := by
  have hrep : ∀ (b : Nat) (t : State), (t.raiseFlt p b).ring = t.ring := fun b t => (raiseFlt_reported p t b).ring_eq
  cases c with
  | abortLate => exact hrep 8 _
  | rejLength => exact hrep 1 _
  | rejLock => exact hrep 6 _
  | _ => rfl

/-- The status register tells the code of the operation that ended. -/
theorem ended_opEnd (ha : ¬ reports p a) : (opEnd p a c s).Ended a c := by
  have hcode : c.num < 16 := by cases c <;> decide
  have hrd := rd_opEnd_of_not_reports (s := s) (a := a) c ha
  have hf := fun hi' lo' => fld_setFld_inside (s := s) (a := a) (hi := 9) (lo := 0) (hi' := hi') (lo' := lo') (0x300 + c.num)
    (by omega) (by omega)
  refine ⟨(fld_congr hrd 9 8).trans ((hf 9 8 (by omega)).trans ?_), (fld_congr hrd 7 0).trans ((hf 7 0 (by omega)).trans ?_)⟩
    <;> simp only [Nat.shiftRight_eq_div_pow] <;> omega

end

/-! ### A ring goes down (R173) -/

theorem regAt_div {p off : Nat} (ho : off < 0x1000) : regAt p off / 0x1000 = p := by
  simp only [regAt]
  omega

/-- A write on a page keeps every register of the others. -/
theorem wr_page_keeps {p off : Nat} (s : State) (v : Word) (ho : off < 0x1000) :
    Keeps (fun a => ¬ a / 0x1000 = p) s (s.wr (regAt p off) v) :=
  .wr s v (not_not.2 (regAt_div ho))

/-- An operation that is accepted or running writes its own page only. -/
theorem opPhase_page_keeps {p off : Nat} (s : State) (ph : Nat) (ho : off < 0x1000) :
    Keeps (fun a => ¬ a / 0x1000 = p) s (s.opPhase (regAt p off) ph) := by
  have h1 : Keeps (fun a => ¬ a / 0x1000 = p) s (s.setFld (regAt p off) 9 0 (ph * 256)) := wr_page_keeps s _ ho
  have h2 : Keeps (fun a => ¬ a / 0x1000 = p) (s.setFld (regAt p off) 9 0 (ph * 256)) { s.setFld (regAt p off) 9 0 (ph * 256) with
      pastCompletion := Tab.erase s.pastCompletion (regAt p off) } := ⟨fun _ _ => rfl, rfl⟩
  unfold opPhase restartClock
  rw [regAt_div ho]
  split
  · exact (h1.trans h2).trans (wr_page_keeps _ _ (by omega))
  · exact h1.trans h2

/-- What a ring that goes down leaves of a slot's state word: no lease, and no state beyond PRESENT. -/
def downWord (w : Word) : Word :=
  if wfld (wsetBit w 3 false) 2 0 ≥ 2 then wset (wsetBit w 3 false) 2 0 1 else wsetBit w 3 false

/-- One slot of a ring that goes down. -/
def slotDown (r : Nat) (s : State) (k : Nat) : State :=
  let s := s.setBit (RZL.SLOT_SSTA r k) 3 false
  if s.slotState r k ≥ 2 then s.setSlotState r k 1 else s

section
variable {r : Nat}

theorem rd_slotDown (s : State) (k j : Nat) : (slotDown r s k).rd j =
    if j = RZL.SLOT_SSTA r k then downWord (s.rd (RZL.SLOT_SSTA r k)) else s.rd j := by
  have hst : (s.setBit (RZL.SLOT_SSTA r k) 3 false).slotState r k = wfld (wsetBit (s.rd (RZL.SLOT_SSTA r k)) 3 false) 2 0 := by
    rw [slotState, fld, rd_setBit_same]
  unfold slotDown downWord
  dsimp only
  rw [hst]
  split
  · rw [setSlotState, rd_setFld, rd_setBit_same]
    split
    · rfl
    · rename_i hj
      exact rd_setBit_ne _ _ _ hj
  · exact rd_setBit _ _ _ _ _

theorem slotDown_writes : SlotWrites 8 (RZL.SLOT_SSTA r) (fun _ => downWord) (slotDown r) := fun s n j _ => rd_slotDown s n j

theorem SLOT_SSTA_inj (m n : Nat) (h : m ≠ n) : RZL.SLOT_SSTA r m ≠ RZL.SLOT_SSTA r n := regAt_ne (by omega)

theorem getLsbD_downWord (w : Word) : (downWord w).getLsbD 3 = false := by
  unfold downWord
  split
  · rw [getLsbD_wset, if_neg (by omega), getLsbD_wsetBit, if_pos ⟨by omega, rfl⟩]
  · rw [getLsbD_wsetBit, if_pos ⟨by omega, rfl⟩]

theorem ringDown_eq (s : State) : ∃ x, s.ringDown r =
    ((((((List.range 8).foldl (slotDown r) (s.setRingState r 0)).setBit (RZL.LANESTA r) 2 false).setBit
      (RZL.LANESTA r) 3 false)).putRing r x) := ⟨_, rfl⟩

/-- A ring that is down holds no lease; only registers of its page have changed. -/
theorem ringDown_down (s : State) : let t := s.ringDown r
    t.ringState r = 0 ∧ (∀ k < 8, t.leaseOurs r k = false) ∧ t.mem = s.mem ∧
      Keeps (fun a => ¬ a / 0x1000 = pgRZL r) s t := by
  obtain ⟨x, hx⟩ := ringDown_eq (r := r) s
  have hrd : ∀ j, j ≠ RZL.LANESTA r → (s.ringDown r).rd j = ((List.range 8).foldl (slotDown r) (s.setRingState r 0)).rd j :=
    fun j hj => by rw [hx, putRing_rd, rd_setBit_ne _ _ _ hj, rd_setBit_ne _ _ _ hj]
  have hmem : ∀ (s : State) (k : Nat), (slotDown r s k).mem = s.mem := fun s k => by
    unfold slotDown
    dsimp only
    split <;> rfl
  have hdown : ∀ k < 8, ∀ s : State, Keeps (fun a => ¬ a / 0x1000 = pgRZL r) s (slotDown r s k) := fun k hk s => by
    have h1 : Keeps (fun a => ¬ a / 0x1000 = pgRZL r) s (s.setBit (RZL.SLOT_SSTA r k) 3 false) := wr_page_keeps s _ (by omega)
    unfold slotDown
    dsimp only
    split
    · exact h1.trans (wr_page_keeps _ _ (by omega))
    · exact h1
  refine ⟨?_, fun k hk => ?_, ?_, ?_⟩
  · have h1 : RZL.RSTA r ≠ RZL.LANESTA r := regAt_ne (by omega)
    have h2 : ∀ n < 8, RZL.RSTA r ≠ RZL.SLOT_SSTA r n := fun n _ => regAt_ne (by omega)
    rw [ringState, fld_congr ((hrd _ h1).trans (slotDown_writes.rd_other h2 _))]
    exact fld_setFld_same s 0 (by omega)
  · have h1 : RZL.SLOT_SSTA r k ≠ RZL.LANESTA r := regAt_ne (by omega)
    rw [leaseOurs, bit, hrd _ h1, slotDown_writes.rd_slot SLOT_SSTA_inj hk, getLsbD_downWord]
  · rw [hx, putRing_mem, setBit_mem, setBit_mem, foldl_keeps (part := State.mem) hmem, setRingState, setFld_mem]
  · rw [hx]
    refine .trans (.trans (.trans (.trans (wr_page_keeps s _ (by omega)) (.foldl_mem _ (fun k hk s => ?_) _))
      (wr_page_keeps _ _ (by omega))) (wr_page_keeps _ _ (by omega))) ⟨fun _ _ => rfl, rfl⟩
    exact hdown k (List.mem_range.1 hk) s

end

/-! ### A ring's control (R173, R174, R177, R180, R184) -/

section
variable {s : State} {r : Nat} (hr : r < s.variant.rings)
include hr

/-- START of a ring that is down (R173, R184). -/
theorem rctlStart_starts (hb : s.busyOp (RZL.RSTA r) = false) (ho : s.offView (pgRZL r) = false) (hd : s.ringState r = 0)
    (h20 : 20 ≤ s.fld (RZL.LEASETO r) 15 0) (hff : s.fld (RZL.LEASETO r) 15 0 ≠ 0xFFFF)
    (hint : s.longestInterval r * 2 ≤ s.fld (RZL.LEASETO r) 15 0 * 16000) : Completes (.rctlStart r) s fun t =>
      t.phase (RZL.RSTA r) = 2 ∧ t.ringState r = 1 ∧ t.fld (RZL.TOPO r) 23 16 = 0 ∧
      (∀ k < 8, t.rd (RZL.SLOT_SSTA r k) = 0) ∧ t.mem = s.mem ∧ SameRegs (fun a => a / 0x1000 = pgRZL r) s t := by
  have hdiv : RZL.RSTA r / 0x1000 = pgRZL r := regAt_div (by omega)
  have hsta : RZL.RSTA r ≠ HDR.STA (RZL.RSTA r / 0x1000) := by
    rw [hdiv]
    exact regAt_ne (by omega)
  have hlane : RZL.RSTA r ≠ RZL.LANESTA r := regAt_ne (by omega)
  have htopo : RZL.RSTA r ≠ RZL.TOPO r := regAt_ne (by omega)
  have hslot : ∀ n < 8, RZL.RSTA r ≠ RZL.SLOT_SSTA r n := fun n _ => regAt_ne (by omega)
  have htslot : ∀ n < 8, RZL.TOPO r ≠ RZL.SLOT_SSTA r n := fun n _ => regAt_ne (by omega)
  have hw : SlotWrites 8 (RZL.SLOT_SSTA r) (fun _ _ => 0) (fun s k => s.wr (RZL.SLOT_SSTA r k) 0) := fun s n j _ => rd_wr s _ _ _
  apply completes_ring hr (show exec (.rctlStart r) s = execRctlStart r s from rfl)
  unfold ringStart
  extract_lets leaseTo s1 s2 s3 s4
  rw [if_neg (by simp [hb]), if_neg (by simp [ho, hd]), if_neg hff, if_neg (by omega)]
  have hrsta : ∀ x, (s4.putRing r x).rd (RZL.RSTA r) = s1.rd (RZL.RSTA r) := fun x => by
    rw [putRing_rd, hw.rd_other hslot, rd_setFld_ne _ _ _ _ htopo, rd_setFld_ne _ _ _ _ htopo,
      rd_setBit_ne _ _ _ hlane, rd_setBit_ne _ _ _ hlane]
  have htrd : ∀ x, (s4.putRing r x).rd (RZL.TOPO r) = s3.rd (RZL.TOPO r) := fun x => by
    rw [putRing_rd, hw.rd_other htslot]
  have hphase : s1.fld (RZL.RSTA r) 9 8 = 2 := (fld_setFld_ne _ 1 (by omega)).trans
    ((fld_congr (rd_opPhase 2 hsta) 9 8).trans (fld_setFld_inside _ (by omega) (by omega) (by omega)))
  rw [phase, ringState, fld_congr (hrsta _), fld_congr (hrsta _)]
  refine ⟨hphase, fld_setFld_same _ 1 (by omega), ?_,
    fun k hk => (putRing_rd _ _ _ _).trans (hw.rd_slot SLOT_SSTA_inj hk s3), ?_, ?_⟩
  · exact (fld_congr (htrd _) 23 16).trans ((fld_setFld_ne _ 0 (by omega)).trans (fld_setFld_same _ 0 (by omega)))
  · rw [putRing_mem, foldl_keeps (part := State.mem) fun s k => wr_mem s _ _]
    exact opPhase_mem 2
  · have hop : Keeps (fun a => ¬ a / 0x1000 = pgRZL r) s (s.opPhase (RZL.RSTA r) 2) := opPhase_page_keeps s 2 (by omega)
    have h4 : Keeps (fun a => ¬ a / 0x1000 = pgRZL r) s s4 := .trans (.trans (.trans hop (wr_page_keeps _ _ (by omega)))
      (.trans (.trans (wr_page_keeps _ _ (by omega)) (wr_page_keeps _ _ (by omega)))
        (.trans (wr_page_keeps _ _ (by omega)) (wr_page_keeps _ _ (by omega)))))
      (.foldl_mem _ (fun k hk s => wr_page_keeps s _ (by have := List.mem_range.1 hk; omega)) s3)
    exact fun a ha => (putRing_rd _ _ _ _).trans (h4.rd a ha)

/-- STOP of a ring with no start running (R192). -/
theorem rctlStop_stops (hb : s.busyOp (RZL.RSTA r) = false) : Completes (.rctlStop r) s fun t => t.ringState r = 0 ∧
    (∀ k < 8, t.leaseOurs r k = false) ∧ t.mem = s.mem ∧ SameRegs (fun a => a / 0x1000 = pgRZL r) s t := by
  apply completes_ring hr (show exec (.rctlStop r) s = execRctlStop r s from rfl)
  dsimp only
  rw [if_neg (by simp [hb])]
  obtain ⟨h1, h2, h3, h4⟩ := ringDown_down (r := r) s
  exact ⟨h1, h2, h3, h4.rd⟩

/-- A start that ends with the ring down (R63, R173). -/
theorem opEnd_ringDown (c : Code) : let t := opEnd (pgRZL r) (RZL.RSTA r) c (s.ringDown r)
    t.Ended (RZL.RSTA r) c ∧ t.ringState r = 0 ∧ ∀ k < 8, t.leaseOurs r k = false := by
  have hr8 := lt_of_rings hr
  have hrsta : ¬ reports (pgRZL r) (RZL.RSTA r) := rzl_body_not_reports hr8 (by omega) (by omega)
  obtain ⟨h1, h2, -, -⟩ := ringDown_down (r := r) s
  refine ⟨ended_opEnd c hrsta, ?_, fun k hk => ?_⟩
  · exact (fld_congr (rd_opEnd_of_not_reports c hrsta) 11 10).trans ((fld_setFld_ne _ _ (by omega)).trans h1)
  · have hne : RZL.SLOT_SSTA r k ≠ RZL.RSTA r := regAt_ne (by omega)
    have hssta : ¬ reports (pgRZL r) (RZL.SLOT_SSTA r k) := rzl_body_not_reports hr8 (by omega) (by omega)
    exact (bit_congr ((rd_opEnd_of_not_reports c hssta).trans (rd_setFld_ne _ _ _ _ hne)) 3).trans (h2 k hk)

theorem rctlAbort_aborts (hb : s.busyOp (RZL.RSTA r) = true) (hp : s.isPast (RZL.RSTA r) = false) :
    Completes (.rctlAbort r) s fun t =>
      t.Ended (RZL.RSTA r) .aborted ∧ t.ringState r = 0 ∧ ∀ k < 8, t.leaseOurs r k = false := by
  apply completes_ring hr (show exec (.rctlAbort r) s = execRctlAbort r s from rfl)
  rw [opAbort_running hb hp]
  exact opEnd_ringDown hr .aborted

theorem ringStartTimeout_ends (hb : s.busyOp (RZL.RSTA r) = true) : Completes (.ringStartTimeout r) s fun t =>
    t.Ended (RZL.RSTA r) .timeout ∧ t.ringState r = 0 := by
  apply completes_ring hr (show exec (.ringStartTimeout r) s = execRingStartTimeout r s from rfl)
  rw [if_pos hb]
  obtain ⟨h1, h2, -⟩ := opEnd_ringDown hr .timeout
  exact ⟨h1, h2⟩

theorem rctlCalnow_notes (hs : s.ringState r ≠ 0) (hd : s.deviceBit r = false) : Completes (.rctlCalnow r) s fun t =>
    (t.ringOf r).calReq = true ∧ t.regs = s.regs ∧ t.mem = s.mem := by
  apply completes_ring hr (show exec (.rctlCalnow r) s = execRctlCalnow r s from rfl)
  rw [if_neg (by simp [hs, hd]), ringOf_putRing]
  exact ⟨rfl, rfl, rfl⟩

theorem rctlResume_notes {k : Nat} (hk : k < 8) : Completes (.rctlResume r k) s fun t =>
    (t.ringOf r).resume.getLsbD k = true ∧ (∀ j, j ≠ k → (t.ringOf r).resume.getLsbD j = (s.ringOf r).resume.getLsbD j) ∧
    t.regs = s.regs ∧ t.mem = s.mem := by
  apply completes_slot hr hk (show exec (.rctlResume r k) s = execRctlResume r k s from rfl)
  rw [ringOf_putRing]
  refine ⟨?_, fun j hj => ?_, rfl, rfl⟩
  · rw [getLsbD_wsetBit, if_pos ⟨hk, rfl⟩]
  · rw [getLsbD_wsetBit, if_neg (by tauto)]

theorem vnegOfferRepeat_offers {k : Nat} (hk : k < 8) (hs : 2 ≤ s.ringState r) (hd : s.slotState r k = 1) :
    Completes (.vnegOfferRepeat r) s fun t => (t.ringOf r).frames = (s.ringOf r).frames + 1 ∧ t.regs = s.regs := by
  apply completes_ring hr (show exec (.vnegOfferRepeat r) s = execVnegOfferRepeat r s from rfl)
  rw [if_pos ⟨hs, List.any_eq_true.2 ⟨k, List.mem_range.2 hk, decide_eq_true hd⟩⟩, ringOf_putRing]
  exact ⟨rfl, rfl⟩

theorem renewDue_renews {k : Nat} (hk : k < 8) (ho : s.leaseOurs r k = true) : Completes (.renewDue r k) s fun t =>
    (t.ringOf r).frames = (s.ringOf r).frames + 1 ∧ t.regs = s.regs ∧ t.mem = s.mem := by
  apply completes_slot hr hk (show exec (.renewDue r k) s = execRenewDue r k s from rfl)
  rw [if_pos ho, ringOf_putRing]
  exact ⟨rfl, rfl, rfl⟩

/-- A round of calibration in bounds (R176, R177). -/
theorem calRound_measures {cw ccw : Nat} {ofs : Int} (hs : s.ringState r ≠ 0) (h1 : cw ≤ ccw + 32) (h2 : ccw ≤ cw + 32)
    (hd : s.deviceBit r = false) : Completes (.calRound r cw ccw ofs) s fun t => (t.ringOf r).loop = (cw + ccw) / 2 ∧
      (t.ringOf r).calReq = false ∧ (t.ringOf r).round = (s.ringOf r).round + 1 ∧ t.bit (HDR.EVT (pgRZL r)) 3 = true := by
  apply completes_ring hr (show exec (.calRound r cw ccw ofs) s = execCalRound r cw ccw ofs s from rfl)
  unfold calRound
  dsimp only
  rw [if_neg hs, if_neg (by omega), if_neg (by simp [hd])]
  have hring : ∀ t : State, (t.raiseEvt (pgRZL r) 3).ringOf r = t.ringOf r := fun t => by
    rw [ringOf, (raiseEvt_reported _ t 3).ring_eq, ringOf]
  rw [hring, ringOf_putRing]
  exact ⟨rfl, rfl, rfl, bit_raiseEvt _ _ (by omega)⟩

theorem calRound_reports {cw ccw : Nat} {ofs : Int} (hs : s.ringState r ≠ 0) (h : ccw + 32 < cw) :
    Completes (.calRound r cw ccw ofs) s fun t => t.bit (HDR.FLT (pgRZL r)) 17 = true ∧ t.ring = s.ring := by
  apply completes_ring hr (show exec (.calRound r cw ccw ofs) s = execCalRound r cw ccw ofs s from rfl)
  unfold calRound
  rw [if_neg hs, if_pos (.inl h)]
  exact ⟨bit_raiseFlt _ _ (by omega), (raiseFlt_reported _ s 17).ring_eq⟩

/-- A REPLY with a common version, in a start (R173, R174). -/
theorem vnegReply_presents {k lo hi cw : Nat} {ty : BitVec 16} (hk : k < 8) (hs : s.ringState r < 2) (hlo : lo ≤ 3)
    (h2 : 2 ≤ hi) (hhi : hi < 256) : Completes (.vnegReply r k lo hi ty cw) s fun t => t.bit (RZL.TOPO r) (16 + k) = true ∧
      t.slotState r k = 2 ∧ t.rd (RZL.SLOT_SID r k) = BitVec.ofNat 32 (ty.toNat + lo * 65536 + hi * 2 ^ 24) := by
  have hrs : RZL.RSTA r ≠ RZL.SLOT_SSTA r k := regAt_ne (by omega)
  have hri : RZL.RSTA r ≠ RZL.SLOT_SID r k := regAt_ne (by omega)
  have hts : ∀ n, RZL.TOPO r ≠ RZL.SLOT_SSTA r n := fun n => regAt_ne (by omega)
  have his : ∀ n, RZL.SLOT_SID r k ≠ RZL.SLOT_SSTA r n := fun n => regAt_ne (by omega)
  have hit : RZL.SLOT_SID r k ≠ RZL.TOPO r := regAt_ne (by omega)
  apply completes_slot hr hk (show exec (.vnegReply r k lo hi ty cw) s = execVnegReply r k lo hi ty cw s from rfl)
  unfold State.vnegReply
  extract_lets s1 s2 run ver ok s3 s4 n s5 s6
  have hrun : run = false := by
    have hst : s2.ringState r = s.ringState r := fld_congr ((rd_setFld_ne _ _ _ _ hrs).trans (rd_wr_ne _ _ hri)) 11 10
    exact decide_eq_false (by omega)
  have hok : ok = true := (if_neg (by simp [hrun])).trans (decide_eq_true ⟨hlo, h2⟩)
  have hfold : ∀ {j : Nat}, (∀ i, j ≠ RZL.SLOT_SSTA r i) → s5.rd j = s4.rd j := fun {j} hj => by
    refine foldl_keeps (part := fun u : State => u.rd j) (fun u i => ?_) _ s4
    split
    · exact rd_setFld_ne _ _ _ _ (hj i)
    · rfl
  rw [if_pos hok, if_neg (by simp [hrun])]
  refine ⟨?_, fld_setFld_same _ 2 (by omega), ?_⟩
  · have htopo : s6.rd (RZL.TOPO r) = s4.rd (RZL.TOPO r) := (rd_setFld_ne _ _ _ _ (hts k)).trans (hfold hts)
    exact (bit_congr htopo _).trans ((bit_setFld_ne _ _ (by omega)).trans (bit_setBit_same _ _ (by omega)))
  · refine (rd_setFld_ne _ _ _ _ (his k)).trans ((hfold his).trans ?_)
    rw [rd_setFld_ne _ _ _ _ hit, rd_setBit_ne _ _ _ hit, rd_setFld_ne _ _ _ _ (his k), rd_wr_same, Nat.mod_eq_of_lt hhi,
      Nat.mod_eq_of_lt (by omega)]

/-! ### Self tests (R189) -/

omit hr in
/-- Two neighbouring fields that were cleared read zero together. -/
theorem fld_cleared (t : State) (a : Nat) : ((t.setFld a 19 16 0).setFld a 23 20 0).fld a 23 16 = 0 := by
  rw [fld, rd_setFld_same, rd_setFld_same]
  apply Nat.eq_of_testBit_eq
  intro i
  rw [testBit_wfld, getLsbD_wset, getLsbD_wset]
  by_cases h : i < 8
  · by_cases h4 : i < 4
    · rw [if_neg (by omega), if_pos (by omega)]
      simp
    · rw [if_pos (by omega)]
      simp
  · simp
    omega

theorem ptctlStart_starts (hb : s.busyOp (RZL.PTSTA r) = false) (ho : s.offView (pgRZL r) = false) (hm : s.sysMode = 6)
    (hl : s.leaseOurs r (s.fld (RZL.PTCTL r) 6 4) = true) (hs : s.slotState r (s.fld (RZL.PTCTL r) 6 4) ≠ 7)
    (hn : s.bridgeAt r (s.fld (RZL.PTCTL r) 6 4) = none) : Completes (.ptctlStart r) s fun t =>
      t.phase (RZL.PTSTA r) = 2 ∧ t.fld (RZL.PTSTA r) 23 16 = 0 := by
  have hdiv : RZL.PTSTA r / 0x1000 = pgRZL r := regAt_div (by omega)
  have hsta : RZL.PTSTA r ≠ HDR.STA (RZL.PTSTA r / 0x1000) := by
    rw [hdiv]
    exact regAt_ne (by omega)
  apply completes_ring hr (show exec (.ptctlStart r) s = execPtctlStart r s from rfl)
  unfold selfTestStart
  simp only [hn]
  rw [if_neg (by simp [hb]), if_neg (by simp [ho, hm, hl, hs])]
  refine ⟨(fld_congr (rd_opPhase 2 hsta) 9 8).trans (fld_setFld_inside _ (by omega) (by omega) (by omega)),
    (fld_congr (rd_opPhase 2 hsta) 23 16).trans ((fld_setFld_ne _ _ (by omega)).trans (fld_cleared s _))⟩

theorem ptctlAbort_aborts (hb : s.busyOp (RZL.PTSTA r) = true) (hp : s.isPast (RZL.PTSTA r) = false) :
    Completes (.ptctlAbort r) s fun t => t.Ended (RZL.PTSTA r) .aborted ∧ t.ring = s.ring := by
  apply completes_ring hr (show exec (.ptctlAbort r) s = execPtctlAbort r s from rfl)
  rw [opAbort_running hb hp]
  exact ⟨ended_opEnd .aborted (rzl_body_not_reports (lt_of_rings hr) (by omega) (by omega)), opEnd_ring .aborted⟩

theorem selftestTimeout_ends (hb : s.busyOp (RZL.PTSTA r) = true) : Completes (.selftestTimeout r) s fun t =>
    t.Ended (RZL.PTSTA r) .timeout ∧ t.ring = s.ring := by
  apply completes_ring hr (show exec (.selftestTimeout r) s = execSelftestTimeout r s from rfl)
  rw [if_pos hb]
  exact ⟨ended_opEnd .timeout (rzl_body_not_reports (lt_of_rings hr) (by omega) (by omega)), opEnd_ring .timeout⟩

/-! ### Lanes (R161, R181) -/

omit hr in
theorem linkPage_rzl {r off : Nat} (hr : r < 8) (ho : off < 0x1000) : linkPage (regAt (pgRZL r) off) := by
  simp only [linkPage, pgSTW, pgRZL, regAt]
  omega

/-- A ring that runs is degraded; its other registers stay. -/
theorem degrade_degrades : (s.degrade r).ringState r = (if s.ringState r = 2 then 3 else s.ringState r) ∧
    ∀ {off : Nat}, off < 0x1000 → off ≠ 0x44 → (s.degrade r).rd (regAt (pgRZL r) off) = s.rd (regAt (pgRZL r) off) := by
  have hr8 := lt_of_rings hr
  unfold degrade
  split
  · have hk := limpTrigger_keeps (s.setRingState r 3) 1
    have hsta : linkPage (RZL.RSTA r) := linkPage_rzl hr8 (by omega)
    exact ⟨(fld_congr (hk.rd _ hsta) 11 10).trans (fld_setFld_same _ 3 (by omega)),
      fun ho hn => (hk.rd _ (linkPage_rzl hr8 ho)).trans (rd_setFld_ne _ _ _ _ (regAt_ne hn))⟩
  · exact ⟨rfl, fun _ _ => rfl⟩

theorem laneLockLost_degrades {port : Nat} (hp : port < 2) : Completes (.laneLockLost r port) s fun t =>
    t.bit (RZL.LANESTA r) port = false ∧ t.bit (HDR.FLT (pgRZL r)) 16 = true ∧
    t.ringState r = (if s.ringState r = 2 then 3 else s.ringState r) := by
  have hrep := raiseFlt_reported (pgRZL r) (s.setBit (RZL.LANESTA r) port false) 16
  have hlane : ¬ reports (pgRZL r) (RZL.LANESTA r) := rzl_body_not_reports (lt_of_rings hr) (by omega) (by omega)
  have hrsta : ¬ reports (pgRZL r) (RZL.RSTA r) := rzl_body_not_reports (lt_of_rings hr) (by omega) (by omega)
  have hne : RZL.RSTA r ≠ RZL.LANESTA r := regAt_ne (by omega)
  have hstate : ((s.setBit (RZL.LANESTA r) port false).raiseFlt (pgRZL r) 16).ringState r = s.ringState r :=
    fld_congr ((hrep.rd _ hrsta).trans (rd_setBit_ne _ _ _ hne)) 11 10
  have hrings : r < ((s.setBit (RZL.LANESTA r) port false).raiseFlt (pgRZL r) 16).variant.rings := by
    obtain ⟨_, _, _, _, _, _, _, _, ht⟩ := hrep.frame
    rw [ht]
    exact hr
  obtain ⟨hring, hrd⟩ := degrade_degrades hrings
  apply completes_onUnit (show exec (.laneLockLost r port) s = execLaneLockLost r port s from rfl) (decide_eq_true ⟨hr, hp⟩)
  refine ⟨?_, ?_, hring.trans (by rw [hstate])⟩
  · exact (bit_congr ((hrd (by omega) (by omega)).trans (hrep.rd _ hlane)) port).trans (bit_setBit_same _ _ (by omega))
  · exact (bit_congr (hrd (by omega) (by omega)) 16).trans (bit_raiseFlt _ _ (by omega))

theorem ownFramesLost_degrades (ccw : Bool) : Completes (.ownFramesLost r ccw) s fun t =>
    t.bit (RZL.LANESTA r) (if ccw then 5 else 4) = false ∧
    t.ringState r = (if s.ringState r = 2 then 3 else s.ringState r) := by
  have hne : RZL.RSTA r ≠ RZL.LANESTA r := regAt_ne (by omega)
  have hstate : (s.setBit (RZL.LANESTA r) (if ccw then 5 else 4) false).ringState r = s.ringState r :=
    fld_congr (rd_setBit_ne _ _ _ hne) 11 10
  have hbit : (if ccw then 5 else 4) < 32 := by cases ccw <;> decide
  obtain ⟨hring, hrd⟩ := degrade_degrades (s := s.setBit (RZL.LANESTA r) (if ccw then 5 else 4) false) hr
  apply completes_ring hr (show exec (.ownFramesLost r ccw) s = execOwnFramesLost r ccw s from rfl)
  exact ⟨(bit_congr (hrd (by omega) (by omega)) _).trans (bit_setBit_same _ _ hbit), hring.trans (by rw [hstate])⟩

end

/-! ### A takeover (R185, R293) -/

/-- The stairwell's registers as a takeover of axis `a` leaves them. -/
def takenOver (a : Nat) (s : State) : State :=
  let s := (s.setBit STW.OWN a true).setBit STW.SHADOW a false
  let s := { s with stw := { s.stw with taken := wsetBit s.stw.taken a true } }
  (s.count STW.TOVCNT 15 0).wr STW.TOVAXES (BitVec.ofNat 32 (2 ^ a))

theorem takenOver_owns (s : State) {a : Nat} (ha : a < 32) :
    (s.takenOver a).bit STW.OWN a = true ∧ (s.takenOver a).bit STW.SHADOW a = false := by
  have hrd : ∀ j, j ≠ STW.TOVCNT → j ≠ STW.TOVAXES →
      (s.takenOver a).rd j = ((s.setBit STW.OWN a true).setBit STW.SHADOW a false).rd j := fun j h1 h2 =>
    (rd_wr_ne _ _ h2).trans (rd_count_ne _ _ _ _ h1)
  refine ⟨(bit_congr (hrd _ (by decide) (by decide)) a).trans ?_, (bit_congr (hrd _ (by decide) (by decide)) a).trans ?_⟩
  · exact (bit_congr (rd_setBit_ne _ _ _ (by decide)) a).trans (bit_setBit_same _ _ ha)
  · exact bit_setBit_same _ _ ha

theorem stw_not_reports {off : Nat} (h1 : 0x20 ≤ off) (h2 : off < 0x1000) : ¬ reports pgSTW (regAt pgSTW off) := by
  simp only [reports, reportWord, HDR.FLT, HDR.EVT, MEM.INJCFG, pgSTW, pgREC, pgACQ, pgNVM, pgMEM, regAt]
  omega

theorem linkPage_stw {off : Nat} (ho : off < 0x1000) : linkPage (regAt pgSTW off) := .inr (regAt_div ho)

/-- PARTNER_CLAIM of a shadow axis (R185): it is owned, and the takeover is counted and reported. -/
theorem partnerClaim_takes {s : State} {a : Nat} (ha : a < s.variant.axes) (hs : s.bit STW.SHADOW a = true) :
    Completes (.partnerClaim a) s fun t => t.bit STW.OWN a = true ∧ t.bit STW.SHADOW a = false ∧
      t.rd STW.TOVAXES = BitVec.ofNat 32 (2 ^ a) ∧ t.bit (HDR.FLT pgSTW) 19 = true := by
  have ha24 := lt_of_axes ha
  have htake : ∃ u : State, s.takeAxis a =
      (((((u.takenOver a).continueAxis a).raiseFlt pgSTW 19).raiseEvt pgSTW 3).limpTrigger 2) := ⟨_, rfl⟩
  obtain ⟨u, htake⟩ := htake
  have hcont := continueAxis_keeps ha24 (u.takenOver a)
  have hflt := raiseFlt_reported pgSTW ((u.takenOver a).continueAxis a) 19
  have hevt := raiseEvt_reported pgSTW (((u.takenOver a).continueAxis a).raiseFlt pgSTW 19) 3
  have hlimp := limpTrigger_keeps ((((u.takenOver a).continueAxis a).raiseFlt pgSTW 19).raiseEvt pgSTW 3) 2
  have hrd : ∀ {off : Nat}, 0x20 ≤ off → off < 0x1000 →
      (s.takeAxis a).rd (regAt pgSTW off) = (u.takenOver a).rd (regAt pgSTW off) := fun h1 h2 => htake ▸
    ((hlimp.rd _ (linkPage_stw h2)).trans (hevt.rd _ (stw_not_reports h1 h2))).trans
      ((hflt.rd _ (stw_not_reports h1 h2)).trans (hcont.rd _ (linkPage_stw h2)))
  apply completes_onUnit (show exec (.partnerClaim a) s = execPartnerClaim a s from rfl) (decide_eq_true ha)
  rw [if_pos hs]
  refine ⟨?_, ?_, ?_, ?_⟩
  · exact (bit_congr (hrd (by omega) (by omega)) a).trans (takenOver_owns u (by omega)).1
  · exact (bit_congr (hrd (by omega) (by omega)) a).trans (takenOver_owns u (by omega)).2
  · exact (hrd (by omega) (by omega)).trans (rd_wr_same _ _ _)
  · have hflt19 : linkPage (HDR.FLT pgSTW) := linkPage_stw (by omega)
    rw [htake, bit_congr (hlimp.rd _ hflt19)]
    exact hevt.flt _ _ (bit_raiseFlt _ _ (by omega))

end State

/-- Settles O33: a ring's control, negotiation, calibration, self tests, lanes and takeovers, one rule each. -/
theorem rings : Obligations.Rings := by
  unfold Obligations.Rings
  intro s r hr
  refine ⟨State.rctlStart_starts hr, State.rctlStop_stops hr, State.rctlAbort_aborts hr, State.ringStartTimeout_ends hr,
    State.rctlCalnow_notes hr, fun k => State.rctlResume_notes hr, fun k => State.vnegOfferRepeat_offers hr,
    fun k hk lo hi ty cw => State.vnegReply_presents hr hk,
    fun cw ccw ofs hs => ⟨State.calRound_measures hr hs, State.calRound_reports hr hs⟩,
    State.ptctlStart_starts hr, State.ptctlAbort_aborts hr, State.selftestTimeout_ends hr,
    fun port => State.laneLockLost_degrades hr, State.ownFramesLost_degrades hr, fun k => State.renewDue_renews hr,
    fun a => State.partnerClaim_takes⟩

end Sys2Proof.Machine

namespace Sys2Proof.Machine
namespace State

/-! ### Slot registers of a ring: no gallery and no access to memory writes them -/

/-- A register of a slot of some ring. -/
def slotReg (a : Nat) : Prop := 104 ≤ a / 0x1000 ∧ a / 0x1000 < 112 ∧ 0x100 ≤ a % 0x1000 ∧ a % 0x1000 < 0x200

theorem not_slotReg {p off : Nat} (h : off < 0x100 ∨ 0x200 ≤ off) (ho : off < 0x1000) : ¬ slotReg (regAt p off) := by
  simp only [slotReg, regAt]
  omega

theorem not_slotReg_mem {off : Nat} (ho : off < 0x1000) : ¬ slotReg (regAt pgMEM off) := by
  simp only [slotReg, regAt, pgMEM]
  omega

theorem slotReg_not_reports (p a : Nat) (ha : slotReg a) : ¬ reports p a := by
  simp only [slotReg] at ha
  simp only [reports, reportWord, HDR.FLT, HDR.EVT, MEM.INJCFG, pgREC, pgACQ, pgNVM, pgMEM, regAt]
  omega

theorem slotReg_sta {r k : Nat} (hr : r < 8) (hk : k < 8) : slotReg (RZL.SLOT_SSTA r k) := by
  simp only [slotReg, RZL.SLOT_SSTA, pgRZL, regAt]
  omega

/-- A part of the device that writes no slot register of a ring and no bridge's own part. -/
abbrev KeepsSlots (s t : State) : Prop := Keeps slotReg s t

namespace KeepsSlots
variable (s : State)

theorem wr {p off : Nat} (v : Word) (h : off < 0x100 ∨ 0x200 ≤ off) (ho : off < 0x1000) :
    KeepsSlots s (s.wr (regAt p off) v) := Keeps.wr s v (not_slotReg h ho)

theorem wr_mem {off : Nat} (v : Word) (ho : off < 0x1000) : KeepsSlots s (s.wr (regAt pgMEM off) v) :=
  Keeps.wr s v (not_slotReg_mem ho)

theorem report {p : Nat} {s t : State} (h : Reported p s t) : KeepsSlots s t := Keeps.report (slotReg_not_reports p) h

theorem raiseFlt (p b : Nat) : KeepsSlots s (s.raiseFlt p b) := report (raiseFlt_reported p s b)

theorem raiseEvt (p b : Nat) : KeepsSlots s (s.raiseEvt p b) := report (raiseEvt_reported p s b)

theorem putGal (g : Nat) (x : Gal) : KeepsSlots s (s.putGal g x) := ⟨fun _ _ => rfl, rfl⟩

theorem putCore (g : Nat) (c : Core) : KeepsSlots s (s.putCore g c) := putGal s g _

theorem putSlotRun (g n : Nat) (x : SlotRun) : KeepsSlots s (s.putSlotRun g n x) := putGal s g _

theorem putCredit (l : Landing) (p : Nat) (c : Credit) : KeepsSlots s (s.putCredit l p c) := ⟨fun _ _ => rfl, rfl⟩

/-! Traps and results of a gallery. -/

theorem startClock (g : Nat) : KeepsSlots s (s.startClock g) := by
  unfold State.startClock
  split
  · exact .trans (wr s _ (by omega) (by omega)) (putCore _ g _)
  · exact putCore s g _

theorem raiseIrq (g n : Nat) : KeepsSlots s (s.raiseIrq g n) := by
  unfold State.raiseIrq
  dsimp only
  split
  · exact .trans (putCore s g _) (startClock _ g)
  · exact putCore s g _

theorem traceNotice (g cond : Nat) : KeepsSlots s (s.traceNotice g cond) := by
  unfold State.traceNotice
  split
  · exact .trans (.trans (.trans (.trans (wr s _ (by omega) (by omega)) (wr _ _ (by omega) (by omega))) (putGal _ g _))
      (raiseEvt _ _ 0)) (raiseIrq _ g 3)
  · exact .refl _ s

theorem trapWords (g : Nat) (cause : TrapCause) (addr : Option Word) (pcv : Word) (dslot : Bool) :
    KeepsSlots s (s.trapWords g cause addr pcv dslot) := by
  have h := (wr s (p := pgGAL g) (off := 0x48) (BitVec.ofNat 32 (trapCode cause + (s.coreOf g).slotno % 8 * 256
    + b01 (decide ((s.coreOf g).ctx = .trap)) * 2048 + b01 dslot * 4096)) (by omega) (by omega)).trans
    (wr _ (p := pgGAL g) (off := 0x4C) pcv (by omega) (by omega))
  cases addr with
  | none => exact h
  | some a => exact h.trans (wr _ a (by omega) (by omega))

theorem trapReport (g : Nat) (cause : TrapCause) (addr : Option Word) (pcv : Word) (dslot : Bool) :
    KeepsSlots s (s.trapReport g cause addr pcv dslot) :=
  .trans (.trans (trapWords s g cause addr pcv dslot) (report (foldl_raiseFlt_reported _ _ _))) (traceNotice _ g 3)

theorem takeTrap (g : Nat) (cause : TrapCause) (addr : Option Word) (pcv : Word) (dslot : Bool) :
    KeepsSlots s (s.takeTrap g cause addr pcv dslot) := by
  rw [takeTrap_eq]
  extract_lets r1 r2 x r3 r4
  have h3 : KeepsSlots s r3 := by
    refine .trans (trapReport s g cause addr pcv dslot) ?_
    dsimp only [r3]
    split
    · exact .trans (wr r1 _ (by omega) (by omega)) (putSlotRun r2 g _ _)
    · exact .refl _ r1
  have h3' : KeepsSlots s (r3.setFld (HDR.STA (pgGAL g)) 3 0 6) := h3.trans (wr r3 _ (by omega) (by omega))
  split
  · exact h3'
  · split
    · exact h3'.trans (raiseFlt _ _ 21)
    · exact h3.trans (.trans (putCore r3 g _) (putCore r4 g _))

theorem noteAstat (g b : Nat) : KeepsSlots s (s.noteAstat g b) := by
  unfold State.noteAstat
  extract_lets s1 s2 c x s3
  have h1 : KeepsSlots s s1 := wr s _ (by omega) (by omega)
  have h3 : KeepsSlots s s3 := by
    refine h1.trans ?_
    dsimp only [s3]
    split
    · split
      · exact .trans (raiseFlt s1 _ 25) (putSlotRun s2 g _ _)
      · exact raiseFlt s1 _ 25
    · exact .refl _ s1
  split
  split
  · exact h3.trans (putCore s3 g _)
  · exact h3

theorem landOne (g : Nat) (f : Flight) : KeepsSlots s (s.landOne g f) := by
  have hcore : ∀ c : Core, KeepsSlots s (s.putCore g c) := putCore s g
  have hlock : ∀ (c : Core) (i : Nat) (b : Bool), KeepsSlots s ((s.putCore g c).setBit (GAL.ASTAT g) i b) :=
    fun c i b => (hcore c).trans (wr _ _ (by omega) (by omega))
  unfold State.landOne
  extract_lets c w s1
  have h1 : KeepsSlots s s1 := by
    dsimp only [s1]
    split
    · split
      · exact .refl _ s
      · exact hcore _
    · exact hcore _
    · exact hcore _
    · exact hlock _ _ _
    · exact hcore _
    · split
      · exact hlock _ _ _
      · exact hcore _
  split
  · exact h1.trans (noteAstat s1 g _)
  · exact h1

theorem settle (g : Nat) : KeepsSlots s (s.settle g) :=
  .trans (putCore s g _) (.foldl_mem _ (fun f _ s => landOne s g f) _)

theorem drain (g : Nat) : KeepsSlots s (s.drain g) := .trans (putCore s g _) (settle _ g)

theorem takeDeferred (g : Nat) : KeepsSlots s (s.takeDeferred g) := by
  unfold State.takeDeferred
  split
  · split
    · exact .refl _ s
    · exact .trans (putCore s g _) (takeTrap _ g _ _ _ _)
  · exact .refl _ s

theorem takeHeld (g : Nat) : KeepsSlots s (s.takeHeld g) := by
  unfold State.takeHeld
  dsimp only
  split
  · exact .trans (putCore s g _) (takeTrap _ g _ _ _ _)
  · exact .refl _ s

theorem goOn (g : Nat) : KeepsSlots s (s.goOn g) := by
  unfold State.goOn
  dsimp only
  split
  · exact putCore s g _
  · exact putCore s g _
  · exact .trans (drain s g) (putCore _ g _)
  · exact .trans (.trans (drain s g) (putCore _ g _)) (takeHeld _ g)

theorem trapHere (g : Nat) (cause : TrapCause) (addr : Option Word) : KeepsSlots s (s.trapHere g cause addr) := by
  unfold State.trapHere
  dsimp only
  split
  · exact takeTrap s g _ _ _ _
  · exact takeTrap s g _ _ _ _

theorem follow (g : Nat) (n : Next) : KeepsSlots s (s.follow g n) := by
  unfold State.follow
  dsimp only
  split
  · exact goOn s g
  · exact putCore s g _
  · exact putCore s g _
  · exact takeTrap s g _ _ _ _
  · exact trapHere s g _ _
  · exact .refl _ s

theorem endCycle (g : Nat) : KeepsSlots s (s.endCycle g) :=
  .trans (.trans (putCore s g _) (settle _ g)) (takeDeferred _ g)

/-! Accesses to memory. -/

theorem noteCe (w : Nat) : KeepsSlots s (s.noteCe w) := by
  unfold State.noteCe
  cases spaceOf (w * 8) with
  | none => exact .refl _ s
  | some q =>
    obtain ⟨sp, g, rel⟩ := q
    dsimp only
    have hf := raiseFlt s (ownerPage sp g) 3
    split
    · have hb : ∀ t : State, t.fld (MEM.BANKMAP (rel / 0x200000)) 4 0 < 32 := fun t => Nat.mod_lt _ (by decide)
      refine .trans (hf.trans (wr_mem (off := 0x78) _ _ (by omega))) (wr_mem (off := 0x180 + 4 * _) _ _ ?_)
      have := hb (s.raiseFlt (ownerPage 0 g) 3)
      omega
    · exact hf.trans (wr_mem _ _ (by omega))
    · exact hf

theorem noteUe (w who : Nat) : KeepsSlots s (s.noteUe w who) := by
  unfold State.noteUe
  cases spaceOf (w * 8) with
  | none => exact .refl _ s
  | some q =>
    obtain ⟨sp, g, rel⟩ := q
    dsimp -zeta only
    extract_lets s1 s2 s3
    have h1 : KeepsSlots s s1 := .trans (raiseFlt s _ 4) (raiseFlt _ pgMEM 4)
    have h2 : KeepsSlots s1 s2 := by
      dsimp only [s2]
      split
      · exact wr_mem s1 _ (by omega)
      · exact wr_mem s1 _ (by omega)
      · exact .refl _ s1
    have h3 : KeepsSlots s s3 := (h1.trans h2).trans (raiseEvt s2 pgMEM 2)
    split
    · exact h3
    · exact h3.trans (Keeps.wr64 s3 _ (not_slotReg_mem (by omega)) (not_slotReg_mem (off := 0x74) (by omega)))

theorem storeWord (w : Nat) (d : Word64) : KeepsSlots s (s.storeWord w d) where
  rd a ha := rd_storeWord s w d fun e : a = regAt pgMEM 0xB0 => not_slotReg_mem (by omega) (e ▸ ha)
  brg := by
    obtain ⟨_, _, _, h⟩ := storeWord_frame s w d
    rw [h]

theorem fixWord (w : Nat) (d : Word64) : KeepsSlots s (s.fixWord w d) where
  rd _ _ := by rw [State.fixWord, putSyn_rd, rd_putBytes]
  brg := by
    obtain ⟨_, h⟩ := putBytes_frame s (w * 8) (leBytes 8 d.toNat)
    rw [State.fixWord, h, putSyn_brg]

theorem readWord (w who : Nat) (back : Bool) : KeepsSlots s (s.readWord w who back).2 := by
  unfold State.readWord
  split
  · exact .refl _ s
  · dsimp only
    split
    · exact .trans (noteCe s w) (fixWord _ w _)
    · exact noteCe s w
  · exact noteUe s w who

theorem writePart (w o who : Nat) (bs : List Byte) : KeepsSlots s (s.writePart w o who bs).2 := by
  have h := readWord s w who false
  unfold State.writePart
  split
  · exact storeWord s _ _
  · split
    · rename_i heq
      rwa [heq] at h
    · rename_i heq
      rw [heq] at h
      exact h.trans (storeWord _ _ _)

theorem writeSpan (who n a : Nat) (bs : List Byte) : KeepsSlots s (s.writeSpan who n a bs).2.2 := by
  induction n generalizing a bs s with
  | zero => exact .refl _ s
  | succ n ih =>
    have h := writePart s (a / 8) (a % 8) who (bs.take (8 - a % 8))
    unfold State.writeSpan
    split
    · exact .refl _ s
    · dsimp only
      split
      · rename_i heq
        rwa [heq] at h
      · rename_i heq
        rw [heq] at h
        exact h.trans (ih _ _ _)

theorem writeBytes (a who : Nat) (bs : List Byte) : KeepsSlots s (s.writeBytes a who bs).2 :=
  writeSpan s who (bs.length + 1) a bs

theorem galStore (g a : Nat) (ea : Word) (ws : List Word) : KeepsSlots s (s.galStore g a ea ws).1 := by
  unfold State.galStore
  split
  · exact noteUe s _ _
  · exact writeBytes s a (galRequester g) _

theorem storeLocal (g : Nat) (ea : Word) (ws : List Word) : KeepsSlots s (s.storeLocal g ea ws).1 := by
  unfold State.storeLocal
  split
  · exact galStore s g _ ea ws
  · exact .refl _ s

/-! A sample unit on its way to a tread. -/

theorem status (g i : Nat) (w : Word) : KeepsSlots s (s.status g i w) := putCore s g _

theorem giveBack (l : Landing) (p n : Nat) : KeepsSlots s (s.giveBack l p n) := putCredit s l p _

theorem swaitCopy (g : Nat) (ea : Word) (reg : Nat) : KeepsSlots s (s.swaitCopy g ea reg).1 := by
  have hr : ∀ u, KeepsSlots s (s.storeLocal g ea (unitWords u)).1 := fun u => storeLocal s g ea (unitWords u)
  unfold State.swaitCopy
  dsimp only
  split
  · split
    · exact .trans (.trans (.trans ((hr _).trans (putGal _ g _)) (giveBack _ _ _ _)) (putSlotRun _ g _ _))
        (status _ g _ _)
    · exact hr _
  · split
    · exact .trans (.trans (.trans ((hr _).trans (putSlotRun _ g _ _)) (wr _ _ (by omega) (by omega)))
        (raiseFlt _ _ 16)) (status _ g _ _)
    · exact hr _

theorem swaitResume (g : Nat) : KeepsSlots s (s.swaitResume g) := by
  unfold State.swaitResume
  dsimp only
  split
  · exact .refl _ s
  · exact .trans (.trans (.trans (putCore s g _) (swaitCopy _ g _ _)) (follow _ g _)) (endCycle _ g)

theorem sampleArrive (g p : Nat) (u : List Word) : KeepsSlots s (s.sampleArrive g p u) := by
  unfold State.sampleArrive
  split
  · extract_lets s1 x s2
    have h : KeepsSlots s s2 := (putCredit s (.sample g) p _).trans (putGal s1 g _)
    split
    · exact h.trans (swaitResume _ g)
    · exact h
  · refine .trans (.trans (wr s _ (by omega) (by omega)) (raiseFlt _ _ 17)) (.foldl_mem _ (fun n _ s => ?_) _)
    split
    · exact putSlotRun s g n _
    · exact .refl _ s

theorem deliverSample (b p : Nat) (u : List Word) : KeepsSlots s (s.deliverSample b p u) := by
  unfold State.deliverSample
  dsimp only
  split
  · exact .trans (sampleArrive s _ p u) (sampleArrive _ _ p u)
  · exact sampleArrive s _ p u

theorem trgNode {t : Nat} (ht : t < 4) (stamp : Nat) (v : Word) : KeepsSlots s (s.trgNode t stamp v) := by
  unfold State.trgNode
  extract_lets x a b h w inside old kind hit far s1
  have h1 : KeepsSlots s s1 := ⟨fun _ _ => rfl, rfl⟩
  split
  · exact .refl _ s
  · split
    · exact h1.trans (report (fire_reported 0 s1 t stamp ht))
    · exact h1

theorem note (n stamp : Nat) (v : Word) : KeepsSlots s (s.note n stamp v) := by
  unfold State.note
  extract_lets old s1
  have h1 : KeepsSlots s s1 := ⟨fun _ _ => rfl, rfl⟩
  refine h1.trans (.foldl_mem _ (fun t ht s => ?_) s1)
  split
  · exact trgNode s (List.mem_range.1 ht) stamp v
  · exact .refl _ s

theorem noteSense (b stamp : Nat) (u : List Word) : KeepsSlots s (s.noteSense b stamp u) :=
  .foldl_mem _ (fun _ _ s => note s _ stamp _) s

theorem noteTmod (b : Nat) (t : BitVec 16) : KeepsSlots s (s.noteTmod b t) := by
  unfold State.noteTmod
  split
  · exact .refl _ s
  · exact ⟨fun _ _ => rfl, rfl⟩

end KeepsSlots
/-! ### What a frame reports of its slot (R171, R172) -/

/-- From `s` to `t` only the slot's counts and the ring page's reports change; no unit is built or removed. -/
structure SlotCounted (r k : Nat) (s t : State) : Prop where
  rd : ∀ a, a ≠ RZL.SLOT_SHOLD r k → a ≠ RZL.SLOT_SCRC r k → ¬ reports (pgRZL r) a → t.rd a = s.rd a
  variant : t.variant = s.variant

namespace SlotCounted
variable {r k : Nat} {s t u : State}

theorem refl (r k : Nat) (s : State) : SlotCounted r k s s := ⟨fun _ _ _ _ => rfl, rfl⟩

theorem trans (h : SlotCounted r k s t) (h' : SlotCounted r k t u) : SlotCounted r k s u :=
  ⟨fun a h1 h2 h3 => (h'.rd a h1 h2 h3).trans (h.rd a h1 h2 h3), h'.variant.trans h.variant⟩

theorem hold (s : State) (hi lo d : Nat) : SlotCounted r k s (s.count (RZL.SLOT_SHOLD r k) hi lo d) :=
  ⟨fun _ h _ _ => rd_count_ne s hi lo d h, rfl⟩

theorem crc (s : State) (hi lo d : Nat) : SlotCounted r k s (s.count (RZL.SLOT_SCRC r k) hi lo d) :=
  ⟨fun _ _ h _ => rd_count_ne s hi lo d h, rfl⟩

theorem putComp (s : State) (c : Companion) : SlotCounted r k s (s.putComp r k c) := ⟨fun _ _ _ _ => rfl, rfl⟩

theorem report (h : Reported (pgRZL r) s t) : SlotCounted r k s t :=
  ⟨fun a _ _ ha => h.rd a ha, by obtain ⟨_, _, _, _, _, _, _, _, rfl⟩ := h.frame; rfl⟩

end SlotCounted

/-- A stage that is not safe stops no axis: at most the hold on a stop is forgotten. -/
theorem stageStop_awake {r k old new : Nat} (h : new < 5) (s : State) :
    ∃ stw, s.stageStop r k old new = { s with stw := stw } := by
  unfold stageStop
  split
  · exact ⟨s.stw, rfl⟩
  · dsimp only
    split
    · exact ⟨s.stw, rfl⟩
    · split
      · exact ⟨_, rfl⟩
      · exact ⟨s.stw, rfl⟩

/-- With none of HOLD, COAST and SAFE in its status and its lease bit set, a slot is active. -/
theorem activeState {st : Word} (h0 : st.getLsbD 0 = true) (hz : st &&& 0x58 = 0) :
    (if st.getLsbD 6 then 7 else if st.getLsbD 4 then 6 else if st.getLsbD 3 then 5
      else if st.getLsbD 1 then 4 else if st.getLsbD 0 then 3 else 2) = if st.getLsbD 1 then 4 else 3 := by
  have hbit : ∀ i, (0x58 : Word).getLsbD i = true → st.getLsbD i = false := fun i hi => by
    have hand := congrArg (fun w : Word => w.getLsbD i) hz
    rw [BitVec.getLsbD_and, hi, Bool.and_true] at hand
    exact hand.trans BitVec.getLsbD_zero
  rw [hbit 6 rfl, hbit 4 rfl, hbit 3 rfl, h0]
  rfl

/-- A slot whose companion holds its lease and is neither held, coasting nor safe. -/
structure SlotShown (r k : Nat) (st : Word) (s t : State) : Prop where
  state : t.slotState r k = if st.getLsbD 1 then 4 else 3
  tripped : t.bit (RZL.SLOT_SSTA r k) 4 = st.getLsbD 5
  variant : t.variant = s.variant
  rd : ∀ a, a / 0x1000 ≠ pgRZL r → ¬ reportWord a → t.rd a = s.rd a

section
variable {r k : Nat} (hr : r < 8) (hk : k < 8)
include hr hk

theorem slotReport_shown {st : Word} (h0 : st.getLsbD 0 = true) (hz : st &&& 0x58 = 0) (s : State) :
    SlotShown r k st s (s.slotReport r k st) := by
  have hnew := activeState h0 hz
  unfold slotReport
  extract_lets c old new s1 s2 s3 holds crcs s4 s5 x s6 s7 s8 s9 s10
  have hlt : new < 5 := by
    change (if _ then _ else _) < 5
    rw [hnew]
    split <;> omega
  have hss := rzl_body_not_reports hr (off := 0x104 + 0x20 * k) (by omega) (by omega)
  have hnh : RZL.SLOT_SSTA r k ≠ RZL.SLOT_SHOLD r k := regAt_ne (by omega)
  have hnc : RZL.SLOT_SSTA r k ≠ RZL.SLOT_SCRC r k := regAt_ne (by omega)
  have hbits : SlotCounted r k s3 s10 := by
    have h5 : SlotCounted r k s3 s5 := .trans (.hold s3 _ _ _) (.crc s4 _ _ _)
    have h6 : SlotCounted r k s5 s6 := .putComp s5 { x with seenHolds := holds, seenCrc := crcs }
    have h7 : SlotCounted r k s6 s7 := by
      dsimp only [s7]
      split
      · exact .report (raiseEvt_reported _ s6 6)
      · exact .refl r k s6
    have h8 : SlotCounted r k s7 s8 := by
      dsimp only [s8]
      split
      · exact .hold s7 _ _ _
      · exact .refl r k s7
    have h9 : SlotCounted r k s8 s9 := by
      obtain ⟨stw, h⟩ := stageStop_awake (r := r) (k := k) (old := old) hlt s8
      rw [show s9 = _ from h]
      exact ⟨fun _ _ _ _ => rfl, rfl⟩
    have h10 : SlotCounted r k s9 s10 := by
      dsimp only [s10]
      split
      · exact .report (raiseFlt_reported _ s9 18)
      · exact .refl r k s9
    exact h5.trans (h6.trans (h7.trans (h8.trans (h9.trans h10))))
  have hshown : s10.rd (RZL.SLOT_SSTA r k) = s3.rd (RZL.SLOT_SSTA r k) := hbits.rd _ hnh hnc hss
  rw [if_neg (by simp [h0])]
  have hvar : s3.variant = s.variant := by
    rw [setFld_variant, setBit_variant, setBit_variant]
    exact setFld_variant ..
  refine ⟨?_, ?_, hbits.variant.trans hvar, fun a hp hw => ?_⟩
  · calc s10.slotState r k = s3.fld (RZL.SLOT_SSTA r k) 2 0 := fld_congr hshown 2 0
      _ = s2.fld (RZL.SLOT_SSTA r k) 2 0 := fld_setFld_ne s2 _ (by omega)
      _ = (s1.setBit (RZL.SLOT_SSTA r k) 4 (st.getLsbD 5)).fld (RZL.SLOT_SSTA r k) 2 0 := fld_setBit_ne _ _ (by omega)
      _ = s1.fld (RZL.SLOT_SSTA r k) 2 0 := fld_setBit_ne _ _ (by omega)
      _ = new % 2 ^ 3 := fld_setFld_same s _ (by omega)
      _ = if st.getLsbD 1 then 4 else 3 := (Nat.mod_eq_of_lt (by omega)).trans hnew
  · calc s10.bit (RZL.SLOT_SSTA r k) 4 = s3.bit (RZL.SLOT_SSTA r k) 4 := bit_congr hshown 4
      _ = s2.bit (RZL.SLOT_SSTA r k) 4 := bit_setFld_ne s2 _ (by omega)
      _ = (s1.setBit (RZL.SLOT_SSTA r k) 4 (st.getLsbD 5)).bit (RZL.SLOT_SSTA r k) 4 := bit_setBit_ne _ _ (by omega)
      _ = st.getLsbD 5 := bit_setBit_same s1 _ (by omega)
  · have hslot : ∀ off, off < 0x1000 → a ≠ regAt (pgRZL r) off := fun off ho e => hp (e ▸ regAt_div ho)
    have ha : a ≠ RZL.SLOT_SSTA r k := hslot _ (by omega)
    calc s10.rd a = s3.rd a := hbits.rd a (hslot _ (by omega)) (hslot _ (by omega)) (by
          rintro (e | e | e)
          · exact hslot 0x14 (by omega) e
          · exact hslot 0x1C (by omega) e
          · exact hw e)
      _ = s2.rd a := rd_setFld_ne s2 _ _ _ ha
      _ = (s1.setBit (RZL.SLOT_SSTA r k) 4 (st.getLsbD 5)).rd a := rd_setBit_ne _ _ _ ha
      _ = s1.rd a := rd_setBit_ne _ _ _ ha
      _ = s.rd a := rd_setFld_ne s _ _ _ ha

omit hr hk in
/-- The bridge in a slot is read from the assignments of the built bridges (R155). -/
theorem bridgeAt_congr {s t : State} (hv : t.variant = s.variant) (h : ∀ b < 48, t.rd (BRG.ASSIGN b) = s.rd (BRG.ASSIGN b)) :
    t.bridgeAt r k = s.bridgeAt r k := by
  unfold bridgeAt
  rw [hv]
  refine List.find?_congr fun b hb => ?_
  have hb48 := h b (lt_of_bridges (List.mem_range.1 hb))
  rw [show t.brgRing b = s.brgRing b from fld_congr hb48 _ _, show t.brgPos b = s.brgPos b from fld_congr hb48 _ _,
    show t.brgIsLead b = s.brgIsLead b from bit_congr hb48 _, show t.brgIndex b = s.brgIndex b from fld_congr hb48 _ _]

omit hk in
/-- A frame that shows its slot leaves the bridge in it. -/
theorem SlotShown.bridgeAt {st : Word} {s t : State} (h : SlotShown r k st s t) : t.bridgeAt r k = s.bridgeAt r k := by
  refine bridgeAt_congr h.variant fun b hb => h.rd _ ?_ ?_
  · rw [BRG.ASSIGN, regAt_div (by omega)]
    simp only [pgBRG, pgRZL]
    omega
  · simp only [reportWord, BRG.ASSIGN, MEM.INJCFG, pgBRG, pgREC, pgACQ, pgNVM, pgMEM, regAt]
    omega

omit hr hk in
theorem codeQ31_eq (c : BitVec 16) : codeQ31 c = c ++ (0 : BitVec 16) := by
  apply BitVec.eq_of_toNat_eq
  have := c.isLt
  rw [codeQ31, BitVec.toNat_append]
  simp
  omega

/-- A frame's slot as it is shown, with the unit that its bridge's samples make (R171, R172). -/
def sensed (s : State) (r k b : Nat) (f : SenseFrame) : State :=
  let s := s.slotReport r k f.status
  s.putBrg b { s.brgOf b with unit := s.senseUnit b f }

omit hr hk in
/-- From there the unit goes to its nodes and to its gallery: neither touches the slot or the unit. -/
theorem senseFrame_sensed {s : State} {f : SenseFrame} {b : Nat} (hb : (s.slotReport r k f.status).bridgeAt r k = some b) :
    KeepsSlots (s.sensed r k b f) (s.senseFrame r k f .both) := by
  unfold senseFrame
  rw [if_neg (by simp), show s.copiesFailed r .both = s from rfl]
  extract_lets s0
  rw [show s0.bridgeAt r k = some b from hb]
  dsimp -zeta only
  extract_lets u x s1 dest s2
  have h1 : KeepsSlots (s.sensed r k b f) s1 := .noteTmod _ b f.tmod
  have h2 : KeepsSlots s1 s2 := by
    dsimp only [s2]
    split
    · exact .noteSense s1 b _ u
    · exact .refl _ s1
  split
  · exact h1.trans h2
  · exact (h1.trans h2).trans (KeepsSlots.deliverSample s2 b b u)

theorem senseFrame_makes_unit {s : State} {f : SenseFrame} {b : Nat} (hb : s.bridgeAt r k = some b)
    (h0 : f.status.getLsbD 0 = true) (hz : f.status &&& 0x58 = 0) :
    let t := s.senseFrame r k f .both
    t.slotState r k = (if f.status.getLsbD 1 then 4 else 3) ∧ t.bit (RZL.SLOT_SSTA r k) 4 = f.status.getLsbD 5 ∧
      (t.brgOf b).unit = (s.slotReport r k f.status).senseUnit b f := by
  have hshown := slotReport_shown hr hk h0 hz s
  have hkeep := senseFrame_sensed (s := s) (f := f) ((hshown.bridgeAt hr).trans hb)
  have hssta := hkeep.rd _ (slotReg_sta hr hk)
  refine ⟨(fld_congr hssta 2 0).trans hshown.state, (bit_congr hssta 4).trans hshown.tripped, ?_⟩
  rw [brgOf, hkeep.brg]
  exact congrArg Brg.unit (brgOf_putBrg (s.slotReport r k f.status) b _)

end

theorem busyOp_congr {s t : State} {a : Nat} (h : t.rd a = s.rd a) : t.busyOp a = s.busyOp a := by
  rw [busyOp, busyOp, show t.phase a = s.phase a from fld_congr h 9 8]

/-- A counter of a whole word. -/
theorem num_eq_fld (s : State) (a : Nat) : s.num a = s.fld a 31 0 := by
  rw [num, fld, wfld, Nat.shiftRight_zero]
  exact (Nat.mod_eq_of_lt (s.rd a).isLt).symm

theorem seeEpoch_gal (s : State) (e : Word) : (s.seeEpoch e).gal = s.gal := by
  unfold seeEpoch
  split <;> rfl

theorem Ended.congr {s t : State} {a : Nat} {c : Code} (he : s.Ended a c) (h : t.rd a = s.rd a) : t.Ended a c :=
  ⟨(fld_congr h 9 8).trans he.1, (fld_congr h 7 0).trans he.2⟩

/-- What a PROT frame with no latched stage reports of its slot (R188). -/
def showTrips (r k : Nat) (f : ProtFrame) (s : State) : State :=
  let s := (s.wr (RZL.SLOT_SCTRIP r k) (BitVec.ofNat 32 (f.trips.toNat + f.latches.toNat * 65536))).setBit
    (RZL.SLOT_SSTA r k) 4 (f.tripped != 0)
  if f.tripped ≠ 0 then s.raiseEvt (pgRZL r) 4 else s

theorem protFrame_eq {r k : Nat} {f : ProtFrame} (hl : f.latched = 0) (s : State) : s.protFrame r k f =
    let u := s.showTrips r k f
    if f.resultValid = true ∧ u.busyOp (RZL.PTSTA r) ∧ u.fld (RZL.PTCTL r) 6 4 = k then
      let u := (u.setFld (RZL.PTSTA r) 19 16 f.passMask.toNat).setFld (RZL.PTSTA r) 23 20 f.failMask.toNat
      let u := (opEnd (pgRZL r) (RZL.PTSTA r) .done u).raiseEvt (pgRZL r) 5
      if f.failMask ≠ 0 then u.raiseFlt (pgRZL r) 23 else u
    else u := by
  unfold protFrame
  rw [hl]
  rfl

theorem append_eq_ofNat (a b : BitVec 16) : BitVec.ofNat 32 (b.toNat + a.toNat * 65536) = a ++ b := by
  apply BitVec.eq_of_toNat_eq
  have := a.isLt
  have := b.isLt
  rw [BitVec.toNat_append, BitVec.toNat_ofNat, ← Nat.shiftLeft_add_eq_or_of_lt b.isLt, Nat.shiftLeft_eq]
  omega

theorem showTrips_reported (r k : Nat) (f : ProtFrame) (s : State) : Reported (pgRZL r)
    ((s.wr (RZL.SLOT_SCTRIP r k) (f.latches ++ f.trips)).setBit (RZL.SLOT_SSTA r k) 4 (f.tripped != 0))
    (s.showTrips r k f) := by
  rw [← append_eq_ofNat]
  unfold showTrips
  dsimp only
  split
  · exact raiseEvt_reported _ _ 4
  · exact .refl _ _

/-- A PROT frame leaves every register but its slot's and the reports' (R188). -/
theorem rd_showTrips {r k a : Nat} (f : ProtFrame) (s : State) (hp : ¬ reports (pgRZL r) a) (ht : a ≠ RZL.SLOT_SCTRIP r k)
    (hs : a ≠ RZL.SLOT_SSTA r k) : (s.showTrips r k f).rd a = s.rd a :=
  ((showTrips_reported r k f s).rd a hp).trans ((rd_setBit_ne _ _ _ hs).trans (rd_wr_ne s _ ht))

/-! ### Frames, one rule each -/

section
variable {s : State} {r k : Nat} (hr : r < s.variant.rings) (hk : k < 8)
include hr hk

/-- A frame with no copy that arrived is counted (R165, R181). -/
theorem senseFrame_counts (f : SenseFrame) : Completes (.senseFrame r k f .none) s fun t =>
    t.fld (RZL.CRCCNT r) 15 0 = Nat.min 0xFFFF (s.fld (RZL.CRCCNT r) 15 0 + 2)
    ∧ t.fld (RZL.CRCCNT r) 31 16 = Nat.min 0xFFFF (s.fld (RZL.CRCCNT r) 31 16 + 1)
    ∧ SameRegs (fun a => a = RZL.CRCCNT r) s t ∧ t.gal = s.gal := by
  apply completes_slot hr hk (show exec (.senseFrame r k f .none) s = execSenseFrame r k f .none s from rfl)
  rw [senseFrame, if_pos rfl, copiesFailed]
  refine ⟨?_, ?_, fun a ha => ?_, rfl⟩
  · exact (fld_count_ne _ _ (by omega)).trans (fld_count_same s 2 (by omega))
  · refine (fld_count_same _ 1 (by omega)).trans ?_
    rw [fld_count_ne s 2 (by omega)]
    rfl
  · exact (rd_count_ne _ _ _ _ ha).trans (rd_count_ne s _ _ _ ha)

/-- A frame that arrived makes the sample unit of its slot's bridge (R171, R172). -/
theorem senseFrame_senses {f : SenseFrame} {b : Nat} (hb : s.bridgeAt r k = some b) (h0 : f.status.getLsbD 0 = true)
    (hz : f.status &&& 0x58 = 0) : Completes (.senseFrame r k f .both) s fun t =>
      t.slotState r k = (if f.status.getLsbD 1 then 4 else 3) ∧ t.bit (RZL.SLOT_SSTA r k) 4 = f.status.getLsbD 5
      ∧ (t.brgOf b).unit.getD 5 0 = f.status ∧ (t.brgOf b).unit.getD 6 0 = f.iu ++ (0 : BitVec 16)
      ∧ (t.brgOf b).unit.getD 8 0 = f.iw ++ (0 : BitVec 16) ∧ (t.brgOf b).unit.length = 16 := by
  apply completes_slot hr hk (show exec (.senseFrame r k f .both) s = execSenseFrame r k f .both s from rfl)
  obtain ⟨hstate, htrip, hunit⟩ := senseFrame_makes_unit (lt_of_rings hr) hk hb h0 hz
  rw [hunit]
  exact ⟨hstate, htrip, rfl, codeQ31_eq f.iu, codeQ31_eq f.iw, rfl⟩

/-- The registers of a slot that a PROT frame writes, and its event (R188). -/
theorem protFrame_reports {f : ProtFrame} (hl : f.latched = 0) (hv : f.resultValid = false) :
    Completes (.protFrame r k f) s fun t =>
      t.rd (RZL.SLOT_SCTRIP r k) = f.latches ++ f.trips ∧ t.bit (RZL.SLOT_SSTA r k) 4 = (f.tripped != 0)
      ∧ (f.tripped ≠ 0 → t.bit (HDR.EVT (pgRZL r)) 4 = true)
      ∧ SameRegs (fun a => reports (pgRZL r) a ∨ a = RZL.SLOT_SCTRIP r k ∨ a = RZL.SLOT_SSTA r k) s t := by
  apply completes_slot hr hk (show exec (.protFrame r k f) s = execProtFrame r k f s from rfl)
  rw [protFrame_eq hl]
  dsimp only
  rw [if_neg (by simp [hv])]
  have hne : RZL.SLOT_SCTRIP r k ≠ RZL.SLOT_SSTA r k := regAt_ne (by omega)
  have hrep := showTrips_reported r k f s
  have hbody : ∀ off, 0x20 ≤ off → off < 0x1000 → ¬ reports (pgRZL r) (regAt (pgRZL r) off) :=
    fun _ => rzl_body_not_reports (lt_of_rings hr)
  refine ⟨?_, ?_, fun ht => ?_, fun a ha => ?_⟩
  · calc (s.showTrips r k f).rd (RZL.SLOT_SCTRIP r k) = _ := hrep.rd _ (hbody _ (by omega) (by omega))
      _ = (s.wr (RZL.SLOT_SCTRIP r k) (f.latches ++ f.trips)).rd (RZL.SLOT_SCTRIP r k) := rd_setBit_ne _ _ _ hne
      _ = f.latches ++ f.trips := rd_wr_same ..
  · exact (bit_congr (hrep.rd _ (hbody _ (by omega) (by omega))) 4).trans (bit_setBit_same _ _ (by omega))
  · rw [showTrips, if_pos ht]
    exact bit_raiseEvt _ _ (by omega)
  · simp only [not_or] at ha
    obtain ⟨hp, hs, hst⟩ := ha
    exact rd_showTrips f s hp hs hst

/-- A PROT frame with a result ends the self test of its slot (R189). -/
theorem protFrame_ends_test {f : ProtFrame} (hl : f.latched = 0) (hv : f.resultValid = true)
    (hbusy : s.busyOp (RZL.PTSTA r) = true) (hslot : s.fld (RZL.PTCTL r) 6 4 = k) :
    Completes (.protFrame r k f) s fun t => t.Ended (RZL.PTSTA r) .done ∧ t.fld (RZL.PTSTA r) 19 16 = f.passMask.toNat
      ∧ t.fld (RZL.PTSTA r) 23 20 = f.failMask.toNat ∧ (f.failMask ≠ 0 → t.bit (HDR.FLT (pgRZL r)) 23 = true) := by
  apply completes_slot hr hk (show exec (.protFrame r k f) s = execProtFrame r k f s from rfl)
  rw [protFrame_eq hl]
  extract_lets u v w
  have hpt : ¬ reports (pgRZL r) (RZL.PTSTA r) := rzl_body_not_reports (lt_of_rings hr) (by omega) (by omega)
  have hctl : ¬ reports (pgRZL r) (RZL.PTCTL r) := rzl_body_not_reports (lt_of_rings hr) (by omega) (by omega)
  have hsta : u.rd (RZL.PTSTA r) = s.rd (RZL.PTSTA r) :=
    rd_showTrips f s hpt (regAt_ne (by omega)) (regAt_ne (by omega))
  have hsel : u.rd (RZL.PTCTL r) = s.rd (RZL.PTCTL r) :=
    rd_showTrips f s hctl (regAt_ne (by omega)) (regAt_ne (by omega))
  rw [if_pos ⟨hv, (busyOp_congr hsta).trans hbusy, (fld_congr hsel 6 4).trans hslot⟩]
  have hwait : Reported (pgRZL r) (opEnd (pgRZL r) (RZL.PTSTA r) .done v) w := raiseEvt_reported _ _ 5
  have hlast : Reported (pgRZL r) w (if f.failMask ≠ 0 then w.raiseFlt (pgRZL r) 23 else w) := by
    split
    · exact raiseFlt_reported _ w 23
    · exact .refl _ w
  have hend := (hlast.rd _ hpt).trans (hwait.rd _ hpt)
  have hfld : ∀ hi lo, 9 < lo → (if f.failMask ≠ 0 then w.raiseFlt (pgRZL r) 23 else w).fld (RZL.PTSTA r) hi lo =
      v.fld (RZL.PTSTA r) hi lo := fun hi lo h =>
    (fld_congr (hend.trans (rd_opEnd_of_not_reports .done hpt)) hi lo).trans (fld_setFld_ne v _ (by omega))
  refine ⟨Ended.congr (ended_opEnd .done hpt) hend, ?_, ?_, fun hm => ?_⟩
  · calc _ = v.fld (RZL.PTSTA r) 19 16 := hfld 19 16 (by omega)
      _ = (u.setFld (RZL.PTSTA r) 19 16 f.passMask.toNat).fld (RZL.PTSTA r) 19 16 := fld_setFld_ne _ _ (by omega)
      _ = f.passMask.toNat := (fld_setFld_same u _ (by omega)).trans (Nat.mod_eq_of_lt f.passMask.isLt)
  · calc _ = v.fld (RZL.PTSTA r) 23 20 := hfld 23 20 (by omega)
      _ = f.failMask.toNat := (fld_setFld_same _ _ (by omega)).trans (Nat.mod_eq_of_lt f.failMask.isLt)
  · rw [if_pos hm]
    exact bit_raiseFlt _ w (by omega)

/-- A REJECT is kept, counted and reported (R183). -/
theorem rejectFrame_counts {f : RejectFrame} (hf : 2 ≤ f.reason.toNat) : Completes (.rejectFrame r k f) s fun t =>
    t.rd64 (RZL.REJLAST r) =
        BitVec.ofNat 64 (f.epoch.toNat + f.src.toNat * 2 ^ 32 + f.reason.toNat * 2 ^ 40 + k * 2 ^ 48 + 2 ^ 63)
    ∧ t.num (RZL.REJCNT r) = Nat.min 0xFFFFFFFF (s.num (RZL.REJCNT r) + 1) ∧ t.bit (HDR.FLT (pgRZL r)) 20 = true
    ∧ t.gal = s.gal := by
  apply completes_slot hr hk (show exec (.rejectFrame r k f) s = execRejectFrame r k f s from rfl)
  unfold rejectFrame
  extract_lets s1 s2 s3 g
  have hreason : ¬ (f.reason = 0 ∨ f.reason = 1) := by
    rintro (h | h) <;> simp [h] at hf
  rw [if_neg fun h => hreason h.1]
  have hring := lt_of_rings hr
  have hpage : ∀ off, off < 0x1000 → regAt (pgRZL r) off ≠ MIG.EPOCHNEXT := fun off ho => by
    simp only [MIG.EPOCHNEXT, pgRZL, pgMIG, regAt]
    omega
  have hepoch : ∀ off, off < 0x1000 → s3.rd (regAt (pgRZL r) off) = s2.rd (regAt (pgRZL r) off) := fun off ho =>
    (rd_seeEpoch _ _ (hpage off ho)).trans (rd_seeEpoch s2 _ (hpage off ho))
  have hflt := raiseFlt_reported (pgRZL r) (s1.count (RZL.REJCNT r) 31 0) 20
  have hbody : ∀ off, 0x20 ≤ off → off < 0x1000 →
      s3.rd (regAt (pgRZL r) off) = (s1.count (RZL.REJCNT r) 31 0).rd (regAt (pgRZL r) off) := fun off h1 h2 =>
    (hepoch off h2).trans (hflt.rd _ (rzl_body_not_reports hring h1 h2))
  have hlast : ∀ off, 0x70 ≤ off → off < 0x78 → s3.rd (regAt (pgRZL r) off) = s1.rd (regAt (pgRZL r) off) :=
    fun off h1 h2 => (hbody off (by omega) (by omega)).trans (rd_count_ne s1 _ _ _ (regAt_ne (by omega)))
  have hcount : s1.rd (RZL.REJCNT r) = s.rd (RZL.REJCNT r) := by
    have h0 : RZL.REJCNT r ≠ RZL.REJLAST r := regAt_ne (by omega)
    have h4 : RZL.REJCNT r ≠ RZL.REJLAST r + 4 := regAt_ne (i := 0x78) (j := 0x74) (by omega)
    exact (rd_wr_ne _ _ h4).trans (rd_wr_ne s _ h0)
  refine ⟨?_, ?_, ?_, ?_⟩
  · have h64 : s3.rd64 (RZL.REJLAST r) = s1.rd64 (RZL.REJLAST r) := by
      rw [rd64, rd64, show s3.rd (RZL.REJLAST r) = s1.rd (RZL.REJLAST r) from hlast 0x70 (by omega) (by omega),
        show s3.rd (RZL.REJLAST r + 4) = s1.rd (RZL.REJLAST r + 4) from hlast 0x74 (by omega) (by omega)]
    rw [h64, rd64_wr64_same, Nat.mod_eq_of_lt hk]
  · calc s3.num (RZL.REJCNT r) = (s1.count (RZL.REJCNT r) 31 0).num (RZL.REJCNT r) :=
          num_congr (hbody _ (by omega) (by omega))
      _ = (s1.count (RZL.REJCNT r) 31 0).fld (RZL.REJCNT r) 31 0 := num_eq_fld ..
      _ = Nat.min 0xFFFFFFFF (s1.fld (RZL.REJCNT r) 31 0 + 1) := fld_count_same s1 1 (by omega)
      _ = Nat.min 0xFFFFFFFF (s.num (RZL.REJCNT r) + 1) := by rw [num_eq_fld, fld_congr hcount]
  · exact (bit_congr (hepoch 0x14 (by omega)) 20).trans (bit_raiseFlt _ _ (by omega))
  · calc s3.gal = s2.gal := (seeEpoch_gal ..).trans (seeEpoch_gal ..)
      _ = (s1.count (RZL.REJCNT r) 31 0).gal := hflt.gal_eq
      _ = s.gal := rfl

end

end State

/-- Settles O34: what a SENSE, a PROT and a REJECT frame leave in the device, one rule each. -/
theorem ringFrames : Obligations.RingFrames := by
  intro s r k hr hk
  exact ⟨State.senseFrame_counts hr hk, fun _ _ => State.senseFrame_senses hr hk, fun _ => State.protFrame_reports hr hk,
    fun _ => State.protFrame_ends_test hr hk, fun _ => State.rejectFrame_counts hr hk⟩

end Sys2Proof.Machine
